-- ==== Sys2Proof/Word.lean ====
section
/-! DEFINITION. The word types of the model. -/

namespace Sys2Proof

/-- A byte of memory. -/
abbrev Byte := BitVec 8

/-- A lane accumulator: 104 bits, two's complement Q40.64 (R8). -/
abbrev AccWord := BitVec 104

/-- A core word. -/
abbrev Word32 := BitVec 32

end Sys2Proof
end

