-- ==== Sys2Proof/Machine/Bits.lean ====
section
/-! DEFINITION. Bit fields, two's complement and rounding on numbers, and vectors read at any index. -/

namespace Sys2Proof

/-- Bits `[lo + len - 1 : lo]` of `v`. -/
def bits (v lo len : Nat) : Nat := v / 2 ^ lo % 2 ^ len

/-- Bit `k` of `v`. -/
def bit (v k : Nat) : Bool := v / 2 ^ k % 2 == 1

/-- A truth value as a bit. -/
def b2n (b : Bool) : Nat := if b then 1 else 0

/-- `v` with bit `k` set to `b`. -/
def setBit (v k : Nat) (b : Bool) : Nat :=
  v - (v / 2 ^ k % 2) * 2 ^ k + b2n b * 2 ^ k

/-- The signed value of the `n`-bit two's-complement pattern `v` (R6). -/
def sext (n v : Nat) : Int :=
  if v % 2 ^ n < 2 ^ (n - 1) then (v % 2 ^ n : Nat) else ((v % 2 ^ n : Nat) : Int) - 2 ^ n

/-- The `n`-bit two's-complement pattern of `x` (modulo `2^n`). -/
def twos (n : Nat) (x : Int) : Nat := (x % 2 ^ n).toNat

/-- `x` limited to `lo .. hi`. -/
def clampI (lo hi x : Int) : Int := if x < lo then lo else if hi < x then hi else x

/-- The S48 pattern nearest to `x` (in units of 2⁻³²), and whether `x` lay outside the S48 range (R6, R206). -/
def satS48 (x : Int) : Nat × Bool :=
  (twos 48 (clampI (-(2 ^ 47)) (2 ^ 47 - 1) x), decide (x < -(2 ^ 47)) || decide (2 ^ 47 - 1 < x))

/-- Rounding modes of R207. -/
def roundDiv (rm : Nat) (x : Int) (d : Nat) : Int :=
  let q := x / d
  let r := x % d
  match rm with
  | 0 => if (d : Int) ≤ 2 * r then q + 1 else q
  | 1 => if (d : Int) < 2 * r then q + 1 else if 2 * r = (d : Int) then (if q % 2 = 0 then q else q + 1) else q
  | 2 => q
  | _ => if r = 0 then q else if x < 0 then q + 1 else q

/-- A counter of `n` bits that saturates at its largest value. -/
def satInc (n c k : Nat) : Nat := min (2 ^ n - 1) (c + k)

/-- Element `k` of a vector, the default outside it. -/
def vget {α : Type} [Inhabited α] {n : Nat} (v : Vector α n) (k : Nat) : α :=
  v[k]?.getD default

/-- The vector with element `k` replaced (unchanged when `k` is outside it). -/
def vput {α : Type} {n : Nat} (v : Vector α n) (k : Nat) (x : α) : Vector α n := v.setIfInBounds k x

/-- The numbers below `n` whose bit is set in `m`, ascending. -/
def setBits (n m : Nat) : List Nat := (List.range n).filter (bit m)

/-- The first of the numbers `p, p + 1, …` modulo `n` that satisfies `q`. -/
def firstFrom (n p : Nat) (q : Nat → Bool) : Option Nat :=
  ((List.range n).map (fun d => (p + d) % n)).find? q

/-- An integer square root (the largest `r` with `r * r ≤ x`), by bisection over `k` bits. -/
def isqrtAux : Nat → Nat → Nat → Nat
  | 0, r, _ => r
  | k + 1, r, x => if (r + 2 ^ k) * (r + 2 ^ k) ≤ x then isqrtAux k (r + 2 ^ k) x else isqrtAux k r x

/-- The integer square root of a number below `2^(2k)`. -/
def isqrt (k x : Nat) : Nat := isqrtAux k 0 x

/-- The number whose little-endian bytes are the list. -/
def leNat : List Nat → Nat
  | [] => 0
  | b :: t => b % 256 + 256 * leNat t

/-- The `n` little-endian bytes of `v`. -/
def leBytes : Nat → Nat → List Nat
  | 0, _ => []
  | n + 1, v => v % 256 :: leBytes n (v / 256)

/-- The number whose big-endian bytes are the list. -/
def beNat (l : List Nat) : Nat := l.foldl (fun a b => a * 256 + b % 256) 0

/-- The `n` big-endian bytes of `v`. -/
def beBytes (n v : Nat) : List Nat := (leBytes n v).reverse

end Sys2Proof
end

