-- ==== Sys2Proof/Syntax.lean ====
section
/-! DEFINITION. The commands of the block, and the mnemonics of the control lanes' instruction set. -/

namespace Sys2Proof

/-- The instructions of the control lanes (R211). -/
inductive LaneMn where
  | nop | end_ | mov | ldi | movs | ang | add | sub | neg | abs | mul | madd | msub | ash | min | max | clmp | slew
  | and | or | xor | cmp | aclr | ald | amac | amsu | ard | clarke | iclarke | park | ipark | sincos | ld | st | duty
  | commit | evt | send | dbl | br | call | ret
  deriving DecidableEq, Repr

/-- The fields of an instruction word of a lane (R209). -/
structure LaneWord where
  op : Nat
  rd : Nat
  rs1 : Nat
  rs2 : Nat
  rs3 : Nat
  imm : Nat
  deriving DecidableEq, Repr

/-- The voltage at an input of a comparator (R92), in microvolts: its ball, or with `pair` the SAR pair it shares. -/
structure CmpVolts where
  pair : Bool
  uv : Int
  deriving DecidableEq, Repr

/-- The AMO operations of the A extension (R325, R327). -/
inductive AmoOp where
  | swap | add | xor | and | or | min | max | minu | maxu
  deriving DecidableEq, Repr

/-- A transfer on the PMBus (R481): the bytes written after the command code, absent for a read, and the PEC byte that ended
it: absent, wrong or right. -/
structure PmbXfer where
  write : Option (List Nat)
  pec : Option Bool
  deriving DecidableEq, Repr


/-- The commands: one constructor per row of spec/opcode_table.json. -/
inductive Instr where
  -- Fabric, Saddle store and DMA (spec/01_fabric_clocks.md)
  /-- REGISTER_WRITE: Master `m` writes `width` bits of `value` at `addr`. -/
  | registerWrite (m : Fin 10) (addr width value : Nat)
  /-- READ_CLEAR: Master `m` reads `width` bits at `addr`. -/
  | readClear (m : Fin 10) (addr width : Nat)
  /-- SLOT_LOW_WRITE: A 32-bit write of the low half of the slot at `addr`. -/
  | slotLowWrite (m : Fin 10) (addr value : Nat)
  /-- SLOT_HIGH_WRITE: A 32-bit write of the high half of the slot at `addr`. -/
  | slotHighWrite (m : Fin 10) (addr value : Nat)
  /-- SLOT_LOW_READ: A 32-bit read of the low half of the slot at `addr`. -/
  | slotLowRead (m : Fin 10) (addr : Nat)
  /-- SLOT_HIGH_READ: A 32-bit read of the high half of the slot at `addr`. -/
  | slotHighRead (m : Fin 10) (addr : Nat)
  /-- PARTNER_READ: Master `m` reads `width` bits at 0x8000_0000 + `x`. -/
  | partnerRead (m : Fin 10) (x width : Nat)
  /-- PARTNER_ACCESS_TIMEOUT: The partner-window access of master `m` is answered with an error. -/
  | partnerAccessTimeout (m : Fin 10)
  /-- DMA_START: Master `m` writes FAB_DMA[n]_CTRL with START. -/
  | dmaStart (m : Fin 10) (n : Fin 2) (value : Nat)
  /-- DMA_ACCESS_DONE: The access of engine `n` completes. -/
  | dmaAccessDone (n : Fin 2)
  /-- DMA_DISABLE: Master `m` writes FAB_DMA[n]_CTRL with EN 0. -/
  | dmaDisable (m : Fin 10) (n : Fin 2) (value : Nat)
  /-- SADDLE_DECISION: A decision edge of bank `b`; `upsets` are the words (slot address, uncorrectable) that have taken a bit error since. -/
  | saddleDecision (b : Fin 4) (upsets : List (Nat × Bool))
  /-- ECC_WRITEBACK: An idle cycle of bank `b`. -/
  | eccWriteback (b : Fin 4)
  -- SAR converters, slot table and sigma-delta inputs (spec/02_sensing_converters.md)
  /-- SAR_HOLD_EDGE: Converter `c`'s hold edge; its conversion gives the 16-bit `code`, or with `clip` the input lies beyond full scale
  on the side of `code`. -/
  | sarHoldEdge (c : Fin 16) (code : Nat) (clip : Bool)
  /-- RESULT_PRESENT: The result-clock edge that presents converter `c`'s oldest result. -/
  | resultPresent (c : Fin 16)
  /-- ADC_SLOT_W0_WRITE: Master `m` writes ADC_SLOT[e]_W0. -/
  | adcSlotW0Write (m : Fin 10) (e : Fin 96) (value : Nat)
  /-- ADC_SLOT_W1_WRITE: Master `m` writes ADC_SLOT[e]_W1. -/
  | adcSlotW1Write (m : Fin 10) (e : Fin 96) (value : Nat)
  /-- ADC_SLOTACT_WRITE: Master `m` writes word 0 or word 1 of ADC_SLOTACT[e]. -/
  | adcSlotactWrite (m : Fin 10) (e : Fin 96) (w1 : Bool) (value : Nat)
  /-- SWAPREQ: Master `m` writes 1 to ADC_BANK.SWAPREQ. -/
  | swapReq (m : Fin 10)
  /-- BANK_COPY: Master `m` writes 1 to ADC_BANK.COPY. -/
  | bankCopy (m : Fin 10)
  /-- COPY_END: The bank copy completes. -/
  | copyEnd
  /-- CONVERTER_DISABLE: Master `m` clears ADC_CTRL.EN[c]. -/
  | converterDisable (m : Fin 10) (c : Fin 16)
  /-- FAST_SAMPLE: Modulator `m`'s fast path delivers the 18-bit sample `v`. -/
  | fastSample (m : Fin 12) (v : Nat)
  /-- SDM_OVERRANGE: Modulator `m`'s input has been beyond ±1.05 V for more than 400 ns (`on`), or is back within ±1.0 V. -/
  | sdmOverrange (m : Fin 12) (on : Bool)
  /-- METER_SAMPLE: Modulator `m`'s metering path delivers the 24-bit sample `v`. -/
  | meterSample (m : Fin 12) (v : Nat)
  /-- METER_PUBLISH: A metering window of feed `f` ends. -/
  | meterPublish (f : Fin 2)
  /-- ENERGY_LOW_READ: Master `m` reads the low word of an energy counter. -/
  | energyLowRead (m : Fin 10) (f : Fin 2) (p : Fin 3) (exported : Bool)
  /-- SDM_DISABLE: Master `m` clears SDM_CTRL.EN[n]. -/
  | sdmDisable (m : Fin 10) (n : Fin 12)
  -- Window comparators and Rein lines (spec/03_comparators_reins.md)
  /-- COMPARATOR_CROSSING: An input of comparator `k` stands at the voltage `x`. -/
  | comparatorCrossing (k : Fin 48) (x : CmpVolts)
  /-- FILTER_OUTPUT_CHANGE: The majority filter of comparator `k` changes its output. -/
  | filterOutputChange (k : Fin 48)
  /-- CMP_CFG_WRITE: Master `m` writes CMP[k]_CFG. -/
  | cmpCfgWrite (m : Fin 10) (k : Fin 48) (value : Nat)
  /-- SETTLE_END: The settle interval of comparator `k` ends. -/
  | settleEnd (k : Fin 48)
  /-- CMP_THR_WRITE: Master `m` writes CMP[k]_THR. -/
  | cmpThrWrite (m : Fin 10) (k : Fin 48) (value : Nat)
  /-- LATCH_SOFT_CLEAR: Master `m` writes CMP_LATCHLO or CMP_LATCHHI. -/
  | latchSoftClear (m : Fin 10) (hi : Bool) (value : Nat)
  /-- PERIOD_CLEAR_ATTEMPT: The period clear of latch `k`. -/
  | periodClearAttempt (k : Fin 48)
  /-- COMPARATOR_DISABLE: Master `m` writes CMP[k]_CFG with EN = 0. -/
  | comparatorDisable (m : Fin 10) (k : Fin 48) (value : Nat)
  /-- TRIP_PIN_EDGE: Ball TRIP`p` goes to `level`. -/
  | tripPinEdge (p : Fin 16) (level : Bool)
  /-- TRIP_FILTER_CHANGE: The filtered state of TRIP`p` changes. -/
  | tripFilterChange (p : Fin 16)
  /-- PINCFG_WRITE: Master `m` writes REIN_PINCFG[p]. -/
  | pincfgWrite (m : Fin 10) (p : Fin 16) (value : Nat)
  /-- SWTRIP_WRITE: Master `m` writes REIN_SWTRIP. -/
  | swtripWrite (m : Fin 10) (value : Nat)
  /-- REIN_ACTIVE: Rein line `r` becomes active, at `fine` fine ticks into the tick. -/
  | reinActive (r : Fin 16) (fine : Fin 128)
  -- PWM generator (spec/04_pwm_generator.md)
  /-- TEAM_START: Master `m` writes PWM_TEAMRUN with bit `t` 1, bit 0 before and no channel of the Team still running. -/
  | teamStart (m : Fin 10) (t : Fin 8) (value : Nat)
  /-- TEAM_STOP: Master `m` writes PWM_TEAMRUN with bit `t` 0, bit 1 before. -/
  | teamStop (m : Fin 10) (t : Fin 8) (value : Nat)
  /-- TEAM_RESTART: Master `m` writes PWM_TEAMRUN with bit `t` 1, bit 0 before, while a channel of the Team completes its last period. -/
  | teamRestart (m : Fin 10) (t : Fin 8) (value : Nat)
  /-- CHANNEL_ENABLE: Master `m` writes PWM_CH[n]_CFG with EN = 1. -/
  | channelEnable (m : Fin 10) (n : Fin 24) (value : Nat)
  /-- CHANNEL_DISABLE: Master `m` writes PWM_CH[n]_CFG with EN = 0. -/
  | channelDisable (m : Fin 10) (n : Fin 24) (value : Nat)
  /-- PWM_WRAP: Channel `n`'s count returns to 0. -/
  | pwmWrap (n : Fin 24)
  /-- REFRESH_END: The refresh off-pulse of channel `n` ends. -/
  | refreshEnd (n : Fin 24)
  /-- COMPARE_MATCH: Channel `n` reaches its compare A to D (`x` 0 to 3). -/
  | compareMatch (n : Fin 24) (x : Fin 4)
  /-- PERIOD_EVENT: Channel `n` raises its period event. -/
  | periodEvent (n : Fin 24)
  /-- DEADTIME_TURN_ON: The demanded high or low output of channel `n` turns on. -/
  | deadtimeTurnOn (n : Fin 24) (low : Bool)
  /-- PRELOAD_WRITE: Master `m` writes preload `r` of channel `n`: PRD, PHS, CMPA to CMPD, DTR, DTF. -/
  | preloadWrite (m : Fin 10) (n : Fin 24) (r : Fin 8) (value : Nat)
  /-- LOAD_ALL: Master `m` writes PWM_TEAMLOAD. -/
  | loadAll (m : Fin 10) (value : Nat)
  /-- FORCE_WRITE: Master `m` writes PWM_CH[n]_FORCE. -/
  | forceWrite (m : Fin 10) (n : Fin 24) (value : Nat)
  /-- ESCL_CLEAR: Master `m` writes PWM_CH[n]_STAT with bit 4 set. -/
  | esclClear (m : Fin 10) (n : Fin 24) (value : Nat)
  -- Spire (spec/05_spire_edges.md)
  /-- SPIRE_MEASUREMENT: A measurement of line `n` finds the strobe at `stage`. -/
  | spireMeasurement (n : Fin 48) (stage : Nat)
  /-- CALIBRATION_GROUP_DONE: A group of 256 measurements of line `n` is complete. -/
  | calibrationGroupDone (n : Fin 48)
  /-- TABLE_INSTALL: The computed table of line `n` becomes active. -/
  | tableInstall (n : Fin 48)
  /-- SPIRE_LOCK: Line `n` locks. -/
  | spireLock (n : Fin 48)
  /-- SPIRE_FAULT: Line `n` has a fault. -/
  | spireFault (n : Fin 48)
  /-- SPIRE_FAULT_CLEAR: Master `m` writes SPR_FAULTLO or SPR_FAULTHI. -/
  | spireFaultClear (m : Fin 10) (hi : Bool) (value : Nat)
  /-- STARVED_TIMEOUT: Line `n` has had no update for 100 µs. -/
  | starvedTimeout (n : Fin 48)
  -- Control lanes (spec/06_control_lanes.md)
  /-- ACTIVATION_ENQUEUE: The lane edge at which lane `k`'s next arrivals are usable. -/
  | activationEnqueue (k : Fin 32)
  /-- DISPATCH: The dispatch cycle of lane `k`. -/
  | dispatch (k : Fin 32)
  /-- NOP: Lane `k` executes NOP. -/
  | laneNop (k : Fin 32)
  /-- END: Lane `k` executes END. -/
  | laneEnd (k : Fin 32)
  /-- MOV: Lane `k` executes MOV. -/
  | laneMov (k : Fin 32)
  /-- LDI: Lane `k` executes LDI. -/
  | laneLdi (k : Fin 32)
  /-- MOVS: Lane `k` executes MOVS. -/
  | laneMovs (k : Fin 32)
  /-- ANG: Lane `k` executes ANG. -/
  | laneAng (k : Fin 32)
  /-- ADD: Lane `k` executes ADD. -/
  | laneAdd (k : Fin 32)
  /-- SUB: Lane `k` executes SUB. -/
  | laneSub (k : Fin 32)
  /-- NEG: Lane `k` executes NEG. -/
  | laneNeg (k : Fin 32)
  /-- ABS: Lane `k` executes ABS. -/
  | laneAbs (k : Fin 32)
  /-- MUL: Lane `k` executes MUL. -/
  | laneMul (k : Fin 32)
  /-- MADD: Lane `k` executes MADD. -/
  | laneMadd (k : Fin 32)
  /-- MSUB: Lane `k` executes MSUB. -/
  | laneMsub (k : Fin 32)
  /-- ASH: Lane `k` executes ASH. -/
  | laneAsh (k : Fin 32)
  /-- MIN: Lane `k` executes MIN. -/
  | laneMin (k : Fin 32)
  /-- MAX: Lane `k` executes MAX. -/
  | laneMax (k : Fin 32)
  /-- CLMP: Lane `k` executes CLMP. -/
  | laneClmp (k : Fin 32)
  /-- SLEW: Lane `k` executes SLEW. -/
  | laneSlew (k : Fin 32)
  /-- AND: Lane `k` executes AND. -/
  | laneAnd (k : Fin 32)
  /-- OR: Lane `k` executes OR. -/
  | laneOr (k : Fin 32)
  /-- XOR: Lane `k` executes XOR. -/
  | laneXor (k : Fin 32)
  /-- CMP: Lane `k` executes CMP. -/
  | laneCmp (k : Fin 32)
  /-- ACLR: Lane `k` executes ACLR. -/
  | laneAclr (k : Fin 32)
  /-- ALD: Lane `k` executes ALD. -/
  | laneAld (k : Fin 32)
  /-- AMAC: Lane `k` executes AMAC. -/
  | laneAmac (k : Fin 32)
  /-- AMSU: Lane `k` executes AMSU. -/
  | laneAmsu (k : Fin 32)
  /-- ARD: Lane `k` executes ARD. -/
  | laneArd (k : Fin 32)
  /-- CLARKE: Lane `k` executes CLARKE. -/
  | laneClarke (k : Fin 32)
  /-- ICLARKE: Lane `k` executes ICLARKE. -/
  | laneIclarke (k : Fin 32)
  /-- PARK: Lane `k` executes PARK. -/
  | lanePark (k : Fin 32)
  /-- IPARK: Lane `k` executes IPARK. -/
  | laneIpark (k : Fin 32)
  /-- SINCOS: Lane `k` executes SINCOS. -/
  | laneSincos (k : Fin 32)
  /-- LD: Lane `k` executes LD. -/
  | laneLd (k : Fin 32)
  /-- LOAD_DATA_RETURN: A word of lane `k`'s oldest load reaches its register. -/
  | loadDataReturn (k : Fin 32)
  /-- ST: Lane `k` executes ST. -/
  | laneSt (k : Fin 32)
  /-- DUTY: Lane `k` executes DUTY. -/
  | laneDuty (k : Fin 32)
  /-- COMMIT: Lane `k` executes COMMIT. -/
  | laneCommit (k : Fin 32)
  /-- DUTY_LANDING: The oldest entry of lane group `g`'s duty queue lands. -/
  | dutyLanding (g : Fin 4)
  /-- EVT: Lane `k` executes EVT. -/
  | laneEvt (k : Fin 32)
  /-- SEND: Lane `k` executes SEND. -/
  | laneSend (k : Fin 32)
  /-- DBL: Lane `k` executes DBL. -/
  | laneDbl (k : Fin 32)
  /-- BR: Lane `k` executes BR. -/
  | laneBr (k : Fin 32)
  /-- CALL: Lane `k` executes CALL. -/
  | laneCall (k : Fin 32)
  /-- RET: Lane `k` executes RET. -/
  | laneRet (k : Fin 32)
  /-- ILLEGAL_INSTRUCTION: Lane `k` executes an illegal or uncorrectable word. -/
  | illegalInstruction (k : Fin 32)
  /-- PC_OVERFLOW: The cycle after lane `k` produced a next address of 512 or more. -/
  | pcOverflow (k : Fin 32)
  /-- BUDGET_EXPIRY: Lane `k`'s activation passes its BUDGET cycle. -/
  | budgetExpiry (k : Fin 32)
  /-- DISABLE_BOUND_EXPIRY: Lane `k`'s activation passes the bound after a disable. -/
  | disableBoundExpiry (k : Fin 32)
  /-- LREG_WRITE: Master `m` writes the 48-bit slot LANE[k]_LREG[n]. -/
  | lregWrite (m : Fin 10) (k : Fin 32) (n : Fin 64) (value : Nat)
  /-- LANE_APPLY: Master `m` writes 1 to LANE[k]_CTRL.APPLY, with EN as it stands. -/
  | laneApply (m : Fin 10) (k : Fin 32)
  /-- APPLY_EXECUTE: The activation boundary of lane `k`. -/
  | applyExecute (k : Fin 32)
  /-- PMEM_WRITE: Master `m` writes the low or the high half of LANE[k]_PMEM[n]. -/
  | pmemWrite (m : Fin 10) (k : Fin 32) (n : Fin 512) (hi : Bool) (value : Nat)
  /-- POST: Master `m` writes LANE[k]_POST. -/
  | post (m : Fin 10) (k : Fin 32) (value : Nat)
  /-- LANE_ENABLE: Master `m` writes LANE[k]_CTRL.EN to 1. -/
  | laneEnable (m : Fin 10) (k : Fin 32)
  /-- LANE_DISABLE: Master `m` writes LANE[k]_CTRL.EN to 0. -/
  | laneDisable (m : Fin 10) (k : Fin 32)
  /-- LANE_FAULT_CLEAR: Master `m` writes 1 to LANE[k]_STAT.FAULT. -/
  | laneFaultClear (m : Fin 10) (k : Fin 32)
  -- Line Angle Engine (spec/08_line_angle_engine.md)
  /-- LAE_SAMPLE: The engine takes feed `f`'s fast-path samples. -/
  | laeSample (f : Fin 2)
  /-- CROSSING_TIMEOUT: No sign change by the end of the window of feed `f`'s expected crossing. -/
  | crossingTimeout (f : Fin 2)
  /-- ANGLE_EVENT: Feed `f`'s published angle reaches φ1 to φ3 (`n` 0 to 2) or EVANG[i - 3]. -/
  | angleEvent (f : Fin 2) (n : Fin 7)
  /-- GATE_FIRE: The forward or reverse gate of pair `j` fires. -/
  | gateFire (j : Fin 12) (rev : Bool)
  /-- THIRD_PHASE_FIRE: Both gates of the third phase of feed `f`'s first firing. -/
  | thirdPhaseFire (f : Fin 2)
  /-- PULSE_END: A gate pulse of pair `j` ends. -/
  | pulseEnd (j : Fin 12) (rev : Bool)
  /-- PICKET_PULSE: A gate of pair `j` starts its next picket pulse. -/
  | picketPulse (j : Fin 12) (rev : Bool)
  /-- MISFIRE_TIMEOUT: Latching of a gate of pair `j` has not been confirmed in time. -/
  | misfireTimeout (j : Fin 12) (rev : Bool)
  /-- WINDOW_CLOSE: The firing window of a gate of pair `j` closes. -/
  | windowClose (j : Fin 12) (rev : Bool)
  /-- CURRENT_ZERO_TIMEOUT: A wait of pair `j` for a current zero has lasted 12 ms. -/
  | currentZeroTimeout (j : Fin 12)
  /-- RAMP_UPDATE: Line tick 0 of feed `f`: the ramp angle. -/
  | rampUpdate (f : Fin 2)
  /-- PAIR_DISABLE: Master `m` writes LAE_PAIR[j]_CFG with EN = 0. -/
  | pairDisable (m : Fin 10) (j : Fin 12) (value : Nat)
  /-- SAG_ENTRY: Feed `f` enters sag. -/
  | sagEntry (f : Fin 2)
  /-- SAG_EXIT: Feed `f` leaves sag. -/
  | sagExit (f : Fin 2)
  /-- FEED_QUALIFIED: Feed `f` is qualified. -/
  | feedQualified (f : Fin 2)
  /-- TRANSFER_REQUEST: Master `m` writes LAE_XCTRL. -/
  | transferRequest (m : Fin 10) (value : Nat)
  /-- AUTO_RETURN: The preferred feed has been qualified for RETDLY. -/
  | autoReturn
  /-- TRANSFER_ZEROS: Every outgoing phase current has been declared zero. -/
  | transferZeros
  /-- TRANSFER_COMPLETE: The margin has passed. -/
  | transferComplete
  /-- TRANSFER_DEADLINE: The transfer passes its deadline. -/
  | transferDeadline
  -- General timers and the Harness (spec/09_timers_harness.md)
  /-- TIMER_STEP: Timer `t` is in the first tick of a count step. -/
  | timerStep (t : Fin 16)
  /-- TIMER_ENABLE: Master `m` writes TMR[t]_CFG with EN = 1. -/
  | timerEnable (m : Fin 10) (t : Fin 16) (value : Nat)
  /-- TIMER_DISABLE: Master `m` writes TMR[t]_CFG with EN = 0. -/
  | timerDisable (m : Fin 10) (t : Fin 16) (value : Nat)
  /-- TIMER_GO: Master `m` writes TMR_GO. -/
  | timerGo (m : Fin 10) (value : Nat)
  /-- TIMER_HALT: Master `m` writes TMR_HALT. -/
  | timerHalt (m : Fin 10) (value : Nat)
  /-- TIMER_CNT_WRITE: Master `m` writes TMR[t]_CNT. -/
  | timerCntWrite (m : Fin 10) (t : Fin 16) (value : Nat)
  /-- TIMER_PIN_WRITE: Master `m` writes TMR[t]_PIN. -/
  | timerPinWrite (m : Fin 10) (t : Fin 16) (value : Nat)
  /-- CHAIN_STAGED_WRITE: Master `m` writes TMR[t]_CMP[j], or TMR[t]_RELOAD when `j` is absent. -/
  | chainStagedWrite (m : Fin 10) (t : Fin 16) (j : Option (Fin 4)) (value : Nat)
  /-- WIDE_READ_LOW: Master `m` reads the low half of a chained pair, or of the line-time counter. -/
  | wideReadLow (m : Fin 10) (pair : Option (Fin 8))
  /-- WIDE_READ_HIGH: Master `m` reads the high half of a chained pair, or of the line-time counter. -/
  | wideReadHigh (m : Fin 10) (pair : Option (Fin 8))
  /-- HARNESS_ARRIVAL: The earliest arrival edge reached. -/
  | harnessArrival
  /-- SOFTWARE_EVENT: Master `m` writes HRN_SWEV. -/
  | softwareEvent (m : Fin 10) (value : Nat)
  /-- NEXT_ROUTE_WRITE: Master `m` writes HRN_ROUTENX[n]. -/
  | nextRouteWrite (m : Fin 10) (n : Fin 256) (value : Nat)
  /-- ROUTE_APPLY_REQUEST: Master `m` writes HRN_RTCTRL with APPLY = 1. -/
  | routeApplyRequest (m : Fin 10) (value : Nat)
  /-- ROUTE_APPLY_CANCEL: Master `m` writes HRN_RTCTRL with CANCEL = 1. -/
  | routeApplyCancel (m : Fin 10) (value : Nat)
  -- Cores, Belfry and hardware locks (spec/10_cores_belfry.md)
  /-- CORE_INSTRUCTION: Core `c` executes the instruction whose bits, as fetched, are `word`. -/
  | coreInstruction (c : Fin 5) (word : Nat)
  /-- LR: Core `c` executes LR.W. -/
  | coreLr (c : Fin 5) (rd rs1 : Fin 32)
  /-- SC: Core `c` executes SC.W. -/
  | coreSc (c : Fin 5) (rd rs1 rs2 : Fin 32)
  /-- AMO: Core `c` executes an AMO. -/
  | coreAmo (c : Fin 5) (op : AmoOp) (rd rs1 rs2 : Fin 32)
  /-- RESERVATION_EXPIRY: Core `c`'s reservation reaches its age. -/
  | reservationExpiry (c : Fin 5)
  /-- FENCE: Core `c` executes FENCE. -/
  | coreFence (c : Fin 5)
  /-- FENCE_I: Core `c` executes FENCE.I. -/
  | coreFenceI (c : Fin 5)
  /-- IRET: Core `c` executes IRET. -/
  | coreIret (c : Fin 5)
  /-- EXIT_RETURN: Core `c`'s exit ends. -/
  | exitReturn (c : Fin 5)
  /-- LOCKSTEP_MISMATCH: The comparator of pair `p` finds a difference. -/
  | lockstepMismatch (p : Fin 2) (kind : Fin 4)
  /-- CORE_RELEASE: Master `m` writes FAB_CORE[n]_CTRL.RST to 0, with BOOT as it stands. -/
  | coreRelease (m : Fin 10) (n : Fin 5)
  /-- CORE_RESET: Master `m` writes FAB_CORE[n]_CTRL.RST to 1, with BOOT as it stands. -/
  | coreReset (m : Fin 10) (n : Fin 5)
  /-- DOORBELL_RING: Master `m` writes BFY_DOORBELL. -/
  | doorbellRing (m : Fin 10) (value : Nat)
  /-- PARTNER_RING: A ring of the partner lands. -/
  | partnerRing (value : Nat)
  /-- PENDSET: Master `m` writes BFY_PENDSET[w]. -/
  | pendSet (m : Fin 10) (w : Fin 16) (value : Nat)
  /-- PENDCLR: Master `m` writes BFY_PENDCLR[w]. -/
  | pendClr (m : Fin 10) (w : Fin 16) (value : Nat)
  /-- MASKSET: Master `m` writes BFY_MASKSET[w]. -/
  | maskSet (m : Fin 10) (w : Fin 16) (value : Nat)
  /-- MASKCLR: Master `m` writes BFY_MASKCLR[w]. -/
  | maskClr (m : Fin 10) (w : Fin 16) (value : Nat)
  /-- DELIVERY_DECISION: A Belfry cycle. -/
  | deliveryDecision
  /-- HANDLER_START: Core `c`'s entry ends. -/
  | handlerStart (c : Fin 5)
  /-- COMPLETE: Master `m` writes BFY_COMPLETE. -/
  | complete (m : Fin 10) (value : Nat)
  /-- BANKDATA_ACCESS: Core `c` reads BFY_BANKDATA into `rd`, and writes `write` to it. -/
  | bankdataAccess (c : Fin 5) (write : Option Nat) (rd : Fin 32)
  /-- LOCK_ACQUIRE: Master `m` reads LCK_ACQ[l]. -/
  | lockAcquire (m : Fin 10) (l : Fin 64)
  /-- LOCK_RELEASE: Master `m` writes LCK_REL[l]. -/
  | lockRelease (m : Fin 10) (l : Fin 64)
  /-- LOCK_BREAK: Master `m` writes LCK_BREAK. -/
  | lockBreak (m : Fin 10) (value : Nat)
  -- Twin pairing (spec/11_twin_pairing.md)
  /-- OWN_CLAIM: The device decides a claim that is due. -/
  | ownClaim
  /-- OWNERSHIP_GAIN: LEAD ticks have passed since OWN was driven active. -/
  | ownershipGain
  /-- OWN_RELEASE: The device decides a release that is due. -/
  | ownRelease
  /-- OWN_DEASSERT: LEAD ticks have passed since a release. -/
  | ownDeassert
  /-- OWNIN_CHANGE: The OWNIN ball has held `level` for `ticks` ticks. -/
  | ownInChange (level : Bool) (ticks : Nat)
  /-- KEEPALIVE_EXPIRY: KEEP ticks have passed with no frame event. -/
  | keepaliveExpiry
  /-- STATE_SEND: The snapshot of a frame event is complete. -/
  | stateSend
  /-- TRAINING_START: The side begins to train the link. -/
  | trainingStart
  /-- TRAINING_STEP_DONE: The running training step ends; `skew` is the lane skew found by step 2. -/
  | trainingStepDone (skew : Nat)
  /-- TRAINING_TIMEOUT: The running training step has exceeded its maximum. -/
  | trainingTimeout
  /-- LANE_LOCK_LOSS: Lane `lane` has `errors` errors within 64 symbols. -/
  | laneLockLoss (lane : Fin 2) (errors : Nat)
  /-- HEALTH_TIMEOUT: No good HEALTH frame for 4 µs. -/
  | healthTimeout
  /-- LANE_DISABLE_DETACH: Master `m` writes TTH_CTRL with a LANEEN bit 0. -/
  | laneDisableDetach (m : Fin 10) (value : Nat)
  /-- TETHER_RETRAIN: Master `m` writes TTH_CTRL with RETRAIN = 1. -/
  | tetherRetrain (m : Fin 10) (value : Nat)
  /-- HEALTH_TX: A HEALTH frame is sent. -/
  | healthTx
  /-- HEALTH_RX: A HEALTH frame with `body` has been received; its SOF came `ago` ticks before. -/
  | healthRx (body : List Nat) (ago : Nat)
  /-- STATE_RX: A STATE frame with `body` has been received; `locks` are the feeds the partner shows locked. -/
  | stateRx (body : List Nat) (locks : Fin 4)
  /-- CTRL_DETACH_RX: A CTRL frame with code DETACH has been received. -/
  | ctrlDetachRx (body : List Nat)
  /-- CTRL_ATTACH_RX: A CTRL frame with code ATTACH has been received. -/
  | ctrlAttachRx (body : List Nat)
  /-- CTRL_HANDOVER_RX: A CTRL frame with code HANDOVER has been received. -/
  | ctrlHandoverRx (body : List Nat)
  /-- PING_RX: A PING frame has been received. -/
  | pingRx (body : List Nat)
  /-- PONG_RX: A PONG frame has been received; the round trip took `round` units of 10 ps. -/
  | pongRx (body : List Nat) (round : Nat)
  /-- RDREQ_RX: An RDREQ frame has been received. -/
  | rdreqRx (body : List Nat)
  /-- RDRSP_RX: An RDRSP frame has been received. -/
  | rdrspRx (body : List Nat)
  /-- BELL_RX: A BELL frame has been received. -/
  | bellRx (body : List Nat)
  /-- BULK_RX: A BULK frame has been received. -/
  | bulkRx (body : List Nat)
  /-- ACK_RX: An ACK frame has been received. -/
  | ackRx (body : List Nat)
  /-- BULK_RETRANSMIT: A BULK frame has not been acknowledged within 5 µs. -/
  | bulkRetransmit
  /-- BRIDLE_CELL_TX: BRDL_OUT sends a cell. -/
  | bridleCellTx
  /-- BRIDLE_WORD_RX: Sixteen cells have been received, each given by the nanoseconds BRDL_IN stayed high in it. -/
  | bridleWordRx (highs : List Nat)
  /-- BRIDLE_EDGE_TIMEOUT: No rising edge on BRDL_IN for 3 µs. -/
  | bridleEdgeTimeout
  /-- DISC_WINDOW_END: A 1 ms window of the discipline ends. -/
  | discWindowEnd
  /-- DISC_ERROR_EXPIRY: The offset has been off by more than 8 ticks for 100 µs. -/
  | discErrorExpiry
  /-- TEAM_REALIGN: The shadow engine lands its next write of PWM_TEAMRUN for Team `t`. -/
  | teamRealign (t : Fin 8)
  /-- PREFSEAT_WAIT_EXPIRY: 64 µs have passed since the reset released. -/
  | prefseatWaitExpiry
  /-- WAITB_EXPIRY: WAITB has passed with neither Tether nor Bridle. -/
  | waitbExpiry
  /-- SNS_EDGE: An edge on the SNSj ball. -/
  | snsEdge (j : Fin 8)
  /-- OWN_CONFLICT_TIMEOUT: OWNIN has been active for 1 ms after the claim of a takeover. -/
  | ownConflictTimeout
  /-- DETACH_WRITE: Master `m` writes TTH_CTRL with DETACH = 1. -/
  | detachWrite (m : Fin 10) (value : Nat)
  /-- ATTACH_WRITE: Master `m` writes TTH_CTRL with ATTACH = 1. -/
  | attachWrite (m : Fin 10) (value : Nat)
  /-- HANDOVER_WRITE: Master `m` writes TTH_CTRL with HANDOVER = 1. -/
  | handoverWrite (m : Fin 10) (value : Nat)
  /-- HANDOVER_FILTER_EXPIRY: 100 µs of the short OWNIN filter have passed. -/
  | handoverFilterExpiry
  -- Supplies, reset, power domains and start-up (spec/12_power_startup.md)
  /-- SUPPLIES_VALID: The last of the three rails rises through its release level. -/
  | suppliesValid
  /-- SUPPLY_DROP: Rail `rail` (VDD, VDDA, VDDIO) has stayed below its trip level for `ticks` ticks. -/
  | supplyDrop (rail : Fin 3) (ticks : Nat)
  /-- PIN_RESET: RSTN rises after `ticks` ticks low. -/
  | pinReset (ticks : Nat)
  /-- DEVICE_RESET_RELEASE: The device reset releases; the SEAT strap reads `seat` (true: seat B). -/
  | deviceResetRelease (seat : Bool)
  /-- WATCHDOG_KICK: Master `m` writes PMG_WDTKICK. -/
  | watchdogKick (m : Fin 10) (value : Nat)
  /-- WATCHDOG_EXPIRY: PERIOD has elapsed with no kick. -/
  | watchdogExpiry
  /-- BUDGET_WRITE: Master `m` writes PMG_BUDGET[v]. -/
  | budgetWrite (m : Fin 10) (v : Fin 8) (value : Nat)
  /-- HOLD_WRITE: Master `m` writes PMG_HOLD. -/
  | holdWrite (m : Fin 10) (value : Nat)
  /-- DIRTY_CLEAR: Master `m` writes PMG_DOMSTAT[d]. -/
  | dirtyClear (m : Fin 10) (d : Fin 20) (value : Nat)
  /-- DOMAIN_ENTRY: Domain `d` moves to its deeper permitted state. -/
  | domainEntry (d : Fin 20)
  /-- DOMAIN_WAKE: Domain `d` begins to leave a state other than ON. -/
  | domainWake (d : Fin 20)
  /-- DOMAIN_ON: Domain `d` reaches ON. -/
  | domainOn (d : Fin 20)
  /-- PLL_LOCK: The PLLs lock; `cal` holds, for each converter, the sums of the 64 conversions of its ZERO and CALREF inputs. -/
  | pllLock (cal : List (Nat × Nat))
  /-- IMAGE_BOOT: The hardware sequencer chooses a slot and applies its image. -/
  | imageBoot
  /-- NONLIVE_SECTIONS_DONE: The background pass over the sections that are not LIVE is complete. -/
  | nonliveSectionsDone
  /-- IMAGE_APPLY_IN_PLACE: A JOINING device applies the image it has received. -/
  | imageApplyInPlace
  /-- MRAM_WORD_PROGRAMMED: The MRAM word in progress is programmed, with its verify passed when `ok`. -/
  | mramWordProgrammed (ok : Bool)
  -- Cupola (spec/13_cupola_thermal.md)
  /-- CUPOLA_BURST_START: Cupola starts a burst for sensor `n`. -/
  | cupolaBurstStart (n : Fin 22)
  /-- SENSOR_SAMPLE: A sample of sensor `n` completes: the voltage in microvolts (of a remote diode at 100 µA), and of a remote diode the one at 10 µA. -/
  | sensorSample (n : Fin 22) (uv low : Nat)
  /-- SENSOR_STALE: Sensor `n` has completed no sample for 8 ms. -/
  | sensorStale (n : Fin 22)
  /-- GRACE_EXPIRY: The clock or limit grace timer expires. -/
  | graceExpiry (limit : Bool)
  /-- ENFORCEMENT_END: The clock or limit enforcement ends. -/
  | enforcementEnd (limit : Bool)
  /-- LIMIT_RAMP_WRITE: Cupola's write of the limit targets of this millisecond. -/
  | limitRampWrite
  /-- SHUTDOWN_RECORD: The shutdown record is written. -/
  | shutdownRecord
  /-- THERMAL_EXIT_WRITE: Master `m` writes CUP_CTRL. -/
  | thermalExitWrite (m : Fin 10) (value : Nat)
  -- Fyzal host ports: packets (spec/14_fyzal_host.md)
  /-- SPI_TRANSACTION: A transaction on port SPI`p` shifts in the bytes `mosi`. -/
  | spiTransaction (p : Fin 2) (mosi : List Nat)
  /-- CAN_FRAGMENT: Controller CAN`n` receives an FD frame with identifier `id` and its data bytes. -/
  | canFragment (n : Fin 2) (id : Nat) (data : List Nat)
  /-- FRAGMENT_TIMEOUT: 10 ms have passed between two fragments on CAN`n`. -/
  | fragmentTimeout (n : Fin 2)
  /-- UART_BYTE: The UART receives a byte, with a framing error when `framing`. -/
  | uartByte (byte : Nat) (framing : Bool)
  /-- UART_GAP_TIMEOUT: 2 ms have passed inside a packet on the UART. -/
  | uartGapTimeout
  /-- PACKET_RECEIVED: The oldest packet that has arrived at port `p` is taken in. -/
  | packetReceived (p : Fin 5)
  /-- MGMT_DOWN_TIMEOUT: The ROM has not taken the oldest request of port `p` within 10 ms. -/
  | mgmtDownTimeout (p : Fin 5)
  /-- HELLO: The ROM executes HELLO, the oldest request. -/
  | hello
  /-- OPEN: The ROM executes OPEN. -/
  | openSession
  /-- CLOSE: The ROM executes CLOSE. -/
  | closeSession
  /-- HKEYSET: The ROM executes HKEYSET. -/
  | hkeySet
  /-- HKEYREVOKE: The ROM executes HKEYREVOKE. -/
  | hkeyRevoke
  /-- IMGKEYSET: The ROM executes IMGKEYSET. -/
  | imgKeySet
  /-- IMGKEYREVOKE: The ROM executes IMGKEYREVOKE. -/
  | imgKeyRevoke
  /-- SECVERSET: The ROM executes SECVERSET. -/
  | secverSet
  /-- IMGINFO: The ROM executes IMGINFO. -/
  | imgInfo
  /-- IMGBEGIN: The ROM executes IMGBEGIN. -/
  | imgBegin
  /-- IMGWRITE: The ROM executes IMGWRITE. -/
  | imgWrite
  /-- IMGEND: The ROM executes IMGEND. -/
  | imgEnd
  /-- IMGCONFIRM: The ROM executes IMGCONFIRM. -/
  | imgConfirm
  /-- IMGERASE: The ROM executes IMGERASE. -/
  | imgErase
  /-- SPSET: The ROM executes SPSET. -/
  | spSet
  /-- SPGET: The ROM executes SPGET. -/
  | spGet
  /-- LAESTAT: The ROM executes LAESTAT. -/
  | laeStat
  /-- XFER: The ROM executes XFER. -/
  | xferCmd
  /-- PAIRANG: The ROM executes PAIRANG. -/
  | pairAng
  /-- PAIREN: The ROM executes PAIREN. -/
  | pairEnCmd
  /-- STATUS: The safety state machine executes STATUS, its oldest request. -/
  | statusCmd
  /-- METER: The ROM executes METER. -/
  | meterCmd
  /-- THERM: The ROM executes THERM. -/
  | thermCmd
  /-- NOTICECFG: The ROM executes NOTICECFG. -/
  | noticeCfg
  /-- BUDGETSET: The ROM executes BUDGETSET. -/
  | budgetSet
  /-- BUDGETGET: The ROM executes BUDGETGET. -/
  | budgetGet
  /-- HOLD: The ROM executes HOLD. -/
  | holdCmd
  /-- THERMCFG: The ROM executes THERMCFG. -/
  | thermCfg
  /-- THERMEXIT: The ROM executes THERMEXIT. -/
  | thermExit
  /-- SHUTREC: The ROM executes SHUTREC. -/
  | shutRec
  /-- RELEASE: The safety state machine executes RELEASE. -/
  | releaseCmd
  /-- PAIRSTAT: The ROM executes PAIRSTAT. -/
  | pairStat
  /-- HANDOVER: The ROM executes HANDOVER. -/
  | handoverCmd
  /-- DETACH: The ROM executes DETACH. -/
  | detachCmd
  /-- ATTACH: The ROM executes ATTACH. -/
  | attachCmd
  /-- LOGINFO: The ROM executes LOGINFO. -/
  | logInfo
  /-- LOGREAD: The ROM executes LOGREAD. -/
  | logRead
  /-- LOGCLEAR: The ROM executes LOGCLEAR. -/
  | logClear
  /-- ESTOP: The safety state machine executes ESTOP. -/
  | estopCmd
  /-- RESUME: The ROM executes RESUME. -/
  | resumeCmd
  /-- RESUME_WRITE: Master `m` writes FYZ_RESUME. -/
  | resumeWrite (m : Fin 10) (value : Nat)
  /-- RESET: The ROM executes RESET. -/
  | resetCmd
  /-- HOST_RESET: 1 ms has passed since the reply to RESET. -/
  | hostResetDue
  /-- PEEK: The ROM executes PEEK. -/
  | peekCmd
  /-- POKE: The ROM executes POKE. -/
  | pokeCmd
  /-- ECHO: The ROM executes ECHO. -/
  | echoCmd
  /-- DEBUGEN: The ROM executes DEBUGEN. -/
  | debugEn
  /-- SESSION_IDLE_EXPIRY: The session of port `p` has been idle for FYZ_CFG.IDLE seconds. -/
  | sessionIdleExpiry (p : Fin 5)
  /-- LOCKOUT_EXPIRY: One second has passed since port `p`'s lockout began. -/
  | lockoutExpiry (p : Fin 5)
  -- Fyzal host ports: PMBus and JTAG (spec/14_fyzal_host.md)
  /-- PMBUS_SNAPSHOT: The ROM refreshes the PMBus snapshot. -/
  | pmbusSnapshot
  /-- PAGE: PAGE, read or written. -/
  | pmbPage (x : PmbXfer)
  /-- CLEAR_FAULTS: CLEAR_FAULTS. -/
  | pmbClearFaults (x : PmbXfer)
  /-- CAPABILITY: CAPABILITY. -/
  | pmbCapability (x : PmbXfer)
  /-- VOUT_MODE: VOUT_MODE. -/
  | pmbVoutMode (x : PmbXfer)
  /-- STATUS_BYTE: STATUS_BYTE. -/
  | pmbStatusByte (x : PmbXfer)
  /-- STATUS_WORD: STATUS_WORD. -/
  | pmbStatusWord (x : PmbXfer)
  /-- STATUS_IOUT: STATUS_IOUT. -/
  | pmbStatusIout (x : PmbXfer)
  /-- STATUS_INPUT: STATUS_INPUT. -/
  | pmbStatusInput (x : PmbXfer)
  /-- STATUS_TEMPERATURE: STATUS_TEMPERATURE. -/
  | pmbStatusTemperature (x : PmbXfer)
  /-- STATUS_CML: STATUS_CML. -/
  | pmbStatusCml (x : PmbXfer)
  /-- READ_VIN: READ_VIN. -/
  | pmbReadVin (x : PmbXfer)
  /-- READ_IIN: READ_IIN. -/
  | pmbReadIin (x : PmbXfer)
  /-- READ_VOUT: READ_VOUT. -/
  | pmbReadVout (x : PmbXfer)
  /-- READ_IOUT: READ_IOUT. -/
  | pmbReadIout (x : PmbXfer)
  /-- READ_TEMPERATURE: READ_TEMPERATURE_1 to 3 (`n` 0 to 2). -/
  | pmbReadTemperature (n : Fin 3) (x : PmbXfer)
  /-- READ_FREQUENCY: READ_FREQUENCY. -/
  | pmbReadFrequency (x : PmbXfer)
  /-- READ_POUT: READ_POUT. -/
  | pmbReadPout (x : PmbXfer)
  /-- READ_PIN: READ_PIN. -/
  | pmbReadPin (x : PmbXfer)
  /-- PMBUS_REVISION: PMBUS_REVISION. -/
  | pmbRevision (x : PmbXfer)
  /-- MFR_ID: MFR_ID. -/
  | pmbMfrId (x : PmbXfer)
  /-- MFR_MODEL: MFR_MODEL. -/
  | pmbMfrModel (x : PmbXfer)
  /-- MFR_REVISION: MFR_REVISION. -/
  | pmbMfrRevision (x : PmbXfer)
  /-- PMBUS_UNSUPPORTED: A command code that is not listed. -/
  | pmbUnsupported (code : Nat) (x : PmbXfer)
  /-- ALERT_RESPONSE: A read of the Alert Response Address. -/
  | alertResponse
  /-- SMBUS_TIMEOUT: SCL has been low for 25 to 35 ms. -/
  | smbusTimeout
  /-- EXTEST: EXTEST is loaded, and `value` is shifted into the boundary register. -/
  | jtagExtest (value : Nat)
  /-- SAMPLE_PRELOAD: SAMPLE/PRELOAD is loaded, and `value` is shifted into the boundary register. -/
  | jtagSample (value : Nat)
  /-- IDCODE: IDCODE is loaded. -/
  | jtagIdcode
  /-- DEBUG: DEBUG is loaded. -/
  | jtagDebug
  /-- SYSRESET: SYSRESET is loaded. -/
  | jtagSysreset
  /-- BYPASS: BYPASS, or a code that no instruction has, is loaded. -/
  | jtagBypass (code : Nat)
  /-- DEBUG_SESSION_END: TRSTN goes low (`trst`), or the debug port leaves DEBUG. -/
  | debugSessionEnd (trst : Bool)
  -- Line Angle Engine (spec/08_line_angle_engine.md)
  /-- CROSSING_COMPARATOR_EDGE: The output of crossing comparator `z` has an edge. -/
  | crossingComparatorEdge (z : Fin 6) (rising : Bool)
  -- Fyzal host ports: packets (spec/14_fyzal_host.md)
  /-- PACKET_TRANSMITTED: Port `p` finishes sending a packet, or a fragment of one. -/
  | packetTransmitted (p : Fin 5)
  /-- CAN_BUS_ERROR: A bus error on CAN`n` leaves the counters that the standard names at `tec` and `rec`. -/
  | canBusError (n : Fin 2) (tec rec : Nat)
  /-- BUS_OFF_RECOVERY: CAN`n` has seen 128 occurrences of 11 consecutive recessive bits in bus-off. -/
  | busOffRecovery (n : Fin 2)
  -- Fyzal host ports: PMBus and JTAG (spec/14_fyzal_host.md)
  /-- SNAPSHOT_STALE: The PMBus snapshot becomes more than 10 ms old. -/
  | snapshotStale
  deriving DecidableEq, Repr

end Sys2Proof
end

