-- ==== Sys2Proof/Decode.lean ====
section
/-! DEFINITION. The reading of words. The opcode table gives no row any bits, so `decodeTableWord` reads none. The lanes'
instruction words (R209 to R212) have their own decoder and encoder here. -/

namespace Sys2Proof

/-- The command a table word spells: the table gives no row bits, so no word spells one. -/
def decodeTableWord (_nbits _w : Nat) : Option Instr := none

/-- One row of the instruction table of R211: opcode, and for each field of R209 the bits the row lists (a field or bit not
listed must be 0, R210). -/
structure LaneRow where
  mn : LaneMn
  op : Nat
  rd : Bool
  rs1 : Bool
  rs2 : Nat
  rs3 : Nat
  imm : Nat
  deriving DecidableEq, Repr

/-- The instruction table of R211: moves and arithmetic. -/
def laneTableA : List LaneRow := [
  ⟨.nop, 0x00, false, false, 0, 0, 0⟩,
  ⟨.end_, 0x01, false, false, 0, 0, 0⟩,
  ⟨.mov, 0x02, true, true, 0, 0, 0⟩,
  ⟨.ldi, 0x03, true, false, 63, 0, 0xFFFFFFFF⟩,
  ⟨.movs, 0x04, true, false, 0, 0, 0x7⟩,
  ⟨.ang, 0x05, true, false, 0, 0, 0x1⟩,
  ⟨.add, 0x10, true, true, 63, 0, 0x4⟩,
  ⟨.sub, 0x11, true, true, 63, 0, 0x4⟩,
  ⟨.neg, 0x12, true, true, 0, 0, 0⟩,
  ⟨.abs, 0x13, true, true, 0, 0, 0⟩,
  ⟨.mul, 0x14, true, true, 63, 0, 0x3⟩,
  ⟨.madd, 0x15, true, true, 63, 63, 0x3⟩,
  ⟨.msub, 0x16, true, true, 63, 63, 0x3⟩,
  ⟨.ash, 0x17, true, true, 0, 0, 0x3F03⟩,
  ⟨.min, 0x18, true, true, 63, 0, 0⟩,
  ⟨.max, 0x19, true, true, 63, 0, 0⟩,
  ⟨.clmp, 0x1A, true, true, 63, 63, 0⟩,
  ⟨.slew, 0x1B, true, true, 63, 63, 0⟩,
  ⟨.and, 0x1C, true, true, 63, 0, 0⟩,
  ⟨.or, 0x1D, true, true, 63, 0, 0⟩,
  ⟨.xor, 0x1E, true, true, 63, 0, 0⟩,
  ⟨.cmp, 0x1F, false, true, 63, 0, 0⟩]

/-- The instruction table of R211: accumulators, transforms, memory, ports and branches. -/
def laneTableB : List LaneRow := [
  ⟨.aclr, 0x20, false, false, 0, 0, 0x8⟩,
  ⟨.ald, 0x21, false, true, 0, 0, 0x8⟩,
  ⟨.amac, 0x22, false, true, 63, 0, 0x8⟩,
  ⟨.amsu, 0x23, false, true, 63, 0, 0x8⟩,
  ⟨.ard, 0x24, true, false, 0, 0, 0x3F0B⟩,
  ⟨.clarke, 0x30, true, true, 0, 0, 0⟩,
  ⟨.iclarke, 0x31, true, true, 0, 0, 0⟩,
  ⟨.park, 0x32, true, true, 63, 0, 0⟩,
  ⟨.ipark, 0x33, true, true, 63, 0, 0⟩,
  ⟨.sincos, 0x34, true, true, 0, 0, 0⟩,
  ⟨.ld, 0x40, true, true, 0, 0x7, 0x1FFFF⟩,
  ⟨.st, 0x41, true, true, 0, 0x7, 0x1FFFF⟩,
  ⟨.duty, 0x50, false, true, 0, 0, 0xFFF⟩,
  ⟨.commit, 0x51, false, false, 0, 0, 0xFF⟩,
  ⟨.evt, 0x58, false, false, 0, 0, 0x1⟩,
  ⟨.send, 0x59, false, true, 0, 0, 0x3FF⟩,
  ⟨.dbl, 0x5A, false, false, 0, 0, 0x1FF⟩,
  ⟨.br, 0x60, false, false, 0, 0xF, 0x1FF⟩,
  ⟨.call, 0x61, false, false, 0, 0, 0x1FF⟩,
  ⟨.ret, 0x62, false, false, 0, 0, 0⟩]

/-- The instruction table of R211. -/
def laneTable : List LaneRow := laneTableA ++ laneTableB

/-- The fields of an instruction word (R209). -/
def laneFields (w : Nat) : LaneWord :=
  ⟨bits w 56 8, bits w 50 6, bits w 44 6, bits w 38 6, bits w 32 6, bits w 0 32⟩

/-- Fields back in a word (R209). -/
def laneJoin (f : LaneWord) : Nat :=
  f.op * 2 ^ 56 + f.rd * 2 ^ 50 + f.rs1 * 2 ^ 44 + f.rs2 * 2 ^ 38 + f.rs3 * 2 ^ 32 + f.imm

/-- Every bit of a field the row does not list is 0 (R210). -/
def laneFieldsOk (r : LaneRow) (f : LaneWord) : Bool :=
  (r.rd || f.rd == 0) && (r.rs1 || f.rs1 == 0) && (f.rs2 &&& r.rs2 == f.rs2) && (f.rs3 &&& r.rs3 == f.rs3) &&
    (f.imm &&& r.imm == f.imm)

/-- The further conditions of R210 to R212 and R227: modes, special values, conditions, channels and register ranges. -/
def laneRangeOk (mn : LaneMn) (f : LaneWord) : Bool :=
  match mn with
  | .ldi => f.rs2 ≤ 2
  | .movs => f.imm ≤ 5
  | .clarke => f.rs1 + 2 ≤ 63 && f.rd + 1 ≤ 63
  | .iclarke => f.rs1 + 1 ≤ 63 && f.rd + 2 ≤ 63
  | .park | .ipark => f.rs1 + 1 ≤ 63 && f.rs2 + 1 ≤ 63 && f.rd + 1 ≤ 63
  | .sincos => f.rd + 1 ≤ 63
  | .ld | .st => f.rd + f.rs3 ≤ 63
  | .duty => f.imm % 32 < 24
  | .br => f.rs3 ≤ 10
  | .nop | .end_ | .mov | .ang | .add | .sub | .neg | .abs | .mul | .madd | .msub | .ash | .min | .max | .clmp
  | .slew | .and | .or | .xor | .cmp | .aclr | .ald | .amac | .amsu | .ard | .commit | .evt | .send | .dbl
  | .call | .ret => true

/-- The instruction a word of program memory holds; none when it is illegal (R210). -/
def laneDecode (w : Nat) : Option (LaneMn × LaneWord) :=
  let f := laneFields w
  match laneTable.find? (fun r => r.op == f.op) with
  | none => none
  | some r => if laneFieldsOk r f && laneRangeOk r.mn f then some (r.mn, f) else none

/-- The row of an instruction. -/
def laneRow (mn : LaneMn) : LaneRow :=
  (laneTable.find? (fun r => r.mn = mn)).getD ⟨mn, 0, false, false, 0, 0, 0⟩

/-- An instruction with its fields is well formed: each field has its length, and the word is legal (R210). -/
def laneLegal (mn : LaneMn) (f : LaneWord) : Bool :=
  f.op == (laneRow mn).op && f.rd < 64 && f.rs1 < 64 && f.rs2 < 64 && f.rs3 < 64 && f.imm < 2 ^ 32 &&
    laneFieldsOk (laneRow mn) f && laneRangeOk mn f

/-- The word of an instruction (R209). -/
def laneEncode (mn : LaneMn) (f : LaneWord) : Nat := laneJoin { f with op := (laneRow mn).op }

/-- The local registers an instruction reads (R211). -/
def laneSources (mn : LaneMn) (f : LaneWord) : List Nat :=
  match mn with
  | .mov | .neg | .abs | .ash | .ald | .sincos | .duty => [f.rs1]
  | .ldi => if f.rs2 = 0 then [] else [f.rd]
  | .add | .sub | .mul | .min | .max | .and | .or | .xor | .cmp | .amac | .amsu => [f.rs1, f.rs2]
  | .madd | .msub | .clmp | .slew => [f.rs1, f.rs2, f.rs3]
  | .clarke => [f.rs1, f.rs1 + 1, f.rs1 + 2]
  | .iclarke => [f.rs1, f.rs1 + 1]
  | .park | .ipark => [f.rs1, f.rs1 + 1, f.rs2, f.rs2 + 1]
  | .ld => if bit f.imm 16 then [f.rs1] else []
  | .st => (if bit f.imm 16 then [f.rs1] else []) ++ (List.range (f.rs3 + 1)).map (f.rd + ·)
  | .send => if bit f.imm 9 then [f.rs1] else []
  | .nop | .end_ | .movs | .ang | .aclr | .ard | .commit | .evt | .dbl | .br | .call | .ret => []

/-- The local registers an instruction writes (R211). -/
def laneDests (mn : LaneMn) (f : LaneWord) : List Nat :=
  match mn with
  | .mov | .ldi | .movs | .ang | .add | .sub | .neg | .abs | .mul | .madd | .msub | .ash | .min | .max | .clmp
  | .slew | .and | .or | .xor | .ard => [f.rd]
  | .clarke | .park | .ipark | .sincos => [f.rd, f.rd + 1]
  | .iclarke => [f.rd, f.rd + 1, f.rd + 2]
  | .ld => (List.range (f.rs3 + 1)).map (f.rd + ·)
  | .nop | .end_ | .cmp | .aclr | .ald | .amac | .amsu | .st | .duty | .commit | .evt | .send | .dbl | .br | .call
  | .ret => []

end Sys2Proof
end

