-- ==== Sys2Proof/Config.lean ====
section
/-! DEFINITION. What the spec leaves open: constants with no body, of which nothing can be proved but what holds of every
value. Each is named in the assumption log. -/

namespace Sys2Proof

/-- The `n`-th free value drawn (log entry 5): contents and choices the spec leaves open. -/
opaque Config.freeValue : Nat → Nat

/-- The `n`-th free contents of a memory (log entry 5): the byte at an address. -/
opaque Config.freeByte : Nat → Nat → Nat

/-- The contents of the boot ROM, which the spec does not list, by address (log entry 33). -/
opaque Config.romByte : Nat → Nat

/-- The ROM's version as HELLO gives it, and as the four digits of MFR_REVISION (R469, R482; log entry 33). -/
opaque Config.romVersion : Nat
opaque Config.romDigit : Nat → Nat

/-- Whether an exception of a cause writes its value to mtval, or 0: the privileged standard allows both (log entry 34). -/
opaque Config.tvalGiven : Nat → Bool

/-- The identification CSRs of a core (misa, mvendorid, marchid, mimpid, mhartid, mconfigptr), by CSR number and core
(log entry 34). -/
opaque Config.idCsr : Nat → Nat → Nat

/-- The factory trims and keys of MRAM's device record, by address (R421; log entry 33). -/
opaque Config.deviceByte : Nat → Nat

/-- The factory CALREF value, in sixteenths of a single-ended LSB (R77; log entry 22). -/
opaque Config.calref16 : Nat

/-- The error of a metering result, in 2⁻⁴⁰ of its unit (R87; log entry 23): the publish, the modulator or feed phase, the quantity.
The bounds of R87 limit it where it is used. -/
opaque Config.meterError : Nat → Nat → Nat → Int

/-- The step in a comparator's threshold error from one code to the next, in 1/4096 microvolt (R100; log entry 25): the comparator,
which comparison, its MODE and INSRC, the code. The bounds of R100 limit it where it is used. -/
opaque Config.cmpError : Nat → Bool → Nat → Nat → Nat → Int

/-- The hysteresis of a comparator (R98; log entry 25), in 1/4096 microvolt, limited to ±30 % where it is used. -/
opaque Config.cmpHyst : Nat → Int → Int

/-- The quotient of a division by 0 in a formula of the spec that states none (an inductance, a capacitance or an amplitude of
0 in R280, R281 and R284; log entry 27), of the dividend. -/
opaque Config.byZero : Rat → Rat

/-- The width of the PLL's notch at 2F, as the square of its poles' radius (R259, R260; log entry 27); limited to 0 to 1 where it is
used. -/
opaque Config.notchPole : Rat

/-- The factory curve of a die sensor: its temperature in 1/16 °C, and 1 or 2 for a code above or below the factory window
(R428, R438; log entry 28). -/
opaque Config.dieTemp : Nat → Nat → Int
opaque Config.dieWindow : Nat → Nat → Nat

/-- The part is a CX960-E (R436; log entry 31). -/
opaque Config.gradeE : Bool

end Sys2Proof
end

