-- ==== Sys2Proof/Regs.lean ====
section
/-! DEFINITION. The names of the spec's registers and of their fields: `RegName` has one constructor per register
table of spec/ (an indexed register is one name), `Fld` one per field of such a table, named REGISTER_FIELD. The tables
themselves (addresses, widths, bit places, access codes, reset values) are in Sys2Proof/Machine/RegTable.lean. -/

namespace Sys2Proof

/-- The registers of the spec's register tables, in the order of the chapters. -/
inductive RegName where
  -- spec/01_fabric_clocks.md: fabric and Saddle
  | SDL_BANK_CLASS | SDL_BANK_AGE | SDL_BANK_WAITMAX | SDL_ECCCOR | SDL_ECCUNC | SDL_ECCADDR | FAB_ERRSTAT
  | FAB_ERRADDR | FAB_ERRCNT | FAB_CLKSTAT | FAB_DMA_SRC | FAB_DMA_DST | FAB_DMA_CTRL
  -- spec/02_sensing_converters.md: converters
  | ADC_CTRL | ADC_BANK | ADC_FRAME | ADC_SKIPCNT | ADC_QFULLCNT | ADC_SLOT_W0 | ADC_SLOT_W1 | ADC_SLOTACT_W0
  | ADC_SLOTACT_W1 | ADC_SCALE_GAIN | ADC_SCALE_OFFSET | ADC_RES | ADC_RESINFO | ADC_CAL | SDM_CTRL | SDM_CFG
  | SDM_STAT | SDM_FAST | SDM_SCALE | SDM_RES_RMS | SDM_RES_THD | SDM_RES_MAG | SDM_RES_PHASE | SDM_RES_P | SDM_RES_Q
  | SDM_RES_S | SDM_RES_PF | SDM_RES_EIMP | SDM_RES_EEXP
  -- spec/03_comparators_reins.md: comparators and Reins
  | CMP_CFG | CMP_THR | CMP_STAT | CMP_ATHR | CMP_LATCHLO | CMP_LATCHHI | CMP_CLRREJLO | CMP_CLRREJHI | CMP_MIR
  | REIN_CMPLO | REIN_CMPHI | REIN_PIN | REIN_PINCFG | REIN_STAT | REIN_STICKY | REIN_SWTRIP | REIN_PINSTAT
  | REIN_DBELL
  -- spec/04_pwm_generator.md: PWM generator
  | PWM_CH_CFG | PWM_CH_ACT | PWM_CH_PRD | PWM_CH_PHS | PWM_CH_CMPA | PWM_CH_CMPB | PWM_CH_CMPC | PWM_CH_CMPD
  | PWM_CH_DTR | PWM_CH_DTF | PWM_CH_REFR | PWM_CH_TRIPMASK | PWM_CH_FORCE | PWM_CH_EVCFG | PWM_CH_APRD | PWM_CH_APHS
  | PWM_CH_ACMPA | PWM_CH_ACMPB | PWM_CH_ACMPC | PWM_CH_ACMPD | PWM_CH_ADTR | PWM_CH_ADTF | PWM_CH_CNT | PWM_CH_STAT
  | PWM_TEAM_CFG | PWM_TEAMLOAD | PWM_TEAMRUN | PWM_DRIVE
  -- spec/05_spire_edges.md: Spire
  | SPR_CTRL | SPR_STAT | SPR_LOCKLO | SPR_LOCKHI | SPR_FAULTLO | SPR_FAULTHI | SPR_NARROWLO | SPR_NARROWHI
  | SPR_STARVEDLO | SPR_STARVEDHI | SPR_LINE | SPR_DITH
  -- spec/06_control_lanes.md: lanes
  | LANE_CTRL | LANE_CFG | LANE_STAT | LANE_PC | LANE_QSTAT | LANE_DISCCNT | LANE_DROPCNT | LANE_ECCCNT
  | LANE_DUTYMASK | LANE_TEAMMASK | LANE_TASKTAG | LANE_CYC | LANE_VEC | LANE_POSTOP | LANE_POST | LANE_ACTINFO
  | LANE_LREG | LANE_PMEM
  -- spec/08_line_angle_engine.md: Line Angle Engine
  | LAE_CTRL | LAE_DRIVE | LAE_XCFG | LAE_XCTRL | LAE_XSTAT | LAE_XCNT | LAE_REM | LAE_REMV | LAE_NET | LAE_ZXDLY
  | LAE_FEED_CFG | LAE_FEED_CWIN | LAE_FEED_KP | LAE_FEED_KI | LAE_FEED_ANGLE | LAE_FEED_FREQ | LAE_FEED_AMP
  | LAE_FEED_AMPP | LAE_FEED_VMIN | LAE_FEED_STAT | LAE_FEED_BAD | LAE_FEED_EVANG | LAE_FEED_XF | LAE_FEED_PRECFG
  | LAE_FEED_PRECAP | LAE_FEED_PREIND | LAE_FEED_PRELIM | LAE_FEED_PREVC | LAE_FEED_PRESTAT | LAE_PAIR_CFG
  | LAE_PAIR_ANG | LAE_PAIR_PULSE | LAE_PAIR_CUR | LAE_PAIR_SLEW | LAE_PAIR_STAT | LAE_PAIR_CNT
  -- spec/09_timers_harness.md: timers and Harness
  | TMR_CFG | TMR_CNT | TMR_RELOAD | TMR_CMP | TMR_ACMP | TMR_ACT | TMR_PIN | TMR_EVCFG | TMR_STAT | TMR_GO
  | TMR_HALT | TMR_LTC_LO | TMR_LTC_HI | TMR_WIDESTAT | HRN_CH_MASK | HRN_CH_CFG | HRN_ROUTE | HRN_ROUTENX
  | HRN_RTCTRL | HRN_SWEV | HRN_CHSEENLO | HRN_CHSEENHI | HRN_COINCIDE | HRN_LOOPDROP
  -- spec/10_cores_belfry.md: cores, Belfry, locks
  | BFY_DOORBELL | BFY_COMPLETE | BFY_SPURCNT | BFY_SPURLAST | BFY_DBERR | BFY_MERGECNT | BFY_CORE_STAT | BFY_ROT
  | BFY_PEND | BFY_PENDSET | BFY_PENDCLR | BFY_MASK | BFY_MASKSET | BFY_MASKCLR | BFY_ACTIVE | BFY_SRC_CFG
  | BFY_SRC_VEC | LCK_ACQ | LCK_REL | LCK_STAT | LCK_BREAK | LCK_RELERR | LCK_BROKENCNT | LCK_HELDLO | LCK_HELDHI
  | FAB_CORE_CTRL | FAB_CORECFG | FAB_LSSTAT
  -- spec/11_twin_pairing.md: twin pairing
  | TTH_CTRL | TTH_CFG | TTH_STAT | TTH_OWNCFG | TTH_KEEP | TTH_SNSCFG | TTH_LINKSTAT | TTH_LAT | TTH_ERRCNT
  | TTH_FRMCNT | TTH_DIVCNT | TTH_DISC | TTH_PARTNER | TTH_STREAM_W0 | TTH_STREAM_W1 | TTH_BULK_W0 | TTH_BULK_W1
  -- spec/12_power_startup.md: power and start-up
  | PMG_BUDGET | PMG_HOLD | PMG_DOMSTAT | PMG_RSTCAUSE | PMG_BOOTSTAT | PMG_WDT | PMG_WDTKICK | FAB_MRAMCTL
  | FAB_MRAMSTAT
  -- spec/13_cupola_thermal.md: Cupola
  | CUP_CTRL | CUP_CFG | CUP_STAT | CUP_CLASS_THRA | CUP_CLASS_THRB | CUP_CLASS_HYST | CUP_SNS_CFG | CUP_SNS_P0
  | CUP_SNS_P1 | CUP_SNS_P2 | CUP_SNS_TEMP | CUP_LIM_TGT | CUP_LIM_NOM | CUP_LIM_FLOOR | CUP_LIM_STEP | CUP_REC
  | CUP_RECSEQ | CUP_CNT
  -- spec/14_fyzal_host.md: Fyzal
  | FYZ_CFG | FYZ_STAT | FYZ_RESUME | FYZ_DBG | FYZ_PORT_CFG | FYZ_PORT_ERR | FYZ_UART_BAUD | FYZ_CAN_ID
  | FYZ_CAN_NBT | FYZ_CAN_DBT | FYZ_CAN_ECNT | FYZ_PMB_CFG | FYZ_PMB_SRC | FYZ_SP_TGT | FYZ_SP_MIN | FYZ_SP_MAX
  deriving DecidableEq, Repr

/-- The fields of the spec's register tables: REGISTER_FIELD. -/
inductive Fld where
  -- spec/01_fabric_clocks.md: fabric and Saddle
  | SDL_BANK_CLASS_CLS0 | SDL_BANK_CLASS_CLS1 | SDL_BANK_CLASS_CLS2 | SDL_BANK_CLASS_CLS3 | SDL_BANK_CLASS_CLS4
  | SDL_BANK_CLASS_CLS5 | SDL_BANK_CLASS_CLS6 | SDL_BANK_CLASS_CLS7 | SDL_BANK_CLASS_CLS8 | SDL_BANK_CLASS_CLS9
  | SDL_BANK_CLASS_CLS10 | SDL_BANK_CLASS_CLS11 | SDL_BANK_CLASS_CLS12 | SDL_BANK_CLASS_CLS13 | SDL_BANK_CLASS_CLS14
  | SDL_BANK_CLASS_CLS15 | SDL_BANK_AGE_THRESH | SDL_BANK_WAITMAX_CYCLES | SDL_BANK_WAITMAX_WHO | SDL_ECCCOR_COUNT
  | SDL_ECCUNC_COUNT | SDL_ECCADDR_INDEX | SDL_ECCADDR_VALID | FAB_ERRSTAT_UNMAPPED | FAB_ERRSTAT_WIDTH
  | FAB_ERRSTAT_PARTNER | FAB_ERRSTAT_OVERRUN | FAB_ERRSTAT_MASTER | FAB_ERRADDR_ADDR | FAB_ERRCNT_COUNT
  | FAB_CLKSTAT_PLLT_LOCK | FAB_CLKSTAT_PLLP_LOCK | FAB_CLKSTAT_PLLL_LOCK | FAB_CLKSTAT_AON_OSC | FAB_DMA_SRC_ADDR
  | FAB_DMA_DST_ADDR | FAB_DMA_CTRL_CNT | FAB_DMA_CTRL_BURST | FAB_DMA_CTRL_START | FAB_DMA_CTRL_BUSY
  | FAB_DMA_CTRL_DONE | FAB_DMA_CTRL_ERR | FAB_DMA_CTRL_EN
  -- spec/02_sensing_converters.md: converters
  | ADC_CTRL_EN | ADC_BANK_ACTIVE | ADC_BANK_SWAPREQ | ADC_BANK_COPY | ADC_BANK_COPYBUSY | ADC_BANK_ACTWR
  | ADC_FRAME_SRC | ADC_FRAME_EN | ADC_SKIPCNT_COUNT | ADC_SKIPCNT_LAST | ADC_QFULLCNT_COUNT | ADC_SLOT_W0_TRIG
  | ADC_SLOT_W0_DLY | ADC_SLOT_W0_CONV | ADC_SLOT_W0_INPUT | ADC_SLOT_W0_SE | ADC_SLOT_W0_OSR | ADC_SLOT_W0_MODE
  | ADC_SLOT_W0_EN | ADC_SLOT_W0_EXC | ADC_SLOT_W1_OCC | ADC_SLOT_W1_LANE | ADC_SLOT_W1_DELIV | ADC_SLOT_W1_SCALE
  | ADC_SLOT_W1_TRK | ADC_SLOT_W1_TAG | ADC_SCALE_GAIN_GAIN | ADC_SCALE_OFFSET_OFFSET | ADC_RES_VALUE
  | ADC_RESINFO_ENTRY | ADC_RESINFO_BANK | ADC_RESINFO_CODE | ADC_RESINFO_CLIP | ADC_RESINFO_SEQ | ADC_CAL_OFFTRIM
  | ADC_CAL_GAINTRIM | ADC_CAL_AUTOCAL | SDM_CTRL_EN | SDM_CTRL_MET_EN | SDM_CFG_WIN | SDM_CFG_VCONN_A
  | SDM_CFG_VCONN_B | SDM_STAT_OVR | SDM_STAT_SYNCA | SDM_STAT_SYNCB | SDM_STAT_SEQ | SDM_FAST_DATA | SDM_FAST_OVR
  | SDM_SCALE_FS | SDM_RES_RMS_V | SDM_RES_THD_V | SDM_RES_MAG_V | SDM_RES_PHASE_V | SDM_RES_P_V | SDM_RES_Q_V
  | SDM_RES_S_V | SDM_RES_PF_V | SDM_RES_EIMP_V | SDM_RES_EEXP_V
  -- spec/03_comparators_reins.md: comparators and Reins
  | CMP_CFG_EN | CMP_CFG_MODE | CMP_CFG_INSRC | CMP_CFG_FUNC | CMP_CFG_HYST | CMP_CFG_BYP | CMP_CFG_FN | CMP_CFG_FM
  | CMP_CFG_CLRM | CMP_CFG_TEAM | CMP_CFG_THRUPD | CMP_CFG_DBELL | CMP_THR_LTH | CMP_THR_UTH | CMP_STAT_RAW
  | CMP_STAT_FILT | CMP_STAT_SETTLING | CMP_ATHR_LTH | CMP_ATHR_UTH | CMP_LATCHLO_LATCH | CMP_LATCHHI_LATCH
  | CMP_CLRREJLO_CLRREJ | CMP_CLRREJHI_CLRREJ | CMP_MIR_EN | CMP_MIR_SEL | CMP_MIR_TAP | REIN_CMPLO_MASK
  | REIN_CMPHI_MASK | REIN_PIN_MASK | REIN_PINCFG_LEN | REIN_PINCFG_POL | REIN_STAT_ACTIVE | REIN_STICKY_SEEN
  | REIN_SWTRIP_FORCE | REIN_PINSTAT_STATE | REIN_DBELL_EN
  -- spec/04_pwm_generator.md: PWM generator
  | PWM_CH_CFG_EN | PWM_CH_CFG_TEAM | PWM_CH_CFG_MODE | PWM_CH_CFG_PRDIMM | PWM_CH_CFG_DITH | PWM_CH_CFG_POLH
  | PWM_CH_CFG_POLL | PWM_CH_CFG_ESC | PWM_CH_CFG_ESCTEAM | PWM_CH_ACT_WRAP | PWM_CH_ACT_A | PWM_CH_ACT_B
  | PWM_CH_ACT_C | PWM_CH_ACT_D | PWM_CH_PRD_PRD | PWM_CH_PHS_PHS | PWM_CH_CMPA_FINE | PWM_CH_CMPA_COARSE
  | PWM_CH_CMPB_FINE | PWM_CH_CMPB_COARSE | PWM_CH_CMPC_FINE | PWM_CH_CMPC_COARSE | PWM_CH_CMPD_FINE
  | PWM_CH_CMPD_COARSE | PWM_CH_DTR_DT | PWM_CH_DTF_DT | PWM_CH_REFR_REFN | PWM_CH_REFR_REFW | PWM_CH_TRIPMASK_MASK
  | PWM_CH_FORCE_FH | PWM_CH_FORCE_FL | PWM_CH_EVCFG_PSWRAP | PWM_CH_EVCFG_PSPRD | PWM_CH_EVCFG_PSA
  | PWM_CH_EVCFG_PSB | PWM_CH_EVCFG_PSC | PWM_CH_EVCFG_PSD | PWM_CH_EVCFG_EN | PWM_CH_APRD_PRD | PWM_CH_APHS_PHS
  | PWM_CH_ACMPA_FINE | PWM_CH_ACMPA_COARSE | PWM_CH_ACMPB_FINE | PWM_CH_ACMPB_COARSE | PWM_CH_ACMPC_FINE
  | PWM_CH_ACMPC_COARSE | PWM_CH_ACMPD_FINE | PWM_CH_ACMPD_COARSE | PWM_CH_ADTR_DT | PWM_CH_ADTF_DT
  | PWM_CH_CNT_COUNT | PWM_CH_STAT_LATE | PWM_CH_STAT_PRDSHORT | PWM_CH_STAT_COLL | PWM_CH_STAT_TRIPSEEN
  | PWM_CH_STAT_ESCL | PWM_CH_STAT_REFRESH | PWM_CH_STAT_FORCEERR | PWM_CH_STAT_CUT | PWM_CH_STAT_PEND
  | PWM_CH_STAT_RUN | PWM_CH_STAT_OUTH | PWM_CH_STAT_OUTL | PWM_CH_STAT_CUTCNT | PWM_TEAM_CFG_EARLY
  | PWM_TEAMLOAD_LOAD | PWM_TEAMRUN_RUN | PWM_DRIVE_DRV
  -- spec/05_spire_edges.md: Spire
  | SPR_CTRL_CALHOLD | SPR_STAT_ALLLOCK | SPR_STAT_ANYFAULT | SPR_STAT_ANYSTARVED | SPR_LOCKLO_LOCK | SPR_LOCKHI_LOCK
  | SPR_FAULTLO_FAULT | SPR_FAULTHI_FAULT | SPR_NARROWLO_NARROW | SPR_NARROWHI_NARROW | SPR_STARVEDLO_STARVED
  | SPR_STARVEDHI_STARVED | SPR_LINE_S | SPR_LINE_UPDCNT | SPR_DITH_IDX
  -- spec/06_control_lanes.md: lanes
  | LANE_CTRL_EN | LANE_CTRL_APPLY | LANE_CFG_BUDGET | LANE_CFG_FPOL | LANE_STAT_STATE | LANE_STAT_FAULT
  | LANE_STAT_CAUSE | LANE_STAT_SATSEEN | LANE_STAT_DCLIP | LANE_STAT_STGOVF | LANE_STAT_PMWERR | LANE_STAT_Z
  | LANE_STAT_N | LANE_STAT_SAT | LANE_STAT_LIM | LANE_PC_PC | LANE_PC_FPC | LANE_QSTAT_COUNT | LANE_QSTAT_HWM
  | LANE_DISCCNT_COUNT | LANE_DROPCNT_QFULL | LANE_DROPCNT_LOOP | LANE_ECCCNT_PMCOR | LANE_DUTYMASK_CH
  | LANE_TEAMMASK_TEAM | LANE_TASKTAG_TAG | LANE_CYC_LAST | LANE_CYC_MAX | LANE_VEC_ENTRY | LANE_POSTOP_OPERAND
  | LANE_POST_TAG | LANE_POST_OPV | LANE_ACTINFO_TAG | LANE_ACTINFO_GEN | LANE_ACTINFO_OPV | LANE_ACTINFO_SRC
  | LANE_LREG_VALUE | LANE_PMEM_INSTR
  -- spec/08_line_angle_engine.md: Line Angle Engine
  | LAE_CTRL_ENA | LAE_CTRL_ENB | LAE_DRIVE_DRV | LAE_XCFG_XSAFE | LAE_XCFG_MARG | LAE_XCFG_QUAL | LAE_XCFG_XAUTO
  | LAE_XCFG_PREF | LAE_XCFG_AUTORET | LAE_XCFG_RETDLY | LAE_XCTRL_REQ | LAE_XSTAT_BUSY | LAE_XSTAT_ACTIVE
  | LAE_XSTAT_NONE | LAE_XSTAT_XLATE | LAE_XSTAT_XFAIL | LAE_XSTAT_REFUSED | LAE_XSTAT_DUR | LAE_XCNT_COUNT
  | LAE_REM_PSI | LAE_REMV_VALID | LAE_NET_DLY | LAE_NET_POLE | LAE_ZXDLY_DLY | LAE_FEED_CFG_ZXUSE
  | LAE_FEED_CFG_ZXHYST | LAE_FEED_CFG_SAGTH | LAE_FEED_CFG_SAGN | LAE_FEED_CWIN_CWIN | LAE_FEED_CWIN_ZXAGREE
  | LAE_FEED_KP_KP | LAE_FEED_KI_KI | LAE_FEED_ANGLE_FRAC | LAE_FEED_ANGLE_TICKS | LAE_FEED_FREQ_FREQ
  | LAE_FEED_AMP_AMP | LAE_FEED_AMPP_AMPP | LAE_FEED_VMIN_VMIN | LAE_FEED_STAT_LOCK | LAE_FEED_STAT_SEQREV
  | LAE_FEED_STAT_OOB | LAE_FEED_STAT_SAG | LAE_FEED_STAT_COAST | LAE_FEED_STAT_HEALTHY | LAE_FEED_STAT_LOSTLOCK
  | LAE_FEED_STAT_SEQERR | LAE_FEED_BAD_COUNT | LAE_FEED_EVANG_ANGLE | LAE_FEED_EVANG_EN | LAE_FEED_XF_XDLY
  | LAE_FEED_XF_FIRST | LAE_FEED_PRECFG_ASTART | LAE_FEED_PRECFG_VCSRC | LAE_FEED_PRECAP_PRECAP
  | LAE_FEED_PREIND_PREIND | LAE_FEED_PRELIM_PRELIM | LAE_FEED_PREVC_PREVC | LAE_FEED_PRESTAT_DONE
  | LAE_FEED_PRESTAT_RAMP | LAE_FEED_PRESTAT_ALPHA | LAE_PAIR_CFG_EN | LAE_PAIR_CFG_FEED | LAE_PAIR_CFG_PHASE
  | LAE_PAIR_CFG_TRIAC | LAE_PAIR_CFG_MODE | LAE_PAIR_CFG_STRAT | LAE_PAIR_CFG_POLF | LAE_PAIR_CFG_POLR
  | LAE_PAIR_CFG_RISE | LAE_PAIR_ANG_ALPHA | LAE_PAIR_ANG_END | LAE_PAIR_PULSE_TON | LAE_PAIR_PULSE_TPER
  | LAE_PAIR_PULSE_LATN | LAE_PAIR_CUR_IZ | LAE_PAIR_CUR_ILATCH | LAE_PAIR_SLEW_SLEW | LAE_PAIR_SLEW_CZMARG
  | LAE_PAIR_STAT_AACT | LAE_PAIR_STAT_CONDF | LAE_PAIR_STAT_CONDR | LAE_PAIR_STAT_MISFIRE | LAE_PAIR_STAT_SYMERR
  | LAE_PAIR_STAT_CZTMO | LAE_PAIR_STAT_FIRING | LAE_PAIR_CNT_MISCNT | LAE_PAIR_CNT_SYMCNT
  -- spec/09_timers_harness.md: timers and Harness
  | TMR_CFG_EN | TMR_CFG_PSC | TMR_CFG_CHAIN | TMR_CNT_COUNT | TMR_RELOAD_RELOAD | TMR_CMP_CMP | TMR_ACMP_CMP
  | TMR_ACT_A0 | TMR_ACT_A1 | TMR_ACT_A2 | TMR_ACT_A3 | TMR_PIN_LEVEL | TMR_PIN_SAFE | TMR_PIN_OE | TMR_EVCFG_ZEN
  | TMR_EVCFG_CEN | TMR_STAT_ZSEEN | TMR_STAT_CSEEN | TMR_STAT_RUN | TMR_GO_GO | TMR_HALT_HALT | TMR_LTC_LO_LOW
  | TMR_LTC_HI_HIGH | TMR_WIDESTAT_STALEHI | TMR_WIDESTAT_MASTER | HRN_CH_MASK_MASK | HRN_CH_CFG_DBELL | HRN_ROUTE_CH
  | HRN_ROUTE_EN | HRN_ROUTENX_CH | HRN_ROUTENX_EN | HRN_ROUTENX_PEND | HRN_ROUTENX_CANCEL | HRN_RTCTRL_APPLY
  | HRN_RTCTRL_BEN | HRN_RTCTRL_BCH | HRN_RTCTRL_CANCEL | HRN_SWEV_EV | HRN_CHSEENLO_SEEN | HRN_CHSEENHI_SEEN
  | HRN_COINCIDE_COUNT | HRN_COINCIDE_LAST | HRN_LOOPDROP_COUNT | HRN_LOOPDROP_LANE | HRN_LOOPDROP_EV
  -- spec/10_cores_belfry.md: cores, Belfry, locks
  | BFY_DOORBELL_SRC | BFY_COMPLETE_SRC | BFY_SPURCNT_COUNT | BFY_SPURLAST_SRC | BFY_SPURLAST_MASTER | BFY_DBERR_FORM
  | BFY_DBERR_RSVD | BFY_DBERR_LOCAL | BFY_DBERR_PARTNER | BFY_DBERR_LAST | BFY_MERGECNT_COUNT | BFY_CORE_STAT_RPRIO
  | BFY_CORE_STAT_LVL | BFY_CORE_STAT_PHASE | BFY_CORE_STAT_SRC | BFY_ROT_PTR | BFY_PEND_W | BFY_PENDSET_W
  | BFY_PENDCLR_W | BFY_MASK_W | BFY_MASKSET_W | BFY_MASKCLR_W | BFY_ACTIVE_W | BFY_SRC_CFG_PRIO | BFY_SRC_CFG_TGT
  | BFY_SRC_CFG_CMASK | BFY_SRC_VEC_ADDR | LCK_ACQ_GOT | LCK_ACQ_BROKEN | LCK_ACQ_ALREADY | LCK_ACQ_HELD
  | LCK_ACQ_OWNLVL | LCK_ACQ_OWNMST | LCK_STAT_HELD | LCK_STAT_BROKEN | LCK_STAT_OWNLVL | LCK_STAT_OWNMST
  | LCK_BREAK_LOCK | LCK_RELERR_COUNT | LCK_BROKENCNT_COUNT | LCK_HELDLO_HELD | LCK_HELDHI_HELD | FAB_CORE_CTRL_RST
  | FAB_CORE_CTRL_BOOT | FAB_CORECFG_LS01 | FAB_CORECFG_LS23 | FAB_LSSTAT_ERR01 | FAB_LSSTAT_ERR23 | FAB_LSSTAT_KIND
  -- spec/11_twin_pairing.md: twin pairing
  | TTH_CTRL_LANEEN0 | TTH_CTRL_LANEEN1 | TTH_CTRL_DETACH | TTH_CTRL_ATTACH | TTH_CTRL_HANDOVER | TTH_CTRL_RETRAIN
  | TTH_CFG_PAIRED | TTH_CFG_PREFSEAT | TTH_CFG_FRAMECH | TTH_CFG_WAITB | TTH_CFG_DIVN | TTH_CFG_DIVTAKE
  | TTH_STAT_ROLE | TTH_STAT_SEAT | TTH_STAT_OWN | TTH_STAT_OWNED | TTH_STAT_OWNIN | TTH_STAT_TETHER
  | TTH_STAT_BRIDLE | TTH_STAT_READY | TTH_STAT_DIVERGED | TTH_STAT_LOCKED | TTH_STAT_TOOK | TTH_STAT_SWITCHING
  | TTH_STAT_SPLIT | TTH_STAT_OWNCONF | TTH_STAT_SEATERR | TTH_STAT_KEEPEXP | TTH_STAT_LINKLOST | TTH_OWNCFG_LEAD
  | TTH_OWNCFG_QUAL | TTH_KEEP_KEEP | TTH_SNSCFG_MASK | TTH_SNSCFG_TEAM | TTH_LINKSTAT_LOCK0 | TTH_LINKSTAT_LOCK1
  | TTH_LINKSTAT_DESKEW | TTH_LINKSTAT_TRAINED | TTH_LINKSTAT_SKEW | TTH_LINKSTAT_FAILS | TTH_LAT_ONEWAY
  | TTH_ERRCNT_CODEERR | TTH_ERRCNT_CRCERR | TTH_FRMCNT_SKIP | TTH_FRMCNT_GAP | TTH_DIVCNT_DIV | TTH_DIVCNT_LAST
  | TTH_DIVCNT_SKIP | TTH_DISC_TRIM | TTH_DISC_ERR | TTH_PARTNER_WORD | TTH_PARTNER_VALID | TTH_STREAM_W0_KIND
  | TTH_STREAM_W0_MODE | TTH_STREAM_W0_LANE | TTH_STREAM_W0_FIRST | TTH_STREAM_W0_INDEX | TTH_STREAM_W1_COUNT
  | TTH_STREAM_W1_TOLEXP | TTH_STREAM_W1_TOL | TTH_BULK_W0_INDEX | TTH_BULK_W0_EN | TTH_BULK_W1_COUNT
  -- spec/12_power_startup.md: power and start-up
  | PMG_BUDGET_US | PMG_HOLD_HOLD | PMG_DOMSTAT_STATE | PMG_DOMSTAT_TARGET | PMG_DOMSTAT_REPORT | PMG_DOMSTAT_DIRTY
  | PMG_DOMSTAT_OFFEXIT | PMG_RSTCAUSE_POR | PMG_RSTCAUSE_PIN | PMG_RSTCAUSE_JTAG | PMG_RSTCAUSE_HOST
  | PMG_RSTCAUSE_WDTCNT | PMG_BOOTSTAT_SLOT | PMG_BOOTSTAT_APPLIED | PMG_BOOTSTAT_FALLBACK | PMG_BOOTSTAT_CODEFAIL
  | PMG_BOOTSTAT_NOIMG | PMG_BOOTSTAT_FAIL0 | PMG_BOOTSTAT_FAIL1 | PMG_BOOTSTAT_LIVEUS | PMG_WDT_PERIOD
  | PMG_WDTKICK_KEY | FAB_MRAMCTL_SLOTWE0 | FAB_MRAMCTL_SLOTWE1 | FAB_MRAMSTAT_BUSY | FAB_MRAMSTAT_FILL
  | FAB_MRAMSTAT_PROT | FAB_MRAMSTAT_PGMERR
  -- spec/13_cupola_thermal.md: Cupola
  | CUP_CTRL_EXIT | CUP_CFG_GRACE | CUP_CFG_PLAUS | CUP_CFG_CLKDIV | CUP_STAT_LEVEL | CUP_STAT_SHUT | CUP_STAT_ENFCLK
  | CUP_STAT_ENFCUR | CUP_STAT_GRACECLK | CUP_STAT_GRACECUR | CUP_STAT_DEFER | CUP_STAT_THROT | CUP_CLASS_THRA_WARN
  | CUP_CLASS_THRA_THROT | CUP_CLASS_THRB_SHUT | CUP_CLASS_HYST_HW | CUP_CLASS_HYST_HT | CUP_CLASS_HYST_HS
  | CUP_SNS_CFG_EN | CUP_SNS_CFG_GRP | CUP_SNS_CFG_CONV | CUP_SNS_CFG_INPUT | CUP_SNS_P0_P | CUP_SNS_P1_P
  | CUP_SNS_P2_P | CUP_SNS_TEMP_TEMP | CUP_SNS_TEMP_LEVEL | CUP_SNS_TEMP_BROKEN | CUP_SNS_TEMP_REASON
  | CUP_SNS_TEMP_NEAR | CUP_LIM_TGT_EN | CUP_LIM_TGT_LANE | CUP_LIM_TGT_REG | CUP_LIM_NOM_V | CUP_LIM_FLOOR_V
  | CUP_LIM_STEP_V | CUP_REC_NEXT | CUP_RECSEQ_SEQ | CUP_CNT_THROTCNT | CUP_CNT_ENFCNT
  -- spec/14_fyzal_host.md: Fyzal
  | FYZ_CFG_SAFEPORTS | FYZ_CFG_IDLE | FYZ_CFG_POKEEN | FYZ_STAT_ESTOPPWM | FYZ_STAT_ESTOPLAE | FYZ_STAT_MGMTUP
  | FYZ_STAT_SESS | FYZ_STAT_DBG | FYZ_RESUME_PWM | FYZ_RESUME_LAE | FYZ_DBG_EN | FYZ_PORT_CFG_EN
  | FYZ_PORT_CFG_NOTMASK | FYZ_PORT_ERR_HDRERR | FYZ_PORT_ERR_CRCERR | FYZ_PORT_ERR_OVERRUN | FYZ_PORT_ERR_FRAMING
  | FYZ_UART_BAUD_DIV | FYZ_UART_BAUD_FRAC | FYZ_CAN_ID_RXID | FYZ_CAN_ID_TXID | FYZ_CAN_NBT_BRP | FYZ_CAN_NBT_TSEG1
  | FYZ_CAN_NBT_TSEG2 | FYZ_CAN_NBT_SJW | FYZ_CAN_DBT_BRP | FYZ_CAN_DBT_TSEG1 | FYZ_CAN_DBT_TSEG2 | FYZ_CAN_DBT_SJW
  | FYZ_CAN_DBT_TDC | FYZ_CAN_ECNT_TEC | FYZ_CAN_ECNT_REC | FYZ_CAN_ECNT_STATE | FYZ_CAN_ECNT_BUSOFF
  | FYZ_PMB_CFG_ADDR | FYZ_PMB_CFG_PECREQ | FYZ_PMB_CFG_EN | FYZ_PMB_SRC_INDEX | FYZ_PMB_SRC_EN | FYZ_SP_TGT_EN
  | FYZ_SP_TGT_LANE | FYZ_SP_TGT_REG | FYZ_SP_MIN_V | FYZ_SP_MAX_V
  deriving DecidableEq, Repr

/-- The access codes of R14. -/
inductive Acc where
  | rw | ro | wo | w1s | w1c | rc
  deriving DecidableEq, Repr

/-- One field of a register: its name, its lowest bit, its length in bits and its access code (R14). -/
structure FieldDesc where
  fld : Fld
  lo : Nat
  len : Nat
  acc : Acc
  deriving DecidableEq, Repr

/-- One register table of the spec: the name, the address of its first instance, the number of instances and their
stride in each of its two indices (count 0: no such index), its width in bits (48: a 48-bit slot of R31) and its fields. -/
structure RegDesc where
  name : RegName
  base : Nat
  n1 : Nat
  s1 : Nat
  n2 : Nat
  s2 : Nat
  width : Nat
  fields : List FieldDesc
  deriving DecidableEq, Repr

/-- The place of one field value in the register store: the field and the two indices of its register. -/
structure FKey where
  f : Fld
  i : Nat
  j : Nat
  deriving DecidableEq, Repr

/-- The order of the register store: by field, then by the two indices. -/
def FKey.lt (a b : FKey) : Bool :=
  a.f.ctorIdx < b.f.ctorIdx ||
    (a.f.ctorIdx == b.f.ctorIdx && (a.i < b.i || (a.i == b.i && a.j < b.j)))

end Sys2Proof
end

