-- ==== Sys2Proof/Machine/RegTable.lean ====
section
/-! DEFINITION. The register tables of spec/ as data: for every register its address, its index strides, its width and its
fields with bit place, length and access code; for every field its length and its reset value (R16). -/

namespace Sys2Proof

/-- One row of a register table. -/
def fd (f : Fld) (lo len : Nat) (acc : Acc) : FieldDesc := ⟨f, lo, len, acc⟩

/-- The register tables of spec/01_fabric_clocks.md. -/
def regsFabric : List RegDesc := [
  -- SDL_BANK[b]_CLASS
  ⟨.SDL_BANK_CLASS, 0x20080000, 4, 0x10, 0, 0x0, 32, [fd .SDL_BANK_CLASS_CLS0 0 2 .rw,
      fd .SDL_BANK_CLASS_CLS1 2 2 .rw,
      fd .SDL_BANK_CLASS_CLS2 4 2 .rw,
      fd .SDL_BANK_CLASS_CLS3 6 2 .rw,
      fd .SDL_BANK_CLASS_CLS4 8 2 .rw,
      fd .SDL_BANK_CLASS_CLS5 10 2 .rw,
      fd .SDL_BANK_CLASS_CLS6 12 2 .rw,
      fd .SDL_BANK_CLASS_CLS7 14 2 .rw,
      fd .SDL_BANK_CLASS_CLS8 16 2 .rw,
      fd .SDL_BANK_CLASS_CLS9 18 2 .rw,
      fd .SDL_BANK_CLASS_CLS10 20 2 .rw,
      fd .SDL_BANK_CLASS_CLS11 22 2 .rw,
      fd .SDL_BANK_CLASS_CLS12 24 2 .rw,
      fd .SDL_BANK_CLASS_CLS13 26 2 .rw,
      fd .SDL_BANK_CLASS_CLS14 28 2 .rw,
      fd .SDL_BANK_CLASS_CLS15 30 2 .rw]⟩,
  -- SDL_BANK[b]_AGE
  ⟨.SDL_BANK_AGE, 0x20080004, 4, 0x10, 0, 0x0, 32, [fd .SDL_BANK_AGE_THRESH 0 4 .rw]⟩,
  -- SDL_BANK[b]_WAITMAX
  ⟨.SDL_BANK_WAITMAX, 0x20080008, 4, 0x10, 0, 0x0, 32, [fd .SDL_BANK_WAITMAX_CYCLES 0 8 .rc,
      fd .SDL_BANK_WAITMAX_WHO 8 4 .rc]⟩,
  -- SDL_ECCCOR
  ⟨.SDL_ECCCOR, 0x20080100, 0, 0x0, 0, 0x0, 32, [fd .SDL_ECCCOR_COUNT 0 16 .rc]⟩,
  -- SDL_ECCUNC
  ⟨.SDL_ECCUNC, 0x20080104, 0, 0x0, 0, 0x0, 32, [fd .SDL_ECCUNC_COUNT 0 16 .rc]⟩,
  -- SDL_ECCADDR
  ⟨.SDL_ECCADDR, 0x20080108, 0, 0x0, 0, 0x0, 32, [fd .SDL_ECCADDR_INDEX 0 16 .ro,
      fd .SDL_ECCADDR_VALID 16 1 .w1c]⟩,
  -- FAB_ERRSTAT
  ⟨.FAB_ERRSTAT, 0x40260000, 0, 0x0, 0, 0x0, 32, [fd .FAB_ERRSTAT_UNMAPPED 0 1 .w1c,
      fd .FAB_ERRSTAT_WIDTH 1 1 .w1c,
      fd .FAB_ERRSTAT_PARTNER 2 1 .w1c,
      fd .FAB_ERRSTAT_OVERRUN 3 1 .w1c,
      fd .FAB_ERRSTAT_MASTER 8 4 .ro]⟩,
  -- FAB_ERRADDR
  ⟨.FAB_ERRADDR, 0x40260004, 0, 0x0, 0, 0x0, 32, [fd .FAB_ERRADDR_ADDR 0 32 .ro]⟩,
  -- FAB_ERRCNT
  ⟨.FAB_ERRCNT, 0x40260008, 0, 0x0, 0, 0x0, 32, [fd .FAB_ERRCNT_COUNT 0 16 .rc]⟩,
  -- FAB_CLKSTAT
  ⟨.FAB_CLKSTAT, 0x40260010, 0, 0x0, 0, 0x0, 32, [fd .FAB_CLKSTAT_PLLT_LOCK 0 1 .ro,
      fd .FAB_CLKSTAT_PLLP_LOCK 1 1 .ro,
      fd .FAB_CLKSTAT_PLLL_LOCK 2 1 .ro,
      fd .FAB_CLKSTAT_AON_OSC 3 1 .ro]⟩,
  -- FAB_DMA[n]_SRC
  ⟨.FAB_DMA_SRC, 0x40260100, 2, 0x20, 0, 0x0, 32, [fd .FAB_DMA_SRC_ADDR 3 29 .rw]⟩,
  -- FAB_DMA[n]_DST
  ⟨.FAB_DMA_DST, 0x40260104, 2, 0x20, 0, 0x0, 32, [fd .FAB_DMA_DST_ADDR 3 29 .rw]⟩,
  -- FAB_DMA[n]_CTRL
  ⟨.FAB_DMA_CTRL, 0x40260108, 2, 0x20, 0, 0x0, 32, [fd .FAB_DMA_CTRL_CNT 0 16 .rw,
      fd .FAB_DMA_CTRL_BURST 16 3 .rw,
      fd .FAB_DMA_CTRL_START 20 1 .w1s,
      fd .FAB_DMA_CTRL_BUSY 21 1 .ro,
      fd .FAB_DMA_CTRL_DONE 22 1 .w1c,
      fd .FAB_DMA_CTRL_ERR 23 1 .w1c,
      fd .FAB_DMA_CTRL_EN 24 1 .rw]⟩]

/-- The register tables of spec/02_sensing_converters.md. -/
def regsSense : List RegDesc := [
  -- ADC_CTRL
  ⟨.ADC_CTRL, 0x40100000, 0, 0x0, 0, 0x0, 32, [fd .ADC_CTRL_EN 0 16 .rw]⟩,
  -- ADC_BANK
  ⟨.ADC_BANK, 0x40100004, 0, 0x0, 0, 0x0, 32, [fd .ADC_BANK_ACTIVE 0 1 .ro,
      fd .ADC_BANK_SWAPREQ 1 1 .w1s,
      fd .ADC_BANK_COPY 2 1 .w1s,
      fd .ADC_BANK_COPYBUSY 3 1 .ro,
      fd .ADC_BANK_ACTWR 4 1 .rw]⟩,
  -- ADC_FRAME
  ⟨.ADC_FRAME, 0x40100008, 0, 0x0, 0, 0x0, 32, [fd .ADC_FRAME_SRC 0 9 .rw,
      fd .ADC_FRAME_EN 9 1 .rw]⟩,
  -- ADC_SKIPCNT
  ⟨.ADC_SKIPCNT, 0x40100010, 0, 0x0, 0, 0x0, 32, [fd .ADC_SKIPCNT_COUNT 0 16 .rc,
      fd .ADC_SKIPCNT_LAST 16 7 .ro]⟩,
  -- ADC_QFULLCNT
  ⟨.ADC_QFULLCNT, 0x40100014, 0, 0x0, 0, 0x0, 32, [fd .ADC_QFULLCNT_COUNT 0 16 .rc]⟩,
  -- ADC_SLOT[e]_W0
  ⟨.ADC_SLOT_W0, 0x40101000, 96, 0x8, 0, 0x0, 32, [fd .ADC_SLOT_W0_TRIG 0 9 .rw,
      fd .ADC_SLOT_W0_DLY 9 8 .rw,
      fd .ADC_SLOT_W0_CONV 17 4 .rw,
      fd .ADC_SLOT_W0_INPUT 21 3 .rw,
      fd .ADC_SLOT_W0_SE 24 1 .rw,
      fd .ADC_SLOT_W0_OSR 25 3 .rw,
      fd .ADC_SLOT_W0_MODE 28 1 .rw,
      fd .ADC_SLOT_W0_EN 29 1 .rw,
      fd .ADC_SLOT_W0_EXC 30 2 .rw]⟩,
  -- ADC_SLOT[e]_W1
  ⟨.ADC_SLOT_W1, 0x40101004, 96, 0x8, 0, 0x0, 32, [fd .ADC_SLOT_W1_OCC 0 8 .rw,
      fd .ADC_SLOT_W1_LANE 8 5 .rw,
      fd .ADC_SLOT_W1_DELIV 13 1 .rw,
      fd .ADC_SLOT_W1_SCALE 14 5 .rw,
      fd .ADC_SLOT_W1_TRK 19 4 .rw,
      fd .ADC_SLOT_W1_TAG 23 4 .rw]⟩,
  -- ADC_SLOTACT[e]_W0
  ⟨.ADC_SLOTACT_W0, 0x40101400, 96, 0x8, 0, 0x0, 32, []⟩,
  -- ADC_SLOTACT[e]_W1
  ⟨.ADC_SLOTACT_W1, 0x40101404, 96, 0x8, 0, 0x0, 32, []⟩,
  -- ADC_SCALE[s]_GAIN
  ⟨.ADC_SCALE_GAIN, 0x40102000, 32, 0x10, 0, 0x0, 48, [fd .ADC_SCALE_GAIN_GAIN 0 48 .rw]⟩,
  -- ADC_SCALE[s]_OFFSET
  ⟨.ADC_SCALE_OFFSET, 0x40102008, 32, 0x10, 0, 0x0, 48, [fd .ADC_SCALE_OFFSET_OFFSET 0 48 .rw]⟩,
  -- ADC_RES[c]
  ⟨.ADC_RES, 0x40103000, 16, 0x10, 0, 0x0, 48, [fd .ADC_RES_VALUE 0 48 .ro]⟩,
  -- ADC_RESINFO[c]
  ⟨.ADC_RESINFO, 0x40103008, 16, 0x10, 0, 0x0, 32, [fd .ADC_RESINFO_ENTRY 0 7 .ro,
      fd .ADC_RESINFO_BANK 7 1 .ro,
      fd .ADC_RESINFO_CODE 8 16 .ro,
      fd .ADC_RESINFO_CLIP 24 1 .ro,
      fd .ADC_RESINFO_SEQ 25 7 .ro]⟩,
  -- ADC_CAL[c]
  ⟨.ADC_CAL, 0x40104000, 16, 0x8, 0, 0x0, 32, [fd .ADC_CAL_OFFTRIM 0 12 .rw,
      fd .ADC_CAL_GAINTRIM 12 16 .rw,
      fd .ADC_CAL_AUTOCAL 28 1 .rw]⟩,
  -- SDM_CTRL
  ⟨.SDM_CTRL, 0x40110000, 0, 0x0, 0, 0x0, 32, [fd .SDM_CTRL_EN 0 12 .rw,
      fd .SDM_CTRL_MET_EN 12 1 .rw]⟩,
  -- SDM_CFG
  ⟨.SDM_CFG, 0x40110004, 0, 0x0, 0, 0x0, 32, [fd .SDM_CFG_WIN 0 4 .rw,
      fd .SDM_CFG_VCONN_A 4 1 .rw,
      fd .SDM_CFG_VCONN_B 5 1 .rw]⟩,
  -- SDM_STAT
  ⟨.SDM_STAT, 0x40110008, 0, 0x0, 0, 0x0, 32, [fd .SDM_STAT_OVR 0 12 .w1c,
      fd .SDM_STAT_SYNCA 12 1 .ro,
      fd .SDM_STAT_SYNCB 13 1 .ro,
      fd .SDM_STAT_SEQ 16 16 .ro]⟩,
  -- SDM_FAST[m]
  ⟨.SDM_FAST, 0x40110100, 12, 0x4, 0, 0x0, 32, [fd .SDM_FAST_DATA 0 18 .ro,
      fd .SDM_FAST_OVR 18 1 .ro]⟩,
  -- SDM_SCALE[m]
  ⟨.SDM_SCALE, 0x40110200, 12, 0x8, 0, 0x0, 48, [fd .SDM_SCALE_FS 0 48 .rw]⟩,
  -- SDM result RMS, modulator m
  ⟨.SDM_RES_RMS, 0x40111000, 12, 0x400, 0, 0x0, 48, [fd .SDM_RES_RMS_V 0 48 .ro]⟩,
  -- SDM result THD, modulator m
  ⟨.SDM_RES_THD, 0x40111008, 12, 0x400, 0, 0x0, 48, [fd .SDM_RES_THD_V 0 48 .ro]⟩,
  -- SDM result magnitude of harmonic h, modulator m
  ⟨.SDM_RES_MAG, 0x40111018, 12, 0x400, 50, 0x8, 48, [fd .SDM_RES_MAG_V 0 48 .ro]⟩,
  -- SDM result phase of harmonic h, modulator m
  ⟨.SDM_RES_PHASE, 0x40111204, 12, 0x400, 50, 0x4, 32, [fd .SDM_RES_PHASE_V 0 16 .ro]⟩,
  -- SDM result P, feed f phase p
  ⟨.SDM_RES_P, 0x40114000, 2, 0x100, 3, 0x40, 48, [fd .SDM_RES_P_V 0 48 .ro]⟩,
  -- SDM result Q, feed f phase p
  ⟨.SDM_RES_Q, 0x40114008, 2, 0x100, 3, 0x40, 48, [fd .SDM_RES_Q_V 0 48 .ro]⟩,
  -- SDM result S, feed f phase p
  ⟨.SDM_RES_S, 0x40114010, 2, 0x100, 3, 0x40, 48, [fd .SDM_RES_S_V 0 48 .ro]⟩,
  -- SDM result PF, feed f phase p
  ⟨.SDM_RES_PF, 0x40114018, 2, 0x100, 3, 0x40, 48, [fd .SDM_RES_PF_V 0 48 .ro]⟩,
  -- SDM result EIMP, feed f phase p
  ⟨.SDM_RES_EIMP, 0x40114020, 2, 0x100, 3, 0x40, 64, [fd .SDM_RES_EIMP_V 0 64 .ro]⟩,
  -- SDM result EEXP, feed f phase p
  ⟨.SDM_RES_EEXP, 0x40114028, 2, 0x100, 3, 0x40, 64, [fd .SDM_RES_EEXP_V 0 64 .ro]⟩]

/-- The register tables of spec/03_comparators_reins.md. -/
def regsCmp : List RegDesc := [
  -- CMP[k]_CFG
  ⟨.CMP_CFG, 0x40120000, 48, 0x20, 0, 0x0, 32, [fd .CMP_CFG_EN 0 1 .rw,
      fd .CMP_CFG_MODE 1 2 .rw,
      fd .CMP_CFG_INSRC 3 1 .rw,
      fd .CMP_CFG_FUNC 4 2 .rw,
      fd .CMP_CFG_HYST 6 2 .rw,
      fd .CMP_CFG_BYP 8 1 .rw,
      fd .CMP_CFG_FN 9 4 .rw,
      fd .CMP_CFG_FM 13 4 .rw,
      fd .CMP_CFG_CLRM 17 1 .rw,
      fd .CMP_CFG_TEAM 18 3 .rw,
      fd .CMP_CFG_THRUPD 21 1 .rw,
      fd .CMP_CFG_DBELL 22 1 .rw]⟩,
  -- CMP[k]_THR
  ⟨.CMP_THR, 0x40120004, 48, 0x20, 0, 0x0, 32, [fd .CMP_THR_LTH 0 12 .rw,
      fd .CMP_THR_UTH 16 12 .rw]⟩,
  -- CMP[k]_STAT
  ⟨.CMP_STAT, 0x40120008, 48, 0x20, 0, 0x0, 32, [fd .CMP_STAT_RAW 0 1 .ro,
      fd .CMP_STAT_FILT 1 1 .ro,
      fd .CMP_STAT_SETTLING 2 1 .ro]⟩,
  -- CMP[k]_ATHR
  ⟨.CMP_ATHR, 0x4012000C, 48, 0x20, 0, 0x0, 32, [fd .CMP_ATHR_LTH 0 12 .ro,
      fd .CMP_ATHR_UTH 16 12 .ro]⟩,
  -- CMP_LATCHLO
  ⟨.CMP_LATCHLO, 0x40120800, 0, 0x0, 0, 0x0, 32, [fd .CMP_LATCHLO_LATCH 0 32 .w1c]⟩,
  -- CMP_LATCHHI
  ⟨.CMP_LATCHHI, 0x40120804, 0, 0x0, 0, 0x0, 32, [fd .CMP_LATCHHI_LATCH 0 16 .w1c]⟩,
  -- CMP_CLRREJLO
  ⟨.CMP_CLRREJLO, 0x40120808, 0, 0x0, 0, 0x0, 32, [fd .CMP_CLRREJLO_CLRREJ 0 32 .w1c]⟩,
  -- CMP_CLRREJHI
  ⟨.CMP_CLRREJHI, 0x4012080C, 0, 0x0, 0, 0x0, 32, [fd .CMP_CLRREJHI_CLRREJ 0 16 .w1c]⟩,
  -- CMP_MIR[j]
  ⟨.CMP_MIR, 0x40120900, 8, 0x4, 0, 0x0, 32, [fd .CMP_MIR_EN 0 1 .rw,
      fd .CMP_MIR_SEL 1 6 .rw,
      fd .CMP_MIR_TAP 7 2 .rw]⟩,
  -- REIN[r]_CMPLO
  ⟨.REIN_CMPLO, 0x40121000, 16, 0x20, 0, 0x0, 32, [fd .REIN_CMPLO_MASK 0 32 .rw]⟩,
  -- REIN[r]_CMPHI
  ⟨.REIN_CMPHI, 0x40121004, 16, 0x20, 0, 0x0, 32, [fd .REIN_CMPHI_MASK 0 16 .rw]⟩,
  -- REIN[r]_PIN
  ⟨.REIN_PIN, 0x40121008, 16, 0x20, 0, 0x0, 32, [fd .REIN_PIN_MASK 0 16 .rw]⟩,
  -- REIN_PINCFG[p]
  ⟨.REIN_PINCFG, 0x40121400, 16, 0x4, 0, 0x0, 32, [fd .REIN_PINCFG_LEN 0 8 .rw,
      fd .REIN_PINCFG_POL 8 1 .rw]⟩,
  -- REIN_STAT
  ⟨.REIN_STAT, 0x40121800, 0, 0x0, 0, 0x0, 32, [fd .REIN_STAT_ACTIVE 0 16 .ro]⟩,
  -- REIN_STICKY
  ⟨.REIN_STICKY, 0x40121804, 0, 0x0, 0, 0x0, 32, [fd .REIN_STICKY_SEEN 0 16 .w1c]⟩,
  -- REIN_SWTRIP
  ⟨.REIN_SWTRIP, 0x40121808, 0, 0x0, 0, 0x0, 32, [fd .REIN_SWTRIP_FORCE 0 16 .rw]⟩,
  -- REIN_PINSTAT
  ⟨.REIN_PINSTAT, 0x4012180C, 0, 0x0, 0, 0x0, 32, [fd .REIN_PINSTAT_STATE 0 16 .ro]⟩,
  -- REIN_DBELL
  ⟨.REIN_DBELL, 0x40121810, 0, 0x0, 0, 0x0, 32, [fd .REIN_DBELL_EN 0 16 .rw]⟩]

/-- The register tables of spec/04_pwm_generator.md. -/
def regsPwm : List RegDesc := [
  -- PWM_CH[n]_CFG
  ⟨.PWM_CH_CFG, 0x40000000, 24, 0x100, 0, 0x0, 32, [fd .PWM_CH_CFG_EN 0 1 .rw,
      fd .PWM_CH_CFG_TEAM 1 3 .rw,
      fd .PWM_CH_CFG_MODE 4 2 .rw,
      fd .PWM_CH_CFG_PRDIMM 6 1 .rw,
      fd .PWM_CH_CFG_DITH 7 1 .rw,
      fd .PWM_CH_CFG_POLH 8 1 .rw,
      fd .PWM_CH_CFG_POLL 9 1 .rw,
      fd .PWM_CH_CFG_ESC 10 8 .rw,
      fd .PWM_CH_CFG_ESCTEAM 18 1 .rw]⟩,
  -- PWM_CH[n]_ACT
  ⟨.PWM_CH_ACT, 0x40000004, 24, 0x100, 0, 0x0, 32, [fd .PWM_CH_ACT_WRAP 0 2 .rw,
      fd .PWM_CH_ACT_A 2 2 .rw,
      fd .PWM_CH_ACT_B 4 2 .rw,
      fd .PWM_CH_ACT_C 6 2 .rw,
      fd .PWM_CH_ACT_D 8 2 .rw]⟩,
  -- PWM_CH[n]_PRD
  ⟨.PWM_CH_PRD, 0x40000008, 24, 0x100, 0, 0x0, 32, [fd .PWM_CH_PRD_PRD 0 24 .rw]⟩,
  -- PWM_CH[n]_PHS
  ⟨.PWM_CH_PHS, 0x4000000C, 24, 0x100, 0, 0x0, 32, [fd .PWM_CH_PHS_PHS 0 24 .rw]⟩,
  -- PWM_CH[n]_CMPA
  ⟨.PWM_CH_CMPA, 0x40000010, 24, 0x100, 0, 0x0, 32, [fd .PWM_CH_CMPA_FINE 0 7 .rw,
      fd .PWM_CH_CMPA_COARSE 7 24 .rw]⟩,
  -- PWM_CH[n]_CMPB
  ⟨.PWM_CH_CMPB, 0x40000014, 24, 0x100, 0, 0x0, 32, [fd .PWM_CH_CMPB_FINE 0 7 .rw,
      fd .PWM_CH_CMPB_COARSE 7 24 .rw]⟩,
  -- PWM_CH[n]_CMPC
  ⟨.PWM_CH_CMPC, 0x40000018, 24, 0x100, 0, 0x0, 32, [fd .PWM_CH_CMPC_FINE 0 7 .rw,
      fd .PWM_CH_CMPC_COARSE 7 24 .rw]⟩,
  -- PWM_CH[n]_CMPD
  ⟨.PWM_CH_CMPD, 0x4000001C, 24, 0x100, 0, 0x0, 32, [fd .PWM_CH_CMPD_FINE 0 7 .rw,
      fd .PWM_CH_CMPD_COARSE 7 24 .rw]⟩,
  -- PWM_CH[n]_DTR
  ⟨.PWM_CH_DTR, 0x40000020, 24, 0x100, 0, 0x0, 32, [fd .PWM_CH_DTR_DT 0 16 .rw]⟩,
  -- PWM_CH[n]_DTF
  ⟨.PWM_CH_DTF, 0x40000024, 24, 0x100, 0, 0x0, 32, [fd .PWM_CH_DTF_DT 0 16 .rw]⟩,
  -- PWM_CH[n]_REFR
  ⟨.PWM_CH_REFR, 0x40000028, 24, 0x100, 0, 0x0, 32, [fd .PWM_CH_REFR_REFN 0 8 .rw,
      fd .PWM_CH_REFR_REFW 8 12 .rw]⟩,
  -- PWM_CH[n]_TRIPMASK
  ⟨.PWM_CH_TRIPMASK, 0x4000002C, 24, 0x100, 0, 0x0, 32, [fd .PWM_CH_TRIPMASK_MASK 0 16 .rw]⟩,
  -- PWM_CH[n]_FORCE
  ⟨.PWM_CH_FORCE, 0x40000030, 24, 0x100, 0, 0x0, 32, [fd .PWM_CH_FORCE_FH 0 2 .rw,
      fd .PWM_CH_FORCE_FL 2 2 .rw]⟩,
  -- PWM_CH[n]_EVCFG
  ⟨.PWM_CH_EVCFG, 0x40000034, 24, 0x100, 0, 0x0, 32, [fd .PWM_CH_EVCFG_PSWRAP 0 4 .rw,
      fd .PWM_CH_EVCFG_PSPRD 4 4 .rw,
      fd .PWM_CH_EVCFG_PSA 8 4 .rw,
      fd .PWM_CH_EVCFG_PSB 12 4 .rw,
      fd .PWM_CH_EVCFG_PSC 16 4 .rw,
      fd .PWM_CH_EVCFG_PSD 20 4 .rw,
      fd .PWM_CH_EVCFG_EN 24 6 .rw]⟩,
  -- PWM_CH[n]_APRD
  ⟨.PWM_CH_APRD, 0x40000040, 24, 0x100, 0, 0x0, 32, [fd .PWM_CH_APRD_PRD 0 24 .ro]⟩,
  -- PWM_CH[n]_APHS
  ⟨.PWM_CH_APHS, 0x40000044, 24, 0x100, 0, 0x0, 32, [fd .PWM_CH_APHS_PHS 0 24 .ro]⟩,
  -- PWM_CH[n]_ACMPA
  ⟨.PWM_CH_ACMPA, 0x40000048, 24, 0x100, 0, 0x0, 32, [fd .PWM_CH_ACMPA_FINE 0 7 .ro,
      fd .PWM_CH_ACMPA_COARSE 7 24 .ro]⟩,
  -- PWM_CH[n]_ACMPB
  ⟨.PWM_CH_ACMPB, 0x4000004C, 24, 0x100, 0, 0x0, 32, [fd .PWM_CH_ACMPB_FINE 0 7 .ro,
      fd .PWM_CH_ACMPB_COARSE 7 24 .ro]⟩,
  -- PWM_CH[n]_ACMPC
  ⟨.PWM_CH_ACMPC, 0x40000050, 24, 0x100, 0, 0x0, 32, [fd .PWM_CH_ACMPC_FINE 0 7 .ro,
      fd .PWM_CH_ACMPC_COARSE 7 24 .ro]⟩,
  -- PWM_CH[n]_ACMPD
  ⟨.PWM_CH_ACMPD, 0x40000054, 24, 0x100, 0, 0x0, 32, [fd .PWM_CH_ACMPD_FINE 0 7 .ro,
      fd .PWM_CH_ACMPD_COARSE 7 24 .ro]⟩,
  -- PWM_CH[n]_ADTR
  ⟨.PWM_CH_ADTR, 0x40000058, 24, 0x100, 0, 0x0, 32, [fd .PWM_CH_ADTR_DT 0 16 .ro]⟩,
  -- PWM_CH[n]_ADTF
  ⟨.PWM_CH_ADTF, 0x4000005C, 24, 0x100, 0, 0x0, 32, [fd .PWM_CH_ADTF_DT 0 16 .ro]⟩,
  -- PWM_CH[n]_CNT
  ⟨.PWM_CH_CNT, 0x40000060, 24, 0x100, 0, 0x0, 32, [fd .PWM_CH_CNT_COUNT 0 24 .ro]⟩,
  -- PWM_CH[n]_STAT
  ⟨.PWM_CH_STAT, 0x40000064, 24, 0x100, 0, 0x0, 32, [fd .PWM_CH_STAT_LATE 0 1 .w1c,
      fd .PWM_CH_STAT_PRDSHORT 1 1 .w1c,
      fd .PWM_CH_STAT_COLL 2 1 .w1c,
      fd .PWM_CH_STAT_TRIPSEEN 3 1 .w1c,
      fd .PWM_CH_STAT_ESCL 4 1 .w1c,
      fd .PWM_CH_STAT_REFRESH 5 1 .w1c,
      fd .PWM_CH_STAT_FORCEERR 6 1 .w1c,
      fd .PWM_CH_STAT_CUT 8 1 .ro,
      fd .PWM_CH_STAT_PEND 9 1 .ro,
      fd .PWM_CH_STAT_RUN 10 1 .ro,
      fd .PWM_CH_STAT_OUTH 11 1 .ro,
      fd .PWM_CH_STAT_OUTL 12 1 .ro,
      fd .PWM_CH_STAT_CUTCNT 16 8 .ro]⟩,
  -- PWM_TEAM[t]_CFG
  ⟨.PWM_TEAM_CFG, 0x40001800, 8, 0x4, 0, 0x0, 32, [fd .PWM_TEAM_CFG_EARLY 0 1 .rw]⟩,
  -- PWM_TEAMLOAD
  ⟨.PWM_TEAMLOAD, 0x40001840, 0, 0x0, 0, 0x0, 32, [fd .PWM_TEAMLOAD_LOAD 0 8 .w1s]⟩,
  -- PWM_TEAMRUN
  ⟨.PWM_TEAMRUN, 0x40001844, 0, 0x0, 0, 0x0, 32, [fd .PWM_TEAMRUN_RUN 0 8 .rw]⟩,
  -- PWM_DRIVE
  ⟨.PWM_DRIVE, 0x40001848, 0, 0x0, 0, 0x0, 32, [fd .PWM_DRIVE_DRV 0 1 .rw]⟩]

/-- The register tables of spec/05_spire_edges.md. -/
def regsSpire : List RegDesc := [
  -- SPR_CTRL
  ⟨.SPR_CTRL, 0x40020000, 0, 0x0, 0, 0x0, 32, [fd .SPR_CTRL_CALHOLD 0 1 .rw]⟩,
  -- SPR_STAT
  ⟨.SPR_STAT, 0x40020004, 0, 0x0, 0, 0x0, 32, [fd .SPR_STAT_ALLLOCK 0 1 .ro,
      fd .SPR_STAT_ANYFAULT 1 1 .ro,
      fd .SPR_STAT_ANYSTARVED 2 1 .ro]⟩,
  -- SPR_LOCKLO
  ⟨.SPR_LOCKLO, 0x40020010, 0, 0x0, 0, 0x0, 32, [fd .SPR_LOCKLO_LOCK 0 32 .ro]⟩,
  -- SPR_LOCKHI
  ⟨.SPR_LOCKHI, 0x40020014, 0, 0x0, 0, 0x0, 32, [fd .SPR_LOCKHI_LOCK 0 16 .ro]⟩,
  -- SPR_FAULTLO
  ⟨.SPR_FAULTLO, 0x40020018, 0, 0x0, 0, 0x0, 32, [fd .SPR_FAULTLO_FAULT 0 32 .w1c]⟩,
  -- SPR_FAULTHI
  ⟨.SPR_FAULTHI, 0x4002001C, 0, 0x0, 0, 0x0, 32, [fd .SPR_FAULTHI_FAULT 0 16 .w1c]⟩,
  -- SPR_NARROWLO
  ⟨.SPR_NARROWLO, 0x40020020, 0, 0x0, 0, 0x0, 32, [fd .SPR_NARROWLO_NARROW 0 32 .w1c]⟩,
  -- SPR_NARROWHI
  ⟨.SPR_NARROWHI, 0x40020024, 0, 0x0, 0, 0x0, 32, [fd .SPR_NARROWHI_NARROW 0 16 .w1c]⟩,
  -- SPR_STARVEDLO
  ⟨.SPR_STARVEDLO, 0x40020028, 0, 0x0, 0, 0x0, 32, [fd .SPR_STARVEDLO_STARVED 0 32 .ro]⟩,
  -- SPR_STARVEDHI
  ⟨.SPR_STARVEDHI, 0x4002002C, 0, 0x0, 0, 0x0, 32, [fd .SPR_STARVEDHI_STARVED 0 16 .ro]⟩,
  -- SPR_LINE[i]
  ⟨.SPR_LINE, 0x40020100, 48, 0x4, 0, 0x0, 32, [fd .SPR_LINE_S 0 13 .ro,
      fd .SPR_LINE_UPDCNT 16 8 .ro]⟩,
  -- SPR_DITH[n]
  ⟨.SPR_DITH, 0x40020200, 24, 0x4, 0, 0x0, 32, [fd .SPR_DITH_IDX 0 4 .ro]⟩]

/-- The register tables of spec/06_control_lanes.md. -/
def regsLane : List RegDesc := [
  -- LANE[k]_CTRL
  ⟨.LANE_CTRL, 0x40040000, 32, 0x1000, 0, 0x0, 32, [fd .LANE_CTRL_EN 0 1 .rw,
      fd .LANE_CTRL_APPLY 1 1 .w1s]⟩,
  -- LANE[k]_CFG
  ⟨.LANE_CFG, 0x40040004, 32, 0x1000, 0, 0x0, 32, [fd .LANE_CFG_BUDGET 0 10 .rw,
      fd .LANE_CFG_FPOL 10 1 .rw]⟩,
  -- LANE[k]_STAT
  ⟨.LANE_STAT, 0x40040008, 32, 0x1000, 0, 0x0, 32, [fd .LANE_STAT_STATE 0 2 .ro,
      fd .LANE_STAT_FAULT 2 1 .w1c,
      fd .LANE_STAT_CAUSE 3 4 .ro,
      fd .LANE_STAT_SATSEEN 7 1 .w1c,
      fd .LANE_STAT_DCLIP 8 1 .w1c,
      fd .LANE_STAT_STGOVF 9 1 .w1c,
      fd .LANE_STAT_PMWERR 10 1 .w1c,
      fd .LANE_STAT_Z 12 1 .ro,
      fd .LANE_STAT_N 13 1 .ro,
      fd .LANE_STAT_SAT 14 1 .ro,
      fd .LANE_STAT_LIM 15 1 .ro]⟩,
  -- LANE[k]_PC
  ⟨.LANE_PC, 0x4004000C, 32, 0x1000, 0, 0x0, 32, [fd .LANE_PC_PC 0 9 .ro,
      fd .LANE_PC_FPC 16 9 .ro]⟩,
  -- LANE[k]_QSTAT
  ⟨.LANE_QSTAT, 0x40040010, 32, 0x1000, 0, 0x0, 32, [fd .LANE_QSTAT_COUNT 0 6 .ro,
      fd .LANE_QSTAT_HWM 8 6 .rc]⟩,
  -- LANE[k]_DISCCNT
  ⟨.LANE_DISCCNT, 0x40040014, 32, 0x1000, 0, 0x0, 32, [fd .LANE_DISCCNT_COUNT 0 16 .rc]⟩,
  -- LANE[k]_DROPCNT
  ⟨.LANE_DROPCNT, 0x40040018, 32, 0x1000, 0, 0x0, 32, [fd .LANE_DROPCNT_QFULL 0 16 .rc,
      fd .LANE_DROPCNT_LOOP 16 16 .rc]⟩,
  -- LANE[k]_ECCCNT
  ⟨.LANE_ECCCNT, 0x4004001C, 32, 0x1000, 0, 0x0, 32, [fd .LANE_ECCCNT_PMCOR 0 16 .rc]⟩,
  -- LANE[k]_DUTYMASK
  ⟨.LANE_DUTYMASK, 0x40040020, 32, 0x1000, 0, 0x0, 32, [fd .LANE_DUTYMASK_CH 0 24 .rw]⟩,
  -- LANE[k]_TEAMMASK
  ⟨.LANE_TEAMMASK, 0x40040024, 32, 0x1000, 0, 0x0, 32, [fd .LANE_TEAMMASK_TEAM 0 8 .rw]⟩,
  -- LANE[k]_TASKTAG
  ⟨.LANE_TASKTAG, 0x40040028, 32, 0x1000, 0, 0x0, 32, [fd .LANE_TASKTAG_TAG 0 32 .rw]⟩,
  -- LANE[k]_CYC
  ⟨.LANE_CYC, 0x4004002C, 32, 0x1000, 0, 0x0, 32, [fd .LANE_CYC_LAST 0 16 .ro,
      fd .LANE_CYC_MAX 16 16 .rc]⟩,
  -- LANE[k]_VEC[t]
  ⟨.LANE_VEC, 0x40040040, 32, 0x1000, 16, 0x4, 32, [fd .LANE_VEC_ENTRY 0 9 .rw]⟩,
  -- LANE[k]_POSTOP
  ⟨.LANE_POSTOP, 0x40040080, 32, 0x1000, 0, 0x0, 48, [fd .LANE_POSTOP_OPERAND 0 48 .rw]⟩,
  -- LANE[k]_POST
  ⟨.LANE_POST, 0x40040088, 32, 0x1000, 0, 0x0, 32, [fd .LANE_POST_TAG 0 4 .wo,
      fd .LANE_POST_OPV 4 1 .wo]⟩,
  -- LANE[k]_ACTINFO
  ⟨.LANE_ACTINFO, 0x400400C0, 32, 0x1000, 0, 0x0, 32, [fd .LANE_ACTINFO_TAG 0 4 .ro,
      fd .LANE_ACTINFO_GEN 4 3 .ro,
      fd .LANE_ACTINFO_OPV 7 1 .ro,
      fd .LANE_ACTINFO_SRC 8 7 .ro]⟩,
  -- LANE[k]_LREG[i]
  ⟨.LANE_LREG, 0x40040800, 32, 0x1000, 64, 0x8, 48, [fd .LANE_LREG_VALUE 0 48 .rw]⟩,
  -- LANE[k]_PMEM[i]
  ⟨.LANE_PMEM, 0x40080000, 32, 0x1000, 512, 0x8, 64, [fd .LANE_PMEM_INSTR 0 64 .rw]⟩]

/-- The register tables of spec/08_line_angle_engine.md. -/
def regsLae : List RegDesc := [
  -- LAE_CTRL
  ⟨.LAE_CTRL, 0x40140000, 0, 0x0, 0, 0x0, 32, [fd .LAE_CTRL_ENA 0 1 .rw,
      fd .LAE_CTRL_ENB 1 1 .rw]⟩,
  -- LAE_DRIVE
  ⟨.LAE_DRIVE, 0x40140004, 0, 0x0, 0, 0x0, 32, [fd .LAE_DRIVE_DRV 0 1 .rw]⟩,
  -- LAE_XCFG
  ⟨.LAE_XCFG, 0x40140008, 0, 0x0, 0, 0x0, 32, [fd .LAE_XCFG_XSAFE 0 2 .rw,
      fd .LAE_XCFG_MARG 2 10 .rw,
      fd .LAE_XCFG_QUAL 12 8 .rw,
      fd .LAE_XCFG_XAUTO 20 1 .rw,
      fd .LAE_XCFG_PREF 21 1 .rw,
      fd .LAE_XCFG_AUTORET 22 1 .rw,
      fd .LAE_XCFG_RETDLY 23 8 .rw]⟩,
  -- LAE_XCTRL
  ⟨.LAE_XCTRL, 0x4014000C, 0, 0x0, 0, 0x0, 32, [fd .LAE_XCTRL_REQ 0 1 .w1s]⟩,
  -- LAE_XSTAT
  ⟨.LAE_XSTAT, 0x40140010, 0, 0x0, 0, 0x0, 32, [fd .LAE_XSTAT_BUSY 0 1 .ro,
      fd .LAE_XSTAT_ACTIVE 1 1 .ro,
      fd .LAE_XSTAT_NONE 2 1 .ro,
      fd .LAE_XSTAT_XLATE 3 1 .w1c,
      fd .LAE_XSTAT_XFAIL 4 1 .w1c,
      fd .LAE_XSTAT_REFUSED 5 1 .w1c,
      fd .LAE_XSTAT_DUR 16 16 .ro]⟩,
  -- LAE_XCNT
  ⟨.LAE_XCNT, 0x40140014, 0, 0x0, 0, 0x0, 32, [fd .LAE_XCNT_COUNT 0 16 .rc]⟩,
  -- LAE_REM[p]
  ⟨.LAE_REM, 0x40140020, 3, 0x8, 0, 0x0, 48, [fd .LAE_REM_PSI 0 48 .rw]⟩,
  -- LAE_REMV
  ⟨.LAE_REMV, 0x40140038, 0, 0x0, 0, 0x0, 32, [fd .LAE_REMV_VALID 0 1 .rw]⟩,
  -- LAE_NET[m]
  ⟨.LAE_NET, 0x40140040, 12, 0x4, 0, 0x0, 32, [fd .LAE_NET_DLY 0 16 .rw,
      fd .LAE_NET_POLE 16 16 .rw]⟩,
  -- LAE_ZXDLY[z]
  ⟨.LAE_ZXDLY, 0x40140070, 6, 0x4, 0, 0x0, 32, [fd .LAE_ZXDLY_DLY 0 16 .rw]⟩,
  -- LAE_FEED[f]_CFG
  ⟨.LAE_FEED_CFG, 0x40140100, 2, 0x100, 0, 0x0, 32, [fd .LAE_FEED_CFG_ZXUSE 0 1 .rw,
      fd .LAE_FEED_CFG_ZXHYST 1 2 .rw,
      fd .LAE_FEED_CFG_SAGTH 3 8 .rw,
      fd .LAE_FEED_CFG_SAGN 11 10 .rw]⟩,
  -- LAE_FEED[f]_CWIN
  ⟨.LAE_FEED_CWIN, 0x40140104, 2, 0x100, 0, 0x0, 32, [fd .LAE_FEED_CWIN_CWIN 0 12 .rw,
      fd .LAE_FEED_CWIN_ZXAGREE 12 8 .rw]⟩,
  -- LAE_FEED[f]_KP
  ⟨.LAE_FEED_KP, 0x40140108, 2, 0x100, 0, 0x0, 48, [fd .LAE_FEED_KP_KP 0 48 .rw]⟩,
  -- LAE_FEED[f]_KI
  ⟨.LAE_FEED_KI, 0x40140110, 2, 0x100, 0, 0x0, 48, [fd .LAE_FEED_KI_KI 0 48 .rw]⟩,
  -- LAE_FEED[f]_ANGLE
  ⟨.LAE_FEED_ANGLE, 0x40140118, 2, 0x100, 0, 0x0, 32, [fd .LAE_FEED_ANGLE_FRAC 0 16 .ro,
      fd .LAE_FEED_ANGLE_TICKS 16 16 .ro]⟩,
  -- LAE_FEED[f]_FREQ
  ⟨.LAE_FEED_FREQ, 0x40140120, 2, 0x100, 0, 0x0, 48, [fd .LAE_FEED_FREQ_FREQ 0 48 .ro]⟩,
  -- LAE_FEED[f]_AMP
  ⟨.LAE_FEED_AMP, 0x40140128, 2, 0x100, 0, 0x0, 48, [fd .LAE_FEED_AMP_AMP 0 48 .ro]⟩,
  -- LAE_FEED[f]_AMPP
  ⟨.LAE_FEED_AMPP, 0x40140130, 2, 0x100, 0, 0x0, 48, [fd .LAE_FEED_AMPP_AMPP 0 48 .ro]⟩,
  -- LAE_FEED[f]_VMIN
  ⟨.LAE_FEED_VMIN, 0x40140138, 2, 0x100, 0, 0x0, 48, [fd .LAE_FEED_VMIN_VMIN 0 48 .rw]⟩,
  -- LAE_FEED[f]_STAT
  ⟨.LAE_FEED_STAT, 0x40140140, 2, 0x100, 0, 0x0, 32, [fd .LAE_FEED_STAT_LOCK 0 1 .ro,
      fd .LAE_FEED_STAT_SEQREV 1 1 .ro,
      fd .LAE_FEED_STAT_OOB 2 1 .ro,
      fd .LAE_FEED_STAT_SAG 3 1 .ro,
      fd .LAE_FEED_STAT_COAST 4 1 .ro,
      fd .LAE_FEED_STAT_HEALTHY 5 1 .ro,
      fd .LAE_FEED_STAT_LOSTLOCK 6 1 .w1c,
      fd .LAE_FEED_STAT_SEQERR 7 1 .w1c]⟩,
  -- LAE_FEED[f]_BAD
  ⟨.LAE_FEED_BAD, 0x40140144, 2, 0x100, 0, 0x0, 32, [fd .LAE_FEED_BAD_COUNT 0 16 .rc]⟩,
  -- LAE_FEED[f]_EVANG[i]
  ⟨.LAE_FEED_EVANG, 0x40140148, 2, 0x100, 4, 0x4, 32, [fd .LAE_FEED_EVANG_ANGLE 0 16 .rw,
      fd .LAE_FEED_EVANG_EN 16 1 .rw]⟩,
  -- LAE_FEED[f]_XF
  ⟨.LAE_FEED_XF, 0x40140158, 2, 0x100, 0, 0x0, 32, [fd .LAE_FEED_XF_XDLY 0 16 .rw,
      fd .LAE_FEED_XF_FIRST 16 2 .rw]⟩,
  -- LAE_FEED[f]_PRECFG
  ⟨.LAE_FEED_PRECFG, 0x4014015C, 2, 0x100, 0, 0x0, 32, [fd .LAE_FEED_PRECFG_ASTART 0 16 .rw,
      fd .LAE_FEED_PRECFG_VCSRC 16 1 .rw]⟩,
  -- LAE_FEED[f]_PRECAP
  ⟨.LAE_FEED_PRECAP, 0x40140160, 2, 0x100, 0, 0x0, 48, [fd .LAE_FEED_PRECAP_PRECAP 0 48 .rw]⟩,
  -- LAE_FEED[f]_PREIND
  ⟨.LAE_FEED_PREIND, 0x40140168, 2, 0x100, 0, 0x0, 48, [fd .LAE_FEED_PREIND_PREIND 0 48 .rw]⟩,
  -- LAE_FEED[f]_PRELIM
  ⟨.LAE_FEED_PRELIM, 0x40140170, 2, 0x100, 0, 0x0, 48, [fd .LAE_FEED_PRELIM_PRELIM 0 48 .rw]⟩,
  -- LAE_FEED[f]_PREVC
  ⟨.LAE_FEED_PREVC, 0x40140178, 2, 0x100, 0, 0x0, 48, [fd .LAE_FEED_PREVC_PREVC 0 48 .rw]⟩,
  -- LAE_FEED[f]_PRESTAT
  ⟨.LAE_FEED_PRESTAT, 0x40140180, 2, 0x100, 0, 0x0, 32, [fd .LAE_FEED_PRESTAT_DONE 0 1 .ro,
      fd .LAE_FEED_PRESTAT_RAMP 1 1 .ro,
      fd .LAE_FEED_PRESTAT_ALPHA 16 16 .ro]⟩,
  -- LAE_PAIR[j]_CFG
  ⟨.LAE_PAIR_CFG, 0x40141000, 12, 0x40, 0, 0x0, 32, [fd .LAE_PAIR_CFG_EN 0 1 .rw,
      fd .LAE_PAIR_CFG_FEED 1 1 .rw,
      fd .LAE_PAIR_CFG_PHASE 2 2 .rw,
      fd .LAE_PAIR_CFG_TRIAC 4 1 .rw,
      fd .LAE_PAIR_CFG_MODE 5 2 .rw,
      fd .LAE_PAIR_CFG_STRAT 7 2 .rw,
      fd .LAE_PAIR_CFG_POLF 9 1 .rw,
      fd .LAE_PAIR_CFG_POLR 10 1 .rw,
      fd .LAE_PAIR_CFG_RISE 11 4 .rw]⟩,
  -- LAE_PAIR[j]_ANG
  ⟨.LAE_PAIR_ANG, 0x40141004, 12, 0x40, 0, 0x0, 32, [fd .LAE_PAIR_ANG_ALPHA 0 16 .rw,
      fd .LAE_PAIR_ANG_END 16 16 .rw]⟩,
  -- LAE_PAIR[j]_PULSE
  ⟨.LAE_PAIR_PULSE, 0x40141008, 12, 0x40, 0, 0x0, 32, [fd .LAE_PAIR_PULSE_TON 0 8 .rw,
      fd .LAE_PAIR_PULSE_TPER 8 8 .rw,
      fd .LAE_PAIR_PULSE_LATN 16 4 .rw]⟩,
  -- LAE_PAIR[j]_CUR
  ⟨.LAE_PAIR_CUR, 0x4014100C, 12, 0x40, 0, 0x0, 32, [fd .LAE_PAIR_CUR_IZ 0 16 .rw,
      fd .LAE_PAIR_CUR_ILATCH 16 16 .rw]⟩,
  -- LAE_PAIR[j]_SLEW
  ⟨.LAE_PAIR_SLEW, 0x40141010, 12, 0x40, 0, 0x0, 32, [fd .LAE_PAIR_SLEW_SLEW 0 12 .rw,
      fd .LAE_PAIR_SLEW_CZMARG 12 12 .rw]⟩,
  -- LAE_PAIR[j]_STAT
  ⟨.LAE_PAIR_STAT, 0x40141014, 12, 0x40, 0, 0x0, 32, [fd .LAE_PAIR_STAT_AACT 0 16 .ro,
      fd .LAE_PAIR_STAT_CONDF 16 1 .ro,
      fd .LAE_PAIR_STAT_CONDR 17 1 .ro,
      fd .LAE_PAIR_STAT_MISFIRE 18 1 .w1c,
      fd .LAE_PAIR_STAT_SYMERR 19 1 .w1c,
      fd .LAE_PAIR_STAT_CZTMO 20 1 .w1c,
      fd .LAE_PAIR_STAT_FIRING 21 1 .ro]⟩,
  -- LAE_PAIR[j]_CNT
  ⟨.LAE_PAIR_CNT, 0x40141018, 12, 0x40, 0, 0x0, 32, [fd .LAE_PAIR_CNT_MISCNT 0 16 .rc,
      fd .LAE_PAIR_CNT_SYMCNT 16 16 .rc]⟩]

/-- The register tables of spec/09_timers_harness.md. -/
def regsTimer : List RegDesc := [
  -- TMR[m]_CFG
  ⟨.TMR_CFG, 0x40160000, 16, 0x40, 0, 0x0, 32, [fd .TMR_CFG_EN 0 1 .rw,
      fd .TMR_CFG_PSC 1 8 .rw,
      fd .TMR_CFG_CHAIN 9 1 .rw]⟩,
  -- TMR[m]_CNT
  ⟨.TMR_CNT, 0x40160004, 16, 0x40, 0, 0x0, 32, [fd .TMR_CNT_COUNT 0 32 .rw]⟩,
  -- TMR[m]_RELOAD
  ⟨.TMR_RELOAD, 0x40160008, 16, 0x40, 0, 0x0, 32, [fd .TMR_RELOAD_RELOAD 0 32 .rw]⟩,
  -- TMR[m]_CMP[j]
  ⟨.TMR_CMP, 0x40160010, 16, 0x40, 4, 0x4, 32, [fd .TMR_CMP_CMP 0 32 .rw]⟩,
  -- TMR[m]_ACMP[j]
  ⟨.TMR_ACMP, 0x40160020, 16, 0x40, 4, 0x4, 32, [fd .TMR_ACMP_CMP 0 32 .ro]⟩,
  -- TMR[m]_ACT
  ⟨.TMR_ACT, 0x40160030, 16, 0x40, 0, 0x0, 32, [fd .TMR_ACT_A0 0 2 .rw,
      fd .TMR_ACT_A1 2 2 .rw,
      fd .TMR_ACT_A2 4 2 .rw,
      fd .TMR_ACT_A3 6 2 .rw]⟩,
  -- TMR[m]_PIN
  ⟨.TMR_PIN, 0x40160034, 16, 0x40, 0, 0x0, 32, [fd .TMR_PIN_LEVEL 0 1 .rw,
      fd .TMR_PIN_SAFE 1 1 .rw,
      fd .TMR_PIN_OE 2 1 .rw]⟩,
  -- TMR[m]_EVCFG
  ⟨.TMR_EVCFG, 0x40160038, 16, 0x40, 0, 0x0, 32, [fd .TMR_EVCFG_ZEN 0 1 .rw,
      fd .TMR_EVCFG_CEN 1 4 .rw]⟩,
  -- TMR[m]_STAT
  ⟨.TMR_STAT, 0x4016003C, 16, 0x40, 0, 0x0, 32, [fd .TMR_STAT_ZSEEN 0 1 .w1c,
      fd .TMR_STAT_CSEEN 1 4 .w1c,
      fd .TMR_STAT_RUN 5 1 .ro]⟩,
  -- TMR_GO
  ⟨.TMR_GO, 0x40160800, 0, 0x0, 0, 0x0, 32, [fd .TMR_GO_GO 0 16 .w1s]⟩,
  -- TMR_HALT
  ⟨.TMR_HALT, 0x40160804, 0, 0x0, 0, 0x0, 32, [fd .TMR_HALT_HALT 0 16 .w1s]⟩,
  -- TMR_LTC_LO
  ⟨.TMR_LTC_LO, 0x40160810, 0, 0x0, 0, 0x0, 32, [fd .TMR_LTC_LO_LOW 0 32 .ro]⟩,
  -- TMR_LTC_HI
  ⟨.TMR_LTC_HI, 0x40160814, 0, 0x0, 0, 0x0, 32, [fd .TMR_LTC_HI_HIGH 0 32 .ro]⟩,
  -- TMR_WIDESTAT
  ⟨.TMR_WIDESTAT, 0x40160818, 0, 0x0, 0, 0x0, 32, [fd .TMR_WIDESTAT_STALEHI 0 1 .w1c,
      fd .TMR_WIDESTAT_MASTER 4 4 .ro]⟩,
  -- HRN_CH[c]_MASK[w]
  ⟨.HRN_CH_MASK, 0x40180000, 64, 0x20, 6, 0x4, 32, [fd .HRN_CH_MASK_MASK 0 32 .rw]⟩,
  -- HRN_CH[c]_CFG
  ⟨.HRN_CH_CFG, 0x40180018, 64, 0x20, 0, 0x0, 32, [fd .HRN_CH_CFG_DBELL 0 1 .rw]⟩,
  -- HRN_ROUTE[i]
  ⟨.HRN_ROUTE, 0x40181000, 256, 0x4, 0, 0x0, 32, [fd .HRN_ROUTE_CH 0 6 .rw,
      fd .HRN_ROUTE_EN 6 1 .rw]⟩,
  -- HRN_ROUTENX[i]
  ⟨.HRN_ROUTENX, 0x40181400, 256, 0x4, 0, 0x0, 32, [fd .HRN_ROUTENX_CH 0 6 .rw,
      fd .HRN_ROUTENX_EN 6 1 .rw,
      fd .HRN_ROUTENX_PEND 7 1 .ro,
      fd .HRN_ROUTENX_CANCEL 8 1 .wo]⟩,
  -- HRN_RTCTRL
  ⟨.HRN_RTCTRL, 0x40181800, 0, 0x0, 0, 0x0, 32, [fd .HRN_RTCTRL_APPLY 0 1 .w1s,
      fd .HRN_RTCTRL_BEN 1 1 .rw,
      fd .HRN_RTCTRL_BCH 2 6 .rw,
      fd .HRN_RTCTRL_CANCEL 8 1 .w1s]⟩,
  -- HRN_SWEV
  ⟨.HRN_SWEV, 0x40181804, 0, 0x0, 0, 0x0, 32, [fd .HRN_SWEV_EV 0 4 .w1s]⟩,
  -- HRN_CHSEENLO
  ⟨.HRN_CHSEENLO, 0x40181810, 0, 0x0, 0, 0x0, 32, [fd .HRN_CHSEENLO_SEEN 0 32 .w1c]⟩,
  -- HRN_CHSEENHI
  ⟨.HRN_CHSEENHI, 0x40181814, 0, 0x0, 0, 0x0, 32, [fd .HRN_CHSEENHI_SEEN 0 32 .w1c]⟩,
  -- HRN_COINCIDE
  ⟨.HRN_COINCIDE, 0x40181820, 0, 0x0, 0, 0x0, 32, [fd .HRN_COINCIDE_COUNT 0 16 .rc,
      fd .HRN_COINCIDE_LAST 16 8 .ro]⟩,
  -- HRN_LOOPDROP
  ⟨.HRN_LOOPDROP, 0x40181824, 0, 0x0, 0, 0x0, 32, [fd .HRN_LOOPDROP_COUNT 0 16 .rc,
      fd .HRN_LOOPDROP_LANE 16 5 .ro,
      fd .HRN_LOOPDROP_EV 21 1 .ro]⟩]

/-- The register tables of spec/10_cores_belfry.md. -/
def regsCore : List RegDesc := [
  -- BFY_DOORBELL
  ⟨.BFY_DOORBELL, 0x401A0000, 0, 0x0, 0, 0x0, 32, [fd .BFY_DOORBELL_SRC 0 9 .wo]⟩,
  -- BFY_COMPLETE
  ⟨.BFY_COMPLETE, 0x401A0004, 0, 0x0, 0, 0x0, 32, [fd .BFY_COMPLETE_SRC 0 9 .wo]⟩,
  -- BFY_SPURCNT
  ⟨.BFY_SPURCNT, 0x401A0008, 0, 0x0, 0, 0x0, 32, [fd .BFY_SPURCNT_COUNT 0 16 .rc]⟩,
  -- BFY_SPURLAST
  ⟨.BFY_SPURLAST, 0x401A000C, 0, 0x0, 0, 0x0, 32, [fd .BFY_SPURLAST_SRC 0 9 .ro,
      fd .BFY_SPURLAST_MASTER 12 4 .ro]⟩,
  -- BFY_DBERR
  ⟨.BFY_DBERR, 0x401A0010, 0, 0x0, 0, 0x0, 32, [fd .BFY_DBERR_FORM 0 1 .w1c,
      fd .BFY_DBERR_RSVD 1 1 .w1c,
      fd .BFY_DBERR_LOCAL 2 1 .w1c,
      fd .BFY_DBERR_PARTNER 3 1 .w1c,
      fd .BFY_DBERR_LAST 16 9 .ro]⟩,
  -- BFY_MERGECNT
  ⟨.BFY_MERGECNT, 0x401A0014, 0, 0x0, 0, 0x0, 32, [fd .BFY_MERGECNT_COUNT 0 16 .rc]⟩,
  -- BFY_CORE[n]_STAT
  ⟨.BFY_CORE_STAT, 0x401A0040, 5, 0x4, 0, 0x0, 32, [fd .BFY_CORE_STAT_RPRIO 0 5 .ro,
      fd .BFY_CORE_STAT_LVL 5 4 .ro,
      fd .BFY_CORE_STAT_PHASE 9 2 .ro,
      fd .BFY_CORE_STAT_SRC 11 9 .ro]⟩,
  -- BFY_ROT
  ⟨.BFY_ROT, 0x401A0060, 0, 0x0, 0, 0x0, 32, [fd .BFY_ROT_PTR 0 2 .ro]⟩,
  -- BFY_PEND[w]
  ⟨.BFY_PEND, 0x401A0100, 16, 0x4, 0, 0x0, 32, [fd .BFY_PEND_W 0 32 .ro]⟩,
  -- BFY_PENDSET[w]
  ⟨.BFY_PENDSET, 0x401A0140, 16, 0x4, 0, 0x0, 32, [fd .BFY_PENDSET_W 0 32 .w1s]⟩,
  -- BFY_PENDCLR[w]
  ⟨.BFY_PENDCLR, 0x401A0180, 16, 0x4, 0, 0x0, 32, [fd .BFY_PENDCLR_W 0 32 .w1c]⟩,
  -- BFY_MASK[w]
  ⟨.BFY_MASK, 0x401A0200, 16, 0x4, 0, 0x0, 32, [fd .BFY_MASK_W 0 32 .ro]⟩,
  -- BFY_MASKSET[w]
  ⟨.BFY_MASKSET, 0x401A0240, 16, 0x4, 0, 0x0, 32, [fd .BFY_MASKSET_W 0 32 .w1s]⟩,
  -- BFY_MASKCLR[w]
  ⟨.BFY_MASKCLR, 0x401A0280, 16, 0x4, 0, 0x0, 32, [fd .BFY_MASKCLR_W 0 32 .w1c]⟩,
  -- BFY_ACTIVE[w]
  ⟨.BFY_ACTIVE, 0x401A0300, 16, 0x4, 0, 0x0, 32, [fd .BFY_ACTIVE_W 0 32 .ro]⟩,
  -- BFY_SRC[s]_CFG
  ⟨.BFY_SRC_CFG, 0x401A1000, 512, 0x4, 0, 0x0, 32, [fd .BFY_SRC_CFG_PRIO 0 4 .rw,
      fd .BFY_SRC_CFG_TGT 4 1 .rw,
      fd .BFY_SRC_CFG_CMASK 5 4 .rw]⟩,
  -- BFY_SRC[s]_VEC
  ⟨.BFY_SRC_VEC, 0x401A2000, 512, 0x4, 0, 0x0, 32, [fd .BFY_SRC_VEC_ADDR 1 31 .rw]⟩,
  -- LCK_ACQ[l]
  ⟨.LCK_ACQ, 0x401C0000, 64, 0x4, 0, 0x0, 32, [fd .LCK_ACQ_GOT 0 1 .ro,
      fd .LCK_ACQ_BROKEN 1 1 .ro,
      fd .LCK_ACQ_ALREADY 2 1 .ro,
      fd .LCK_ACQ_HELD 3 1 .ro,
      fd .LCK_ACQ_OWNLVL 4 4 .ro,
      fd .LCK_ACQ_OWNMST 8 4 .ro]⟩,
  -- LCK_REL[l]
  ⟨.LCK_REL, 0x401C0100, 64, 0x4, 0, 0x0, 32, []⟩,
  -- LCK_STAT[l]
  ⟨.LCK_STAT, 0x401C0200, 64, 0x4, 0, 0x0, 32, [fd .LCK_STAT_HELD 0 1 .ro,
      fd .LCK_STAT_BROKEN 1 1 .ro,
      fd .LCK_STAT_OWNLVL 4 4 .ro,
      fd .LCK_STAT_OWNMST 8 4 .ro]⟩,
  -- LCK_BREAK
  ⟨.LCK_BREAK, 0x401C0300, 0, 0x0, 0, 0x0, 32, [fd .LCK_BREAK_LOCK 0 6 .wo]⟩,
  -- LCK_RELERR
  ⟨.LCK_RELERR, 0x401C0304, 0, 0x0, 0, 0x0, 32, [fd .LCK_RELERR_COUNT 0 16 .rc]⟩,
  -- LCK_BROKENCNT
  ⟨.LCK_BROKENCNT, 0x401C0308, 0, 0x0, 0, 0x0, 32, [fd .LCK_BROKENCNT_COUNT 0 16 .rc]⟩,
  -- LCK_HELDLO
  ⟨.LCK_HELDLO, 0x401C0310, 0, 0x0, 0, 0x0, 32, [fd .LCK_HELDLO_HELD 0 32 .ro]⟩,
  -- LCK_HELDHI
  ⟨.LCK_HELDHI, 0x401C0314, 0, 0x0, 0, 0x0, 32, [fd .LCK_HELDHI_HELD 0 32 .ro]⟩,
  -- FAB_CORE[n]_CTRL
  ⟨.FAB_CORE_CTRL, 0x40260200, 5, 0x10, 0, 0x0, 32, [fd .FAB_CORE_CTRL_RST 0 1 .rw,
      fd .FAB_CORE_CTRL_BOOT 2 30 .rw]⟩,
  -- FAB_CORECFG
  ⟨.FAB_CORECFG, 0x40260280, 0, 0x0, 0, 0x0, 32, [fd .FAB_CORECFG_LS01 0 1 .rw,
      fd .FAB_CORECFG_LS23 1 1 .rw]⟩,
  -- FAB_LSSTAT
  ⟨.FAB_LSSTAT, 0x40260284, 0, 0x0, 0, 0x0, 32, [fd .FAB_LSSTAT_ERR01 0 1 .w1c,
      fd .FAB_LSSTAT_ERR23 1 1 .w1c,
      fd .FAB_LSSTAT_KIND 2 2 .ro]⟩]

/-- The register tables of spec/11_twin_pairing.md. -/
def regsTwin : List RegDesc := [
  -- TTH_CTRL
  ⟨.TTH_CTRL, 0x40200000, 0, 0x0, 0, 0x0, 32, [fd .TTH_CTRL_LANEEN0 0 1 .rw,
      fd .TTH_CTRL_LANEEN1 1 1 .rw,
      fd .TTH_CTRL_DETACH 2 1 .w1s,
      fd .TTH_CTRL_ATTACH 3 1 .w1s,
      fd .TTH_CTRL_HANDOVER 4 1 .w1s,
      fd .TTH_CTRL_RETRAIN 5 1 .w1s]⟩,
  -- TTH_CFG
  ⟨.TTH_CFG, 0x40200004, 0, 0x0, 0, 0x0, 32, [fd .TTH_CFG_PAIRED 0 1 .rw,
      fd .TTH_CFG_PREFSEAT 1 1 .rw,
      fd .TTH_CFG_FRAMECH 2 6 .rw,
      fd .TTH_CFG_WAITB 8 8 .rw,
      fd .TTH_CFG_DIVN 16 4 .rw,
      fd .TTH_CFG_DIVTAKE 20 1 .rw]⟩,
  -- TTH_STAT
  ⟨.TTH_STAT, 0x40200008, 0, 0x0, 0, 0x0, 32, [fd .TTH_STAT_ROLE 0 3 .ro,
      fd .TTH_STAT_SEAT 3 1 .ro,
      fd .TTH_STAT_OWN 4 1 .ro,
      fd .TTH_STAT_OWNED 5 1 .ro,
      fd .TTH_STAT_OWNIN 6 1 .ro,
      fd .TTH_STAT_TETHER 7 1 .ro,
      fd .TTH_STAT_BRIDLE 8 1 .ro,
      fd .TTH_STAT_READY 9 1 .ro,
      fd .TTH_STAT_DIVERGED 10 1 .ro,
      fd .TTH_STAT_LOCKED 11 1 .ro,
      fd .TTH_STAT_TOOK 12 1 .ro,
      fd .TTH_STAT_SWITCHING 13 1 .ro,
      fd .TTH_STAT_SPLIT 16 1 .w1c,
      fd .TTH_STAT_OWNCONF 17 1 .w1c,
      fd .TTH_STAT_SEATERR 18 1 .w1c,
      fd .TTH_STAT_KEEPEXP 19 1 .w1c,
      fd .TTH_STAT_LINKLOST 20 1 .w1c]⟩,
  -- TTH_OWNCFG
  ⟨.TTH_OWNCFG, 0x4020000C, 0, 0x0, 0, 0x0, 32, [fd .TTH_OWNCFG_LEAD 0 10 .rw,
      fd .TTH_OWNCFG_QUAL 10 12 .rw]⟩,
  -- TTH_KEEP
  ⟨.TTH_KEEP, 0x40200010, 0, 0x0, 0, 0x0, 32, [fd .TTH_KEEP_KEEP 0 24 .rw]⟩,
  -- TTH_SNSCFG
  ⟨.TTH_SNSCFG, 0x40200014, 0, 0x0, 0, 0x0, 32, [fd .TTH_SNSCFG_MASK 0 8 .rw,
      fd .TTH_SNSCFG_TEAM 8 3 .rw]⟩,
  -- TTH_LINKSTAT
  ⟨.TTH_LINKSTAT, 0x40200018, 0, 0x0, 0, 0x0, 32, [fd .TTH_LINKSTAT_LOCK0 0 1 .ro,
      fd .TTH_LINKSTAT_LOCK1 1 1 .ro,
      fd .TTH_LINKSTAT_DESKEW 2 1 .ro,
      fd .TTH_LINKSTAT_TRAINED 3 1 .ro,
      fd .TTH_LINKSTAT_SKEW 4 3 .ro,
      fd .TTH_LINKSTAT_FAILS 8 8 .rc]⟩,
  -- TTH_LAT
  ⟨.TTH_LAT, 0x4020001C, 0, 0x0, 0, 0x0, 32, [fd .TTH_LAT_ONEWAY 0 16 .ro]⟩,
  -- TTH_ERRCNT
  ⟨.TTH_ERRCNT, 0x40200020, 0, 0x0, 0, 0x0, 32, [fd .TTH_ERRCNT_CODEERR 0 16 .rc,
      fd .TTH_ERRCNT_CRCERR 16 16 .rc]⟩,
  -- TTH_FRMCNT
  ⟨.TTH_FRMCNT, 0x40200024, 0, 0x0, 0, 0x0, 32, [fd .TTH_FRMCNT_SKIP 0 16 .rc,
      fd .TTH_FRMCNT_GAP 16 16 .rc]⟩,
  -- TTH_DIVCNT
  ⟨.TTH_DIVCNT, 0x40200028, 0, 0x0, 0, 0x0, 32, [fd .TTH_DIVCNT_DIV 0 16 .rc,
      fd .TTH_DIVCNT_LAST 16 8 .ro,
      fd .TTH_DIVCNT_SKIP 24 8 .rc]⟩,
  -- TTH_DISC
  ⟨.TTH_DISC, 0x4020002C, 0, 0x0, 0, 0x0, 32, [fd .TTH_DISC_TRIM 0 16 .ro,
      fd .TTH_DISC_ERR 16 16 .ro]⟩,
  -- TTH_PARTNER
  ⟨.TTH_PARTNER, 0x40200030, 0, 0x0, 0, 0x0, 32, [fd .TTH_PARTNER_WORD 0 16 .ro,
      fd .TTH_PARTNER_VALID 16 1 .ro]⟩,
  -- TTH_STREAM[e]_W0
  ⟨.TTH_STREAM_W0, 0x40201000, 256, 0x8, 0, 0x0, 32, [fd .TTH_STREAM_W0_KIND 0 3 .rw,
      fd .TTH_STREAM_W0_MODE 3 2 .rw,
      fd .TTH_STREAM_W0_LANE 5 5 .rw,
      fd .TTH_STREAM_W0_FIRST 10 6 .rw,
      fd .TTH_STREAM_W0_INDEX 16 16 .rw]⟩,
  -- TTH_STREAM[e]_W1
  ⟨.TTH_STREAM_W1, 0x40201004, 256, 0x8, 0, 0x0, 32, [fd .TTH_STREAM_W1_COUNT 0 7 .rw,
      fd .TTH_STREAM_W1_TOLEXP 8 6 .rw,
      fd .TTH_STREAM_W1_TOL 16 16 .rw]⟩,
  -- TTH_BULK[b]_W0
  ⟨.TTH_BULK_W0, 0x40201800, 16, 0x8, 0, 0x0, 32, [fd .TTH_BULK_W0_INDEX 0 16 .rw,
      fd .TTH_BULK_W0_EN 16 1 .rw]⟩,
  -- TTH_BULK[b]_W1
  ⟨.TTH_BULK_W1, 0x40201804, 16, 0x8, 0, 0x0, 32, [fd .TTH_BULK_W1_COUNT 0 16 .rw]⟩]

/-- The register tables of spec/12_power_startup.md. -/
def regsPower : List RegDesc := [
  -- PMG_BUDGET[s]
  ⟨.PMG_BUDGET, 0x40240000, 8, 0x4, 0, 0x0, 32, [fd .PMG_BUDGET_US 0 32 .rw]⟩,
  -- PMG_HOLD
  ⟨.PMG_HOLD, 0x40240040, 0, 0x0, 0, 0x0, 32, [fd .PMG_HOLD_HOLD 0 8 .rw]⟩,
  -- PMG_DOMSTAT[d]
  ⟨.PMG_DOMSTAT, 0x40240100, 20, 0x4, 0, 0x0, 32, [fd .PMG_DOMSTAT_STATE 0 2 .ro,
      fd .PMG_DOMSTAT_TARGET 2 2 .ro,
      fd .PMG_DOMSTAT_REPORT 4 2 .ro,
      fd .PMG_DOMSTAT_DIRTY 6 1 .w1c,
      fd .PMG_DOMSTAT_OFFEXIT 8 14 .ro]⟩,
  -- PMG_RSTCAUSE
  ⟨.PMG_RSTCAUSE, 0x40240200, 0, 0x0, 0, 0x0, 32, [fd .PMG_RSTCAUSE_POR 0 1 .ro,
      fd .PMG_RSTCAUSE_PIN 1 1 .ro,
      fd .PMG_RSTCAUSE_JTAG 2 1 .ro,
      fd .PMG_RSTCAUSE_HOST 3 1 .ro,
      fd .PMG_RSTCAUSE_WDTCNT 8 8 .rc]⟩,
  -- PMG_BOOTSTAT
  ⟨.PMG_BOOTSTAT, 0x40240204, 0, 0x0, 0, 0x0, 32, [fd .PMG_BOOTSTAT_SLOT 0 1 .ro,
      fd .PMG_BOOTSTAT_APPLIED 1 1 .ro,
      fd .PMG_BOOTSTAT_FALLBACK 2 1 .ro,
      fd .PMG_BOOTSTAT_CODEFAIL 3 1 .ro,
      fd .PMG_BOOTSTAT_NOIMG 4 1 .ro,
      fd .PMG_BOOTSTAT_FAIL0 8 4 .ro,
      fd .PMG_BOOTSTAT_FAIL1 12 4 .ro,
      fd .PMG_BOOTSTAT_LIVEUS 16 16 .ro]⟩,
  -- PMG_WDT
  ⟨.PMG_WDT, 0x40240210, 0, 0x0, 0, 0x0, 32, [fd .PMG_WDT_PERIOD 0 16 .rw]⟩,
  -- PMG_WDTKICK
  ⟨.PMG_WDTKICK, 0x40240214, 0, 0x0, 0, 0x0, 32, [fd .PMG_WDTKICK_KEY 0 8 .wo]⟩,
  -- FAB_MRAMCTL
  ⟨.FAB_MRAMCTL, 0x40260300, 0, 0x0, 0, 0x0, 32, [fd .FAB_MRAMCTL_SLOTWE0 0 1 .rw,
      fd .FAB_MRAMCTL_SLOTWE1 1 1 .rw]⟩,
  -- FAB_MRAMSTAT
  ⟨.FAB_MRAMSTAT, 0x40260304, 0, 0x0, 0, 0x0, 32, [fd .FAB_MRAMSTAT_BUSY 0 1 .ro,
      fd .FAB_MRAMSTAT_FILL 1 4 .ro,
      fd .FAB_MRAMSTAT_PROT 5 1 .w1c,
      fd .FAB_MRAMSTAT_PGMERR 6 1 .w1c]⟩]

/-- The register tables of spec/13_cupola_thermal.md. -/
def regsCupola : List RegDesc := [
  -- CUP_CTRL
  ⟨.CUP_CTRL, 0x401E0000, 0, 0x0, 0, 0x0, 32, [fd .CUP_CTRL_EXIT 0 1 .wo]⟩,
  -- CUP_CFG
  ⟨.CUP_CFG, 0x401E0004, 0, 0x0, 0, 0x0, 32, [fd .CUP_CFG_GRACE 0 10 .rw,
      fd .CUP_CFG_PLAUS 10 5 .rw,
      fd .CUP_CFG_CLKDIV 15 2 .rw]⟩,
  -- CUP_STAT
  ⟨.CUP_STAT, 0x401E0008, 0, 0x0, 0, 0x0, 32, [fd .CUP_STAT_LEVEL 0 2 .ro,
      fd .CUP_STAT_SHUT 2 1 .ro,
      fd .CUP_STAT_ENFCLK 3 1 .ro,
      fd .CUP_STAT_ENFCUR 4 1 .ro,
      fd .CUP_STAT_GRACECLK 5 1 .ro,
      fd .CUP_STAT_GRACECUR 6 1 .ro,
      fd .CUP_STAT_DEFER 7 1 .w1c,
      fd .CUP_STAT_THROT 8 1 .ro]⟩,
  -- CUP_CLASS[c]_THRA
  ⟨.CUP_CLASS_THRA, 0x401E0020, 3, 0x10, 0, 0x0, 32, [fd .CUP_CLASS_THRA_WARN 0 16 .rw,
      fd .CUP_CLASS_THRA_THROT 16 16 .rw]⟩,
  -- CUP_CLASS[c]_THRB
  ⟨.CUP_CLASS_THRB, 0x401E0024, 3, 0x10, 0, 0x0, 32, [fd .CUP_CLASS_THRB_SHUT 0 16 .rw]⟩,
  -- CUP_CLASS[c]_HYST
  ⟨.CUP_CLASS_HYST, 0x401E0028, 3, 0x10, 0, 0x0, 32, [fd .CUP_CLASS_HYST_HW 0 8 .rw,
      fd .CUP_CLASS_HYST_HT 8 8 .rw,
      fd .CUP_CLASS_HYST_HS 16 8 .rw]⟩,
  -- CUP_SNS[i]_CFG
  ⟨.CUP_SNS_CFG, 0x401E0100, 22, 0x20, 0, 0x0, 32, [fd .CUP_SNS_CFG_EN 0 1 .rw,
      fd .CUP_SNS_CFG_GRP 1 3 .rw,
      fd .CUP_SNS_CFG_CONV 4 4 .rw,
      fd .CUP_SNS_CFG_INPUT 8 2 .rw]⟩,
  -- CUP_SNS[i]_P0
  ⟨.CUP_SNS_P0, 0x401E0104, 22, 0x20, 0, 0x0, 32, [fd .CUP_SNS_P0_P 0 32 .rw]⟩,
  -- CUP_SNS[i]_P1
  ⟨.CUP_SNS_P1, 0x401E0108, 22, 0x20, 0, 0x0, 32, [fd .CUP_SNS_P1_P 0 32 .rw]⟩,
  -- CUP_SNS[i]_P2
  ⟨.CUP_SNS_P2, 0x401E010C, 22, 0x20, 0, 0x0, 32, [fd .CUP_SNS_P2_P 0 32 .rw]⟩,
  -- CUP_SNS[i]_TEMP
  ⟨.CUP_SNS_TEMP, 0x401E0110, 22, 0x20, 0, 0x0, 32, [fd .CUP_SNS_TEMP_TEMP 0 16 .ro,
      fd .CUP_SNS_TEMP_LEVEL 16 2 .ro,
      fd .CUP_SNS_TEMP_BROKEN 18 1 .ro,
      fd .CUP_SNS_TEMP_REASON 19 3 .ro,
      fd .CUP_SNS_TEMP_NEAR 22 1 .ro]⟩,
  -- CUP_LIM[n]_TGT
  ⟨.CUP_LIM_TGT, 0x401E0400, 8, 0x20, 0, 0x0, 32, [fd .CUP_LIM_TGT_EN 0 1 .rw,
      fd .CUP_LIM_TGT_LANE 1 5 .rw,
      fd .CUP_LIM_TGT_REG 6 6 .rw]⟩,
  -- CUP_LIM[n]_NOM
  ⟨.CUP_LIM_NOM, 0x401E0408, 8, 0x20, 0, 0x0, 48, [fd .CUP_LIM_NOM_V 0 48 .rw]⟩,
  -- CUP_LIM[n]_FLOOR
  ⟨.CUP_LIM_FLOOR, 0x401E0410, 8, 0x20, 0, 0x0, 48, [fd .CUP_LIM_FLOOR_V 0 48 .rw]⟩,
  -- CUP_LIM[n]_STEP
  ⟨.CUP_LIM_STEP, 0x401E0418, 8, 0x20, 0, 0x0, 48, [fd .CUP_LIM_STEP_V 0 48 .rw]⟩,
  -- CUP_REC
  ⟨.CUP_REC, 0x401E0600, 0, 0x0, 0, 0x0, 32, [fd .CUP_REC_NEXT 0 12 .ro]⟩,
  -- CUP_RECSEQ
  ⟨.CUP_RECSEQ, 0x401E0604, 0, 0x0, 0, 0x0, 32, [fd .CUP_RECSEQ_SEQ 0 32 .ro]⟩,
  -- CUP_CNT
  ⟨.CUP_CNT, 0x401E0608, 0, 0x0, 0, 0x0, 32, [fd .CUP_CNT_THROTCNT 0 16 .rc,
      fd .CUP_CNT_ENFCNT 16 16 .rc]⟩]

/-- The register tables of spec/14_fyzal_host.md. -/
def regsFyzal : List RegDesc := [
  -- FYZ_CFG
  ⟨.FYZ_CFG, 0x40220000, 0, 0x0, 0, 0x0, 32, [fd .FYZ_CFG_SAFEPORTS 0 5 .rw,
      fd .FYZ_CFG_IDLE 5 8 .rw,
      fd .FYZ_CFG_POKEEN 13 1 .rw]⟩,
  -- FYZ_STAT
  ⟨.FYZ_STAT, 0x40220004, 0, 0x0, 0, 0x0, 32, [fd .FYZ_STAT_ESTOPPWM 0 1 .ro,
      fd .FYZ_STAT_ESTOPLAE 1 1 .ro,
      fd .FYZ_STAT_MGMTUP 2 1 .ro,
      fd .FYZ_STAT_SESS 3 5 .ro,
      fd .FYZ_STAT_DBG 8 1 .ro]⟩,
  -- FYZ_RESUME
  ⟨.FYZ_RESUME, 0x40220008, 0, 0x0, 0, 0x0, 32, [fd .FYZ_RESUME_PWM 0 1 .wo,
      fd .FYZ_RESUME_LAE 1 1 .wo]⟩,
  -- FYZ_DBG
  ⟨.FYZ_DBG, 0x4022000C, 0, 0x0, 0, 0x0, 32, [fd .FYZ_DBG_EN 0 1 .rw]⟩,
  -- FYZ_PORT[p]_CFG
  ⟨.FYZ_PORT_CFG, 0x40220100, 5, 0x20, 0, 0x0, 32, [fd .FYZ_PORT_CFG_EN 0 1 .rw,
      fd .FYZ_PORT_CFG_NOTMASK 1 8 .rw]⟩,
  -- FYZ_PORT[p]_ERR
  ⟨.FYZ_PORT_ERR, 0x40220104, 5, 0x20, 0, 0x0, 32, [fd .FYZ_PORT_ERR_HDRERR 0 8 .rc,
      fd .FYZ_PORT_ERR_CRCERR 8 8 .rc,
      fd .FYZ_PORT_ERR_OVERRUN 16 8 .rc,
      fd .FYZ_PORT_ERR_FRAMING 24 8 .rc]⟩,
  -- FYZ_UART_BAUD
  ⟨.FYZ_UART_BAUD, 0x40220200, 0, 0x0, 0, 0x0, 32, [fd .FYZ_UART_BAUD_DIV 0 12 .rw,
      fd .FYZ_UART_BAUD_FRAC 12 4 .rw]⟩,
  -- FYZ_CAN[n]_ID
  ⟨.FYZ_CAN_ID, 0x40220240, 2, 0x20, 0, 0x0, 32, [fd .FYZ_CAN_ID_RXID 0 11 .rw,
      fd .FYZ_CAN_ID_TXID 16 11 .rw]⟩,
  -- FYZ_CAN[n]_NBT
  ⟨.FYZ_CAN_NBT, 0x40220244, 2, 0x20, 0, 0x0, 32, [fd .FYZ_CAN_NBT_BRP 0 5 .rw,
      fd .FYZ_CAN_NBT_TSEG1 5 9 .rw,
      fd .FYZ_CAN_NBT_TSEG2 14 7 .rw,
      fd .FYZ_CAN_NBT_SJW 21 7 .rw]⟩,
  -- FYZ_CAN[n]_DBT
  ⟨.FYZ_CAN_DBT, 0x40220248, 2, 0x20, 0, 0x0, 32, [fd .FYZ_CAN_DBT_BRP 0 5 .rw,
      fd .FYZ_CAN_DBT_TSEG1 5 6 .rw,
      fd .FYZ_CAN_DBT_TSEG2 11 5 .rw,
      fd .FYZ_CAN_DBT_SJW 16 5 .rw,
      fd .FYZ_CAN_DBT_TDC 21 1 .rw]⟩,
  -- FYZ_CAN[n]_ECNT
  ⟨.FYZ_CAN_ECNT, 0x4022024C, 2, 0x20, 0, 0x0, 32, [fd .FYZ_CAN_ECNT_TEC 0 8 .ro,
      fd .FYZ_CAN_ECNT_REC 8 8 .ro,
      fd .FYZ_CAN_ECNT_STATE 16 2 .ro,
      fd .FYZ_CAN_ECNT_BUSOFF 24 8 .rc]⟩,
  -- FYZ_PMB_CFG
  ⟨.FYZ_PMB_CFG, 0x40220300, 0, 0x0, 0, 0x0, 32, [fd .FYZ_PMB_CFG_ADDR 0 7 .rw,
      fd .FYZ_PMB_CFG_PECREQ 7 1 .rw,
      fd .FYZ_PMB_CFG_EN 8 1 .rw]⟩,
  -- FYZ_PMB_SRC[k]
  ⟨.FYZ_PMB_SRC, 0x40220310, 4, 0x4, 0, 0x0, 32, [fd .FYZ_PMB_SRC_INDEX 0 16 .rw,
      fd .FYZ_PMB_SRC_EN 16 1 .rw]⟩,
  -- FYZ_SP[n]_TGT
  ⟨.FYZ_SP_TGT, 0x40220800, 64, 0x20, 0, 0x0, 32, [fd .FYZ_SP_TGT_EN 0 1 .rw,
      fd .FYZ_SP_TGT_LANE 1 5 .rw,
      fd .FYZ_SP_TGT_REG 6 6 .rw]⟩,
  -- FYZ_SP[n]_MIN
  ⟨.FYZ_SP_MIN, 0x40220808, 64, 0x20, 0, 0x0, 48, [fd .FYZ_SP_MIN_V 0 48 .rw]⟩,
  -- FYZ_SP[n]_MAX
  ⟨.FYZ_SP_MAX, 0x40220810, 64, 0x20, 0, 0x0, 48, [fd .FYZ_SP_MAX_V 0 48 .rw]⟩]

/-- Every register table of the spec. -/
def regTable : List RegDesc :=
  regsFabric ++
  regsSense ++
  regsCmp ++
  regsPwm ++
  regsSpire ++
  regsLane ++
  regsLae ++
  regsTimer ++
  regsCore ++
  regsTwin ++
  regsPower ++
  regsCupola ++
  regsFyzal

/-- The length in bits of a field. -/
def Fld.len : Fld → Nat
  | .SDL_BANK_CLASS_CLS0 | .SDL_BANK_CLASS_CLS1 | .SDL_BANK_CLASS_CLS2 | .SDL_BANK_CLASS_CLS3
  | .SDL_BANK_CLASS_CLS4 | .SDL_BANK_CLASS_CLS5 | .SDL_BANK_CLASS_CLS6 | .SDL_BANK_CLASS_CLS7
  | .SDL_BANK_CLASS_CLS8 | .SDL_BANK_CLASS_CLS9 | .SDL_BANK_CLASS_CLS10 | .SDL_BANK_CLASS_CLS11
  | .SDL_BANK_CLASS_CLS12 | .SDL_BANK_CLASS_CLS13 | .SDL_BANK_CLASS_CLS14 | .SDL_BANK_CLASS_CLS15
  | .ADC_SLOT_W0_EXC | .CMP_CFG_MODE | .CMP_CFG_FUNC | .CMP_CFG_HYST | .CMP_MIR_TAP | .PWM_CH_CFG_MODE
  | .PWM_CH_ACT_WRAP | .PWM_CH_ACT_A | .PWM_CH_ACT_B | .PWM_CH_ACT_C | .PWM_CH_ACT_D | .PWM_CH_FORCE_FH
  | .PWM_CH_FORCE_FL | .LANE_STAT_STATE | .LAE_XCFG_XSAFE | .LAE_FEED_CFG_ZXHYST | .LAE_FEED_XF_FIRST
  | .LAE_PAIR_CFG_PHASE | .LAE_PAIR_CFG_MODE | .LAE_PAIR_CFG_STRAT | .TMR_ACT_A0 | .TMR_ACT_A1 | .TMR_ACT_A2
  | .TMR_ACT_A3 | .BFY_CORE_STAT_PHASE | .BFY_ROT_PTR | .FAB_LSSTAT_KIND | .TTH_STREAM_W0_MODE
  | .PMG_DOMSTAT_STATE | .PMG_DOMSTAT_TARGET | .PMG_DOMSTAT_REPORT | .CUP_CFG_CLKDIV | .CUP_STAT_LEVEL
  | .CUP_SNS_CFG_INPUT | .CUP_SNS_TEMP_LEVEL | .FYZ_CAN_ECNT_STATE => 2
  | .FAB_DMA_CTRL_BURST | .ADC_SLOT_W0_INPUT | .ADC_SLOT_W0_OSR | .CMP_CFG_TEAM | .PWM_CH_CFG_TEAM
  | .LANE_ACTINFO_GEN | .TTH_STAT_ROLE | .TTH_SNSCFG_TEAM | .TTH_LINKSTAT_SKEW | .TTH_STREAM_W0_KIND
  | .CUP_SNS_CFG_GRP | .CUP_SNS_TEMP_REASON => 3
  | .SDL_BANK_AGE_THRESH | .SDL_BANK_WAITMAX_WHO | .FAB_ERRSTAT_MASTER | .ADC_SLOT_W0_CONV | .ADC_SLOT_W1_TRK
  | .ADC_SLOT_W1_TAG | .SDM_CFG_WIN | .CMP_CFG_FN | .CMP_CFG_FM | .PWM_CH_EVCFG_PSWRAP | .PWM_CH_EVCFG_PSPRD
  | .PWM_CH_EVCFG_PSA | .PWM_CH_EVCFG_PSB | .PWM_CH_EVCFG_PSC | .PWM_CH_EVCFG_PSD | .SPR_DITH_IDX
  | .LANE_STAT_CAUSE | .LANE_POST_TAG | .LANE_ACTINFO_TAG | .LAE_PAIR_CFG_RISE | .LAE_PAIR_PULSE_LATN
  | .TMR_EVCFG_CEN | .TMR_STAT_CSEEN | .TMR_WIDESTAT_MASTER | .HRN_SWEV_EV | .BFY_SPURLAST_MASTER
  | .BFY_CORE_STAT_LVL | .BFY_SRC_CFG_PRIO | .BFY_SRC_CFG_CMASK | .LCK_ACQ_OWNLVL | .LCK_ACQ_OWNMST
  | .LCK_STAT_OWNLVL | .LCK_STAT_OWNMST | .TTH_CFG_DIVN | .PMG_BOOTSTAT_FAIL0 | .PMG_BOOTSTAT_FAIL1
  | .FAB_MRAMSTAT_FILL | .CUP_SNS_CFG_CONV | .FYZ_UART_BAUD_FRAC => 4
  | .ADC_SLOT_W1_LANE | .ADC_SLOT_W1_SCALE | .HRN_LOOPDROP_LANE | .BFY_CORE_STAT_RPRIO | .TTH_STREAM_W0_LANE
  | .CUP_CFG_PLAUS | .CUP_LIM_TGT_LANE | .FYZ_CFG_SAFEPORTS | .FYZ_STAT_SESS | .FYZ_CAN_NBT_BRP
  | .FYZ_CAN_DBT_BRP | .FYZ_CAN_DBT_TSEG2 | .FYZ_CAN_DBT_SJW | .FYZ_SP_TGT_LANE => 5
  | .CMP_MIR_SEL | .PWM_CH_EVCFG_EN | .LANE_QSTAT_COUNT | .LANE_QSTAT_HWM | .HRN_ROUTE_CH | .HRN_ROUTENX_CH
  | .HRN_RTCTRL_BCH | .LCK_BREAK_LOCK | .TTH_CFG_FRAMECH | .TTH_STREAM_W0_FIRST | .TTH_STREAM_W1_TOLEXP
  | .CUP_LIM_TGT_REG | .FYZ_CAN_DBT_TSEG1 | .FYZ_SP_TGT_REG => 6
  | .ADC_SKIPCNT_LAST | .ADC_RESINFO_ENTRY | .ADC_RESINFO_SEQ | .PWM_CH_CMPA_FINE | .PWM_CH_CMPB_FINE
  | .PWM_CH_CMPC_FINE | .PWM_CH_CMPD_FINE | .PWM_CH_ACMPA_FINE | .PWM_CH_ACMPB_FINE | .PWM_CH_ACMPC_FINE
  | .PWM_CH_ACMPD_FINE | .LANE_ACTINFO_SRC | .TTH_STREAM_W1_COUNT | .FYZ_CAN_NBT_TSEG2 | .FYZ_CAN_NBT_SJW
  | .FYZ_PMB_CFG_ADDR => 7
  | .SDL_BANK_WAITMAX_CYCLES | .ADC_SLOT_W0_DLY | .ADC_SLOT_W1_OCC | .REIN_PINCFG_LEN | .PWM_CH_CFG_ESC
  | .PWM_CH_REFR_REFN | .PWM_CH_STAT_CUTCNT | .PWM_TEAMLOAD_LOAD | .PWM_TEAMRUN_RUN | .SPR_LINE_UPDCNT
  | .LANE_TEAMMASK_TEAM | .LAE_XCFG_QUAL | .LAE_XCFG_RETDLY | .LAE_FEED_CFG_SAGTH | .LAE_FEED_CWIN_ZXAGREE
  | .LAE_PAIR_PULSE_TON | .LAE_PAIR_PULSE_TPER | .TMR_CFG_PSC | .HRN_COINCIDE_LAST | .TTH_CFG_WAITB
  | .TTH_SNSCFG_MASK | .TTH_LINKSTAT_FAILS | .TTH_DIVCNT_LAST | .TTH_DIVCNT_SKIP | .PMG_HOLD_HOLD
  | .PMG_RSTCAUSE_WDTCNT | .PMG_WDTKICK_KEY | .CUP_CLASS_HYST_HW | .CUP_CLASS_HYST_HT | .CUP_CLASS_HYST_HS
  | .FYZ_CFG_IDLE | .FYZ_PORT_CFG_NOTMASK | .FYZ_PORT_ERR_HDRERR | .FYZ_PORT_ERR_CRCERR | .FYZ_PORT_ERR_OVERRUN
  | .FYZ_PORT_ERR_FRAMING | .FYZ_CAN_ECNT_TEC | .FYZ_CAN_ECNT_REC | .FYZ_CAN_ECNT_BUSOFF => 8
  | .ADC_FRAME_SRC | .ADC_SLOT_W0_TRIG | .LANE_PC_PC | .LANE_PC_FPC | .LANE_VEC_ENTRY | .BFY_DOORBELL_SRC
  | .BFY_COMPLETE_SRC | .BFY_SPURLAST_SRC | .BFY_DBERR_LAST | .BFY_CORE_STAT_SRC | .FYZ_CAN_NBT_TSEG1 => 9
  | .LANE_CFG_BUDGET | .LAE_XCFG_MARG | .LAE_FEED_CFG_SAGN | .TTH_OWNCFG_LEAD | .CUP_CFG_GRACE => 10
  | .FYZ_CAN_ID_RXID | .FYZ_CAN_ID_TXID => 11
  | .ADC_CAL_OFFTRIM | .SDM_CTRL_EN | .SDM_STAT_OVR | .CMP_THR_LTH | .CMP_THR_UTH | .CMP_ATHR_LTH
  | .CMP_ATHR_UTH | .PWM_CH_REFR_REFW | .LAE_FEED_CWIN_CWIN | .LAE_PAIR_SLEW_SLEW | .LAE_PAIR_SLEW_CZMARG
  | .TTH_OWNCFG_QUAL | .CUP_REC_NEXT | .FYZ_UART_BAUD_DIV => 12
  | .SPR_LINE_S => 13
  | .PMG_DOMSTAT_OFFEXIT => 14
  | .SDL_ECCCOR_COUNT | .SDL_ECCUNC_COUNT | .SDL_ECCADDR_INDEX | .FAB_ERRCNT_COUNT | .FAB_DMA_CTRL_CNT
  | .ADC_CTRL_EN | .ADC_SKIPCNT_COUNT | .ADC_QFULLCNT_COUNT | .ADC_RESINFO_CODE | .ADC_CAL_GAINTRIM
  | .SDM_STAT_SEQ | .SDM_RES_PHASE_V | .CMP_LATCHHI_LATCH | .CMP_CLRREJHI_CLRREJ | .REIN_CMPHI_MASK
  | .REIN_PIN_MASK | .REIN_STAT_ACTIVE | .REIN_STICKY_SEEN | .REIN_SWTRIP_FORCE | .REIN_PINSTAT_STATE
  | .REIN_DBELL_EN | .PWM_CH_DTR_DT | .PWM_CH_DTF_DT | .PWM_CH_TRIPMASK_MASK | .PWM_CH_ADTR_DT
  | .PWM_CH_ADTF_DT | .SPR_LOCKHI_LOCK | .SPR_FAULTHI_FAULT | .SPR_NARROWHI_NARROW | .SPR_STARVEDHI_STARVED
  | .LANE_DISCCNT_COUNT | .LANE_DROPCNT_QFULL | .LANE_DROPCNT_LOOP | .LANE_ECCCNT_PMCOR | .LANE_CYC_LAST
  | .LANE_CYC_MAX | .LAE_XSTAT_DUR | .LAE_XCNT_COUNT | .LAE_NET_DLY | .LAE_NET_POLE | .LAE_ZXDLY_DLY
  | .LAE_FEED_ANGLE_FRAC | .LAE_FEED_ANGLE_TICKS | .LAE_FEED_BAD_COUNT | .LAE_FEED_EVANG_ANGLE
  | .LAE_FEED_XF_XDLY | .LAE_FEED_PRECFG_ASTART | .LAE_FEED_PRESTAT_ALPHA | .LAE_PAIR_ANG_ALPHA
  | .LAE_PAIR_ANG_END | .LAE_PAIR_CUR_IZ | .LAE_PAIR_CUR_ILATCH | .LAE_PAIR_STAT_AACT | .LAE_PAIR_CNT_MISCNT
  | .LAE_PAIR_CNT_SYMCNT | .TMR_GO_GO | .TMR_HALT_HALT | .HRN_COINCIDE_COUNT | .HRN_LOOPDROP_COUNT
  | .BFY_SPURCNT_COUNT | .BFY_MERGECNT_COUNT | .LCK_RELERR_COUNT | .LCK_BROKENCNT_COUNT | .TTH_LAT_ONEWAY
  | .TTH_ERRCNT_CODEERR | .TTH_ERRCNT_CRCERR | .TTH_FRMCNT_SKIP | .TTH_FRMCNT_GAP | .TTH_DIVCNT_DIV
  | .TTH_DISC_TRIM | .TTH_DISC_ERR | .TTH_PARTNER_WORD | .TTH_STREAM_W0_INDEX | .TTH_STREAM_W1_TOL
  | .TTH_BULK_W0_INDEX | .TTH_BULK_W1_COUNT | .PMG_BOOTSTAT_LIVEUS | .PMG_WDT_PERIOD | .CUP_CLASS_THRA_WARN
  | .CUP_CLASS_THRA_THROT | .CUP_CLASS_THRB_SHUT | .CUP_SNS_TEMP_TEMP | .CUP_CNT_THROTCNT | .CUP_CNT_ENFCNT
  | .FYZ_PMB_SRC_INDEX => 16
  | .SDM_FAST_DATA => 18
  | .PWM_CH_PRD_PRD | .PWM_CH_PHS_PHS | .PWM_CH_CMPA_COARSE | .PWM_CH_CMPB_COARSE | .PWM_CH_CMPC_COARSE
  | .PWM_CH_CMPD_COARSE | .PWM_CH_APRD_PRD | .PWM_CH_APHS_PHS | .PWM_CH_ACMPA_COARSE | .PWM_CH_ACMPB_COARSE
  | .PWM_CH_ACMPC_COARSE | .PWM_CH_ACMPD_COARSE | .PWM_CH_CNT_COUNT | .LANE_DUTYMASK_CH | .TTH_KEEP_KEEP => 24
  | .FAB_DMA_SRC_ADDR | .FAB_DMA_DST_ADDR => 29
  | .FAB_CORE_CTRL_BOOT => 30
  | .BFY_SRC_VEC_ADDR => 31
  | .FAB_ERRADDR_ADDR | .CMP_LATCHLO_LATCH | .CMP_CLRREJLO_CLRREJ | .REIN_CMPLO_MASK | .SPR_LOCKLO_LOCK
  | .SPR_FAULTLO_FAULT | .SPR_NARROWLO_NARROW | .SPR_STARVEDLO_STARVED | .LANE_TASKTAG_TAG | .TMR_CNT_COUNT
  | .TMR_RELOAD_RELOAD | .TMR_CMP_CMP | .TMR_ACMP_CMP | .TMR_LTC_LO_LOW | .TMR_LTC_HI_HIGH | .HRN_CH_MASK_MASK
  | .HRN_CHSEENLO_SEEN | .HRN_CHSEENHI_SEEN | .BFY_PEND_W | .BFY_PENDSET_W | .BFY_PENDCLR_W | .BFY_MASK_W
  | .BFY_MASKSET_W | .BFY_MASKCLR_W | .BFY_ACTIVE_W | .LCK_HELDLO_HELD | .LCK_HELDHI_HELD | .PMG_BUDGET_US
  | .CUP_SNS_P0_P | .CUP_SNS_P1_P | .CUP_SNS_P2_P | .CUP_RECSEQ_SEQ => 32
  | .ADC_SCALE_GAIN_GAIN | .ADC_SCALE_OFFSET_OFFSET | .ADC_RES_VALUE | .SDM_SCALE_FS | .SDM_RES_RMS_V
  | .SDM_RES_THD_V | .SDM_RES_MAG_V | .SDM_RES_P_V | .SDM_RES_Q_V | .SDM_RES_S_V | .SDM_RES_PF_V
  | .LANE_POSTOP_OPERAND | .LANE_LREG_VALUE | .LAE_REM_PSI | .LAE_FEED_KP_KP | .LAE_FEED_KI_KI
  | .LAE_FEED_FREQ_FREQ | .LAE_FEED_AMP_AMP | .LAE_FEED_AMPP_AMPP | .LAE_FEED_VMIN_VMIN
  | .LAE_FEED_PRECAP_PRECAP | .LAE_FEED_PREIND_PREIND | .LAE_FEED_PRELIM_PRELIM | .LAE_FEED_PREVC_PREVC
  | .CUP_LIM_NOM_V | .CUP_LIM_FLOOR_V | .CUP_LIM_STEP_V | .FYZ_SP_MIN_V | .FYZ_SP_MAX_V => 48
  | .SDM_RES_EIMP_V | .SDM_RES_EEXP_V | .LANE_PMEM_INSTR => 64
  | _ => 1

/-- The reset value of a field (R16); `i` and `j` are the indices of the register. A field absent here resets to 0.
The values that depend on the seat are those of seat A (log entry 4); LANE_PMEM, whose contents the spec leaves
undefined, is 0 (log entry 3). -/
def Fld.reset : Fld → Nat → Nat → Nat
  | .SDL_BANK_CLASS_CLS15, _, _
  | .FAB_CLKSTAT_AON_OSC, _, _
  | .ADC_SLOT_W1_OCC, _, _
  | .ADC_CAL_AUTOCAL, _, _
  | .CMP_CFG_BYP, _, _
  | .CMP_CFG_FN, _, _
  | .CMP_CFG_FM, _, _
  | .PWM_CH_REFR_REFW, _, _
  | .LAE_XSTAT_NONE, _, _
  | .FAB_CORE_CTRL_RST, _, _
  | .TTH_CTRL_LANEEN0, _, _
  | .TTH_CTRL_LANEEN1, _, _
  | .TTH_CFG_PAIRED, _, _
  | .TTH_CFG_DIVTAKE, _, _
  | .TTH_STREAM_W1_COUNT, _, _
  | .PMG_RSTCAUSE_POR, _, _
  | .CUP_CFG_CLKDIV, _, _
  | .FYZ_PORT_CFG_EN, _, _
  | .FYZ_CAN_NBT_BRP, _, _
  | .FYZ_CAN_DBT_TDC, _, _
  | .FYZ_PMB_CFG_EN, _, _ => 0x1
  | .SDL_BANK_CLASS_CLS8, _, _
  | .SDL_BANK_CLASS_CLS9, _, _
  | .SDL_BANK_CLASS_CLS10, _, _
  | .SDL_BANK_CLASS_CLS11, _, _
  | .SDL_BANK_CLASS_CLS12, _, _
  | .LAE_FEED_CWIN_ZXAGREE, _, _
  | .FYZ_UART_BAUD_FRAC, _, _ => 0x2
  | .SDL_BANK_CLASS_CLS13, _, _
  | .SDL_BANK_CLASS_CLS14, _, _
  | .LAE_PAIR_PULSE_LATN, _, _
  | .TTH_CFG_DIVN, _, _ => 0x3
  | .FAB_DMA_CTRL_BURST, _, _ => 0x7
  | .SDL_BANK_AGE_THRESH, _, _
  | .PWM_CH_PRD_PRD, _, _
  | .PWM_CH_APRD_PRD, _, _ => 0x8
  | .SDM_CFG_WIN, _, _ => 0x9
  | .LAE_PAIR_PULSE_TON, _, _
  | .FYZ_CAN_DBT_TSEG2, _, _
  | .FYZ_CAN_DBT_SJW, _, _ => 0xA
  | .CUP_CFG_PLAUS, _, _ => 0xF
  | .BFY_CORE_STAT_RPRIO, _, _
  | .CUP_CLASS_HYST_HW, _, _
  | .CUP_CLASS_HYST_HT, _, _
  | .FYZ_CAN_NBT_TSEG2, _, _
  | .FYZ_CAN_NBT_SJW, _, _ => 0x10
  | .LAE_PAIR_PULSE_TPER, _, _
  | .LAE_PAIR_SLEW_CZMARG, _, _ => 0x14
  | .FYZ_UART_BAUD_DIV, _, _ => 0x1B
  | .FYZ_CAN_DBT_TSEG1, _, _ => 0x1D
  | .FYZ_CFG_IDLE, _, _ => 0x1E
  | .FYZ_CFG_SAFEPORTS, _, _ => 0x1F
  | .CUP_CLASS_HYST_HS, _, _ => 0x28
  | .LAE_PAIR_CUR_IZ, _, _
  | .TTH_CFG_WAITB, _, _
  | .CUP_CFG_GRACE, _, _ => 0x32
  | .LAE_XCFG_RETDLY, _, _ => 0x3C
  | .FYZ_CAN_NBT_TSEG1, _, _ => 0x3F
  | .TTH_OWNCFG_LEAD, _, _ => 0x50
  | .LAE_XCFG_QUAL, _, _
  | .LAE_PAIR_CUR_ILATCH, _, _ => 0x64
  | .FYZ_PORT_CFG_NOTMASK, _, _ => 0xA1
  | .LAE_PAIR_SLEW_SLEW, _, _ => 0xB6
  | .LAE_XCFG_MARG, _, _
  | .LAE_FEED_CFG_SAGN, _, _ => 0xC8
  | .LAE_FEED_CFG_SAGTH, _, _ => 0xCD
  | .TTH_OWNCFG_QUAL, _, _ => 0x320
  | .PMG_WDT_PERIOD, _, _ => 0x3E8
  | .LAE_FEED_CWIN_CWIN, _, _ => 0x71C
  | .SPR_LINE_S, _, _ => 0xB00
  | .CMP_THR_UTH, _, _
  | .CMP_ATHR_UTH, _, _ => 0xFFF
  | .LAE_FEED_XF_XDLY, _, _ => 0x4000
  | .LAE_FEED_PRECFG_ASTART, _, _ => 0x6AAB
  | .LAE_PAIR_ANG_END, _, _ => 0x7FFF
  | .ADC_CAL_GAINTRIM, _, _ => 0x8000
  | .TMR_RELOAD_RELOAD, _, _
  | .BFY_MASK_W, _, _ => 0xFFFFFFFF
  | .ADC_SCALE_GAIN_GAIN, _, _ => 0x100000000
  | .LAE_FEED_KP_KP, _, _ => 0x11B00000000
  | .LAE_FEED_KI_KI, _, _ => 0x606200000000
  | .CUP_CLASS_THRA_WARN, i, _ => if i = 0 then 0x690 else if i = 1 then 0x640 else 0x5A0
  | .CUP_CLASS_THRA_THROT, i, _ => if i = 0 then 0x760 else if i = 1 then 0x6E0 else 0x640
  | .CUP_CLASS_THRB_SHUT, i, _ => if i = 0 then 0x820 else if i = 1 then 0x780 else 0x6E0
  | .CUP_SNS_CFG_EN, i, _ => if i ≤ 9 then 1 else 0
  | .FYZ_CAN_ID_RXID, _, _ => 0x680
  | .FYZ_CAN_ID_TXID, _, _ => 0x681
  | .FYZ_PMB_CFG_ADDR, _, _ => 0x58
  | _, _, _ => 0

end Sys2Proof
end

