-- ==== Sys2Proof/Machine/State.lean ====
section
/-! DEFINITION. The state of the machine, as plain data: every register field of the spec in one store, the state the
spec's rules name without a register, and the queue of waiting commands. -/

namespace Sys2Proof.Machine

/-- Why the machine stops. No rule of the spec gives the block a stop: an access error is an error response and a record
in FAB_ERRSTAT (R24), and every command has an effect or none. The type has no constructor; nothing raises it (safe). -/
inductive Fault
  deriving DecidableEq, Repr

/-- Why a command is turned away. -/
inductive Refusal where
  /-- Raised by an arm of the dispatch whose command has no meaning yet; safe. -/
  | notModelled (mnemonic : String)
  deriving DecidableEq, Repr

/-! ### Fabric, Saddle store, DMA (spec/01_fabric_clocks.md) -/

/-- What a fabric read returned to its master: the data, and whether it was an error response (R24). -/
structure Resp where
  data : Nat
  err : Bool
  deriving DecidableEq, Repr, Inhabited

/-- Bits of a W1C field that hardware has set in the present cycle of its domain (R17): the tick and the lane edge of the cycle, the
field and the bits. -/
structure HwSet where
  tick : Nat
  edge : Nat
  key : FKey
  set : Nat
  deriving DecidableEq, Repr

/-- What one master port of the fabric holds. -/
structure MasterPort where
  /-- The write-staging register of R31: slot address and low half. -/
  wstage : Option (Nat × Nat) := none
  /-- The read-holding register of R33: slot address and the upper bits it latched. -/
  rhold : Option (Nat × Nat) := none
  /-- The staged word 0 of a slot entry (R71): entry and word. -/
  slotW0 : Option (Nat × Nat) := none
  /-- The staged word 0 of an active-bank entry (R75). -/
  slotActW0 : Option (Nat × Nat) := none
  /-- The staged leading half of a chained timer pair (R309): the register's address and the value. -/
  chain : Option (Nat × Nat) := none
  /-- The upper word of a wide read (R310): the register's address, the word and the tick it was latched in. -/
  wide : Option (Nat × Nat × Nat) := none
  /-- The upper words of energy counters, latched by reads of the lower ones (R88): address and word. -/
  energy : List (Nat × Nat) := []
  /-- The last response the port returned. -/
  resp : Option Resp := none
  /-- A read of the master is outstanding: at a Saddle bank, in the partner window, or held for a domain. -/
  reading : Bool := false
  deriving DecidableEq, Repr, Inhabited

/-- Who waits for the words of a Saddle request. -/
inductive SdlUse where
  /-- A load of lane `k` into consecutive registers from `rd` (R221). -/
  | laneLoad (k rd : Nat)
  /-- A store of lane `k`. -/
  | laneStore (k : Nat)
  /-- A core's read of one half of a word (`hi`), for the master's port. -/
  | coreRead (m : Nat) (hi : Bool)
  /-- A core's write of a whole word. -/
  | coreWrite (m : Nat)
  /-- A core's locked read-modify-write of the upper half (R32). -/
  | coreRmw (m : Nat)
  /-- The read or write phase of a burst of DMA engine `n` (R53); a read's first word goes to place `pos` of its buffer. -/
  | dmaRead (n pos : Nat)
  | dmaWrite (n : Nat)
  /-- The Tether shadow engine: the words of a snapshot, those of a sync, words it writes. -/
  | shadowRead
  | syncRead
  | shadowWrite
  /-- A word the partner reads through its window (R28), for its master `m`. -/
  | windowRead (m : Nat)
  /-- The ROM's read of PMBus source `k` (R482). -/
  | pmbRead (k : Nat)
  deriving DecidableEq, Repr

/-- A request at a Saddle bank (R42): the requester of R41, a sequence number (order of issue), the first word index, the
number of beats, the words to write when it writes, its use, the edge of its issue and, once it is asserted at its bank, of
that cycle (R51), whether it is still held in the port of a lane (R194), whether it is the second part of a split request (R42), and
whether it is asserted: the first of its requester that may go to its bank (R27, R45). -/
structure SdlReq where
  who : Nat
  seq : Nat
  word : Nat
  beats : Nat
  write : Bool
  data : List Nat
  use : SdlUse
  since : Nat
  held : Bool
  tail : Bool
  asserted : Bool
  deriving DecidableEq, Repr

/-- One Saddle bank's arbiter. -/
structure SdlBank where
  /-- The rank order of each class over the sixteen requesters, highest first (R47). -/
  rank : Vector (List Nat) 4 := Vector.replicate 4 (List.range 16)
  /-- Loss counts (R50). -/
  loss : Vector Nat 16 := Vector.replicate 16 0
  /-- Aged requesters (R50). -/
  aged : Vector Bool 16 := Vector.replicate 16 false
  /-- The requests present. -/
  req : List SdlReq := []
  /-- Words corrected by a read and not written back yet (R43). -/
  writeback : List Nat := []
  /-- The line-time value of the edge of the next decision: on a busy bank the one that begins the owner's last beat (R45). -/
  nextDec : Nat := 0
  /-- The granted request, the beats of it done, the word a locked read-modify-write has read and whether it was uncorrectable. -/
  cur : Option SdlReq := none
  done : Nat := 0
  keep : Nat × Bool := (0, false)
  /-- The edge of the last beat. -/
  beatAt : Option Nat := none
  deriving DecidableEq, Repr, Inhabited

/-- A DMA engine's transfer in progress (R53). -/
structure Dma where
  /-- The next source and destination addresses, and the slots of the transfer not read yet. -/
  src : Nat := 0
  dst : Nat := 0
  left : Nat := 0
  /-- BURST + 1 of the transfer. -/
  burst : Nat := 8
  /-- Slots of the present burst still to read, and slots read and not written yet. -/
  toRead : Nat := 0
  buf : List Nat := []
  /-- EN was cleared: no further burst (R54). -/
  stopping : Bool := false
  /-- Parts of a Saddle request still at their banks, and its slots; a Saddle access has completed; it returned an error. -/
  parts : Nat := 0
  size : Nat := 0
  arrived : Bool := false
  err : Bool := false
  /-- A read through the partner window is outstanding. -/
  asked : Bool := false
  deriving DecidableEq, Repr, Inhabited

/-! ### SAR converters and sigma-delta inputs (spec/02_sensing_converters.md) -/

/-- A visit of a slot entry that holds a converter reserved (R61, R63), under the words it was accepted with (R72). -/
structure SarVisit where
  entry : Nat
  bank : Nat
  w0 : Nat
  w1 : Nat
  /-- The tick of the event, and of the next hold edge. -/
  start : Nat
  holdAt : Nat
  /-- Conversions still to hold. -/
  left : Nat
  /-- The sum of the corrected codes so far, in units of 2⁻²⁴ LSB (R64, R77). -/
  sum : Int
  code : Nat
  clip : Bool
  deriving DecidableEq, Repr

/-- A visit whose conversions are over, to be presented (R62). -/
structure SarResult where
  visit : SarVisit
  readyAt : Nat
  deriving DecidableEq, Repr

/-- A Cupola burst on a converter (R430): the sensor and which of a remote diode's two bursts it is. -/
structure CupBurst where
  sensor : Nat
  second : Bool
  start : Nat
  deriving DecidableEq, Repr

/-- A SAR converter. -/
structure Sar where
  visit : Option SarVisit := none
  /-- The tick the last conversion's reservation ends in (R63). -/
  freeAt : Nat := 0
  results : List SarResult := []
  burst : Option CupBurst := none
  /-- The corrected ZERO level last seen, differential and single-ended, in units of 2⁻²⁴ LSB (R78). -/
  zeroD : Option Int := none
  zeroS : Option Int := none
  deriving DecidableEq, Repr, Inhabited

/-- A slot write held at the ADC port while a bank copy runs (R74): master, entry, word, value. -/
structure HeldSlotWrite where
  m : Nat
  e : Nat
  w1 : Bool
  v : Nat
  deriving DecidableEq, Repr


/-- A metering window of a feed (R84, R85): the tick it starts in; while it follows the PLL, the last multiple of 256 line ticks the
angle has passed, and the ticks of these passages from a passage of 0 on, newest first. -/
structure MeterWin where
  start : Nat := 0
  last : Nat := 0
  marks : List Nat := []
  deriving DecidableEq, Repr, Inhabited
/-! ### Comparators and trip pins (spec/03_comparators_reins.md) -/

/-- What a window comparator holds beside its registers. -/
structure Cmp where
  /-- The voltage at its dedicated ball, in microvolts (R92). -/
  ballUv : Int := 0
  /-- The upper and the lower comparison (R98). -/
  upper : Bool := false
  lower : Bool := false
  /-- The samples of the majority filter, newest first, and whether the first is this tick's (R105). -/
  hist : List Bool := []
  sampled : Bool := false
  /-- A threshold preload waits for the team's wrap (R103). -/
  thrWait : Bool := false
  /-- The latch input has been active in this tick (R108). -/
  inTick : Bool := false
  /-- The tick of the last accepted clear, and the Rein lines it has dropped (R108). -/
  clrAt : Option Nat := none
  clrLines : Nat := 0
  deriving DecidableEq, Repr, Inhabited

/-- A trip ball: its level, the two synchroniser flops, the synchronised level one and two ticks ago, and the ticks that this last
has held (R118). -/
structure TripPin where
  ball : Bool := true
  sync1 : Bool := true
  sync2 : Bool := true
  past1 : Bool := true
  past2 : Bool := true
  run : Nat := 0
  deriving DecidableEq, Repr, Inhabited

/-! ### PWM channels and Spire lines (spec/04_pwm_generator.md, spec/05_spire_edges.md) -/

/-- One PWM output. Positions are in fine ticks since reset, 128 to a tick (R173). -/
structure PwmOut where
  /-- At the interlock: on, the position it turned off at, and the position since which it is demanded (R150). -/
  on : Bool := false
  offAt : Option Nat := none
  dem : Option Nat := none
  /-- After Spire: on, the positions of the last turn-on and turn-off (R173 to R176, R185). -/
  spOn : Bool := false
  spOnAt : Nat := 0
  spOffAt : Option Nat := none
  /-- The ticks of the last edges placed through Spire, newest first (R178), and the stages its last turn-on and turn-off tapped (R172,
  R177), none while the tick of the edge is still to come. -/
  edges : List Nat := []
  tapOn : Option Nat := none
  tapOff : Option Nat := none
  /-- NARROW was set for an edge of this tick (R131, R175). -/
  narrow : Bool := false
  deriving DecidableEq, Repr, Inhabited

/-- A PWM channel. -/
structure Chan where
  /-- The count, and the length L of the running period (R129, R138, R148). -/
  cnt : Nat := 0
  len : Nat := 8
  /-- The first wrap has been reached (R133). -/
  live : Bool := false
  /-- REF, its value at the start of this tick, and this tick's actions as (8 × fine + order, code), in order (R131). -/
  ref : Bool := false
  ref0 : Bool := false
  acts : List (Nat × Nat) := []
  /-- The two outputs, and what they were at the start of this tick. -/
  outH : PwmOut := {}
  outL : PwmOut := {}
  outH0 : PwmOut := {}
  outL0 : PwmOut := {}
  /-- The tick a stop (R134) or an enable that waits for the leading channel (R136) landed in. -/
  stopAt : Option Nat := none
  waitAt : Option Nat := none
  /-- The channel starts, or is disabled, in the next tick (R133, R135, R170). -/
  startNext : Bool := false
  disNext : Bool := false
  /-- A PRD value that acts from the next tick (R148), and compares applied early from the next tick (R145). -/
  immPrd : Option Nat := none
  early : List (Nat × Nat) := []
  /-- This tick's preload writes: register, rank of the writer (R143), the value before the tick. -/
  wrote : List (Nat × Nat × Nat) := []
  /-- The ticks of the last load-all, the last wrap and the last transfer; the active values the last transfer replaced, and REFN as it
  stood then (R141, R154). -/
  loadAt : Option Nat := none
  wrapAt : Option Nat := none
  xferAt : Option Nat := none
  before : List Nat := []
  /-- Compares already taken in this period, as a mask (R130); the tick of the last period event. -/
  done : Nat := 0
  prdAt : Option Nat := none
  /-- Occurrences still to be passed over by each event's prescaler (R168). -/
  psc : Vector Nat 6 := Vector.replicate 6 0
  /-- REF was 0 at an instant of this period; a cut was in force at an instant of it (R153, R158). -/
  low : Bool := true
  cutIn : Bool := false
  /-- Consecutive full-on periods (R153), and the tick the refresh off-pulse that runs ends in. -/
  full : Nat := 0
  refrEnd : Option Nat := none
  /-- The force in force: codes of the high and the low output (R161). -/
  forceH : Nat := 0
  forceL : Nat := 0
  /-- Outputs held inactive by an escalation until a wrap that R156 allows (R160). -/
  escHold : Bool := false
  deriving DecidableEq, Repr, Inhabited

/-- The calibration of one Spire line (R178 to R184). -/
structure SprLine where
  /-- Measurements of the present group or lock, and the sum of their stages. -/
  count : Nat := 0
  sum : Nat := 0
  /-- Consecutive measurements out of range (R184). -/
  bad : Nat := 0
  /-- The computed table that waits for an idle tick (R179). -/
  next : Option Nat := none
  /-- The ticks of the last measurement and of the last update (R178, R181). -/
  lastMeas : Option Nat := none
  lastUpd : Nat := 0
  /-- COUNT, sum, consecutive bad ones and last tick before the last measurement, which an edge of its tick takes back (R178). -/
  back : Nat × Nat × Nat × Option Nat := (0, 0, 0, none)
  /-- The tick of the last table installed in an idle tick, STARVED and the tick of the update before, which an edge of that tick brings
  back (R179). -/
  inst : Option (Nat × Bool × Nat) := none
  /-- The S of the active tap table, and whether the line was locked, at the start of this tick (R177, R185). -/
  tab : Nat := 0
  lock0 : Bool := false
  deriving DecidableEq, Repr, Inhabited

/-! ### Control lanes (spec/06_control_lanes.md) -/

/-- An entry of an activation queue (R196). `src` is the 7-bit SRC: class × 32 + index. -/
structure Activation where
  operand : Nat
  opv : Bool
  tag : Nat
  gen : Nat
  src : Nat
  deriving DecidableEq, Repr, Inhabited

/-- A word a load has read and not written yet: its register, the word, whether it was uncorrectable, and the lane edge from which it is
usable (R222). -/
structure LaneWordIn where
  reg : Nat
  word : Nat
  bad : Bool
  at_ : Nat
  deriving DecidableEq, Repr

/-- A load of a lane: words still to be returned, and the words read and not yet written to their registers: register,
value, and whether the word was uncorrectable (R222, R224). -/
structure LaneLoad where
  seq : Nat
  regs : List Nat
  ready : List LaneWordIn
  deriving DecidableEq, Repr

/-- The state of a control lane that no register shows. -/
structure Lane where
  /-- ACC0 and ACC1 (R8, R204). -/
  acc : Vector AccWord 2 := Vector.replicate 2 0
  /-- The call stack, newest first (R204, R213). -/
  stack : List Nat := []
  /-- The program counter; 512 or more once an out-of-range next address was produced (R213). -/
  pc : Nat := 0
  /-- The address of the instruction that produced `pc`. -/
  lastPc : Nat := 0
  /-- The activation queue, oldest first (R196). -/
  queue : List Activation := []
  /-- Activations on their way to the queue, with the tick of the lane edge they are usable at (R198, R232). -/
  arriving : List (Nat × Activation) := []
  /-- An activation is executing. -/
  active : Bool := false
  /-- The opening edge of the dispatch cycle (R200, R216). -/
  start : Nat := 0
  /-- BUDGET in force for the activation (it takes effect at the dispatch). -/
  budget : Nat := 0
  /-- The opening edge of the cycle a disable landed in while the activation ran (R241). -/
  disabledAt : Option Nat := none
  /-- The activation has ended with EN at 0, and the lane is DISABLED when this cycle is over unless EN is written 1 in it (R241). -/
  ending : Bool := false
  /-- A fault waits for the loads of its activation before it is recorded and the lane goes on: its cause and address (R242). -/
  faultWait : Option (Nat × Nat) := none
  /-- Staged local-register writes, oldest first (R234). -/
  stage : List (Nat × Nat) := []
  /-- Loads issued and not complete, oldest first (R215). -/
  loads : List LaneLoad := []
  /-- Stores buffered (R215). -/
  stores : Nat := 0
  /-- Those of them whose last beat is written in the present lane cycle (R215). -/
  storesOut : Nat := 0
  /-- The line-time value of the lane edge from which the lane may dispatch or execute again (R201, R202, R214, R215). -/
  nextAt : Nat := 0
  /-- Registers with a result that is not usable yet, each with the line-time value it is usable from (R211, R214). -/
  hazard : List (Nat × Nat) := []
  deriving DecidableEq, Repr, Inhabited

/-- An entry of a lane group's duty queue (R36, R38): the closing edge it entered at and its lane, with a DUTY's channel,
register code and port value, or a COMMIT's Team mask. -/
inductive DutyEntry where
  | duty (edge lane ch reg value : Nat)
  | commit (edge lane mask : Nat)
  deriving DecidableEq, Repr

/-- A Harness event on its way (R315): producer, generation count (R322), and the tick of its arrival edge. -/
structure HrnEvent where
  prod : Nat
  gen : Nat
  edge : Nat
  deriving DecidableEq, Repr

/-! ### Line Angle Engine (spec/08_line_angle_engine.md) -/

/-- A crossing found that waits for the comparator's agreement (R257, R258): expected-crossing index 0 to 5, the instant of
the sign change and that instant less the lag of the stream, in ticks. -/
structure LaeWait where
  idx : Nat
  tc : Rat
  net : Rat
  deriving DecidableEq, Repr

/-- A feed's PLL. Times are in ticks since reset, angles in line ticks, frequencies in Hz. -/
structure LaeFeed where
  /-- The voltage samples of phases 1 to 3, newest first, each with its flag (R81, R253). -/
  volts : List (List (Rat × Bool)) := []
  /-- The aligned voltages of the last sample, with flags. -/
  prev : List (Rat × Bool) := []
  /-- The last current samples of phases 1 to 3, with flags. -/
  cur : List (Rat × Bool) := []
  /-- The loop: θs, the frequency that advances it, F, Δ (R253, R259, R260). -/
  theta : Rat := 0
  adv : Rat := 0
  freq : Rat := 0
  delta : Rat := 0
  /-- θs at the last sample. -/
  thetaS : Rat := 0
  /-- The notch's last two inputs, then its last two outputs, each newest first (R259). -/
  errs : List Rat := []
  /-- A and AMPP (R262), and the fluxes ψ1 to ψ3 (R283). -/
  amp : Rat := 0
  ampp : Rat := 0
  flux : List Rat := [0, 0, 0]
  /-- V_c (R282). -/
  vc : Rat := 0
  /-- The loop has been seeded (R264). -/
  seeded : Bool := false
  /-- Seeding: the last good positive crossing of phase 1, and of phase 2 since. -/
  t1 : Option Rat := none
  t2 : Option Rat := none
  /-- The next expected crossing, whether a sign change has been seen in its window, and whether it has been decided. -/
  exp : Nat := 0
  seen : Bool := false
  decided : Bool := false
  wait : List LaeWait := []
  /-- Bad crossings in a row; a coast begun by one (R259). -/
  bads : Nat := 0
  coastBad : Bool := false
  /-- The bad crossings in a row before the crossing that stands as good, should it turn bad after all (R258, R259). -/
  badsWas : Nat := 0
  /-- A voltage sample of the last three was flagged (R261). -/
  flagged : Bool := false
  /-- |e| stayed within 91 line ticks in the second half of the cycle so far (R265). -/
  errOk : Bool := false
  /-- The last edge of each crossing comparator of the feed: rising, and its tick (R257). -/
  zx : List (Bool × Rat) := List.replicate 3 (false, -1000000000000)
  /-- Consecutive samples below, and at or above, the sag threshold (R293). -/
  below : Nat := 0
  above : Nat := 0
  /-- The tick the feed became healthy in (R292). -/
  since : Nat := 0
  /-- The published angle at the start of the tick before this one. -/
  pubPrev : Rat := 0
  /-- The published angle at the start of this tick. -/
  pub : Rat := 0
  /-- The events already raised in this tick: φ1 to φ3, EVANG 0 to 3 (R269). -/
  raised : Nat := 0
  /-- The first firing with flux matching (R284, R285): 0 none, 1 to be made, 2 third phase to follow, 3 made, 4 none after a transfer
  that fires each pair at its own angle (R298); the phase it begins with, α_T, and the last tick it may be made in. -/
  xf : Nat := 0
  xfK : Nat := 0
  xfAlpha : Rat := 0
  xfBy : Option Nat := none
  /-- While it is to be made: the present α_T, whether the angle had yet to come to it in the last tick, and whether it has come to it in
  this one. -/
  xfArm : Option Rat := none
  xfFar : Bool := false
  xfNow : Bool := false
  deriving DecidableEq, Repr, Inhabited

/-- A gate of a pair. -/
structure Gate where
  /-- Active in the engine's state. -/
  on : Bool := false
  /-- Its firing runs: not released (R288). -/
  open_ : Bool := false
  /-- Fired in CONTINUOUS whatever the pair's mode (R285). -/
  cont : Bool := false
  firedAt : Nat := 0
  pulseAt : Nat := 0
  /-- Latching: still watched, confirmed, consecutive samples above ILATCH (R276). -/
  watch : Bool := false
  confirmed : Bool := false
  lat : Nat := 0
  /-- The window closed unconfirmed (R276). -/
  closed : Bool := false
  /-- It stays active past its window until its current's zero (R286). -/
  ext : Bool := false
  /-- Fired in the present half-cycle. -/
  done : Bool := false
  /-- Released at the next current zero: the tick of the cause; released in the next tick (R288). -/
  stopAt : Option Nat := none
  relNext : Bool := false
  /-- The tick since which the current of its polarity has been zero (R279). -/
  zero : Option Nat := some 0
  /-- The tick since which it waits for the zero of the opposite current, and the tick in which that wait timed out (R279, R286). -/
  waitZ : Option Nat := none
  okAt : Option Nat := none
  deriving DecidableEq, Repr, Inhabited

/-- A gate pair. -/
structure LaePair where
  fwd : Gate := {}
  rev : Gate := {}
  /-- ALPHA and END of the present cycle (R273), the effective angle (R274), none before the pair is first enabled. -/
  alpha : Nat := 0
  endW : Nat := 0x7FFF
  eff : Option Rat := none
  /-- The actual forward angle of this cycle, and the earliest angle of the next (R275). -/
  act : Option Rat := none
  floor_ : Rat := 0
  /-- What the present effective angle was formed from: the one before it, and the earliest angle it could take. -/
  base : Rat := 0
  least : Rat := 0
  /-- The feed and the phase of its last firing, whose current it carries (R294). -/
  feedN : Nat := 0
  phaseN : Nat := 0
  /-- The tick of the last gate release with no current zero declared since (R294). -/
  rel : Option Nat := none
  deriving DecidableEq, Repr, Inhabited

/-- A transfer in progress (R297, R299): step 3 or 4, T0, the deadline, the end of step 3. -/
structure LaeXfer where
  step : Nat := 0
  t0 : Nat := 0
  td : Nat := 0
  zeroAt : Nat := 0
  deriving DecidableEq, Repr, Inhabited

/-! ### General timers (spec/09_timers_harness.md) -/

/-- What a timer stood at before the first tick of a step acted: the tick, the count, whether the step was fresh, ZSEEN and CSEEN, the
level, and whether its zero and its match producer had an event at the tick's arrival edge already (R306, R506). -/
structure TmrStep where
  tick : Nat
  count : Nat
  fresh : Bool
  zseen : Nat
  cseen : Nat
  level : Nat
  zev : Bool
  cev : Bool
  deriving DecidableEq, Repr

/-- What a general timer holds beside its registers. -/
structure Tmr where
  /-- Ticks of the present step already executed (R301, R306). -/
  place : Nat := 0
  /-- The next first tick takes the count as it stands: a reload, a write of the count, reset (R302, R306). -/
  fresh : Bool := true
  /-- The first tick of the present step has acted (R306). -/
  taken : Bool := false
  /-- What that first tick found. -/
  before : Option TmrStep := none
  /-- The tick EN was set in: the timer executes ticks after it (R301). -/
  enAt : Nat := 0
  /-- The level the ball drives in this tick (R304). -/
  ball : Bool := false
  deriving DecidableEq, Repr, Inhabited

/-! ### Cores and Belfry (spec/10_cores_belfry.md) -/

/-- Where a core is in R339's list. -/
inductive CorePhase where
  | running
  | entry
  | exit
  | reset
  deriving DecidableEq, Repr, Inhabited

/-- A load whose data a core waits for: its address in the program (for an exception), the register it writes (a
floating-point one when `fp`), its width in bytes, its sign extension, and the byte offset in the word returned. -/
structure CoreWait where
  pc : Nat
  rd : Nat
  fp : Bool
  bytes : Nat
  signed : Bool
  addr : Nat
  deriving DecidableEq, Repr

/-- A core. -/
structure Core where
  pc : Nat := 0
  /-- The register banks, one per level (R341). -/
  bank : Vector (Vector Word32 32) 16 := Vector.replicate 16 (Vector.replicate 32 0)
  /-- The link of each level: return address, level to return to (R341). -/
  linkRet : Vector Nat 16 := Vector.replicate 16 0
  linkLvl : Vector Nat 16 := Vector.replicate 16 0
  /-- The floating-point registers. -/
  freg : Vector Word32 32 := Vector.replicate 32 0
  frm : Nat := 0
  fflags : Nat := 0
  /-- mstatus.FS: 0 off, 1 initial, 2 clean, 3 dirty. -/
  fs : Nat := 0
  level : Nat := 0
  phase : CorePhase := .reset
  /-- The source being entered and the level it enters (R344). -/
  entSrc : Nat := 0
  entPrio : Nat := 0
  /-- The handler's address, once entry 2 has taken it (R344). -/
  entPc : Option Nat := none
  /-- The context entry 1 records, or an exit restores: return address and level (R344 to R347). -/
  ctxRet : Nat := 0
  ctxLvl : Nat := 0
  /-- The tick from which the first instruction of the handler being entered, or of the context being returned to, may execute
  (R344 to R347). -/
  due : Nat := 0
  /-- The source whose handler runs at each level (BFY_SRCID). -/
  srcid : Vector (Option Nat) 16 := Vector.replicate 16 none
  /-- Machine-mode CSRs: mstatus.MIE, MPIE; mie.MEIE; mtvec, mepc, mcause, mtval, mscratch; the counters. -/
  mie : Bool := false
  mpie : Bool := false
  meie : Bool := false
  mtvec : Nat := 0
  mepc : Nat := 0
  mcause : Nat := 0
  mtval : Nat := 0
  mscratch : Nat := 0
  mcycle : Nat := 0
  minstret : Nat := 0
  mcountinhibit : Nat := 0
  /-- Vendor CSRs (BFY_THRESH, BFY_BANKSEL). -/
  thresh : Nat := 0
  banksel : Nat := 0
  /-- The reservation of R327: the 8-byte granule's address and the tick it expires in. -/
  resv : Option (Nat × Nat) := none
  /-- The core waits in WFI (R405). -/
  wfi : Bool := false
  /-- A load outstanding. -/
  wait : Option CoreWait := none
  deriving DecidableEq, Repr, Inhabited

/-- A snapshot of the streamed state (R377): the line-time value of its frame event, the values of the entries sampled so
far (entry of TTH_STREAM, values), the lane entries that wait for a boundary (entry, lane), and the Saddle entries whose
words have not all been read (entry). -/
structure Snapshot where
  ltv : Nat
  data : List (Nat × List Nat)
  waitLane : List (Nat × Nat)
  waitSdl : List Nat
  deriving DecidableEq, Repr

/-! ### Twin pairing (spec/11_twin_pairing.md) -/

/-- A BULK frame sent and not acknowledged (R371): its offset, kind and data, the tick it was last sent in, none while it
waits, and how often it was sent again. -/
structure BulkOut where
  off : Nat
  kind : Nat
  data : List Nat
  sentAt : Option Nat
  again : Nat
  deriving DecidableEq, Repr, Inhabited

/-- A frame that waits for the transmitter: TYPE, payload, the tick it was handed over in (R371). -/
structure TxFrame where
  ty : Nat
  payload : List Nat
  at_ : Nat
  deriving DecidableEq, Repr, Inhabited

/-- What twin pairing holds beside its registers. -/
structure Twin where
  /-- The tick of a claim whose ownership is still to come, and of a release whose OWN is still active (R360). -/
  claimAt : Option Nat := none
  releaseAt : Option Nat := none
  /-- The ticks OWN was last driven active, OWNIN last changed, and the keepalive count last restarted in (R362, R372, R389). -/
  ownAt : Nat := 0
  ownInAt : Nat := 0
  keepFrom : Nat := 0
  /-- A partner in PRIMARY or SOLO has been seen since the reset (R383). -/
  seen : Bool := false
  /-- The partner as the last HEALTH frame or Bridle word shows it. -/
  pRole : Nat := 0
  pOwn : Bool := false
  /-- READY, TOOK and the image digest of the last HEALTH frame. -/
  pReady : Bool := false
  pTook : Bool := false
  pDigest : List Nat := []
  /-- The role of the last HEALTH frame (R392). -/
  hRole : Nat := 0
  /-- The tick since which Tether is untrained and Bridle not present (R383). -/
  aloneFrom : Nat := 0
  /-- A planned handover releases at the next frame event; it has released and the partner has not claimed; the tick the short OWNIN filter ends in (R392). -/
  hand : Bool := false
  handed : Bool := false
  handUntil : Option Nat := none
  /-- The training step, 0 when none runs, the tick it began in, the tick from which an attempt may begin, PONG frames and good
  HEALTH frames of the step (R366). -/
  step : Nat := 0
  stepAt : Nat := 0
  retryAt : Nat := 0
  pongs : Nat := 0
  greets : Nat := 0
  /-- The ticks of the last good HEALTH frame received and of the last one sent. -/
  healthAt : Nat := 0
  healthTx : Nat := 0
  /-- SEQ of the next short and the next long frame sent; the last long SEQ received; the STATE frames made (R369, R376). -/
  seqS : Nat := 0
  seqL : Nat := 0
  rxL : Option Nat := none
  frames : Nat := 0
  /-- The last body sent of each frame TYPE, by TYPE. -/
  tx : List (Nat × List Nat) := []
  /-- The transmitter (R371): the frames that wait, the quarter nanoseconds left of the short frame under way and of the long one, the
  type of this, 0 for none, and its first payload word. -/
  txq : List TxFrame := []
  shortLeft : Nat := 0
  longLeft : Nat := 0
  longTy : Nat := 0
  longOff : Nat := 0
  /-- A lane has been disabled: the link goes down once the CTRL frames have left (R368). -/
  laneStop : Bool := false
  /-- Bridle sent: the next cell, the word being sent, COUNT, the tick of the last cell, and that cell (0, 1, 2 for SYNC). -/
  bIdx : Nat := 0
  bWord : Nat := 0
  bCount : Nat := 0
  bAt : Option Nat := none
  bCell : Nat := 0
  /-- Bridle received: COUNT of the last word, consecutive valid and invalid words, and consecutive valid words that showed the
  role of the last one (R375, R383). -/
  bLast : Option Nat := none
  bGood : Nat := 0
  bBad : Nat := 0
  bRole : Nat := 0
  bRun : Nat := 0
  /-- The tick the last word was received in (R375). -/
  bRxAt : Nat := 0
  /-- The discipline (R381): acquisition runs; the start of the window, the sum and the number of its measurements, the mean of
  the window before; Θ0; the ticks since which |Θ − Θ0| is within 4, and above 8. -/
  acq : Bool := false
  winAt : Nat := 0
  sum : Int := 0
  cnt : Nat := 0
  mean : Option Int := none
  theta0 : Int := 0
  okFrom : Option Nat := none
  badFrom : Option Nat := none
  /-- Joining (R390): the step, 1 image, 2 sync, 3 lock and realignment, 4 first frame; the sync received so far; the lanes held
  at EN 0; how often each BULK frame has been received, by kind and offset; the partner's last wrap and PRD by Team; the Teams realigned: 1 cleared, 2 set
  (R382). -/
  join : Nat := 0
  /-- The image data received in this join: offset and length. -/
  imgGot : List (Nat × Nat) := []
  sync : List Nat := []
  syncLanes : Nat := 0
  bulkRx : List (Nat × Nat × Nat) := []
  wraps : Vector (Option (Nat × Nat)) 8 := Vector.replicate 8 none
  align : Vector Nat 8 := Vector.replicate 8 0
  /-- The BULK stream to a joining partner: its kind, the offset of what is still to be sent, the bytes still to be sent, and the
  frames not acknowledged. -/
  bulkKind : Option Nat := none
  bulkPos : Nat := 0
  bulkLeft : List Nat := []
  bulkOut : List BulkOut := []
  /-- The Saddle words of a sync are being read for the partner (R390). -/
  gather : Bool := false
  /-- Consecutive divergent and not divergent frames; DIVN good frames since STANDBY was entered (R380, R390). -/
  divRun : Nat := 0
  goodRun : Nat := 0
  joined : Bool := false
  /-- The snapshots of this device's own frame events, newest first (R380). -/
  snaps : List Snapshot := []
  /-- The received frames still to be applied, oldest first: the overwrite entries, and whether the writes of their Saddle words have
  been requested (R379). -/
  apply : List (List (Nat × List Nat) × Bool) := []
  deriving DecidableEq, Repr, Inhabited

/-- The image in force (R372, R414): applied, its slot, its size, its SHA-256 digest. -/
structure BootImg where
  applied : Bool := false
  /-- It was applied in place and its slot is not GOOD yet (R420). -/
  fresh : Bool := false
  slot : Nat := 0
  size : Nat := 0
  digest : List Nat := []
  deriving DecidableEq, Repr, Inhabited

/-! ### Power and start-up (spec/12_power_startup.md) -/

/-- A fabric access held until its domain is ON (R408): the master, the address, the width in bytes, and the value of a
write. -/
structure HeldAccess where
  m : Nat
  addr : Nat
  width : Nat
  value : Option Nat
  deriving DecidableEq, Repr

/-- What the power manager, the reset logic and the hardware sequencer hold beside the PMG_ registers. -/
structure Power where
  /-- The supplies are valid (R396). -/
  powered : Bool := true
  /-- A device reset under way: its source (0 power-on, 1 pin, 2 JTAG, 3 host); `now` counts from the end of its cause (R400). -/
  rst : Option Nat := none
  /-- The tick each domain was last ACTIVE in (R409); the domains that are waking (R408); services held whose domains are
  not all ON yet (R412). -/
  domAct : Vector Nat 20 := Vector.replicate 20 0
  waking : Nat := 0
  /-- The tick of the last access to each domain (R405). -/
  accAt : Vector (Option Nat) 20 := Vector.replicate 20 none
  holdWait : Nat := 0
  held : List HeldAccess := []
  /-- The tick of the last kick, or of the start of the watchdog's count (R402). -/
  kickAt : Nat := 0
  /-- MRAM words written and not programmed yet, oldest first: word address and the value the word still holds (R421). -/
  mramBuf : List (Nat × Nat) := []
  /-- The sequencer is to boot; the sections that are not LIVE are still to be done (R413, R414). -/
  bootDue : Bool := false
  /-- The slots of a boot under way not tried yet, and whether none has been tried (R419). -/
  slotsLeft : Option (Bool × List Nat) := none
  /-- The slots an application in place still has to attempt, the new one first (R420), and the slot applied before it. -/
  inPlace : List Nat := []
  prevSlot : Option Nat := none
  /-- A PWM_DRIVE record of a replay that waits for every Spire line to be locked (R186, R407). -/
  drvWait : Option Nat := none
  /-- The SEAT ball as it was sampled when the device reset released (R356). -/
  seat : Bool := false
  nonlive : Bool := false
  /-- Blocks the sequencer has written from the image, one bit per window of R23. -/
  wrote : Nat := 0
  deriving DecidableEq, Repr, Inhabited

/-! ### Cupola (spec/13_cupola_thermal.md) -/

/-- What a temperature sensor holds beside its registers. -/
structure CupSensor where
  /-- The sample before the last (R437). -/
  prev : Option Int := none
  last : Option Int := none
  /-- Consecutive implausible samples (R438). -/
  odd : Nat := 0
  /-- The tick of the last completed sample, and of the last burst started. -/
  doneAt : Nat := 0
  startAt : Option Nat := none
  /-- The sensor was near when its last sample began (R435). -/
  fast : Bool := false
  /-- The tick a remote diode's first burst ended in; every burst of a sample has ended (R431). -/
  first : Option Nat := none
  ready : Bool := false
  deriving DecidableEq, Repr, Inhabited

/-- A notice waiting at a port (R478, R479): its SEQ, class, code and payload after them. -/
structure Notice where
  seq : Nat
  cls : Nat
  code : Nat
  ltv : Nat
  data : List Nat
  deriving DecidableEq, Repr

/-! ### Fyzal host ports (spec/14_fyzal_host.md) -/

/-- A request that waits for its execution: its port, the packet, the tick it was complete in, and when its MAC was accepted the
session key and its CTR (R451, R466). -/
structure FyzReq where
  port : Nat
  pkt : List Nat
  at_ : Nat
  mac : Option (List Nat × Nat)
  deriving DecidableEq, Repr

/-- A session (R465, R468): key, SID, last CTR accepted, the tick of the last accepted packet, consecutive AUTH_FAILED. -/
structure FyzSession where
  key : List Nat
  sid : Nat
  ctr : Nat
  at_ : Nat
  fails : Nat
  deriving DecidableEq, Repr

/-- A packet port. -/
structure FyzPort where
  /-- Bytes of a packet that is arriving, from its SYNC, and the tick of the last (R450, R459). -/
  rx : List Nat := []
  rxAt : Nat := 0
  /-- A CAN reassembly (R458): the FCNT expected next, the bytes, the tick of the last fragment. -/
  frag : Option (Nat × List Nat × Nat) := none
  /-- Packets with a good header that are complete and not taken in yet. -/
  arrived : List (List Nat) := []
  /-- The packet being sent, the fragments of it already sent, the replies that wait (R451). -/
  tx : Option (List Nat) := none
  txPos : Nat := 0
  replies : List (List Nat) := []
  /-- The bytes MISO carried in the last transaction (R454). -/
  miso : List Nat := []
  session : Option FyzSession := none
  /-- The tick a lockout ends in (R468). -/
  lockUntil : Option Nat := none
  /-- The last executed request and its reply, of the ROM and of the safety state machine (R461, R474). -/
  dup : Option (List Nat × List Nat) := none
  safeDup : Option (List Nat × List Nat) := none
  deriving DecidableEq, Repr, Inhabited

/-- The PMBus responder (R482, R483): the page, the snapshot's readings of each page by command code, the tick of the snapshot
(none: none taken), the sticky bits of STATUS_WORD and STATUS_CML and of the status bytes of each page, PMB_ALERTN driven low,
and the bytes of the last read. -/
structure Pmbus where
  page : Nat := 0
  readings : List (Nat × Nat × Nat) := []
  snapAt : Option Nat := none
  word : Vector Nat 4 := Vector.replicate 4 0
  cml : Vector Nat 4 := Vector.replicate 4 0
  iout : Vector Nat 4 := Vector.replicate 4 0
  input : Vector Nat 4 := Vector.replicate 4 0
  temp : Vector Nat 4 := Vector.replicate 4 0
  /-- The pages that hold PMB_ALERTN low. -/
  alert : Nat := 0
  stale : Bool := false
  out : List Nat := []
  /-- The ROM reads the Saddle words of the sources for a snapshot, and those it has read: source, word, uncorrectable. -/
  asked : Bool := false
  srcs : List (Nat × Nat × Bool) := []
  deriving DecidableEq, Repr, Inhabited

/-- The JTAG port (R484): the instruction, the boundary register, the data register last captured, a debug session. -/
structure Jtag where
  ir : Nat := 0x02
  boundary : Nat := 0
  dr : Nat := 0x1096054D
  debug : Bool := false
  deriving DecidableEq, Repr, Inhabited

/-- A PEEK or POKE under way (R470): the accesses still to be made, each an address and the value of a write; the bytes read so far;
the first of them has been issued and waits for its response. -/
structure RomJob where
  left : List (Nat × Option Nat)
  data : List Nat
  asked : Bool
  deriving DecidableEq, Repr

/-- A command that is executed but whose words MRAM still programs: its reply, and that a word of it failed (R463, R473). -/
structure MramReply where
  req : FyzReq
  st : Nat
  data : List Nat
  failed : Bool
  deriving DecidableEq, Repr

/-- The Fyzal block. -/
structure Fyzal where
  port : Vector FyzPort 5 := Vector.replicate 5 {}
  /-- Requests that wait for the ROM, and for the safety state machine, in the order they were received. -/
  reqs : List FyzReq := []
  safe : List FyzReq := []
  /-- What the ROM still has to do of the oldest of them. -/
  job : Option RomJob := none
  /-- The reply that waits for MRAM. -/
  store : Option MramReply := none
  /-- An upload (R473): its slot, LENGTH and session. -/
  upload : Option (Nat × Nat × Nat) := none
  /-- The tick RESET was answered in (R470). -/
  resetAt : Option Nat := none
  pmb : Pmbus := {}
  jtag : Jtag := {}
  deriving DecidableEq, Repr, Inhabited

/-! ### The whole state -/

/-- The machine. -/
structure State where
  /-- Ticks of 1.25 ns since the reset released (the model's clock; log entry 6). -/
  now : Nat := 0
  /-- The line-time counter (R313). -/
  ltc : Nat := 0
  /-- The free values already drawn (the model's own field; log entry 5). -/
  free : Nat := 0
  /-- Every register field that is not at its reset value, in the order of `FKey.lt`. -/
  regs : List (FKey × Nat) := []
  /-- The bytes of SRAM, the Saddle store and MRAM that are not what their address reads as unlisted, by address (log entry 2). -/
  mem : List Host.Cell := []
  /-- The ranges of memory whose contents have become free, newest first: from, up to, and the free value's number (R400, R403). -/
  memFree : List (Nat × Nat × Nat) := []
  /-- Words with a bit error: slot address, and whether it is uncorrectable (R25, R43, R44, R238). -/
  upsets : List (Nat × Bool) := []
  /-- What hardware has set in the present cycle (R17). -/
  hwSets : List HwSet := []
  port : Vector MasterPort 10 := Vector.replicate 10 {}
  bank : Vector SdlBank 4 := Vector.replicate 4 {}
  sdlSeq : Nat := 0
  /-- The rank order of the four lanes of each Saddle port 2g + p, highest first (R194). -/
  portRank : Vector (List Nat) 8 := Vector.replicate 8 [0, 1, 2, 3]
  dma : Vector Dma 2 := Vector.replicate 2 {}
  lane : Vector Lane 32 := Vector.replicate 32 {}
  /-- The duty queue of each lane group (R36, R38). -/
  dutyq : Vector (List DutyEntry) 4 := Vector.replicate 4 []
  /-- The tick from which each of these queues may deliver its next entry: one a tick (R142, R247). -/
  dutyNext : Vector Nat 4 := Vector.replicate 4 0
  hrn : List HrnEvent := []
  core : Vector Core 5 := Vector.replicate 5 {}
  /-- Saddle words the Tether shadow engine has read: index and value, oldest first (R377). -/
  shadowIn : List (Nat × Nat) := []
  /-- Saddle words the shadow engine has read for a sync, in order (R390). -/
  syncIn : List Nat := []
  /-- Saddle words read for the partner's window and not answered yet: its master, the word, uncorrectable (R28). -/
  windowIn : List (Nat × Nat × Bool) := []
  sar : Vector Sar 16 := Vector.replicate 16 {}
  /-- ONCE entries armed, and their occurrence counts (R68). -/
  armed : Vector Bool 96 := Vector.replicate 96 false
  occ : Vector Nat 96 := Vector.replicate 96 0
  /-- Scale entries declared: bit s once GAIN of entry s has been written whole (R67). -/
  scaleDecl : Nat := 0
  /-- The tick a bank copy ends in, and the slot writes it holds (R74). -/
  copyEnd : Nat := 0
  slotHeld : List HeldSlotWrite := []
  /-- Modulators whose fast path is flagged (R81). -/
  sdmOver : Vector Bool 12 := Vector.replicate 12 false
  /-- The TRIG codes of the events of this tick (R66, R73). -/
  trigs : List Nat := []
  /-- The metering samples of each modulator, newest first: the tick it was delivered in, and its code (R83, R84); the window of each
  feed. -/
  meter : Vector (List (Nat × Nat)) 12 := Vector.replicate 12 []
  meterWin : Vector MeterWin 2 := Vector.replicate 2 {}
  /-- Energy not yet a whole millijoule, imported and exported, by feed phase 3f + p (R88). -/
  energyRem : Vector Rat 12 := Vector.replicate 12 0
  cmp : Vector Cmp 48 := Vector.replicate 48 {}
  /-- The voltages between the balls of the SAR pairs, in microvolts: converter c, input k at 4c + k (R92). -/
  pairUv : Vector Int 64 := Vector.replicate 64 0
  trip : Vector TripPin 16 := Vector.replicate 16 {}
  /-- What the synchronisers of two ticks hold, newest first: comparator outputs, pin states, Rein lines at the end of the last ticks
  (R119, R126, CMP_STAT). -/
  rawPast : List Nat := [0, 0]
  pinPast : List Nat := [0, 0]
  reinPast : List Nat := [0, 0]
  /-- Rein lines active at an instant of this tick, and of the tick before (R156). -/
  reinTick : Nat := 0
  reinPrev : Nat := 0
  chan : Vector Chan 24 := Vector.replicate 24 {}
  spr : Vector SprLine 48 := Vector.replicate 48 {}
  /-- The published angles of feeds A and B as U16.16 line ticks, the newest (start of this tick) first, five ticks back
  (R218). -/
  angHist : Vector (List Nat) 2 := Vector.replicate 2 [0, 0, 0, 0, 0, 0]
  feed : Vector LaeFeed 2 := Vector.replicate 2 {}
  pair : Vector LaePair 12 := Vector.replicate 12 {}
  xfer : LaeXfer := {}
  /-- The load has been energised since it was last de-energised (R283, R284). -/
  energised : Bool := false
  tmr : Vector Tmr 16 := Vector.replicate 16 {}
  /-- The lane edge of the last apply of the next routes (R320). -/
  routeAt : Option Nat := none
  /-- What the lead core of each lockstep pair stood at, cycle by cycle, newest first; the checker follows two cycles behind (R329). -/
  lockPast : Vector (List Core) 2 := Vector.replicate 2 []
  /-- The switch-node monitor (R387): an edge in the running period, whether that period began with both links lost, and
  consecutive quiet periods. -/
  monEdge : Bool := false
  monArmed : Bool := false
  monQuiet : Nat := 0
  /-- The SNS balls, the levels behind their glitch filters, and the ticks each ball has differed from that level (R387). -/
  snsBall : Nat := 0
  snsLevel : Nat := 0
  snsRun : Vector Nat 8 := Vector.replicate 8 0
  /-- The snapshot being gathered (R377, R380). -/
  snap : Option Snapshot := none
  twin : Twin := {}
  img : BootImg := {}
  /-- The partner-window read each master waits for (R28): address and width. -/
  partnerRd : Vector (Option (Nat × Nat)) 10 := Vector.replicate 10 none
  pw : Power := {}
  cupS : Vector CupSensor 22 := Vector.replicate 22 {}
  /-- The clock and the limit enforcement: the tick the grace timer started in (R440), deferred (R443), the tick since
  which every sensor of the kind has been below level 2 (R441). -/
  cupGrace : Vector (Option Nat) 2 := Vector.replicate 2 none
  cupDefer : Vector Bool 2 := Vector.replicate 2 false
  cupBelow : Vector (Option Nat) 2 := Vector.replicate 2 none
  /-- The value last written to each limit target, and the tick of the next write (R442). -/
  limLast : Vector (Option Int) 8 := Vector.replicate 8 none
  limNext : Option Nat := none
  /-- The shutdown record to be written, without its SEQ and CRC (R445). -/
  cupRec : Option (List Nat) := none
  /-- The notices each host port has queued, oldest first, and its notice count (R478). -/
  notices : Vector (List Notice) 5 := Vector.replicate 5 []
  noticeSeq : Vector Nat 5 := Vector.replicate 5 0
  /-- The SEQ of the next event-log record (R480). -/
  logSeq : Nat := 0
  /-- The first event-log record that LOGREAD returns: the last LOGCLEAR's mark (R480). -/
  logFrom : Nat := 0
  fyz : Fyzal := {}
  /-- The commands that wait, first in, first out. -/
  pending : List Instr := []
  deriving DecidableEq, Repr, Inhabited

/-- The machine right after a device reset has released, before an image is applied (R16): every register field at its
reset value, memory with nothing listed, no command waiting. -/
def State.reset : State := {}

end Sys2Proof.Machine
end

