-- ==== Sys2Proof/Machine/Ops.lean ====
section
/-! DEFINITION. The named operations over the state: the register store, the memory, the ports, rings and events. -/

namespace Sys2Proof.Machine

/-! ### Register fields -/

/-- The value stored for a key. -/
def regFind : List (FKey × Nat) → FKey → Option Nat
  | [], _ => none
  | (k, v) :: t, x => if k = x then some v else regFind t x

/-- The store without a key. -/
def regErase (r : List (FKey × Nat)) (x : FKey) : List (FKey × Nat) := r.filter (fun e => e.1 ≠ x)

/-- A key and its value put at its place in the order. -/
def regInsert : List (FKey × Nat) → FKey → Nat → List (FKey × Nat)
  | [], x, v => [(x, v)]
  | (k, w) :: t, x, v => if x.lt k then (x, v) :: (k, w) :: t else (k, w) :: regInsert t x v

/-- The value of field `f` of the register with indices `i`, `j`. -/
def State.fget (s : State) (f : Fld) (i : Nat := 0) (j : Nat := 0) : Nat :=
  (regFind s.regs ⟨f, i, j⟩).getD (f.reset i j)

/-- A one-bit field as a truth value. -/
def State.flag (s : State) (f : Fld) (i : Nat := 0) (j : Nat := 0) : Bool := s.fget f i j != 0

/-- The store with the value of a key replaced; the reset value is not listed. -/
def regPut (r : List (FKey × Nat)) (x : FKey) (v : Nat) : List (FKey × Nat) :=
  if v = x.f.reset x.i x.j then regErase r x else regInsert (regErase r x) x v

/-- Field `f` set to `v`, modulo its length. -/
def State.fset (s : State) (f : Fld) (v : Nat) (i : Nat := 0) (j : Nat := 0) : State :=
  { s with regs := regPut s.regs ⟨f, i, j⟩ (v % 2 ^ f.len) }

/-- Field `f` set to 1 or 0. -/
def State.fput (s : State) (f : Fld) (b : Bool) (i : Nat := 0) (j : Nat := 0) : State := s.fset f (b2n b) i j

/-- Bit `k` of field `f`. -/
def State.fbit (s : State) (f : Fld) (k : Nat) (i : Nat := 0) (j : Nat := 0) : Bool := bit (s.fget f i j) k

/-- Bit `k` of field `f` set to `b`. -/
def State.fbitSet (s : State) (f : Fld) (k : Nat) (b : Bool) (i : Nat := 0) (j : Nat := 0) : State :=
  s.fset f (setBit (s.fget f i j) k b) i j

/-- A counting field raised by `n`, saturating. -/
def State.fcount (s : State) (f : Fld) (i : Nat := 0) (j : Nat := 0) (n : Nat := 1) : State :=
  s.fset f (satInc f.len (s.fget f i j) n) i j

/-! ### Hardware's sets and software's clears of one cycle (R17) -/

/-- The line-time value at which the lane cycle of the present tick opens (R246). -/
def State.laneEdge (s : State) : Nat := s.ltc - s.ltc % 2

/-- Registers of the lane domain, whose cycle is two ticks: of those with W1C fields. -/
def laneDomain : Fld → Bool
  | .SDL_ECCADDR_VALID | .LANE_STAT_FAULT | .LANE_STAT_SATSEEN | .LANE_STAT_DCLIP | .LANE_STAT_STGOVF | .LANE_STAT_PMWERR
  | .HRN_CHSEENLO_SEEN | .HRN_CHSEENHI_SEEN => true
  | _ => false

/-- Bits that hardware sets in the present cycle are noted. -/
def State.noteSet (s : State) (f : Fld) (v i j : Nat) : State :=
  { s with hwSets := ⟨s.now, s.laneEdge, ⟨f, i, j⟩, v⟩ :: s.hwSets }

/-- Field `f` set to `v` by hardware. -/
def State.hset (s : State) (f : Fld) (v : Nat) (i : Nat := 0) (j : Nat := 0) : State := (s.fset f v i j).noteSet f v i j

/-- Bit `k` of field `f` set by hardware. -/
def State.hbit (s : State) (f : Fld) (k : Nat) (i : Nat := 0) (j : Nat := 0) : State :=
  (s.fbitSet f k true i j).noteSet f (2 ^ k) i j

/-- The bits of a field that hardware has set in the present cycle of its domain. -/
def State.setNow (s : State) (f : Fld) (i j : Nat) : Nat :=
  (s.hwSets.filter fun e => e.key = ⟨f, i, j⟩ ∧ (e.tick = s.now ∨ (laneDomain f ∧ e.edge = s.laneEdge))).foldl
    (fun v e => v ||| e.set) 0

/-- The bits of `x` cleared in field `f`, but for those that hardware has set in the same cycle: a bit that is set and cleared in one
cycle ends set (R17). -/
def State.clearBits (s : State) (f : Fld) (x : Nat) (i : Nat := 0) (j : Nat := 0) : State :=
  let v := s.fget f i j
  let n := s.setNow f i j
  s.fset f (v ^^^ (v &&& (x ^^^ (x &&& n)))) i j

/-- What hardware set in cycles that are over is forgotten. -/
def State.dropSets (s : State) : State :=
  { s with hwSets := s.hwSets.filter fun e => decide (e.tick = s.now) || (decide (s.now ≤ e.tick + 1) && e.edge == s.laneEdge) }

/-- Every field of a predicate back at its reset value. -/
def State.resetFields (s : State) (p : FKey → Bool) : State :=
  { s with regs := s.regs.filter (fun e => !p e.1) }

/-! ### Registers by address -/

/-- A register table by its name. -/
def regDesc (n : RegName) : RegDesc :=
  (regTable.find? (fun d => d.name = n)).getD ⟨n, 0, 0, 0, 0, 0, 32, []⟩

/-- The address of an instance of a register. -/
def regAddr (n : RegName) (i : Nat := 0) (j : Nat := 0) : Nat :=
  let d := regDesc n
  d.base + i * d.s1 + j * d.s2

/-- Where an address lies in a register table: the indices and the byte offset in the register. -/
def regLocate (d : RegDesc) (a : Nat) : Option (Nat × Nat × Nat) :=
  if a < d.base then none else
  let x := a - d.base
  let i := if d.n1 = 0 then 0 else x / d.s1
  let r := if d.n1 = 0 then x else x % d.s1
  let j := if d.n2 = 0 then 0 else r / d.s2
  let o := if d.n2 = 0 then r else r % d.s2
  if i < max d.n1 1 ∧ j < max d.n2 1 ∧ (o = 0 ∨ (o = 4 ∧ 32 < d.width)) then some (i, j, o) else none

/-- The register an address belongs to, with the indices and the byte offset in it. -/
def regAt (a : Nat) : Option (RegDesc × Nat × Nat × Nat) :=
  regTable.findSome? fun d => (regLocate d a).map fun x => (d, x)

/-- The word a register's fields make; a write-only field reads 0 (R14), a reserved bit reads 0 (R15). -/
def State.regWord (s : State) (d : RegDesc) (i j : Nat) : Nat :=
  d.fields.foldl (fun w f => if f.acc = .wo then w else w + s.fget f.fld i j * 2 ^ f.lo) 0

/-- What a write of `v` does to one field by its access code (R14). -/
def State.writeField (s : State) (i j v : Nat) (f : FieldDesc) : State :=
  let x := bits v f.lo f.len
  match f.acc with
  | .rw => s.fset f.fld x i j
  | .w1s => s.fset f.fld (s.fget f.fld i j ||| x) i j
  | .w1c => s.clearBits f.fld x i j
  | .ro | .wo | .rc => s

/-- A write of `v` to every field of a register by its access code (R14). -/
def State.writeReg (s : State) (d : RegDesc) (i j v : Nat) : State :=
  d.fields.foldl (fun t f => t.writeField i j v f) s

/-- A write to a register by its name. -/
def State.writeNamed (s : State) (n : RegName) (v : Nat) (i : Nat := 0) (j : Nat := 0) : State :=
  s.writeReg (regDesc n) i j v

/-- A read clears the RC fields of a register (R14). -/
def State.clearRc (s : State) (d : RegDesc) (i j : Nat) : State :=
  d.fields.foldl (fun t f => if f.acc = .rc then t.fset f.fld 0 i j else t) s

/-! ### Memory -/

/-- The byte listed for an address. -/
def memFind : List Host.Cell → Nat → Option (BitVec 8)
  | [], _ => none
  | (k, v) :: t, a => if k = a then some v else memFind t a

/-- What an unlisted address reads as: 0, or a free byte in a range whose contents a reset or a loss of power has freed since (R400,
R403; log entry 2). -/
def State.unlisted (s : State) (a : Nat) : BitVec 8 :=
  match s.memFree.find? fun r => decide (r.1 ≤ a) && decide (a < r.2.1) with
  | some r => BitVec.ofNat 8 (Config.freeByte r.2.2 a)
  | none => 0

/-- A byte put at its place among rising addresses. -/
def memInsert : List Host.Cell → Nat → BitVec 8 → List Host.Cell
  | [], a, v => [(a, v)]
  | (k, w) :: t, a, v => if a < k then (a, v) :: (k, w) :: t else (k, w) :: memInsert t a v

/-- The memory with the byte at `a` replaced; a byte equal to `u`, what `a` reads as unlisted, is not listed. -/
def memPut (m : List Host.Cell) (a : Nat) (v u : BitVec 8) : List Host.Cell :=
  let r := m.filter (fun e => e.1 ≠ a)
  if v = u then r else memInsert r a v

/-- The canonical form of a memory: addresses strictly rising, no byte equal to what its address reads as unlisted. -/
def Memory.wf (u : Nat → BitVec 8) : List Host.Cell → Bool
  | [] => true
  | [(a, v)] => v != u a
  | (a, v) :: (b, w) :: t => v != u a && decide (a < b) && Memory.wf u ((b, w) :: t)

/-- The byte at address `a`. -/
def State.byteAt (s : State) (a : Nat) : Nat := ((memFind s.mem a).getD (s.unlisted a)).toNat

/-- The byte at address `a` set to `v` modulo 256. -/
def State.setByte (s : State) (a v : Nat) : State := { s with mem := memPut s.mem a (BitVec.ofNat 8 v) (s.unlisted a) }

/-- The contents of a range of addresses become free, byte by byte (log entry 5). -/
def State.freeMem (s : State) (lo hi : Nat) : State :=
  { s with
    mem := s.mem.filter fun c => !(decide (lo ≤ c.1) && decide (c.1 < hi))
    memFree := (lo, hi, s.free) :: s.memFree.filter fun r => !(decide (lo ≤ r.1) && decide (r.2.1 ≤ hi))
    free := s.free + 1 }

/-- `n` bytes from address `a` (R19: little-endian). -/
def State.loadMem (s : State) (a : Nat) : Nat → Nat
  | 0 => 0
  | n + 1 => s.byteAt a + 256 * s.loadMem (a + 1) n

/-- `n` bytes of `v` written from address `a` (R19). -/
def State.storeMem (s : State) (a v : Nat) : Nat → State
  | 0 => s
  | n + 1 => (s.setByte a v).storeMem (a + 1) (v / 256) n

/-- A list of bytes written from address `a`. -/
def State.storeBytes (s : State) (a : Nat) : List Nat → State
  | [] => s
  | b :: t => (s.setByte a b).storeBytes (a + 1) t

/-- The `n` bytes from address `a`, as a list. -/
def State.loadBytes (s : State) (a n : Nat) : List Nat := (List.range n).map fun i => s.byteAt (a + i)

/-- The address of a Saddle store word (R40). -/
def saddleAddr (w : Nat) : Nat := 0x20000000 + 8 * w

/-- A Saddle store word. -/
def State.saddle (s : State) (w : Nat) : Nat := s.loadMem (saddleAddr w) 6

/-- Every bit error of a word removed: the word has been written. -/
def State.clearUpset (s : State) (slot : Nat) : State :=
  { s with upsets := s.upsets.filter (fun e => e.1 ≠ slot) }

/-- A Saddle store word written. -/
def State.setSaddle (s : State) (w v : Nat) : State :=
  (s.storeMem (saddleAddr w) v 6).clearUpset (saddleAddr w)

/-- The bit error a word holds: `some true` when it is uncorrectable (R25, R43, R44). -/
def State.upsetAt (s : State) (slot : Nat) : Option Bool :=
  if s.upsets.any (fun e => e.1 = slot ∧ e.2) then some true
  else if s.upsets.any (fun e => e.1 = slot) then some false else none

/-! ### Parts of the state by index -/

def State.portAt (s : State) (m : Nat) : MasterPort := vget s.port m
def State.setPort (s : State) (m : Nat) (p : MasterPort) : State := { s with port := vput s.port m p }
def State.laneAt (s : State) (k : Nat) : Lane := vget s.lane k
def State.setLane (s : State) (k : Nat) (l : Lane) : State := { s with lane := vput s.lane k l }
def State.bankAt (s : State) (b : Nat) : SdlBank := vget s.bank b
def State.setBank (s : State) (b : Nat) (x : SdlBank) : State := { s with bank := vput s.bank b x }
def State.dmaAt (s : State) (n : Nat) : Dma := vget s.dma n
def State.setDma (s : State) (n : Nat) (d : Dma) : State := { s with dma := vput s.dma n d }
def State.coreAt (s : State) (c : Nat) : Core := vget s.core c
def State.setCore (s : State) (c : Nat) (x : Core) : State := { s with core := vput s.core c x }
def State.dutyAt (s : State) (g : Nat) : List DutyEntry := vget s.dutyq g
def State.setDuty (s : State) (g : Nat) (q : List DutyEntry) : State := { s with dutyq := vput s.dutyq g q }

/-- The port of master `m` answers (R24). -/
def State.respond (s : State) (m data : Nat) (err : Bool := false) : State :=
  s.setPort m { s.portAt m with resp := some ⟨data, err⟩, reading := false }

/-- The port of master `m` has the response of a posted write; a read outstanding keeps the port. -/
def State.wrote (s : State) (m : Nat) (err : Bool := false) : State := if (s.portAt m).reading then s else s.respond m 0 err

/-! ### Free values, time -/

/-- The next free value (log entry 5). -/
def State.draw (s : State) : Nat := Config.freeValue s.free

/-- The state after a free value has been drawn. -/
def State.drawn (s : State) : State := { s with free := s.free + 1 }

/-- Ticks in a microsecond and in a millisecond (R10). -/
def usTicks : Nat := 800
def msTicks : Nat := 800000

/-! ### Belfry rings (R334) and Harness events (R314, R315) -/

/-- Source `src` becomes pending; a ring of a pending source is merged and counted (R334). -/
def State.ring (s : State) (src : Nat) : State :=
  if s.fbit .BFY_PEND_W (src % 32) (src / 32) then
    (s.fcount .BFY_MERGECNT_COUNT).noteSet .BFY_PEND_W (2 ^ (src % 32)) (src / 32) 0
  else s.hbit .BFY_PEND_W (src % 32) (src / 32)

/-- A ring made when a condition holds. -/
def State.ringIf (s : State) (c : Bool) (src : Nat) : State := if c then s.ring src else s

/-- An event put among those under way; two of one producer at one arrival edge are one event (R315). -/
def State.addEvent (s : State) (e : HrnEvent) : State :=
  if s.hrn.any (fun x => x.prod = e.prod ∧ x.edge = e.edge) then s else { s with hrn := s.hrn ++ [e] }

/-- A producer of the PWM timebase raises its event in this tick (R315). -/
def State.raise (s : State) (prod : Nat) : State :=
  s.addEvent ⟨prod, 0, s.ltc + (if s.ltc % 2 = 0 then 4 else 3)⟩

/-- A producer of the lane domain raises its event with a generation count (R315, R322). -/
def State.raiseLane (s : State) (prod gen : Nat) : State :=
  s.addEvent ⟨prod, gen, s.ltc - s.ltc % 2 + 2⟩

/-- An activation on its way to lane `k`, usable at a lane edge (R197). -/
def State.arrive (s : State) (k edge : Nat) (a : Activation) : State :=
  let l := s.laneAt k
  s.setLane k { l with arriving := l.arriving ++ [(edge, a)] }

/-! ### Domains and clocks (R397, R403) -/

/-- The domain's state: 0 ON, 1 GATED, 2 RETAIN, 3 OFF (R403). -/
def domState (s : State) (d : Nat) : Nat := s.fget .PMG_DOMSTAT_STATE d
def domOn (s : State) (d : Nat) : Bool := domState s d == 0

/-- The blocks of domain `d` are clocked: no device reset is asserted and the domain is ON (R397, R403). -/
def State.clockOn (s : State) (d : Nat) : Bool := s.pw.rst.isNone && domOn s d

/-! ### Access errors (R24) -/

/-- The error kinds of FAB_ERRSTAT. -/
inductive ErrKind where
  | unmapped
  | width
  | partner
  deriving DecidableEq, Repr

/-- An error of master `m` at address `a` is recorded: the first is captured, a later one sets OVERRUN (R24). -/
def State.recordError (s : State) (k : ErrKind) (m a : Nat) : State :=
  let held := s.flag .FAB_ERRSTAT_UNMAPPED || s.flag .FAB_ERRSTAT_WIDTH || s.flag .FAB_ERRSTAT_PARTNER
  let s1 := s.fcount .FAB_ERRCNT_COUNT
  let s2 := match k with
    | .unmapped => s1.hset .FAB_ERRSTAT_UNMAPPED 1
    | .width => s1.hset .FAB_ERRSTAT_WIDTH 1
    | .partner => s1.hset .FAB_ERRSTAT_PARTNER 1
  if held then s2.hset .FAB_ERRSTAT_OVERRUN 1
  else (s2.fset .FAB_ERRSTAT_MASTER m).fset .FAB_ERRADDR_ADDR a

end Sys2Proof.Machine
end

