-- ==== Sys2Proof/Machine/Operands.lean ====
section
/-! DEFINITION. Operand forms: the local registers, special values, angles and port values of the lanes, and the registers of
a core's present bank. -/

namespace Sys2Proof.Machine

/-- Local register L `i` of lane `k`, as its 48-bit pattern. -/
def State.lreg (s : State) (k i : Nat) : Nat := s.fget .LANE_LREG_VALUE k i

/-- Local register L `i` of lane `k`, in units of 2⁻³² (R6). -/
def State.lregI (s : State) (k i : Nat) : Int := sext 48 (s.lreg k i)

/-- Local register L `i` of lane `k` set. -/
def State.setLreg (s : State) (k i v : Nat) : State := s.fset .LANE_LREG_VALUE v k i

/-- The instruction word at an address of lane `k`'s program memory. -/
def State.pmem (s : State) (k a : Nat) : Nat := s.fget .LANE_PMEM_INSTR k a

/-- The slot address of an instruction word (R238's check bits belong to it). -/
def pmemSlot (k a : Nat) : Nat := 0x40080000 + 0x1000 * k + 8 * a

/-- An accumulator's value in units of 2⁻⁶⁴ (R8). -/
def accI (l : Lane) (n : Nat) : Int := (vget l.acc n).toInt

/-- The signed shift SH of IMM[13:8] (R209). -/
def immSh (imm : Nat) : Int := sext 6 (bits imm 8 6)

/-- `x × 2^sh / 2^den`, rounded by `rm` (R207). -/
def shiftRound (rm : Nat) (x : Int) (sh : Int) (den : Nat) : Int :=
  if 0 ≤ sh then roundDiv rm (x * 2 ^ sh.toNat) (2 ^ den) else roundDiv rm x (2 ^ (den + (-sh).toNat))

/-- The special values of MOVS (R211). -/
def movsValue (s : State) (k sel : Nat) : Nat :=
  match sel with
  | 0 => s.fget .LANE_ACTINFO_TAG k
  | 1 => s.fget .LANE_ACTINFO_SRC k
  | 2 => s.fget .LANE_ACTINFO_GEN k
  | 3 => k
  | 4 => (s.laneAt k).queue.length
  | _ => (s.laneEdge - (s.laneAt k).start) / 2

/-- The word index a LD or ST starts at (R221). -/
def laneWordIndex (s : State) (k : Nat) (f : LaneWord) : Nat :=
  if bit f.imm 16 then (f.imm % 65536 + bits (s.lreg k f.rs1) 32 16) % 65536 else f.imm % 65536

/-- The scale F and the largest port value of each register of the duty port (R225). -/
def dutyScale (reg : Nat) : Nat × Nat :=
  match reg with
  | 0 | 1 => (0, 16777215)
  | 2 | 3 | 4 | 5 => (7, 2 ^ 31 - 1)
  | _ => (7, 65535)

/-- The port value of a DUTY, and whether its limit applied (R226). -/
def dutyValue (x : Int) (reg sh4 : Nat) : Nat × Bool :=
  let (f, top) := dutyScale reg
  let v := shiftRound 0 x (f + sext 4 sh4) 32
  ((clampI 0 top v).toNat, decide (v < 0) || decide ((top : Int) < v))

/-- The angle ANG reads: what the LAE held at the start of the tick 4 ticks before the lane cycle opened (R218). -/
def State.angleLag (s : State) (f : Nat) : Nat := ((vget s.angHist f)[4 + s.ltc % 2]?).getD 0

/-- Register `i` of a core's present bank (R341); x0 reads 0. -/
def Core.x (c : Core) (i : Nat) : Word32 := if i = 0 then 0 else vget (vget c.bank c.level) i

/-- Register `i` of level `l`'s bank set; a write to x0 is ignored (R342). -/
def Core.setBankReg (c : Core) (l i : Nat) (v : Word32) : Core :=
  if i = 0 then c else { c with bank := vput c.bank l (vput (vget c.bank l) i v) }

/-- Register `i` of a core's present bank set. -/
def Core.setX (c : Core) (i : Nat) (v : Word32) : Core := c.setBankReg c.level i v

end Sys2Proof.Machine
end

