-- ==== Sys2Proof/Machine/Flags.lean ====
section
/-! DEFINITION. The flags of a lane (R205) and how results set them (R206, R208). -/

namespace Sys2Proof.Machine

/-- The four flags of a lane. -/
structure LaneFlags where
  z : Bool := false
  n : Bool := false
  sat : Bool := false
  lim : Bool := false
  deriving DecidableEq, Repr

/-- An instruction that sets flags writes all four (R205); a saturation also sets SATSEEN (R206). -/
def State.setFlags (s : State) (k : Nat) (f : LaneFlags) : State :=
  let t := (((s.fput .LANE_STAT_Z f.z k).fput .LANE_STAT_N f.n k).fput .LANE_STAT_SAT f.sat k).fput .LANE_STAT_LIM f.lim k
  if f.sat then t.hset .LANE_STAT_SATSEEN 1 k else t

/-- The flags as the last instruction left them. -/
def State.laneFlags (s : State) (k : Nat) : LaneFlags :=
  ⟨s.flag .LANE_STAT_Z k, s.flag .LANE_STAT_N k, s.flag .LANE_STAT_SAT k, s.flag .LANE_STAT_LIM k⟩

/-- Z and N of a 48-bit pattern. -/
def patFlags (v : Nat) : LaneFlags := { z := v == 0, n := bit v 47 }

/-- A result, in units of 2⁻³², saturated into L `rd`, with Z, N and SAT (R206). -/
def State.putSat (s : State) (k rd : Nat) (x : Int) (lim : Bool := false) : State :=
  let r := satS48 x
  (s.setLreg k rd r.1).setFlags k { patFlags r.1 with sat := r.2, lim := lim }

/-- Several results saturated into consecutive registers from `rd`: Z and N describe the first, SAT any (R205). -/
def State.putMany (s : State) (k rd : Nat) (xs : List Int) : State :=
  let rs := xs.map satS48
  let t := (rs.zipIdx).foldl (fun u (p : (Nat × Bool) × Nat) => u.setLreg k (rd + p.2) p.1.1) s
  t.setFlags k { patFlags ((rs.head?.map (·.1)).getD 0) with sat := rs.any (·.2) }

/-- A 48-bit pattern into L `rd`, with Z and N and the given LIM. -/
def State.putBits (s : State) (k rd v : Nat) (lim : Bool := false) : State :=
  (s.setLreg k rd (v % 2 ^ 48)).setFlags k { patFlags (v % 2 ^ 48) with lim := lim }

/-- An exact sum, in units of 2⁻⁶⁴, saturated into an accumulator, with its flags (R208). -/
def State.putAcc (s : State) (k n : Nat) (x : Int) : State :=
  let lo : Int := -(2 ^ 103)
  let hi : Int := 2 ^ 103 - 1
  let y := clampI lo hi x
  let l := s.laneAt k
  (s.setLane k { l with acc := vput l.acc n (BitVec.ofInt 104 y) }).setFlags k
    { z := decide (y = 0), n := decide (y < 0), sat := decide (x < lo) || decide (hi < x) }

/-- Whether a BR condition holds (R212). -/
def branchTaken (c : Nat) (f : LaneFlags) : Bool :=
  match c with
  | 0 => true
  | 1 => f.z
  | 2 => !f.z
  | 3 => f.n
  | 4 => !f.n
  | 5 => !f.n && !f.z
  | 6 => f.n || f.z
  | 7 => f.sat
  | 8 => !f.sat
  | 9 => f.lim
  | 10 => !f.lim
  | _ => false

end Sys2Proof.Machine
end

