-- ==== Sys2Proof/Machine/Notice.lean ====
section
/-! DEFINITION. Check sums, the event log (R480) and notices (R478, R479). -/

namespace Sys2Proof.Machine

/-- One bit of a reflected CRC of `n` bits with polynomial `poly`. -/
def crcBit (poly : Nat) : Nat → Nat → Nat
  | 0, c => c
  | k + 1, c => crcBit poly k (if c % 2 = 1 then (c / 2) ^^^ poly else c / 2)

/-- CRC-32C (Castagnoli) of a list of bytes. -/
def crc32c (l : List Nat) : Nat :=
  (l.foldl (fun c b => crcBit 0x82F63B78 8 (c ^^^ (b % 256))) 0xFFFFFFFF) ^^^ 0xFFFFFFFF

/-- One bit of an unreflected 8-bit CRC. -/
def crc8Bit (poly : Nat) : Nat → Nat → Nat
  | 0, c => c
  | k + 1, c => crc8Bit poly k (if 128 ≤ c then (c * 2 % 256) ^^^ poly else c * 2)

/-- An 8-bit CRC of a list of bytes, from `init`. -/
def crc8 (poly init : Nat) (l : List Nat) : Nat :=
  l.foldl (fun c b => crc8Bit poly 8 (c ^^^ (b % 256))) init

/-! ### MRAM (R421) -/

/-- Where an image slot begins (R421). -/
def slotBase (n : Nat) : Nat := 0x30100000 + 0x200000 * n

/-- The program operations of the words from word `w` on join the write buffer, each with the value its word holds until it is
programmed; a full buffer stalls the writer until its oldest word is programmed (R421). -/
def State.mramPush (s : State) (w : Nat) : Nat → State
  | 0 => s
  | n + 1 =>
    let q := s.pw.mramBuf
    let q := if 16 ≤ q.length then q.drop 1 else q
    State.mramPush { s with pw := { s.pw with mramBuf := q ++ [(8 * w, s.loadMem (8 * w) 8)] } } (w + 1) n

/-- Every correctable bit error of the words written is gone, and every error of a word written whole (R25, R421). -/
def State.mramClean (s : State) (a n : Nat) : State :=
  { s with upsets := s.upsets.filter fun e =>
      !(decide (a < e.1 + 8) && decide (e.1 < a + n) && (!e.2 || (decide (a ≤ e.1) && decide (e.1 + 8 ≤ a + n)))) }

/-- Bytes written to MRAM: the words they lie in are programmed one after the other (R421). -/
def State.mramStore (s : State) (a : Nat) (l : List Nat) : State :=
  if l = [] then s
  else ((s.mramPush (a / 8) ((a + l.length - 1) / 8 - a / 8 + 1)).storeBytes a l).mramClean a l.length

/-- The STATE word of an image slot (R419). -/
def slotState (s : State) (n : Nat) : Nat := s.loadMem (slotBase n) 4

/-- The STATE of an image slot set (R419). -/
def setSlotState (s : State) (n v : Nat) : State := s.mramStore (slotBase n) (leBytes 4 v)

/-! ### The event log (R480) and notices (R478, R479) -/

/-- The address of an event-log record (R480). -/
def logAddr (seq : Nat) : Nat := 0x30700000 + 32 * (seq % 16384)

/-- A domain that the management core's ROM, master 4, has written is DIRTY while an image is applied (R404). -/
def State.romDirty (s : State) (d : Nat) : State := if s.img.applied then s.hset .PMG_DOMSTAT_DIRTY 1 d else s

/-- A record appended to the event log (R480): those of sessions, keys and images, classes 9 to 11, by the ROM, the others by the
sequencer (log entry 91). -/
def State.logAppend (s : State) (cls code port : Nat) (data : List Nat) : State :=
  let body := leBytes 4 s.logSeq ++ leBytes 8 s.ltc ++ [cls, code, port, s.fget .TTH_STAT_ROLE] ++
    (data ++ List.replicate 12 0).take 12
  let t := if 9 ≤ cls then s.romDirty 18 else s
  let t := t.mramStore (logAddr s.logSeq) (body ++ leBytes 4 (crc32c body))
  { t with logSeq := s.logSeq + 1 }

/-- A notice queued at port `p` when the port and its class there are enabled; the oldest is dropped when 8 wait (R452, R478). -/
def State.noticeAt (s : State) (cls code : Nat) (data : List Nat) (p : Nat) : State :=
  if s.fbit .FYZ_PORT_CFG_NOTMASK (cls - 1) p && s.flag .FYZ_PORT_CFG_EN p then
    let q := vget s.notices p
    let n : Notice := ⟨vget s.noticeSeq p, cls, code, s.ltc, data.take 32⟩
    { s with notices := vput s.notices p ((if 8 ≤ q.length then q.drop 1 else q) ++ [n])
             noticeSeq := vput s.noticeSeq p ((vget s.noticeSeq p + 1) % 256) }
  else s

/-- The notices of a class can be sent: those of class 8 by the safety state machine, the others by the ROM, which needs the management
core out of reset (R479). -/
def State.noticesUp (s : State) (cls : Nat) : Bool := cls == 8 || !s.flag .FAB_CORE_CTRL_RST 4

/-- A notice event: queued at every port that enables its class while its sender runs, and logged (R479, R480; log entry 104). -/
def State.notice (s : State) (cls code : Nat) (data : List Nat) : State :=
  (if s.noticesUp cls then (List.range 5).foldl (fun t p => t.noticeAt cls code data p) s else s).logAppend cls code 0xFF data

end Sys2Proof.Machine
end

