-- ==== Sys2Proof/Machine/CoreBase.lean ====
section
/-! DEFINITION. What every operation on a core shares: exception entry (R348), the end of a load, the loss of a
reservation (R327), interrupt state of a core in reset (R332). -/

namespace Sys2Proof.Machine

/-- Taking an exception: mepc, mcause and mtval are written, MIE moves to MPIE and clears, and the core goes on at the base
of mtvec, without changing level or bank (R348); a reservation is lost (R327). -/
def State.takeException (s : State) (c pc cause tval : Nat) : State :=
  let x := s.coreAt c
  s.setCore c { x with
    mepc := pc - pc % 2, mcause := cause, mtval := if Config.tvalGiven cause then tval % 2 ^ 32 else 0, mpie := x.mie, mie := false,
    pc := x.mtvec - x.mtvec % 4, resv := none, wait := none }

/-- An instruction retired: minstret counts it unless mcountinhibit.IR stops it. -/
def Core.retired (x : Core) : Core :=
  if bit x.mcountinhibit 2 then x else { x with minstret := (x.minstret + 1) % 2 ^ 64 }

/-- Exception causes of the privileged standard. -/
def causeIllegal : Nat := 2
def causeBreak : Nat := 3
def causeLoadFault : Nat := 5
def causeStoreFault : Nat := 7
def causeEcallM : Nat := 11

/-- Ticks in `n` cycles of core `c`: 600 MHz, or 200 MHz for the management core, and slower under clock enforcement (R344,
R440). -/
def coreTicks (s : State) (c n : Nat) : Nat :=
  if c = 4 then 4 * n
  else (4 * n * (if s.flag .CUP_STAT_ENFCLK then 2 ^ (s.fget .CUP_CFG_CLKDIV + 1) else 1) + 2) / 3

/-- The register value a load of `bytes` bytes makes of the raw data. -/
def loadExtend (bytes : Nat) (signed : Bool) (v : Nat) : Word32 :=
  let n := 8 * bytes
  if signed then BitVec.ofInt 32 (sext n v) else BitVec.ofNat 32 (v % 2 ^ n)

/-- The data of an outstanding load reach core `c`: the register is written, or an error response raises a load
access fault (R24). -/
def State.coreLoadDone (s : State) (c data : Nat) (err : Bool) : State :=
  let x := s.coreAt c
  match x.wait with
  | none => s
  | some w =>
    if err then s.takeException c w.pc causeLoadFault w.addr
    else
      let v := loadExtend w.bytes w.signed data
      let y := if w.fp then { x with freg := vput x.freg w.rd v } else x.setX w.rd v
      s.setCore c { y.retired with wait := none }

/-- The response of an access of master `m`: kept at its port, and given to the load that waits when `m` is a core. -/
def State.answer (s : State) (m data : Nat) (err : Bool := false) : State :=
  let t := s.respond m data err
  if m < 5 then t.coreLoadDone m data err else t

/-- A write of master `m` at an address breaks the other masters' reservations on its granule (R327). -/
def State.breakReservations (s : State) (m a : Nat) : State :=
  (List.range 5).foldl (fun t c =>
    let x := t.coreAt c
    if c ≠ m ∧ x.resv.any (fun r => r.1 = a - a % 8) then t.setCore c { x with resv := none } else t) s

end Sys2Proof.Machine
end

