-- ==== Sys2Proof/Machine/Saddle.lean ====
section
/-! DEFINITION. The Saddle store: requests and lane ports (R42, R194), the arbiters (R45 to R52), the beats, one at each lane edge,
with their bit errors (R43, R44, R504), and the words' delivery to those who asked. -/

namespace Sys2Proof.Machine

/-- The bank a word lies in (R40). -/
def wordBank (w : Nat) : Nat := w % 65536 / 16384

/-- One request put at its bank; one of a lane is held in its port until the port accepts it (R194). -/
def sdlPost (s : State) (who word beats : Nat) (write : Bool) (data : List Nat) (use : SdlUse) (tail : Bool := false) : State :=
  let b := wordBank word
  let x := s.bankAt b
  let r : SdlReq := ⟨who, s.sdlSeq, word % 65536, beats, write, data, use, s.laneEdge, decide (who < 8), tail, false⟩
  { s.setBank b { x with req := x.req ++ [r] } with sdlSeq := s.sdlSeq + 1 }

/-- The uses of the two parts of a request split after `n` words. -/
def splitUse (n : Nat) : SdlUse → SdlUse × SdlUse
  | .laneLoad k rd => (.laneLoad k rd, .laneLoad k (rd + n))
  | .dmaRead e pos => (.dmaRead e pos, .dmaRead e (pos + n))
  | u => (u, u)

/-- How many requests a burst becomes (R42). -/
def sdlParts (word beats : Nat) : Nat := if beats ≤ 16384 - word % 16384 then 1 else 2

/-- A burst requested; one that crosses a bank boundary becomes two requests (R42). -/
def sdlRequest (s : State) (who word beats : Nat) (write : Bool) (data : List Nat) (use : SdlUse) : State :=
  let n := 16384 - word % 16384
  if beats ≤ n then sdlPost s who word beats write data use
  else
    let (u, v) := splitUse n use
    sdlPost (sdlPost s who word n write (data.take n) u) who (word + n) (beats - n) write (data.drop n) v true

/-- The lane a request comes from. -/
def reqLane (r : SdlReq) : Option Nat :=
  match r.use with
  | .laneLoad k _ | .laneStore k => some k
  | .coreRead _ _ | .coreWrite _ | .coreRmw _ | .dmaRead _ _ | .dmaWrite _ | .shadowRead | .syncRead | .shadowWrite | .windowRead _ |
    .pmbRead _ => none

/-- Every request that waits at the four banks. -/
def allReqs (s : State) : List SdlReq := s.bank.toList.flatMap (·.req)

/-- The granted requests. -/
def allOwners (s : State) : List SdlReq := s.bank.toList.filterMap (·.cur)

/-- A requester with a request at a bank, waiting or granted. -/
def sdlBusy (s : State) (who : Nat) : Bool := (allReqs s ++ allOwners s).any fun r => r.who == who

/-- An element moved to the end of a rank order. -/
def toLowest (l : List Nat) (x : Nat) : List Nat := l.filter (· != x) ++ [x]

/-- `q` and `r` are the two parts of one split request. -/
def sdlPartners (q r : SdlReq) : Bool := (r.tail && q.seq + 1 == r.seq) || (q.tail && r.seq + 1 == q.seq)

/-- `r` need not wait for `q`: `q` is later, of another requester or lane, or the other part of the same split request, each part
being arbitrated on its own (R42, R221). -/
def sdlApart (q r : SdlReq) : Bool := q.seq ≥ r.seq || q.who != r.who || reqLane q != reqLane r || sdlPartners q r

/-- The accesses of one lane, and of one other requester, complete in issue order (R27, R223): `r` may go to its bank when no earlier
one waits, and no granted one would have its last beat after those of `r`, were `r` granted now. -/
def inOrder (s : State) (r : SdlReq) : Bool :=
  (allReqs s).all (fun q => sdlApart q r) &&
    s.bank.toList.all fun x => x.cur.all fun q => sdlApart q r || x.nextDec ≤ s.laneEdge + 2 * r.beats

/-- The request requester `who` has asserted at bank `b`. -/
def reqOf (s : State) (b who : Nat) : Option SdlReq := (s.bankAt b).req.find? fun r => r.who == who && r.asserted

/-! ### The lane ports and the request wires at a lane edge -/

/-- The oldest request of lane `4 p + j` that its port holds since an earlier lane cycle. -/
def heldOf (s : State) (p j : Nat) : Option SdlReq :=
  ((allReqs s).filter fun r => r.held && r.who == p && reqLane r == some (4 * p + j) && decide (r.since < s.laneEdge)).foldl
    (fun m r => match m with
      | some x => if x.seq ≤ r.seq then m else some r
      | none => some r) none

/-- A request accepted by its port: it stands before its bank behind the others. -/
def acceptAt (r : SdlReq) (x : SdlBank) : SdlBank :=
  let take (q : SdlReq) : Bool := q.held && (q.seq == r.seq || (q.tail && q.seq == r.seq + 1))
  { x with req := x.req.filter (fun q => !take q) ++ (x.req.filter take).map fun q => { q with held := false } }

/-- In each lane cycle a lane port accepts the request of its highest-ranked lane that has one, and that lane drops to the lowest
rank (R194). -/
def portAccept (s : State) (p : Nat) : State :=
  match (vget s.portRank p).findSome? fun j => (heldOf s p j).map fun r => (j, r) with
  | none => s
  | some (j, r) =>
    { s with bank := s.bank.map (acceptAt r), portRank := vput s.portRank p (toLowest (vget s.portRank p) j) }

/-- The request of requester `who` that is asserted next at bank `b`: its first that no port holds, issued in an earlier cycle, in
order; none while one is asserted. -/
def nextAssert (s : State) (b who : Nat) : Option SdlReq :=
  match reqOf s b who with
  | some _ => none
  | none => (s.bankAt b).req.find? fun r => r.who == who && !r.held && decide (r.since < s.laneEdge) && inOrder s r

/-- That request asserted in the cycle that ends at this edge: its wait counts from here (R45, R51). -/
def assertReq (b : Nat) (s : State) (who : Nat) : State :=
  match nextAssert s b who with
  | none => s
  | some r =>
    let x := s.bankAt b
    s.setBank b { x with req := x.req.map fun q => if q.seq = r.seq then { q with asserted := true, since := s.laneEdge - 2 } else q }

/-- The requests asserted at the four banks. -/
def assertReqs (s : State) : State :=
  (List.range 4).foldl (fun t b => if (t.bankAt b).req.isEmpty then t else (List.range 16).foldl (assertReq b) t) s

/-! ### The arbiter (R45 to R52) -/

/-- The programmed class of a requester (SDL_BANK[b]_CLASS; two bits each). -/
def sdlClass (s : State) (b who : Nat) : Nat := bits (s.regWord (regDesc .SDL_BANK_CLASS) b 0) (2 * who) 2

/-- Whether a requester competes as aged in a decision (R50). -/
def sdlAged (s : State) (b who : Nat) : Bool :=
  let t := s.fget .SDL_BANK_AGE_THRESH b
  t != 0 && (vget (s.bankAt b).aged who || decide (t ≤ vget (s.bankAt b).loss who))

/-- The class a requester competes in (R46, R50). -/
def sdlCompete (s : State) (b who : Nat) : Nat := if sdlAged s b who then 0 else sdlClass s b who

/-- The requesters present before a bank. -/
def sdlPresent (s : State) (b : Nat) : List Nat := (List.range 16).filter fun w => (reqOf s b w).isSome

/-- The winner of a decision: the highest class present, and the highest rank in it (R46, R47). -/
def sdlWinner (s : State) (b : Nat) : Option Nat :=
  let p := sdlPresent s b
  (List.range 4).findSome? fun c =>
    (vget (s.bankAt b).rank c).find? fun w => p.contains w && sdlCompete s b w == c

/-- Ranks, loss counts and aging after a decision that `w` won (R47, R50). -/
def sdlAccount (s : State) (b w : Nat) : State :=
  let x := s.bankAt b
  let p := sdlPresent s b
  let c := sdlCompete s b w
  let loss := (List.range 16).foldl (fun v r =>
    if r == w then vput v r 0 else if p.contains r then vput v r (vget v r + 1) else v) x.loss
  let aged := (List.range 16).foldl (fun v r =>
    if r == w then vput v r false else if p.contains r then vput v r (sdlAged s b r) else v) x.aged
  s.setBank b { x with rank := vput x.rank c (toLowest (vget x.rank c) w), loss := loss, aged := aged }

/-- The longest wait of a bank, in lane cycles from the registering edge to the first beat (R51, R52). -/
def sdlWait (s : State) (b : Nat) (r : SdlReq) : State :=
  let w := min 255 ((s.laneEdge - r.since) / 2)
  if s.fget .SDL_BANK_WAITMAX_CYCLES b < w then
    (s.fset .SDL_BANK_WAITMAX_CYCLES w b).fset .SDL_BANK_WAITMAX_WHO r.who b
  else s

/-! ### Beats (R43, R44, R504) -/

/-- A read beat: the word, whether it was uncorrectable, and what its bit error does (R43, R44). -/
def sdlReadBeat (s : State) (w : Nat) : Nat × Bool × State :=
  let v := s.saddle w
  match s.upsetAt (saddleAddr w) with
  | none => (v, false, s)
  | some false =>
    let b := wordBank w
    let x := s.bankAt b
    let t := s.fcount .SDL_ECCCOR_COUNT
    (v, false, if x.writeback.contains w then t else t.setBank b { x with writeback := x.writeback ++ [w] })
  | some true =>
    let t := s.fcount .SDL_ECCUNC_COUNT
    let u := if t.flag .SDL_ECCADDR_VALID then t
      else (t.fset .SDL_ECCADDR_INDEX w).hset .SDL_ECCADDR_VALID 1
    (v, true, u.ring 98)

/-- A write beat; it cancels the write-back of the word (R43). -/
def sdlWriteBeat (s : State) (w v : Nat) : State :=
  let b := wordBank w
  let t := s.setSaddle w (v % 2 ^ 48)
  let x := t.bankAt b
  t.setBank b { x with writeback := x.writeback.filter (· != w) }

/-- A word given to the load of a lane that asked for it, usable in the lane cycle after its beat (R222). -/
def giveLane (s : State) (k rd : Nat) (r : SdlReq) (v : Nat) (bad : Bool) : State :=
  let l := s.laneAt k
  let f : LaneLoad → LaneLoad := fun x =>
    if r.seq = x.seq ∨ (r.tail ∧ r.seq = x.seq + 1) then { x with ready := x.ready ++ [⟨rd, v, bad, s.laneEdge + 2⟩] } else x
  s.setLane k { l with loads := l.loads.map f }

/-- Bits [31:0] and the sign-extended upper bits of a 48-bit word, as the two halves read (R33). -/
def halfOf (hi : Bool) (v : Nat) : Nat :=
  if hi then twos 32 (sext 16 (bits v 32 16)) else v % 2 ^ 32

/-- A master's read of one half of a Saddle word: the port latches the upper bits at a low-half read (R33). -/
def giveHalf (s : State) (m w : Nat) (hi : Bool) (v : Nat) (bad : Bool) : State :=
  let p := s.portAt m
  let t := s.setPort m { p with rhold := if hi ∨ bad then none else some (saddleAddr w, bits v 32 16) }
  t.answer m (if bad then 0 else halfOf hi v) bad

/-- A DMA engine's Saddle access, or a part of it, is over: the engine goes on with its next one when no part is left (R53). -/
def dmaPart (s : State) (n : Nat) (read : Bool) : State :=
  let d := s.dmaAt n
  if d.parts ≠ 1 then s.setDma n { d with parts := d.parts - 1 }
  else if read then
    s.setDma n { d with parts := 0, arrived := true, toRead := d.toRead - d.size, src := d.src + 8 * d.size }
  else s.setDma n { d with parts := 0, arrived := true, buf := d.buf.drop d.size, dst := d.dst + 8 * d.size }

/-- The last beat of a lane's store, or of a part of it: the store's place is free after this cycle when no part is left (R215). -/
def storePart (s : State) (k : Nat) (r : SdlReq) : State :=
  if (allReqs s ++ allOwners s).any (fun q => sdlPartners q r) then s
  else s.setLane k { s.laneAt k with storesOut := (s.laneAt k).storesOut + 1 }

/-- A locked read-modify-write reads its word in its first beat and writes it in its second, bits [31:0] kept (R32). When the word it
must keep is uncorrectable it writes nothing and its port has an error response (log entry 85). -/
def rmwBeat (s : State) (b m i : Nat) (r : SdlReq) : State :=
  if i = 0 then
    let (v, bad, t) := sdlReadBeat s r.word
    t.setBank b { t.bankAt b with keep := (v, bad) }
  else
    let (v, bad) := (s.bankAt b).keep
    if bad then s.wrote m true
    else (sdlWriteBeat s r.word (v % 2 ^ 32 + (r.data.headD 0) % 2 ^ 16 * 2 ^ 32)).wrote m

/-- A word the shadow engine reads; what it takes of an uncorrectable word is a free value (log entry 88). -/
def shadowWord (s : State) (w : Nat) : Nat × State :=
  let (v, bad, t) := sdlReadBeat s w
  if bad then (t.draw % 2 ^ 48, t.drawn) else (v, t)

/-- Beat `i` of the granted request `r` of bank `b`: the word is read or written, and goes to who asked for it (R504). -/
def sdlBeat (s : State) (b i : Nat) (r : SdlReq) : State :=
  let w := r.word + i
  let last := i + 1 == r.beats
  match r.use with
  | .laneLoad k rd =>
    let (v, bad, t) := sdlReadBeat s w
    giveLane t k (rd + i) r v bad
  | .laneStore k =>
    let t := sdlWriteBeat s w (r.data.getD i 0)
    if last then storePart t k r else t
  | .coreRead m hi =>
    let (v, bad, t) := sdlReadBeat s w
    giveHalf t m w hi v bad
  | .coreWrite m => (sdlWriteBeat s w (r.data.getD i 0)).wrote m
  | .coreRmw m => rmwBeat s b m i r
  | .dmaRead n pos =>
    let (v, bad, t) := sdlReadBeat s w
    let d := t.dmaAt n
    let t := t.setDma n { d with buf := d.buf.set (pos + i) (twos 64 (sext 48 v)), err := d.err || bad }
    if last then dmaPart t n true else t
  | .dmaWrite n =>
    let t := sdlWriteBeat s w (r.data.getD i 0)
    if last then dmaPart t n false else t
  | .shadowRead =>
    let (v, t) := shadowWord s w
    { t with shadowIn := t.shadowIn ++ [(w, v)] }
  | .syncRead =>
    let (v, t) := shadowWord s w
    { t with syncIn := t.syncIn ++ [v] }
  | .shadowWrite => sdlWriteBeat s w (r.data.getD i 0)
  | .windowRead m =>
    let (v, bad, t) := sdlReadBeat s w
    { t with windowIn := t.windowIn ++ [(m, v, bad)] }
  | .pmbRead k =>
    let (v, bad, t) := sdlReadBeat s w
    { t with fyz := { t.fyz with pmb := { t.fyz.pmb with srcs := t.fyz.pmb.srcs ++ [(k, v, bad)] } } }

/-- The beat of bank `b` at this lane edge; with the last one the bank is free to decide (R45, R48). -/
def bankBeat (s : State) (b : Nat) : State :=
  let x := s.bankAt b
  match x.cur with
  | none => s
  | some r =>
    let t := s.setBank b { x with
      cur := if x.done + 1 < r.beats then some r else none, done := x.done + 1, beatAt := some s.laneEdge }
    sdlBeat t b x.done r

/-- The Saddle store at a lane edge: the beats, the requests the lane ports accept, the requests asserted in the cycle that has
ended. -/
def saddleEdge (s : State) : State :=
  let t := (List.range 4).foldl bankBeat s
  assertReqs ((List.range 8).foldl portAccept t)

/-- The winner's request leaves those that wait and owns the bank; its first beat comes at the next lane edge, and the next decision at
the edge of its last beat (R45, R48). -/
def sdlGrant (s : State) (b : Nat) (r : SdlReq) : State :=
  let x := s.bankAt b
  s.setBank b { x with
    req := x.req.filter (fun q => q.seq != r.seq), cur := some r, done := 0, nextDec := s.laneEdge + 2 * r.beats }

/-- A decision of bank `b`: the winner is granted, the others lose (R45 to R50). -/
def sdlDecide (s : State) (b : Nat) : State :=
  match sdlWinner s b with
  | none => s
  | some w =>
    match reqOf s b w with
    | none => s
    | some r => sdlGrant (sdlWait (sdlAccount s b w) b r) b r

/-- The bank takes a decision at this edge: it is idle, or the edge begins its owner's last beat (R45). -/
def decisionEdge (s : State) (b : Nat) : Bool := (s.bankAt b).cur.isNone

/-- SADDLE_DECISION: bit errors that words have taken since are noted, and the bank decides. -/
def execSaddleDecision (b : Fin 4) (upsets : List (Nat × Bool)) (s : State) : Host.Outcome State Fault Refusal :=
  .next (if s.pw.rst.isSome || !decisionEdge s b then s else sdlDecide { s with upsets := s.upsets ++ upsets.filter (fun e => !s.upsets.contains e) } b)

/-- ECC_WRITEBACK: in a cycle of bank `b` with no beat, the oldest corrected word is written back (R43). -/
def execEccWriteback (b : Fin 4) (s : State) : Host.Outcome State Fault Refusal :=
  let x := s.bankAt b
  match x.writeback with
  | [] => .next s
  | w :: t => .next (if x.beatAt = some s.laneEdge then s else
    (s.setBank b { x with writeback := t }).clearUpset (saddleAddr w))

/-- A write of 0 to THRESH ends the aged state of every requester of the bank (R50). -/
def sdlThreshWritten (s : State) (b : Nat) : State :=
  if s.fget .SDL_BANK_AGE_THRESH b = 0 then
    s.setBank b { s.bankAt b with aged := Vector.replicate 16 false }
  else s

end Sys2Proof.Machine
end

