-- ==== Sys2Proof/Machine/Lanes.lean ====
section
/-! DEFINITION. The control lanes (spec/06_control_lanes.md): activations, dispatch, every instruction, faults, and writes
of lane contents from outside. -/

namespace Sys2Proof.Machine

/-! ### The activation queue -/

/-- States of a lane (LANE_STAT.STATE). -/
def laneDisabled : Nat := 0
def laneIdle : Nat := 1
def laneRunning : Nat := 2
def laneFaulted : Nat := 3

/-- The queue of lane `k` replaced, with COUNT and the high-water mark (LANE_QSTAT). -/
def setQueue (s : State) (k : Nat) (q : List Activation) : State :=
  let l := s.laneAt k
  let t := s.setLane k { l with queue := q }
  (t.fset .LANE_QSTAT_COUNT q.length k).fset .LANE_QSTAT_HWM
    (max (s.fget .LANE_QSTAT_HWM k) (max q.length l.queue.length)) k

/-- Every queued entry discarded and counted (R241, R242). -/
def discardQueue (s : State) (k : Nat) : State :=
  (setQueue s k []).fcount .LANE_DISCCNT_COUNT k 0 (s.laneAt k).queue.length

/-- A drop at a full queue; a SAR result's is also counted in ADC_QFULLCNT (R70, R198). -/
def dropArrival (s : State) (k : Nat) (a : Activation) : State :=
  let t := s.fcount .LANE_DROPCNT_QFULL k
  if a.src / 32 = 0 then
    (t.ringIf (t.fget .ADC_QFULLCNT_COUNT == 0) 101).fcount .ADC_QFULLCNT_COUNT
  else t

/-- One arrival at lane `k`: discarded at a disabled or faulted lane (R199), dropped at a full queue, else enqueued (R198). -/
def enqueueOne (k : Nat) (s : State) (a : Activation) : State :=
  let st := s.fget .LANE_STAT_STATE k
  if st = laneDisabled ∨ st = laneFaulted then s.fcount .LANE_DISCCNT_COUNT k
  else
    let q := (s.laneAt k).queue
    if 32 ≤ q.length then dropArrival s k a else setQueue s k (q ++ [a])

/-- Arrivals in source order (R198): by class, then by index within it. -/
def bySource : List Activation → List Activation
  | [] => []
  | a :: t => (bySource t).takeWhile (fun b => b.src < a.src) ++ a :: (bySource t).dropWhile (fun b => b.src < a.src)

/-- The earliest arrival edge of a lane. -/
def firstEdge (l : List (Nat × Activation)) : Option Nat :=
  l.foldl (fun m e => match m with | none => some e.1 | some x => some (min x e.1)) none

/-- ACTIVATION_ENQUEUE: at lane `k`'s next arrival edge its arrivals are enqueued (R198, R199). -/
def execActivationEnqueue (k : Fin 32) (s : State) : Host.Outcome State Fault Refusal :=
  let l := s.laneAt k
  match firstEdge l.arriving with
  | none => .next s
  | some e =>
    let now := bySource ((l.arriving.filter (fun x => x.1 == e)).map (·.2))
    let t := s.setLane k { l with arriving := l.arriving.filter (fun x => x.1 != e) }
    .next (if e ≤ s.ltc then now.foldl (enqueueOne k) t else s)

/-! ### Applies (R235) and the boundary of an activation -/

/-- Every staged write copied into its register in arrival order; APPLY clears (R235). -/
def applyStage (s : State) (k : Nat) : State :=
  let l := s.laneAt k
  let t := l.stage.foldl (fun u e => u.setLreg k e.1 e.2) s
  (t.setLane k { l with stage := [] }).fset .LANE_CTRL_APPLY 0 k

/-- An apply that was requested takes place (R235). -/
def applyIfAsked (s : State) (k : Nat) : State := if s.flag .LANE_CTRL_APPLY k then applyStage s k else s

/-- The registers a stream entry names, sampled (R377). -/
def sampleLane (s : State) (e k : Nat) : List Nat :=
  (List.range (s.fget .TTH_STREAM_W1_COUNT e)).map fun i => s.lreg k (s.fget .TTH_STREAM_W0_FIRST e + i)

/-- A boundary of lane `k`: the registers that a snapshot being gathered waits for are sampled (R377). -/
def laneBoundary (s : State) (k : Nat) : State :=
  match s.snap with
  | none => s
  | some n =>
    let es := n.waitLane.filter (fun e => e.2 == k)
    { s with snap := some { n with
        data := n.data ++ es.map (fun e => (e.1, sampleLane s e.1 k))
        waitLane := n.waitLane.filter (fun e => e.2 != k) } }

/-! ### Dispatch (R200) and the end of an activation (R202, R241) -/

/-- The head entry is dispatched (R200); an apply in the same cycle is done first, and the operand prevails in L0 (R235). -/
def dispatchHead (s : State) (k : Nat) (a : Activation) (rest : List Activation) : State :=
  let t := setQueue (applyIfAsked s k) k rest
  let t := if a.opv then t.setLreg k 0 a.operand else t
  let t := (((t.fset .LANE_ACTINFO_TAG a.tag k).fset .LANE_ACTINFO_GEN a.gen k).fput .LANE_ACTINFO_OPV a.opv k).fset
    .LANE_ACTINFO_SRC a.src k
  let t := t.setFlags k {}
  let pc := t.fget .LANE_VEC_ENTRY k a.tag
  let t := t.setLane k { t.laneAt k with
    stack := [], pc := pc, lastPc := pc, active := true, start := t.laneEdge, budget := t.fget .LANE_CFG_BUDGET k,
    nextAt := t.laneEdge + 2 }
  (t.fset .LANE_PC_PC pc k).fset .LANE_STAT_STATE laneRunning k

/-- The lane cycle has come in which lane `k` may dispatch or execute again (R202, R214, R215). -/
def laneReady (s : State) (k : Nat) : Bool := decide ((s.laneAt k).nextAt ≤ s.laneEdge)

/-- A lane that may dispatch: no activation executes, no fault waits, and its state allows it (R200, R202, R242). -/
def mayDispatch (s : State) (k : Nat) : Bool :=
  let st := s.fget .LANE_STAT_STATE k
  !(s.laneAt k).active && !(s.laneAt k).ending && (s.laneAt k).faultWait.isNone && (st == laneIdle || st == laneRunning) && laneReady s k

/-- DISPATCH: lane `k` dispatches the head of its queue (R200, R201). -/
def execDispatch (k : Fin 32) (s : State) : Host.Outcome State Fault Refusal :=
  match (s.laneAt k).queue with
  | [] => .next s
  | a :: rest => .next (if mayDispatch s k then dispatchHead s k a rest else s)

/-- Lane `k` enters DISABLED, with its queue discarded (R241). -/
def laneClose (s : State) (k : Nat) : State :=
  let t := discardQueue s k
  (t.setLane k { t.laneAt k with disabledAt := none, ending := false }).fset .LANE_STAT_STATE laneDisabled k

/-- Where a lane goes when its activation has ended: IDLE, or on through the next dispatch (R240); after a disable, which a write of
EN = 1 in this cycle still withdraws, DISABLED when the cycle is over (R241). -/
def laneSettle (s : State) (k : Nat) : State :=
  if s.flag .LANE_CTRL_EN k then
    s.fset .LANE_STAT_STATE (if (s.laneAt k).queue.isEmpty then laneIdle else laneRunning) k
  else s.setLane k { s.laneAt k with ending := true }

/-- The lane cycle of lane `k` that ends at this edge: a lane whose activation ended in it with EN at 0 is DISABLED (R241), and the
places of the stores whose last beat was written in it are free (R215). -/
def laneCycleEnd (s : State) (k : Nat) : State :=
  let t := if (s.laneAt k).ending then laneClose s k else s
  if (t.laneAt k).storesOut = 0 then t
  else t.setLane k { t.laneAt k with stores := (t.laneAt k).stores - (t.laneAt k).storesOut, storesOut := 0 }

/-- The lane cycles of the activation, dispatch to the present cycle inclusive (R216). -/
def laneCycles (s : State) (k : Nat) : Nat := (s.laneEdge - (s.laneAt k).start) / 2 + 1

/-- The activation ends (R202, R216, R240, R241). -/
def endActivation (s : State) (k : Nat) : State :=
  let c := min 65535 (laneCycles s k)
  let t := (s.fset .LANE_CYC_LAST c k).fset .LANE_CYC_MAX (max c (s.fget .LANE_CYC_MAX k)) k
  let t := t.setLane k { t.laneAt k with active := false, nextAt := t.laneEdge + 2 }
  laneBoundary (laneSettle t k) k

/-! ### Faults (R242 to R244) -/

/-- The record of a fault: the first sets FAULT, CAUSE and FPC, rings and is noticed (R242). -/
def faultRecord (s : State) (k cause fpc : Nat) : State :=
  if s.flag .LANE_STAT_FAULT k then s
  else
    let u := ((s.hset .LANE_STAT_FAULT 1 k).fset .LANE_STAT_CAUSE cause k).fset .LANE_PC_FPC fpc k
    (u.ring (64 + k)).notice 5 cause [k, fpc % 256, fpc / 256]

/-- What follows a fault once every load has written: its record, then the stop or the next dispatch (R242, R243). -/
def faultEnd (s : State) (k cause fpc : Nat) : State :=
  let t := s.setLane k { s.laneAt k with faultWait := none, nextAt := s.laneEdge + 2 }
  let t := faultRecord t k cause fpc
  if t.flag .LANE_CTRL_EN k && !t.flag .LANE_CFG_FPOL k then
    laneBoundary ((discardQueue t k).fset .LANE_STAT_STATE laneFaulted k) k
  else laneBoundary (laneSettle t k) k

/-- A fault of lane `k` with its cause, at an address, abandons the activation; it waits for the loads already issued (R242). -/
def laneFault (s : State) (k cause fpc : Nat) : State :=
  let t := s.setLane k { s.laneAt k with active := false, faultWait := some (cause, fpc % 512) }
  if (t.laneAt k).loads.isEmpty then faultEnd t k cause (fpc % 512) else t

/-- The fault causes (R244). -/
def causeIllop : Nat := 1
def causePcovf : Nat := 2
def causeStack : Nat := 3
def causePmecc : Nat := 4
def causeSdlecc : Nat := 5
def causeDutyperm : Nat := 6
def causeTeamperm : Nat := 7
def causeBudget : Nat := 8

/-! ### Fetch and issue -/

/-- The registers that outstanding loads have yet to write. -/
def pendingRegs (l : Lane) : List Nat := l.loads.flatMap (·.regs)

/-- The word at the program counter has no uncorrectable error. -/
def wordReadable (s : State) (k : Nat) : Bool := s.upsetAt (pmemSlot k (s.laneAt k).pc) != some true

/-- The activation of lane `k` has reached its bound: BUDGET, or 1,024 lane cycles after a disable (R216, R241). -/
def overdue (s : State) (k : Nat) : Bool :=
  let l := s.laneAt k
  (l.budget != 0 && decide (l.budget + 1 < laneCycles s k)) ||
    (l.budget == 0 && l.disabledAt.any fun d => decide (d + 2048 < s.laneEdge))

/-- The result that register `r` of a lane is to hold is not usable in this lane cycle (R211, R214). -/
def unready (s : State) (k r : Nat) : Bool := (s.laneAt k).hazard.any fun h => h.1 == r && decide (s.laneEdge < h.2)

/-- Lane `k` is to execute instruction `mn`: its activation executes within its bound, its cycle has come, the word at its
program counter is that instruction, no register it names waits for a load, and its sources are usable (R210, R214, R216). -/
def laneFetch (s : State) (k : Nat) (mn : LaneMn) : Option LaneWord :=
  let l := s.laneAt k
  if l.active && laneReady s k && !overdue s k && decide (l.pc < 512) && wordReadable s k then
    match laneDecode (s.pmem k l.pc) with
    | none => none
    | some (m, f) =>
      if m = mn && (laneSources m f ++ laneDests m f).all (fun r => !(pendingRegs l).contains r) &&
          (laneSources m f).all (fun r => !unready s k r) then some f else none
  else none

/-- A corrected fetch is counted (R238). -/
def countFetch (s : State) (k : Nat) : State :=
  if s.upsetAt (pmemSlot k (s.laneAt k).pc) = some false then s.fcount .LANE_ECCCNT_PMCOR k else s

/-- The next address of lane `k`, which takes `c` lane cycles to reach (R215); one of 512 or more faults in the next cycle
(R213). -/
def laneGoto (s : State) (k n : Nat) (c : Nat := 1) : State :=
  let l := s.laneAt k
  let t := s.setLane k { l with pc := n, lastPc := l.pc, nextAt := s.laneEdge + (if n < 512 then 2 * c else 2) }
  if n < 512 then t.fset .LANE_PC_PC n k else t

/-- Lane cycles after an instruction's own in which its results become usable (R211). -/
def resultCycles (mn : LaneMn) : Nat :=
  match mn with
  | .clarke | .iclarke | .park | .ipark => 2
  | .sincos => 4
  | .nop | .end_ | .mov | .ldi | .movs | .ang | .add | .sub | .neg | .abs | .mul | .madd | .msub | .ash | .min | .max
  | .clmp | .slew | .and | .or | .xor | .cmp | .aclr | .ald | .amac | .amsu | .ard | .ld | .st | .duty | .commit | .evt
  | .send | .dbl | .br | .call | .ret => 1

/-- The registers an instruction writes, marked with the edge from which their results are usable (R211, R214). -/
def laneResults (s : State) (k : Nat) (mn : LaneMn) (f : LaneWord) : State :=
  let l := s.laneAt k
  let ds := laneDests mn f
  let old := l.hazard.filter fun h => !ds.contains h.1 && decide (s.laneEdge + 2 < h.2)
  let new := if resultCycles mn = 1 then [] else ds.map fun r => (r, s.laneEdge + 2 * resultCycles mn)
  s.setLane k { l with hazard := old ++ new }

/-- An instruction with the sequential next address: its effect, then the step to the next address. -/
def laneRun (s : State) (k : Nat) (mn : LaneMn) (op : LaneWord → State → State) : State :=
  match laneFetch s k mn with
  | none => s
  | some f => laneGoto (laneResults (op f (countFetch s k)) k mn f) k ((s.laneAt k).pc + 1)

/-- An instruction that decides its own next address or ends the activation. -/
def laneRunRaw (s : State) (k : Nat) (mn : LaneMn) (op : LaneWord → State → State) : State :=
  match laneFetch s k mn with
  | none => s
  | some f => op f (countFetch s k)

/-! ### The data instructions (R211) -/

/-- NOP. -/
def execLaneNop (k : Fin 32) (s : State) : Host.Outcome State Fault Refusal :=
  .next (laneRun s k .nop fun _ t => t)

/-- END holds its cycle until every load has written, then ends the activation (R202). -/
def execLaneEnd (k : Fin 32) (s : State) : Host.Outcome State Fault Refusal :=
  .next (if (s.laneAt k).loads.isEmpty then laneRunRaw s k .end_ fun _ t => endActivation t k else s)

/-- MOV. -/
def execLaneMov (k : Fin 32) (s : State) : Host.Outcome State Fault Refusal :=
  .next (laneRun s k .mov fun f t => t.setLreg k f.rd (t.lreg k f.rs1))

/-- The value LDI writes, from the old one. -/
def ldiValue (old : Nat) (f : LaneWord) : Nat :=
  match f.rs2 with
  | 0 => twos 48 (sext 32 f.imm * 2 ^ 16)
  | 1 => old / 2 ^ 32 * 2 ^ 32 + f.imm % 2 ^ 32
  | _ => f.imm % 2 ^ 16 * 2 ^ 32 + old % 2 ^ 32

/-- LDI. -/
def execLaneLdi (k : Fin 32) (s : State) : Host.Outcome State Fault Refusal :=
  .next (laneRun s k .ldi fun f t => t.setLreg k f.rd (ldiValue (t.lreg k f.rd) f))

/-- MOVS: a special value as an integer in bits [47:32]. -/
def execLaneMovs (k : Fin 32) (s : State) : Host.Outcome State Fault Refusal :=
  .next (laneRun s k .movs fun f t => t.setLreg k f.rd (movsValue t k (f.imm % 8) % 2 ^ 16 * 2 ^ 32))

/-- ANG: the angle in bits [47:16]; LIM when the feed's PLL is not locked (R218). -/
def execLaneAng (k : Fin 32) (s : State) : Host.Outcome State Fault Refusal :=
  .next (laneRun s k .ang fun f t =>
    t.putBits k f.rd (t.angleLag (f.imm % 2) * 2 ^ 16) (!t.flag .LAE_FEED_STAT_LOCK (f.imm % 2)))

/-- ADD and SUB: saturating, or wrapping when W is 1 (R206). -/
def laneSum (t : State) (k : Nat) (f : LaneWord) (x : Int) : State :=
  if bit f.imm 2 then t.putBits k f.rd (twos 48 x) else t.putSat k f.rd x

/-- ADD. -/
def execLaneAdd (k : Fin 32) (s : State) : Host.Outcome State Fault Refusal :=
  .next (laneRun s k .add fun f t => laneSum t k f (t.lregI k f.rs1 + t.lregI k f.rs2))

/-- SUB. -/
def execLaneSub (k : Fin 32) (s : State) : Host.Outcome State Fault Refusal :=
  .next (laneRun s k .sub fun f t => laneSum t k f (t.lregI k f.rs1 - t.lregI k f.rs2))

/-- NEG. -/
def execLaneNeg (k : Fin 32) (s : State) : Host.Outcome State Fault Refusal :=
  .next (laneRun s k .neg fun f t => t.putSat k f.rd (-t.lregI k f.rs1))

/-- ABS. -/
def execLaneAbs (k : Fin 32) (s : State) : Host.Outcome State Fault Refusal :=
  .next (laneRun s k .abs fun f t => t.putSat k f.rd ((t.lregI k f.rs1).natAbs : Int))

/-- MUL: one rounding by RM (R207). -/
def execLaneMul (k : Fin 32) (s : State) : Host.Outcome State Fault Refusal :=
  .next (laneRun s k .mul fun f t =>
    t.putSat k f.rd (roundDiv (f.imm % 4) (t.lregI k f.rs1 * t.lregI k f.rs2) (2 ^ 32)))

/-- MADD. -/
def execLaneMadd (k : Fin 32) (s : State) : Host.Outcome State Fault Refusal :=
  .next (laneRun s k .madd fun f t =>
    t.putSat k f.rd (roundDiv (f.imm % 4) (t.lregI k f.rs3 * 2 ^ 32 + t.lregI k f.rs1 * t.lregI k f.rs2) (2 ^ 32)))

/-- MSUB. -/
def execLaneMsub (k : Fin 32) (s : State) : Host.Outcome State Fault Refusal :=
  .next (laneRun s k .msub fun f t =>
    t.putSat k f.rd (roundDiv (f.imm % 4) (t.lregI k f.rs3 * 2 ^ 32 - t.lregI k f.rs1 * t.lregI k f.rs2) (2 ^ 32)))

/-- ASH. -/
def execLaneAsh (k : Fin 32) (s : State) : Host.Outcome State Fault Refusal :=
  .next (laneRun s k .ash fun f t => t.putSat k f.rd (shiftRound (f.imm % 4) (t.lregI k f.rs1) (immSh f.imm) 0))

/-- MIN: LIM when rs2 is chosen and differs from rs1. -/
def execLaneMin (k : Fin 32) (s : State) : Host.Outcome State Fault Refusal :=
  .next (laneRun s k .min fun f t =>
    let a := t.lregI k f.rs1
    let b := t.lregI k f.rs2
    t.putSat k f.rd (min a b) (decide (b < a)))

/-- MAX. -/
def execLaneMax (k : Fin 32) (s : State) : Host.Outcome State Fault Refusal :=
  .next (laneRun s k .max fun f t =>
    let a := t.lregI k f.rs1
    let b := t.lregI k f.rs2
    t.putSat k f.rd (max a b) (decide (a < b)))

/-- CLMP: rd ← min(max(rs1, rs2), rs3). -/
def execLaneClmp (k : Fin 32) (s : State) : Host.Outcome State Fault Refusal :=
  .next (laneRun s k .clmp fun f t =>
    let a := t.lregI k f.rs1
    let r := min (max a (t.lregI k f.rs2)) (t.lregI k f.rs3)
    t.putSat k f.rd r (decide (r ≠ a)))

/-- SLEW: rs2 moved toward rs1 by at most |rs3|. -/
def execLaneSlew (k : Fin 32) (s : State) : Host.Outcome State Fault Refusal :=
  .next (laneRun s k .slew fun f t =>
    let p := t.lregI k f.rs2
    let d := t.lregI k f.rs1 - p
    let m : Int := ((t.lregI k f.rs3).natAbs : Int)
    t.putSat k f.rd (p + clampI (-m) m d) (decide (m < d) || decide (d < -m)))

/-- AND. -/
def execLaneAnd (k : Fin 32) (s : State) : Host.Outcome State Fault Refusal :=
  .next (laneRun s k .and fun f t => t.putBits k f.rd (t.lreg k f.rs1 &&& t.lreg k f.rs2))

/-- OR. -/
def execLaneOr (k : Fin 32) (s : State) : Host.Outcome State Fault Refusal :=
  .next (laneRun s k .or fun f t => t.putBits k f.rd (t.lreg k f.rs1 ||| t.lreg k f.rs2))

/-- XOR. -/
def execLaneXor (k : Fin 32) (s : State) : Host.Outcome State Fault Refusal :=
  .next (laneRun s k .xor fun f t => t.putBits k f.rd (t.lreg k f.rs1 ^^^ t.lreg k f.rs2))

/-- CMP: flags from the exact difference. -/
def execLaneCmp (k : Fin 32) (s : State) : Host.Outcome State Fault Refusal :=
  .next (laneRun s k .cmp fun f t =>
    let d := t.lregI k f.rs1 - t.lregI k f.rs2
    t.setFlags k { z := decide (d = 0), n := decide (d < 0) })

/-- The accumulator an instruction selects (R209). -/
def accSel (f : LaneWord) : Nat := bits f.imm 3 1

/-- ACLR. -/
def execLaneAclr (k : Fin 32) (s : State) : Host.Outcome State Fault Refusal :=
  .next (laneRun s k .aclr fun f t =>
    t.setLane k { t.laneAt k with acc := vput (t.laneAt k).acc (accSel f) 0 })

/-- ALD: rs1 sign-extended to Q40.64. -/
def execLaneAld (k : Fin 32) (s : State) : Host.Outcome State Fault Refusal :=
  .next (laneRun s k .ald fun f t =>
    t.setLane k { t.laneAt k with
      acc := vput (t.laneAt k).acc (accSel f) (BitVec.ofInt 104 (t.lregI k f.rs1 * 2 ^ 32)) })

/-- AMAC (R208). -/
def execLaneAmac (k : Fin 32) (s : State) : Host.Outcome State Fault Refusal :=
  .next (laneRun s k .amac fun f t =>
    t.putAcc k (accSel f) (accI (t.laneAt k) (accSel f) + t.lregI k f.rs1 * t.lregI k f.rs2))

/-- AMSU (R208). -/
def execLaneAmsu (k : Fin 32) (s : State) : Host.Outcome State Fault Refusal :=
  .next (laneRun s k .amsu fun f t =>
    t.putAcc k (accSel f) (accI (t.laneAt k) (accSel f) - t.lregI k f.rs1 * t.lregI k f.rs2))

/-- ARD: the shifted accumulator, rounded and saturated; the accumulator is kept. -/
def execLaneArd (k : Fin 32) (s : State) : Host.Outcome State Fault Refusal :=
  .next (laneRun s k .ard fun f t =>
    t.putSat k f.rd (shiftRound (f.imm % 4) (accI (t.laneAt k) (accSel f)) (immSh f.imm) 32))

/-! ### Transforms (R220), sine and cosine (R219) -/

/-- 1/3, 1/√3 and √3/2, to the nearest 2⁻⁶⁴ (R220; log entry 20). -/
def kThird : Int := 6148914691236517205
def kInvSqrt3 : Int := 10650232656628343401
def kSqrt3Half : Int := 15975348984942515102

/-- An output of a transform in units of 2⁻⁹⁶, rounded once by RNU (R220). -/
def trRound (x : Int) : Int := roundDiv 0 x (2 ^ 64)

/-- CLARKE. -/
def execLaneClarke (k : Fin 32) (s : State) : Host.Outcome State Fault Refusal :=
  .next (laneRun s k .clarke fun f t =>
    let a := t.lregI k f.rs1
    let b := t.lregI k (f.rs1 + 1)
    let c := t.lregI k (f.rs1 + 2)
    t.putMany k f.rd [trRound ((2 * a - b - c) * kThird), trRound ((b - c) * kInvSqrt3)])

/-- ICLARKE. -/
def execLaneIclarke (k : Fin 32) (s : State) : Host.Outcome State Fault Refusal :=
  .next (laneRun s k .iclarke fun f t =>
    let a := t.lregI k f.rs1
    let b := t.lregI k (f.rs1 + 1)
    t.putMany k f.rd [a, trRound (-a * 2 ^ 63 + b * kSqrt3Half), trRound (-a * 2 ^ 63 - b * kSqrt3Half)])

/-- PARK: rs2 and rs2 + 1 are sin θ and cos θ. -/
def execLanePark (k : Fin 32) (s : State) : Host.Outcome State Fault Refusal :=
  .next (laneRun s k .park fun f t =>
    let a := t.lregI k f.rs1
    let b := t.lregI k (f.rs1 + 1)
    let sn := t.lregI k f.rs2
    let cs := t.lregI k (f.rs2 + 1)
    t.putMany k f.rd [roundDiv 0 (a * cs + b * sn) (2 ^ 32), roundDiv 0 (-a * sn + b * cs) (2 ^ 32)])

/-- IPARK. -/
def execLaneIpark (k : Fin 32) (s : State) : Host.Outcome State Fault Refusal :=
  .next (laneRun s k .ipark fun f t =>
    let d := t.lregI k f.rs1
    let q := t.lregI k (f.rs1 + 1)
    let sn := t.lregI k f.rs2
    let cs := t.lregI k (f.rs2 + 1)
    t.putMany k f.rd [roundDiv 0 (d * cs - q * sn) (2 ^ 32), roundDiv 0 (d * sn + q * cs) (2 ^ 32)])

/-- Terms of the series of the sine (`n` odd) or cosine (`n` even) at `x`, all in units of 2⁻⁸⁰. -/
def trigSeries (x2 : Int) : Nat → Int → Nat → Int
  | 0, _, _ => 0
  | m + 1, term, n => term + trigSeries x2 m (-(term * x2 / 2 ^ 80) / ((n + 1) * (n + 2))) (n + 2)

/-- π/2 in units of 2⁻⁸⁰. -/
def halfPi : Int := 1898976236818169290393997

/-- The sine of `r` 2⁻³⁰ quarter turns, 0 ≤ r ≤ 2³⁰, in units of 2⁻⁸⁰. -/
def sinQuarter (r : Nat) : Int :=
  let x := halfPi * r / 2 ^ 30
  trigSeries (x * x / 2 ^ 80) 16 x 1

/-- The sine of the U16.16 angle `a`, in units of 2⁻⁸⁰, to within 2⁻⁷⁰. -/
def sinFine (a : Nat) : Int :=
  let q := a % 2 ^ 32 / 2 ^ 30
  let r := a % 2 ^ 30
  match q with
  | 0 => sinQuarter r
  | 1 => sinQuarter (2 ^ 30 - r)
  | 2 => -sinQuarter r
  | _ => -sinQuarter (2 ^ 30 - r)

/-- A result of the sine unit in units of 2⁻³²: exactly ±1 at its angles, else a free one of the values within 2⁻²⁹ of the exact one
(R219; log entry 21). -/
def sinResult (a free : Nat) : Int :=
  if a % 2 ^ 32 = 2 ^ 30 then 2 ^ 32
  else if a % 2 ^ 32 = 3 * 2 ^ 30 then -(2 ^ 32)
  else
    let lo := -((2 ^ 51 - sinFine a) / 2 ^ 48)
    lo + (free % ((sinFine a + 2 ^ 51) / 2 ^ 48 - lo + 1).toNat : Nat)

/-- SINCOS: sin θ to rd, cos θ to rd + 1, no flags (R219). -/
def execLaneSincos (k : Fin 32) (s : State) : Host.Outcome State Fault Refusal :=
  .next (laneRun s k .sincos fun f t =>
    let a := bits (t.lreg k f.rs1) 16 32
    let u := t.drawn
    let v := (u.setLreg k f.rd (twos 48 (sinResult a t.draw))).setLreg k (f.rd + 1)
      (twos 48 (sinResult (a + 2 ^ 30) u.draw))
    v.drawn)

/-! ### Saddle store access (R221 to R224) -/

/-- The Saddle port of a lane (R193). -/
def lanePort (k : Nat) : Nat := k / 4

/-- A load issued: one request of `n` beats, for registers from rd (R221). -/
def issueLoad (t : State) (k : Nat) (f : LaneWord) : State :=
  let l := t.laneAt k
  let n := f.rs3 + 1
  let u := t.setLane k { l with loads := l.loads ++ [⟨t.sdlSeq, (List.range n).map (f.rd + ·), []⟩] }
  sdlRequest u (lanePort k) (laneWordIndex t k f) n false [] (.laneLoad k f.rd)

/-- LD: stalls while two loads are outstanding (R215). -/
def execLaneLd (k : Fin 32) (s : State) : Host.Outcome State Fault Refusal :=
  .next (if (s.laneAt k).loads.length < 2 then laneRun s k .ld fun f t => issueLoad t k f else s)

/-- A store issued (R221). -/
def issueStore (t : State) (k : Nat) (f : LaneWord) : State :=
  let l := t.laneAt k
  let n := f.rs3 + 1
  let u := t.setLane k { l with stores := l.stores + 1 }
  sdlRequest u (lanePort k) (laneWordIndex t k f) n true ((List.range n).map fun i => t.lreg k (f.rd + i))
    (.laneStore k)

/-- ST: stalls while four stores are buffered (R215). -/
def execLaneSt (k : Fin 32) (s : State) : Host.Outcome State Fault Refusal :=
  .next (if (s.laneAt k).stores < 4 then laneRun s k .st fun f t => issueStore t k f else s)

/-- The first word of the loads that is usable at a lane edge (R222). -/
def nextReturn (edge : Nat) : List LaneLoad → Option LaneWordIn
  | [] => none
  | x :: t => match x.ready.find? fun w => decide (w.at_ ≤ edge) with
    | none => nextReturn edge t
    | some w => some w

/-- The loads without the word that returns in register `r`; a load with no word left is complete. -/
def dropReturn (r : Nat) (ls : List LaneLoad) : List LaneLoad :=
  (ls.map fun x => { x with regs := x.regs.filter (· != r), ready := x.ready.filter (fun w => w.reg != r) }).filter
    fun x => !x.regs.isEmpty

/-- LOAD_DATA_RETURN: from the lane cycle in which it is usable, the next word writes its register, or withholds it and faults with
SDLECC (R222, R224); the last
word a fault waits for lets the lane go on (R242). -/
def execLoadDataReturn (k : Fin 32) (s : State) : Host.Outcome State Fault Refusal :=
  let l := s.laneAt k
  match nextReturn s.laneEdge l.loads with
  | none => .next s
  | some w =>
    let t := s.setLane k { l with loads := dropReturn w.reg l.loads }
    let t := if w.bad then t else t.setLreg k w.reg w.word
    let t := if w.bad && l.active then laneFault t k causeSdlecc l.pc else t
    .next (match (t.laneAt k).faultWait with
      | some (cause, fpc) => if (t.laneAt k).loads.isEmpty then faultEnd t k cause fpc else t
      | none => t)

/-! ### Duty port, events, sends, doorbells (R225 to R233) -/

/-- Entries a lane group's duty queue holds (R36). -/
def dutyDepth : Nat := 8

/-- The closing edge an entry enters the duty queue at, and its lane: the order it leaves in (R247). -/
def dutyOrder : DutyEntry → Nat × Nat
  | .duty e l _ _ _ => (e, l)
  | .commit e l _ => (e, l)

/-- An entry in its place: by closing edge, then ascending lane; entries of one lane in issue order (R38, R247). -/
def dutyPlace (q : List DutyEntry) (e : DutyEntry) : List DutyEntry :=
  let before (x : DutyEntry) : Bool := (dutyOrder x).1 < (dutyOrder e).1 || ((dutyOrder x).1 == (dutyOrder e).1 && (dutyOrder x).2 ≤ (dutyOrder e).2)
  q.takeWhile before ++ e :: q.dropWhile before

/-- An entry put in the duty queue of lane `k`'s group. -/
def pushDuty (s : State) (k : Nat) (e : DutyEntry) : State :=
  s.setDuty (k / 8) (dutyPlace (s.dutyAt (k / 8)) e)

/-- A lane whose group's duty queue is full stalls (R39). -/
def dutyFull (s : State) (k : Nat) : Bool := decide (dutyDepth ≤ (s.dutyAt (k / 8)).length)

/-- DUTY with the permission it needs (R225 to R227, R229). -/
def dutyOp (f : LaneWord) (k : Nat) (t : State) : State :=
  let ch := f.imm % 32
  let reg := bits f.imm 5 3
  let v := dutyValue (t.lregI k f.rs1) reg (bits f.imm 8 4)
  let u := if v.2 then t.hset .LANE_STAT_DCLIP 1 k else t
  pushDuty u k (.duty (t.laneEdge + 2) k ch reg v.1)

/-- DUTY: faults with DUTYPERM on a channel not permitted, and nothing is written (R227). -/
def execLaneDuty (k : Fin 32) (s : State) : Host.Outcome State Fault Refusal :=
  .next (match laneFetch s k .duty with
    | none => s
    | some f =>
      if !s.fbit .LANE_DUTYMASK_CH (f.imm % 32) k then laneFault (countFetch s k) k causeDutyperm (s.laneAt k).pc
      else if dutyFull s k then s
      else laneRun s k .duty fun f t => dutyOp f k t)

/-- COMMIT: faults with TEAMPERM when a Team is not permitted; mask 0 is a NOP (R228). -/
def execLaneCommit (k : Fin 32) (s : State) : Host.Outcome State Fault Refusal :=
  .next (match laneFetch s k .commit with
    | none => s
    | some f =>
      let m := f.imm % 256
      if (setBits 8 m).any (fun t => !s.fbit .LANE_TEAMMASK_TEAM t k) then
        laneFault (countFetch s k) k causeTeamperm (s.laneAt k).pc
      else if m = 0 then laneRun s k .commit fun _ t => t
      else if dutyFull s k then s
      else laneRun s k .commit fun f t => pushDuty t k (.commit (t.laneEdge + 2) k (f.imm % 256)))

/-- EVT: the event carries GEN + 1; at 7 it is dropped at the Harness input (R231, R322, R323). -/
def evtOp (f : LaneWord) (k : Nat) (t : State) : State :=
  let g := t.fget .LANE_ACTINFO_GEN k + 1
  if g = 7 then
    let u := t.ringIf (t.fget .HRN_LOOPDROP_COUNT == 0) 97
    ((u.fcount .HRN_LOOPDROP_COUNT).fset .HRN_LOOPDROP_LANE k).fset .HRN_LOOPDROP_EV (f.imm % 2)
  else t.raiseLane (128 + 2 * k + f.imm % 2) g

/-- EVT. -/
def execLaneEvt (k : Fin 32) (s : State) : Host.Outcome State Fault Refusal :=
  .next (laneRun s k .evt fun f t => evtOp f k t)

/-- SEND: an activation to lane IMM[4:0], two lane cycles later; at generation 7 it is dropped and counted (R203, R232). -/
def sendOp (f : LaneWord) (k : Nat) (t : State) : State :=
  let g := t.fget .LANE_ACTINFO_GEN k + 1
  if g = 7 then (t.ringIf (t.fget .LANE_DROPCNT_LOOP k == 0) 96).fcount .LANE_DROPCNT_LOOP k
  else
    let v := bit f.imm 9
    t.arrive (f.imm % 32) (t.laneEdge + 4) ⟨if v then t.lreg k f.rs1 else 0, v, bits f.imm 5 4, g, 64 + k⟩

/-- SEND. -/
def execLaneSend (k : Fin 32) (s : State) : Host.Outcome State Fault Refusal :=
  .next (laneRun s k .send fun f t => sendOp f k t)

/-! ### Branches (R212, R213) -/

/-- BR. -/
def execLaneBr (k : Fin 32) (s : State) : Host.Outcome State Fault Refusal :=
  .next (laneRunRaw s k .br fun f t =>
    if branchTaken f.rs3 (t.laneFlags k) then laneGoto t k f.imm 2 else laneGoto t k ((t.laneAt k).pc + 1))

/-- CALL: with four entries on the stack a fault with cause STACK (R213). -/
def execLaneCall (k : Fin 32) (s : State) : Host.Outcome State Fault Refusal :=
  .next (laneRunRaw s k .call fun f t =>
    let l := t.laneAt k
    if 4 ≤ l.stack.length then laneFault t k causeStack l.pc
    else laneGoto (t.setLane k { l with stack := (l.pc + 1) :: l.stack }) k f.imm 2)

/-- RET: with the stack empty a fault with cause STACK (R213). -/
def execLaneRet (k : Fin 32) (s : State) : Host.Outcome State Fault Refusal :=
  .next (laneRunRaw s k .ret fun _ t =>
    let l := t.laneAt k
    match l.stack with
    | [] => laneFault t k causeStack l.pc
    | a :: st => laneGoto (t.setLane k { l with stack := st }) k a 2)

/-! ### Faults that are commands of their own -/

/-- ILLEGAL_INSTRUCTION: the word to execute is illegal, or has an uncorrectable error (R210, R212, R227, R238). -/
def execIllegalInstruction (k : Fin 32) (s : State) : Host.Outcome State Fault Refusal :=
  let l := s.laneAt k
  .next (if l.active && laneReady s k && !overdue s k && decide (l.pc < 512) then
    if !wordReadable s k then laneFault s k causePmecc l.pc
    else if (laneDecode (s.pmem k l.pc)).isNone then laneFault (countFetch s k) k causeIllop l.pc
    else s
  else s)

/-- PC_OVERFLOW: the next address is 512 or more (R213). -/
def execPcOverflow (k : Fin 32) (s : State) : Host.Outcome State Fault Refusal :=
  let l := s.laneAt k
  .next (if l.active && laneReady s k && !overdue s k && decide (512 ≤ l.pc) then laneFault s k causePcovf l.lastPc else s)

/-- BUDGET_EXPIRY: END has not executed by the B-th lane cycle after the dispatch cycle (R216). -/
def execBudgetExpiry (k : Fin 32) (s : State) : Host.Outcome State Fault Refusal :=
  let l := s.laneAt k
  .next (if l.active && l.budget != 0 && decide (l.budget + 1 < laneCycles s k) then laneFault s k causeBudget l.pc else s)

/-- DISABLE_BOUND_EXPIRY: 1,024 lane cycles after the one the disable landed in have passed, with no BUDGET (R216, R241). -/
def execDisableBoundExpiry (k : Fin 32) (s : State) : Host.Outcome State Fault Refusal :=
  let l := s.laneAt k
  .next (if l.active && l.budget == 0 && l.disabledAt.any (fun d => decide (d + 2048 < s.laneEdge)) then
    laneFault s k causeBudget l.pc else s)

/-! ### Writes from outside (R234 to R241) -/

/-- A write of LANE[k]_LREG[i]: direct while EN is 0, staged while EN is 1 (R234). -/
def lregWrite (s : State) (k i v : Nat) : State :=
  if s.flag .LANE_CTRL_EN k then
    let l := s.laneAt k
    if 16 ≤ l.stage.length then s.hset .LANE_STAT_STGOVF 1 k
    else s.setLane k { l with stage := l.stage ++ [(i, v % 2 ^ 48)] }
  else s.setLreg k i v

/-- Lane `k` is RUNNING in the sense of R235: an activation executes, or its fault waits for loads. -/
def laneBusy (s : State) (k : Nat) : Bool := (s.laneAt k).active || (s.laneAt k).faultWait.isSome

/-- Lane `k` is between activations: none is under way, and the cycle in which the last one ended is over (R235). -/
def laneBetween (s : State) (k : Nat) : Bool := !laneBusy s k && laneReady s k

/-- An apply is requested; a lane between activations does it at once (R235). -/
def laneApplyReq (s : State) (k : Nat) : State :=
  if laneBetween s k then applyStage s k else s.fset .LANE_CTRL_APPLY 1 k

/-- APPLY_EXECUTE: the activation boundary after a request (R235). -/
def execApplyExecute (k : Fin 32) (s : State) : Host.Outcome State Fault Refusal :=
  .next (if laneBetween s k then applyIfAsked s k else s)

/-- EN written 1 (R240, R241). -/
def laneEnableOp (s : State) (k : Nat) : State :=
  let t := s.fset .LANE_CTRL_EN 1 k
  if s.fget .LANE_STAT_STATE k = laneDisabled then (setQueue t k []).fset .LANE_STAT_STATE laneIdle k
  else
    let u := t.setLane k { t.laneAt k with disabledAt := none, ending := false }
    if (s.laneAt k).ending && s.fget .LANE_STAT_STATE k != laneFaulted then laneSettle u k else u

/-- EN written 0 (R240, R241, R243): a running activation finishes first, and the cycle of its END; a faulted or idle lane is disabled
at once. -/
def laneDisableOp (s : State) (k : Nat) : State :=
  let t := s.fset .LANE_CTRL_EN 0 k
  let l := s.laneAt k
  if l.active || l.faultWait.isSome then
    if s.flag .LANE_CTRL_EN k then t.setLane k { l with disabledAt := some s.laneEdge } else t
  else if laneReady s k then laneClose t k
  else laneSettle t k

/-- A write of LANE[k]_CTRL (R235, R240). -/
def laneCtrlWrite (s : State) (k v : Nat) : State :=
  let t := if bit v 0 then laneEnableOp s k else laneDisableOp s k
  if bit v 1 then laneApplyReq t k else t

/-- A write of LANE[k]_STAT (W1C); FAULT cleared returns a faulted lane with EN 1 to IDLE, and CAUSE reads 0 (R240). -/
def laneStatWrite (s : State) (k v : Nat) : State :=
  let t := s.writeReg (regDesc .LANE_STAT) k 0 v
  if bit v 2 && !t.flag .LANE_STAT_FAULT k then
    let u := t.fset .LANE_STAT_CAUSE 0 k
    if u.fget .LANE_STAT_STATE k = laneFaulted && u.flag .LANE_CTRL_EN k then u.fset .LANE_STAT_STATE laneIdle k else u
  else t

/-- A write of a program-memory word: ignored with PMWERR while EN is 1 (R237). -/
def pmemWriteOp (s : State) (k i v : Nat) : State :=
  if s.flag .LANE_CTRL_EN k then s.hset .LANE_STAT_PMWERR 1 k
  else (s.fset .LANE_PMEM_INSTR v k i).clearUpset (pmemSlot k i)

/-- A write of LANE[k]_POSTOP: the POSTs that landed at the same edge carry it (R239). -/
def postopOp (s : State) (k v : Nat) : State :=
  let t := s.fset .LANE_POSTOP_OPERAND v k
  let l := t.laneAt k
  let put (e : Nat × Activation) : Nat × Activation :=
    if e.1 = s.laneEdge + 2 ∧ 96 ≤ e.2.src then (e.1, { e.2 with operand := v % 2 ^ 48 }) else e
  t.setLane k { l with arriving := l.arriving.map put }

/-- A write of LANE[k]_POST by master `m` (R197, R239). -/
def postOp (s : State) (m k v : Nat) : State :=
  s.arrive k (s.laneEdge + 2) ⟨s.fget .LANE_POSTOP_OPERAND k, bit v 4, v % 16, 0, 96 + m⟩

end Sys2Proof.Machine
end

