-- ==== Sys2Proof/Machine/Belfry.lean ====
section
/-! DEFINITION. Belfry: rings, masks, delivery, entry, return and completion (spec/10_cores_belfry.md), and the reset of
cores. -/

namespace Sys2Proof.Machine

/-! ### Rings (R333 to R336) -/

/-- The sources that no chapter names (R333 and the source tables of spec/11 to spec/14). -/
def sourceReserved (n : Nat) : Bool :=
  (119 ≤ n && n ≤ 127) || (136 ≤ n && n ≤ 143) || (154 ≤ n && n ≤ 159) || (165 ≤ n && n ≤ 191)

/-- An ignored ring recorded in BFY_DBERR under its causes, with its number (R334). -/
def ringError (s : State) (form rsvd loc partner : Bool) (n : Nat) : State :=
  let s := if form then s.hset .BFY_DBERR_FORM 1 else s
  let s := if rsvd then s.hset .BFY_DBERR_RSVD 1 else s
  let s := if loc then s.hset .BFY_DBERR_LOCAL 1 else s
  let s := if partner then s.hset .BFY_DBERR_PARTNER 1 else s
  s.fset .BFY_DBERR_LAST (n % 512)

/-- A local ring: a fabric write of BFY_DOORBELL or a lane's DBL (R233, R334). -/
def localRing (s : State) (v : Nat) : State :=
  let n := v % 512
  let form := v % 2 ^ 32 / 512 != 0
  let rsvd := sourceReserved n
  let loc := decide (384 ≤ n)
  if form || rsvd || loc then ringError s form rsvd loc false n else s.ring n

/-- A ring of the partner: accepted for 384 to 511 only (R335). -/
def partnerRingOp (s : State) (v : Nat) : State :=
  if 384 ≤ v % 2 ^ 32 ∧ v % 2 ^ 32 ≤ 511 then s.ring v else ringError s false false false true v

/-- PARTNER_RING: no ring reaches a device in reset, or one whose Tether is not clocked (R397, R403). -/
def execPartnerRing (value : Nat) (s : State) : Host.Outcome State Fault Refusal :=
  .next (if s.clockOn 16 then partnerRingOp s value else s)

/-- DBL: lane `k` rings a source (R233). -/
def execLaneDbl (k : Fin 32) (s : State) : Host.Outcome State Fault Refusal :=
  .next (laneRun s k .dbl fun f t => localRing t (f.imm % 512))

/-- A write of BFY_PENDSET[w] (R336). -/
def pendSetOp (s : State) (w v : Nat) : State :=
  (s.fset .BFY_PEND_W (s.fget .BFY_PEND_W w ||| v % 2 ^ 32) w).noteSet .BFY_PEND_W (v % 2 ^ 32) w 0

/-- A write of BFY_PENDCLR[w] (R336): a source that a ring or a set makes pending in the same cycle stays pending (R17, R337). -/
def pendClrOp (s : State) (w v : Nat) : State := s.clearBits .BFY_PEND_W (v % 2 ^ 32) w

/-- A write of BFY_MASKSET[w] (R336). -/
def maskSetOp (s : State) (w v : Nat) : State :=
  s.fset .BFY_MASK_W (s.fget .BFY_MASK_W w ||| v % 2 ^ 32) w

/-- A write of BFY_MASKCLR[w] (R336). -/
def maskClrOp (s : State) (w v : Nat) : State :=
  let p := s.fget .BFY_MASK_W w
  s.fset .BFY_MASK_W (p ^^^ (p &&& v % 2 ^ 32)) w

/-! ### Targets and running priorities (R338, R339) -/

/-- Core `c` is the checker of a lockstep pair (R329). -/
def isChecker (s : State) (c : Nat) : Bool :=
  (c == 1 && s.flag .FAB_CORECFG_LS01) || (c == 3 && s.flag .FAB_CORECFG_LS23)

/-- The running priority of a core (R339). -/
def runPrio (s : State) (c : Nat) : Nat :=
  let x := s.coreAt c
  if !x.mie || !x.meie || x.phase = .reset then 16
  else match x.phase with
    | .entry => x.entPrio
    | .exit => x.ctxLvl
    | .running | .reset => max x.level x.thresh

/-- A core Belfry can deliver to: at an instruction boundary, in entry or in exit (R343), and no checker (R338). -/
def deliverTarget (s : State) (c : Nat) : Bool :=
  let x := s.coreAt c
  !isChecker s c && x.phase != .reset && (x.phase != .running || (x.wait.isNone && !(s.portAt c).reading))

/-- Core `c` may take source `n` (R338, R339). -/
def mayTake (s : State) (n c : Nat) : Bool :=
  deliverTarget s c && decide (runPrio s c < s.fget .BFY_SRC_CFG_PRIO n) &&
    (if s.flag .BFY_SRC_CFG_TGT n then c == 4 else c < 4 && s.fbit .BFY_SRC_CFG_CMASK c n)

/-- Source `n` is pending, not masked, not active, of priority 1 or more, and not being entered (R338, R344). -/
def sourceReady (s : State) (n : Nat) : Bool :=
  s.fbit .BFY_PEND_W (n % 32) (n / 32) && !s.fbit .BFY_MASK_W (n % 32) (n / 32) &&
    !s.fbit .BFY_ACTIVE_W (n % 32) (n / 32) && s.fget .BFY_SRC_CFG_PRIO n != 0 &&
    (List.range 5).all fun c => isChecker s c || !((s.coreAt c).phase == .entry && (s.coreAt c).entSrc == n)

/-- The sources of a decision: by descending priority, then ascending number (R340). -/
def readySources (s : State) : List Nat :=
  let r := (List.range 512).filter (sourceReady s)
  (List.range 15).flatMap fun d => r.filter fun n => s.fget .BFY_SRC_CFG_PRIO n == 15 - d

/-- The target of source `n` among those not in `given`: the management core, or the application core with the lowest
running priority, first at or after the rotation pointer (R340). -/
def chooseTarget (s : State) (given : List Nat) (n : Nat) : Option Nat :=
  let ok (c : Nat) : Bool := mayTake s n c && !given.contains c
  if s.flag .BFY_SRC_CFG_TGT n then (if ok 4 then some 4 else none)
  else
    let cs := (List.range 4).filter ok
    let low := cs.foldl (fun m c => min m (runPrio s c)) 16
    firstFrom 4 (s.fget .BFY_ROT_PTR) fun c => ok c && runPrio s c == low

/-- The gifts of a decision: each source in turn with its target, the rotation pointer moving past the target chosen
(R340). Running priorities are those before the decision. -/
def decideAll : List Nat → List Nat → State → List (Nat × Nat) × State
  | [], _, t => ([], t)
  | n :: rest, given, t =>
    match chooseTarget t given n with
    | none => decideAll rest given t
    | some c =>
      let t := if c < 4 then t.fset .BFY_ROT_PTR ((c + 1) % 4) else t
      let (l, u) := decideAll rest (c :: given) t
      ((n, c) :: l, u)

/-- The tick from which the handler of a delivery in this tick may start: five core cycles after it, from a boundary or an
abandoned exit, counted for the management core from its next cycle; a replacement takes three, and no fewer than the entry it
replaces (R344, R345, R347). -/
def entryDue (s : State) (c : Nat) : Nat :=
  let x := s.coreAt c
  let d := if c = 4 then (s.now + 3) / 4 * 4 else s.now
  if x.phase = .entry then max x.due (d + coreTicks s c 3) else d + coreTicks s c 5

/-- Entry 2, three core cycles before the handler starts: the core switches to the bank of the level, and takes the handler's address
(R344, R345, R347). -/
def entryTwo (s : State) (c : Nat) : State :=
  let x := s.coreAt c
  if x.phase = .entry ∧ x.entPc = none ∧ x.due ≤ s.now + coreTicks s c 3 then
    s.setCore c { x with level := x.entPrio, entPc := some (2 * s.fget .BFY_SRC_VEC_ADDR x.entSrc) }
  else s

/-- Source `n` delivered to core `c`: entry starts, replaces the source being entered (R345), or abandons an exit (R347);
the link of the new level takes the context to return to; a reservation is lost (R327). -/
def startEntry (s : State) (n c : Nat) : State :=
  let x := s.coreAt c
  let p := s.fget .BFY_SRC_CFG_PRIO n
  let ret := if x.phase = .running then x.pc else x.ctxRet
  let lvl := if x.phase = .running then x.level else x.ctxLvl
  entryTwo (s.setCore c { x with
    linkRet := vput x.linkRet p ret, linkLvl := vput x.linkLvl p lvl,
    phase := .entry, entSrc := n, entPrio := p, entPc := none, ctxRet := ret, ctxLvl := lvl, due := entryDue s c, resv := none, wfi := false }) c

/-- DELIVERY_DECISION: one decision of Belfry (R340). -/
def execDeliveryDecision (s : State) : Host.Outcome State Fault Refusal :=
  let (l, t) := decideAll (readySources s) [] s
  .next (l.foldl (fun u g => startEntry u g.1 g.2) t)

/-- The power domain of core `c` is ON (R405, R408). -/
def coreOn (s : State) (c : Nat) : Bool := s.fget .PMG_DOMSTAT_STATE (c + 1) == 0

/-- HANDLER_START: the first handler instruction of core `c` executes, when its entry has run and its domain is ON: the source's pending bit clears, its
active bit sets, the core is at the level of its priority (R344, R408). -/
def execHandlerStart (c : Fin 5) (s : State) : Host.Outcome State Fault Refusal :=
  let x := s.coreAt c
  if x.phase = .entry ∧ coreOn s c ∧ x.due ≤ s.now then
    let n := x.entSrc
    let t := (s.fbitSet .BFY_PEND_W (n % 32) false (n / 32)).fbitSet .BFY_ACTIVE_W (n % 32) true (n / 32)
    .next (t.setCore c { x with
      phase := .running, level := x.entPrio, pc := x.entPc.getD (2 * s.fget .BFY_SRC_VEC_ADDR n), entPc := none,
      srcid := vput x.srcid x.entPrio (some n) })
  else .next s

/-- IRET's effect: an exit to the level and address of the link (R346); at level 0 an illegal-instruction exception. -/
def iretOp (s : State) (c : Nat) : State :=
  let x := s.coreAt c
  if x.level = 0 then s.takeException c x.pc causeIllegal 0x0000100B
  else
    let lvl := vget x.linkLvl x.level
    s.setCore c { x.retired with
      phase := .exit, ctxRet := vget x.linkRet x.level, ctxLvl := lvl, level := lvl, due := s.now + coreTicks s c 4,
      srcid := vput x.srcid x.level none, resv := none }

/-- A core that executes: running, with no load outstanding, its domain ON. -/
def coreRuns (s : State) (c : Nat) : Bool := (s.coreAt c).phase == .running && (s.coreAt c).wait.isNone && !(s.portAt c).reading && coreOn s c

/-- IRET. -/
def execCoreIret (c : Fin 5) (s : State) : Host.Outcome State Fault Refusal :=
  .next (if coreRuns s c && !isChecker s c then iretOp s c else s)

/-- EXIT_RETURN: the exit, four core cycles long, ends and the level returned to goes on (R346). -/
def execExitReturn (c : Fin 5) (s : State) : Host.Outcome State Fault Refusal :=
  let x := s.coreAt c
  .next (if x.phase = .exit ∧ x.due ≤ s.now then s.setCore c { x with phase := .running, pc := x.ctxRet } else s)

/-- A completion by master `m` (R349). -/
def completeOp (s : State) (m v : Nat) : State :=
  let n := v % 512
  if s.fbit .BFY_ACTIVE_W (n % 32) (n / 32) then s.fbitSet .BFY_ACTIVE_W (n % 32) false (n / 32)
  else ((s.fcount .BFY_SPURCNT_COUNT).fset .BFY_SPURLAST_SRC n).fset .BFY_SPURLAST_MASTER m

/-- A read of BFY_BANKDATA (R342). -/
def bankData (x : Core) : Word32 :=
  let r := x.banksel % 32
  if r = 0 then 0 else vget (vget x.bank (bits x.banksel 5 4)) r

/-- An access to BFY_BANKDATA: the old value to `rd`, and `w` into the register named (R342). -/
def bankDataOp (x : Core) (w : Option Nat) (rd : Nat) : Core :=
  let old := bankData x
  let y := match w with
    | none => x
    | some v => x.setBankReg (bits x.banksel 5 4) (x.banksel % 32) (BitVec.ofNat 32 v)
  y.setX rd old

/-- BANKDATA_ACCESS: a CSR instruction of core `c` on BFY_BANKDATA. -/
def execBankdataAccess (c : Fin 5) (write : Option Nat) (rd : Fin 32) (s : State) :
    Host.Outcome State Fault Refusal :=
  if coreRuns s c && !isChecker s c then
    let x := s.coreAt c
    .next (s.setCore c { (bankDataOp x write rd).retired with pc := (x.pc + 4) % 2 ^ 32 })
  else .next s

/-! ### Hardware locks (R350 to R355) -/

/-- The level part of an owner's identity (R350). -/
def ownLevel (s : State) (m : Nat) : Nat := if m < 5 then (s.coreAt m).level else 0

/-- Lock `l` is held by master `m` at its present level. -/
def holdsLock (s : State) (m l : Nat) : Bool :=
  s.flag .LCK_STAT_HELD l && s.fget .LCK_STAT_OWNMST l == m && s.fget .LCK_STAT_OWNLVL l == ownLevel s m

/-- The masters whose read of LCK_ACQ is an acquire attempt (R351). -/
def mayAcquire (m : Nat) : Bool := m ≤ 4 || m == 8 || m == 9

/-- The word of LCK_ACQ. -/
def acqWord (got broken already held : Bool) (lvl mst : Nat) : Nat :=
  b2n got + 2 * b2n broken + 4 * b2n already + 8 * b2n held + 16 * lvl + 256 * mst

/-- A read of LCK_ACQ[l] by master `m`: the word returned, and the state after it (R351). -/
def acquireOp (s : State) (m l : Nat) : Nat × State :=
  let held := s.flag .LCK_STAT_HELD l
  let lvl := s.fget .LCK_STAT_OWNLVL l
  let mst := s.fget .LCK_STAT_OWNMST l
  if !mayAcquire m then (acqWord false false false held lvl mst, s)
  else if held then
    let mine := holdsLock s m l
    (acqWord mine false mine true lvl mst, s)
  else
    let t := (((s.fset .LCK_STAT_HELD 1 l).fset .LCK_STAT_BROKEN 0 l).fset .LCK_STAT_OWNLVL (ownLevel s m) l).fset
      .LCK_STAT_OWNMST m l
    (acqWord true (s.flag .LCK_STAT_BROKEN l) false false (ownLevel s m) m, t)

/-- A lock freed: its owner is no longer shown. -/
def freeLock (s : State) (l : Nat) : State :=
  ((s.fset .LCK_STAT_HELD 0 l).fset .LCK_STAT_OWNLVL 0 l).fset .LCK_STAT_OWNMST 0 l

/-- A write of LCK_REL[l] by master `m` (R352). -/
def releaseOp (s : State) (m l : Nat) : State :=
  if holdsLock s m l then freeLock s l else s.fcount .LCK_RELERR_COUNT

/-- A lock freed with BROKEN set, counted; the first since the counter was read rings LCK_BROKEN (R353). -/
def breakLock (s : State) (l : Nat) : State :=
  let t := (freeLock s l).fset .LCK_STAT_BROKEN 1 l
  (t.ringIf (t.fget .LCK_BROKENCNT_COUNT == 0) 111).fcount .LCK_BROKENCNT_COUNT

/-- The reset of master `m` frees every lock it holds, at any level (R353). -/
def breakLocksOf (s : State) (m : Nat) : State :=
  (List.range 64).foldl (fun t l =>
    if t.flag .LCK_STAT_HELD l && t.fget .LCK_STAT_OWNMST l == m then breakLock t l else t) s

/-- A write of LCK_BREAK by master `m` (R354). -/
def lockBreakOp (s : State) (m v : Nat) : State :=
  if m = 4 ∨ m = 9 then breakLock s (v % 64) else s.fcount .LCK_RELERR_COUNT

/-! ### Reset and start of cores (R331, R332) -/

/-- Core `n` enters reset: its locks are freed (R353), what it waited for is dropped. -/
def coreResetOp (s : State) (n : Nat) : State :=
  let t := (s.fset .FAB_CORE_CTRL_RST 1 n).setCore n {}
  breakLocksOf { t with lockPast := vput t.lockPast (n / 2) [] } n

/-- Core `n` starts at BOOT with every register of every bank 0, MIE 0 and level 0 (R332). -/
def coreReleaseOp (s : State) (n : Nat) : State :=
  let t := s.fset .FAB_CORE_CTRL_RST 0 n
  t.setCore n { phase := .running, pc := 4 * s.fget .FAB_CORE_CTRL_BOOT n }

/-- A write of FAB_CORE[n]_CTRL: RST is ignored on a checker core, BOOT is read-only on the management core (R332). -/
def coreCtrlWrite (s : State) (n v : Nat) : State :=
  let s := if n = 4 then s else s.fset .FAB_CORE_CTRL_BOOT (v / 4) n
  if isChecker s n then s
  else if bit v 0 then (if s.flag .FAB_CORE_CTRL_RST n then s else coreResetOp s n)
  else (if s.flag .FAB_CORE_CTRL_RST n then coreReleaseOp s n else s)

/-- A write of FAB_CORECFG by master `m`: only the hardware sequencer's, and for a pair only while both of its cores are in
reset (R330). -/
def coreCfgWrite (s : State) (m v : Nat) : State :=
  if m = 7 then
    let both (a b : Nat) : Bool := s.flag .FAB_CORE_CTRL_RST a && s.flag .FAB_CORE_CTRL_RST b
    let t := if both 0 1 then s.fset .FAB_CORECFG_LS01 v else s
    if both 2 3 then t.fset .FAB_CORECFG_LS23 (v / 2) else t
  else s

/-- LOCKSTEP_MISMATCH: both cores of the pair enter reset, FAB_LSSTAT records the difference, the pair's source rings
(R331). -/
def execLockstepMismatch (p : Fin 2) (kind : Fin 4) (s : State) : Host.Outcome State Fault Refusal :=
  let lead := 2 * p.val
  let on := if p.val = 0 then s.flag .FAB_CORECFG_LS01 else s.flag .FAB_CORECFG_LS23
  if on && !s.flag .FAB_CORE_CTRL_RST lead then
    let t := coreResetOp (coreResetOp s lead) (lead + 1)
    let t := if p.val = 0 then t.hset .FAB_LSSTAT_ERR01 1 else t.hset .FAB_LSSTAT_ERR23 1
    .next ((t.fset .FAB_LSSTAT_KIND kind).ring (109 + p))
  else .next s

end Sys2Proof.Machine
end

