-- ==== Sys2Proof/Machine/CupBase.lean ====
section
/-! DEFINITION. Cupola's enforcements: their start, the limit ramp, the deferral during a feed transfer
(spec/13_cupola_thermal.md). -/

namespace Sys2Proof.Machine

/-- A write of limit target `n`: through the lane's stage, followed by an apply (R442). -/
def limitWrite (s : State) (n : Nat) (v : Int) : State :=
  let k := s.fget .CUP_LIM_TGT_LANE n
  let t := lregWrite s k (s.fget .CUP_LIM_TGT_REG n) (twos 48 v)
  { laneApplyReq t k with limLast := vput t.limLast n (some v) }

/-- The enabled limit targets. -/
def limitTargets (s : State) : List Nat := (List.range 8).filter fun n => s.flag .CUP_LIM_TGT_EN n

/-- A limit target's parameter. -/
def limNom (s : State) (n : Nat) : Int := sext 48 (s.fget .CUP_LIM_NOM_V n)
def limFloor (s : State) (n : Nat) : Int := sext 48 (s.fget .CUP_LIM_FLOOR_V n)
def limStep (s : State) (n : Nat) : Int := sext 48 (s.fget .CUP_LIM_STEP_V n)

/-- This millisecond's writes: down while limit enforcement runs, else up until NOM has been written (R442). -/
def limitRamp (s : State) : State :=
  let t := (limitTargets s).foldl (fun u n =>
    match vget u.limLast n with
    | some v => if u.flag .CUP_STAT_ENFCUR then limitWrite u n (max (limFloor u n) (v - limStep u n))
        else if v = limNom u n then u else limitWrite u n (min (limNom u n) (v + limStep u n))
    | none => if u.flag .CUP_STAT_ENFCUR then limitWrite u n (max (limFloor u n) (limNom u n - limStep u n)) else u) s
  let more := t.flag .CUP_STAT_ENFCUR || (limitTargets t).any fun n =>
    match vget t.limLast n with | some v => v != limNom t n | none => false
  { t with limNext := if more then some (t.now + msTicks) else none }

/-- An enforcement starts (R440): kind 0 clock, 1 limit. -/
def startEnforce (s : State) (kind : Nat) : State :=
  let t := if kind = 0 then (s.fset .CUP_STAT_ENFCLK 1).fset .CUP_STAT_GRACECLK 0
    else (s.fset .CUP_STAT_ENFCUR 1).fset .CUP_STAT_GRACECUR 0
  let t := { t with cupGrace := vput t.cupGrace kind none, cupDefer := vput t.cupDefer kind false }
  let t := ((t.fcount .CUP_CNT_ENFCNT).ring 114).notice 1 (4 + kind) []
  if kind = 1 then limitRamp t else t

/-- Deferred enforcements start, at the transfer's end or its deadline (R443). -/
def enforceDeferred (s : State) : State :=
  let t := if vget s.cupDefer 0 then startEnforce s 0 else s
  if vget t.cupDefer 1 then startEnforce t 1 else t

end Sys2Proof.Machine
end

