-- ==== Sys2Proof/Machine/Reals.lean ====
section
/-! DEFINITION. The real functions that the spec's formulas name, on rationals, to within 2⁻⁵⁶ (log entry 27). Angles are in line
ticks, 65,536 to a turn (R6). -/

namespace Sys2Proof

/-- A rational rounded down to a multiple of 2⁻⁶⁴. -/
def grid (x : Rat) : Rat := mkRat (x * 2 ^ 64).floor (2 ^ 64)

/-- 2π, to 30 digits. -/
def twoPi : Rat := mkRat 6283185307179586476925286766559 (10 ^ 30)

/-- The square root; 0 of a number that is not positive. -/
def rsqrt (x : Rat) : Rat := if x ≤ 0 then 0 else mkRat (isqrt 160 (x * 2 ^ 128).floor.toNat) (2 ^ 64)

/-- The alternating power series Σ (−1)ⁿ · xⁿ / Π of the divisors, by Horner's rule, from its last divisor. -/
def alternating (x : Rat) (l : List Nat) : Rat := l.foldr (fun (d : Nat) acc => 1 - grid (x * acc / (d : Rat))) 1

/-- The sine and the cosine of an angle of the first quadrant. -/
def sin0 (a : Rat) : Rat :=
  let r := grid (a * twoPi / 65536)
  r * alternating (grid (r * r)) [6, 20, 42, 72, 110, 156, 210, 272, 342, 420, 506, 600]
def cos0 (a : Rat) : Rat :=
  let r := grid (a * twoPi / 65536)
  alternating (grid (r * r)) [2, 12, 30, 56, 90, 132, 182, 240, 306, 380, 462, 552, 650]

/-- An angle modulo a turn. -/
def modTurn (a : Rat) : Rat := a - 65536 * ((a / 65536).floor : Rat)

/-- The sine and the cosine of an angle. -/
def sinLt (a : Rat) : Rat :=
  let x := modTurn a
  if x < 16384 then sin0 x else if x < 32768 then cos0 (x - 16384)
  else if x < 49152 then -sin0 (x - 32768) else -cos0 (x - 49152)
def cosLt (a : Rat) : Rat := sinLt (a + 16384)

/-- Half of an arcus tangent's angle, as a tangent. -/
def halfTan (x : Rat) : Rat := grid (x / (1 + rsqrt (1 + x * x)))

/-- The arcus tangent of a number of 0 to 1: the angle is halved three times, then the series x − x³/3 + x⁵/5 − … is summed. -/
def atan0 (x : Rat) : Rat :=
  let t := halfTan (halfTan (halfTan x))
  let q := grid (t * t)
  8 * t * ((List.range 16).foldr (fun n acc => mkRat 1 (2 * n + 1) - grid (q * acc)) 0) * 65536 / twoPi

/-- The arcus tangent, arcus sine and arcus cosine; the last two of an argument beyond ±1 are those of ±1. -/
def atanLt (x : Rat) : Rat :=
  let a := if x < 0 then -x else x
  let t := if a ≤ 1 then atan0 a else 16384 - atan0 (1 / a)
  if x < 0 then -t else t
def asinLt (x : Rat) : Rat :=
  let r := rsqrt (1 - x * x)
  if 1 ≤ x then 16384 else if x ≤ -1 then -16384
  else if r = 0 then (if x < 0 then -16384 else 16384) else atanLt (x / r)
def acosLt (x : Rat) : Rat := 16384 - asinLt x

/-- The angle of the vector (x, y), from 0 up to a turn; 0 of the null vector. -/
def angleOf (x y : Rat) : Rat :=
  if x = 0 then (if y = 0 then 0 else if 0 < y then 16384 else 49152)
  else modTurn (atanLt (y / x) + if x < 0 then 32768 else 0)

/-- The natural logarithm of a positive number: the power of two apart, twice the series z + z³/3 + … of z = (m − 1)/(m + 1). -/
def ln0 (m : Rat) : Rat :=
  let z := grid ((m - 1) / (m + 1))
  let q := grid (z * z)
  2 * z * (List.range 40).foldr (fun n acc => mkRat 1 (2 * n + 1) + grid (q * acc)) 0
def lnR (x : Rat) : Rat :=
  if x ≤ 0 then 0 else
  let k : Int := (Nat.log2 x.num.toNat : Int) - (Nat.log2 x.den : Int)
  ln0 (if 0 ≤ k then x / (2 : Rat) ^ k.toNat else x * (2 : Rat) ^ (-k).toNat) + (k : Rat) * ln0 2

/-- A number in the 2⁻³² units of a register, signed and unsigned, limited to 48 bits, and the number of an unsigned one (R6). -/
def toS48 (x : Rat) : Nat := (satS48 (x * 2 ^ 32).floor).1
def toU48 (x : Rat) : Nat := min (2 ^ 48 - 1) (x * 2 ^ 32).floor.toNat
def ofU48 (v : Nat) : Rat := mkRat v (2 ^ 32)

/-- A value that an error `e` moves by at most `b`: `e` is a free number (R87). -/
def within (x b : Rat) (e : Int) : Rat :=
  let d := mkRat e (2 ^ 40)
  x + (if d < -b then -b else if b < d then b else d)

end Sys2Proof
end

