-- ==== Sys2Proof/Machine/Sdm.lean ====
section
/-! DEFINITION. The sigma-delta modulators: fast path, overrange, metering and energy (spec/02_sensing_converters.md). -/

namespace Sys2Proof.Machine

/-- The saturated end value of a fast-path sample, of the sample's sign (R81, R82). -/
def fastEnd (v : Nat) : Nat := if bit v 17 then twos 18 (-131071) else 131071

/-- FAST_SAMPLE: an enabled modulator's sample is readable in SDM_FAST; while the modulator is flagged, it is the end value
and carries the flag (R81, R82, R89). -/
def execFastSample (m : Fin 12) (v : Nat) (s : State) : Host.Outcome State Fault Refusal :=
  if s.fbit .SDM_CTRL_EN m then
    let beyond := vget s.sdmOver m
    .next ((s.fset .SDM_FAST_DATA (if beyond then fastEnd v else v) m).fput .SDM_FAST_OVR beyond m)
  else .next s

/-- SDM_OVERRANGE: the overrange begins, setting SDM_STAT.OVR, or ends (R81), also of a disabled modulator (log entry 93); while the
domain's clock stops, nothing sees it (R403). -/
def execSdmOverrange (m : Fin 12) (on : Bool) (s : State) : Host.Outcome State Fault Refusal :=
  if !s.clockOn 13 then .next s else
  let t := { s with sdmOver := vput s.sdmOver m on }
  .next (if on then t.hbit .SDM_STAT_OVR m else t)

/-! ### Metering (R83 to R88) -/

/-- The metering path's group delay, and a sample's period, in ticks (R83). -/
def meterDelay : Nat := 534960
def meterPeriod : Nat := 40000

/-- METER_SAMPLE: at 20 kSPS a sample joins those of its modulator while the engine and the modulator run (R83, R84). -/
def execMeterSample (m : Fin 12) (v : Nat) (s : State) : Host.Outcome State Fault Refusal :=
  let l := vget s.meter m
  if s.flag .SDM_CTRL_MET_EN && s.fbit .SDM_CTRL_EN m && l.head?.all (fun e => decide (e.1 + meterPeriod ≤ s.now)) then
    .next { s with meter := vput s.meter m ((s.now, v % 2 ^ 24) :: l) }
  else .next s

def State.winAt (s : State) (f : Nat) : MeterWin := vget s.meterWin f
def State.setWin (s : State) (f : Nat) (w : MeterWin) : State := { s with meterWin := vput s.meterWin f w }

/-- The feed's windows follow its PLL (R84, R85). -/
def syncPut (s : State) (f : Nat) (b : Bool) : State :=
  if f = 0 then s.fput .SDM_STAT_SYNCA b else s.fput .SDM_STAT_SYNCB b

/-- Feed `f` begins a new window: as its PLL locks or loses lock, and as the engine starts (R84, R85; log entry 23). -/
def meterRestart (s : State) (f : Nat) : State :=
  syncPut (s.setWin f { start := s.now }) f (s.flag .SDM_CTRL_MET_EN && s.flag .LAE_FEED_STAT_LOCK f)

/-- LAE_FEED_STAT.LOCK takes a value; a change begins a new metering window. -/
def lockIs (s : State) (f : Nat) (b : Bool) : State :=
  let t := s.fput .LAE_FEED_STAT_LOCK b f
  if s.flag .LAE_FEED_STAT_LOCK f = b then t else meterRestart t f

/-- The ticks at which the angle of feed `f`'s PLL, which stands at `angle` line ticks now, has passed a multiple of 256: from a
passage of 0 on (R84). -/
def meterMark (s : State) (f : Nat) (angle : Rat) : State :=
  let w := s.winAt f
  let j := ((angle / 256).floor % 256).toNat
  let d := (j + 256 - w.last) % 256
  if !s.flag .SDM_CTRL_MET_EN || !s.flag .LAE_FEED_STAT_LOCK f || d == 0 || 128 ≤ d then s
  else if w.marks = [] then s.setWin f { w with last := j, marks := if j < w.last then List.replicate (j + 1) s.now else [] }
  else s.setWin f { w with last := j, marks := List.replicate d s.now ++ w.marks }

/-- The points of a window that follows the PLL. -/
def windowPoints (s : State) : Nat := 256 * (s.fget .SDM_CFG_WIN + 1)

/-- The window of feed `f` is over, and what its results rest on has arrived: WIN cycles while the feed is locked, else 200 ms
(R84, R85). -/
def windowOver (s : State) (f : Nat) : Bool :=
  let w := s.winAt f
  if s.flag .LAE_FEED_STAT_LOCK f then
    match w.marks.reverse[windowPoints s]? with
    | some e => decide (e + meterDelay + 2 * meterPeriod ≤ s.now)
    | none => false
  else decide (w.start + 4000 * meterPeriod + meterDelay ≤ s.now)

/-- The value of a 24-bit sample of modulator `m` (SDM_SCALE). -/
def meterValue (s : State) (m v : Nat) : Rat := mkRat (sext 24 v) 8388607 * ofU48 (s.fget .SDM_SCALE_FS m)

/-- The cubic through four samples, at a time (R84). -/
def cubic (l : List (Rat × Rat)) (t : Rat) : Rat :=
  grid ((l.map fun p => p.2 * ((l.filter fun q => q.1 != p.1).map fun q => (t - q.1) / (p.1 - q.1)).prod).sum)

/-- A modulator's quantity at a tick: the cubic through the two samples before it and the two after it, with the group delay
removed (R83, R84). -/
def meterAt (s : State) (m t : Nat) : Option Rat :=
  let l := vget s.meter m
  let late := (l.takeWhile fun e => decide (t + meterDelay < e.1)).reverse.take 2
  let early := (l.dropWhile fun e => decide (t + meterDelay < e.1)).take 2
  if late.length = 2 ∧ early.length = 2 then
    some (cubic ((late ++ early).map fun e => (((e.1 : Nat) : Rat), meterValue s m e.2)) ((t + meterDelay : Nat) : Rat))
  else none

/-- The values of a modulator in its feed's window: 256 to a cycle while the feed is locked, else 4,000 samples (R84, R85). A disabled
modulator has none (R89), nor has one that has not run for the whole window (log entry 23). -/
def windowOf (s : State) (m : Nat) : Option (List Rat) :=
  let w := s.winAt (m / 6)
  if !s.fbit .SDM_CTRL_EN m then none
  else if s.flag .LAE_FEED_STAT_LOCK (m / 6) then (w.marks.reverse.take (windowPoints s)).mapM (meterAt s m)
  else
    let l := ((vget s.meter m).reverse.filter fun e => decide (w.start + meterDelay ≤ e.1)).take 4000
    if l.length = 4000 then some (l.map fun e => meterValue s m e.2) else none

/-- Whether feed `f`'s voltages are line-to-line (R86). -/
def vconn (s : State) (f : Nat) : Bool := if f = 0 then s.flag .SDM_CFG_VCONN_A else s.flag .SDM_CFG_VCONN_B

/-- The line-to-neutral voltage of phase `p` of a feed in its window: V1 = (V12 − V31) / 3 and so on where the modulators measure
line-to-line voltages (R86). -/
def phaseVolts (s : State) (f p : Nat) : Option (List Rat) :=
  if vconn s f then
    match windowOf s (6 * f), windowOf s (6 * f + 1), windowOf s (6 * f + 2) with
    | some a, some b, some c =>
      let v := [a, b, c]
      some (List.zipWith (fun x y => (x - y) / 3) (v.getD p []) (v.getD ((p + 2) % 3) []))
    | _, _, _ => none
  else windowOf s (6 * f + p)

/-- The mean of some numbers, and the root of the mean of their squares. -/
def meanOf (l : List Rat) : Rat := l.sum / (l.length : Rat)
def rmsOf (l : List Rat) : Rat := rsqrt (meanOf (l.map fun x => grid (x * x)))

/-- Bin `h` of the DFT of values at 256 points to a cycle: its cosine and its sine part (R84). -/
def harmonic (l : List Rat) (h : Nat) : Rat × Rat :=
  let dot (g : Rat → Rat) : Rat :=
    (l.zipIdx.map fun x => grid (x.1 * g ((256 * h * x.2 : Nat) : Rat))).sum * 2 / (l.length : Rat)
  (dot cosLt, dot sinLt)

/-- The RMS magnitude of a bin. -/
def magOf (b : Rat × Rat) : Rat := rsqrt ((b.1 * b.1 + b.2 * b.2) / 2)

/-- A reading in error by at most 0.1 % where R87 bounds the error, from 10 to 100 % of full scale; free elsewhere. -/
def rmsRead (r fs : Rat) (e : Int) : Rat := if fs ≤ 10 * r ∧ r ≤ fs then within r (r / 1000) e else r + mkRat e (2 ^ 40)

/-- The results of modulator `m` (R85, R87, R89), in error within the bounds of R87; `n` is the free number of this publish. -/
def publishMod (n : Nat) (sync : Bool) (s : State) (m : Nat) : State :=
  let fs := ofU48 (s.fget .SDM_SCALE_FS m)
  let l := windowOf s m
  let h : List (Rat × Rat) := match l with
    | some l => if sync then (List.range 50).map fun h => harmonic l (h + 1) else []
    | none => []
  let e (k : Nat) : Int := Config.meterError n m k
  let m1 := magOf (h.getD 0 (0, 0))
  let thd : Nat := match h with
    | [] => 0
    | b :: t => if magOf b = 0 then s.draw else
      toU48 (within (rsqrt ((t.map fun x => (x.1 * x.1 + x.2 * x.2) / 2).sum) / m1) (1 / 500) (e 1))
  let t := (s.fset .SDM_RES_RMS_V ((l.map fun l => toU48 (rmsRead (rmsOf l) fs (e 0))).getD 0) m).fset .SDM_RES_THD_V thd m
  (List.range 50).foldl (fun u k =>
    let mag : Nat := match h[k]? with
      | some b => toU48 (within (magOf b) (magOf b / 200 + fs / 5000) (e (2 + k)))
      | none => 0
    let ph : Nat := match h[k]? with
      | some b => (modTurn (within (angleOf b.2 b.1) (if k < 13 then 20 else 90) (e (52 + k)))).floor.toNat
      | none => 0
    (u.fset .SDM_RES_MAG_V mag m k).fset .SDM_RES_PHASE_V ph m k) t

/-- An energy counter advanced by an energy in millijoules, with the remainder carried. -/
def energyAdd (s : State) (g : Fld) (f p k : Nat) (x : Rat) : State :=
  let y := vget s.energyRem k + x
  { s.fset g (s.fget g f p + y.floor.toNat) f p with energyRem := vput s.energyRem k (y - (y.floor : Rat)) }

/-- The ticks of feed `f`'s window. -/
def windowTicks (s : State) (f : Nat) : Nat :=
  if s.flag .LAE_FEED_STAT_LOCK f then
    let l := (s.winAt f).marks.reverse
    l.getD (windowPoints s) 0 - l.headD 0
  else 4000 * meterPeriod

/-- The powers and the energies of a feed phase (R85, R87, R88), in error within the bounds of R87; while the feed is out of lock there
is no h = 1 bin and Q reads 0 (log entry 23); PF where S is 0 is a free value. -/
def publishPower (n : Nat) (sync : Bool) (f : Nat) (s : State) (p : Nat) : State :=
  let e (k : Nat) : Int := Config.meterError n (12 + 3 * f + p) k
  let put (u : State) (a b c d : Nat) : State :=
    (((u.fset .SDM_RES_P_V a f p).fset .SDM_RES_Q_V b f p).fset .SDM_RES_S_V c f p).fset .SDM_RES_PF_V d f p
  match phaseVolts s f p, windowOf s (6 * f + 3 + p) with
  | some v, some i =>
    let pw := meanOf (List.zipWith (fun x y => grid (x * y)) v i)
    let ap := rmsOf v * rmsOf i
    let hv := harmonic v 1
    let hi := harmonic i 1
    let q := (hv.1 * hi.2 - hv.2 * hi.1) / 2
    let t := put s (toS48 (within pw (ap / 500) (e 0))) (if sync then toS48 (within q (3 * ap / 1000) (e 1)) else 0)
      (toU48 (within ap (ap / 500) (e 2))) (if ap = 0 then s.draw else toS48 (within (pw / ap) (3 / 1000) (e 3)))
    let mj := pw * (windowTicks s f : Rat) / 800000
    if 0 ≤ mj then energyAdd t .SDM_RES_EIMP_V f p (3 * f + p) (within mj (mj / 500) (e 4))
    else energyAdd t .SDM_RES_EEXP_V f p (6 + 3 * f + p) (within (-mj) (-mj / 500) (e 4))
  | _, _ => put s 0 0 0 0

/-- The next window of feed `f` starts where the last one ends; samples that no later result needs are dropped. -/
def nextWindow (s : State) (f : Nat) : State :=
  let w := s.winAt f
  let n := w.marks.length - windowPoints s
  let w := if s.flag .LAE_FEED_STAT_LOCK f then { w with start := s.now, marks := w.marks.take n }
    else { w with start := w.start + 4000 * meterPeriod }
  let from_ := if s.flag .LAE_FEED_STAT_LOCK f then w.marks.getLast?.getD 0 else w.start
  { s.setWin f w with
    meter := (List.range 6).foldl (fun v i => vput v (6 * f + i) ((vget v (6 * f + i)).filter fun e =>
      decide (from_ + meterDelay < e.1 + 3 * meterPeriod))) s.meter }

/-- METER_PUBLISH: at the end of feed `f`'s window its results appear in one step, SEQ counts, and the next window starts
(R84, R85, R88). -/
def execMeterPublish (f : Fin 2) (s : State) : Host.Outcome State Fault Refusal :=
  if s.flag .SDM_CTRL_MET_EN && windowOver s f then
    let sync := s.flag .LAE_FEED_STAT_LOCK f
    let t := (List.range 6).foldl (fun u i => publishMod s.draw sync u (6 * f + i)) s
    let t := (List.range 3).foldl (publishPower s.draw sync f) t
    .next (nextWindow (t.drawn.fset .SDM_STAT_SEQ (t.fget .SDM_STAT_SEQ + 1)) f)
  else .next s

/-- An energy counter's register (R91). -/
def energyReg (exported : Bool) : Fld := if exported then .SDM_RES_EEXP_V else .SDM_RES_EIMP_V

/-- The address of an energy counter. -/
def energyAddr (f p : Nat) (exported : Bool) : Nat :=
  regAddr (if exported then .SDM_RES_EEXP else .SDM_RES_EIMP) f p

/-- A low-word read of an energy counter: the high word is latched for the master (R88). -/
def energyLow (s : State) (m addr v : Nat) : Nat × State :=
  let p := s.portAt m
  (v % 2 ^ 32, s.setPort m { p with energy := (addr, v / 2 ^ 32) :: p.energy.filter fun e => e.1 ≠ addr })

/-- A high-word read of an energy counter: the word latched for this counter, once, else the live one (R88). -/
def energyHigh (s : State) (m addr v : Nat) : Nat × State :=
  let p := s.portAt m
  match p.energy.find? fun e => decide (e.1 = addr) with
  | some (_, h) => (h, s.setPort m { p with energy := p.energy.filter fun e => e.1 ≠ addr })
  | none => (v / 2 ^ 32, s)

/-- A write of SDM_CTRL: a modulator whose enable clears delivers no further sample and drops those it has (R89); as the metering
engine starts or stops, so do the windows. -/
def sdmCtrlWrite (s : State) (v : Nat) : State :=
  let old := s.fget .SDM_CTRL_EN
  let t := (s.fset .SDM_CTRL_EN v).fput .SDM_CTRL_MET_EN (bit v 12)
  let t := { t with meter := (List.range 12).foldl (fun w m => if bit old m && !bit v m then vput w m [] else w) t.meter }
  if s.flag .SDM_CTRL_MET_EN = bit v 12 then t
  else meterRestart (meterRestart { t with meter := Vector.replicate 12 [] } 0) 1

end Sys2Proof.Machine
end

