-- ==== Sys2Proof/Machine/LaeGates.lean ====
section
/-! DEFINITION. The Line Angle Engine: angles, gate pairs, release, interlock, strategies and transfers
(spec/08_line_angle_engine.md). -/

namespace Sys2Proof.Machine

def State.feedAt (s : State) (f : Nat) : LaeFeed := vget s.feed f
def State.setFeed (s : State) (f : Nat) (x : LaeFeed) : State := { s with feed := vput s.feed f x }
def State.pairAt (s : State) (j : Nat) : LaePair := vget s.pair j
def State.setPair (s : State) (j : Nat) (x : LaePair) : State := { s with pair := vput s.pair j x }

/-- A gate of a pair. -/
def gateAt (s : State) (j : Nat) (rev : Bool) : Gate := if rev then (s.pairAt j).rev else (s.pairAt j).fwd

/-- A gate replaced; STAT.FIRING reads whether a gate of the pair is active in the engine's state. -/
def setGate (s : State) (j : Nat) (rev : Bool) (g : Gate) : State :=
  let p := s.pairAt j
  let p := if rev then { p with rev := g } else { p with fwd := g }
  (s.setPair j p).fput .LAE_PAIR_STAT_FIRING (p.fwd.on || p.rev.on) j

/-- A feed is enabled. -/
def laeEn (s : State) (f : Nat) : Bool := if f = 0 then s.flag .LAE_CTRL_ENA else s.flag .LAE_CTRL_ENB

def feedLocked (s : State) (f : Nat) : Bool := s.flag .LAE_FEED_STAT_LOCK f

/-- An angle modulo a cycle. -/
def modLt (x : Rat) : Rat := x - 65536 * ((x / 65536).floor : Rat)

/-- The phase references with 16 fraction bits (R250). -/
def phi (p : Nat) : Rat :=
  match p with
  | 0 => 0
  | 1 => (21845 * 65536 + 21845 : Nat) / 65536
  | _ => (43690 * 65536 + 43691 : Nat) / 65536

/-- The published angle reached `a` in this tick (R269, R272). -/
def reached (s : State) (f : Nat) (a : Rat) : Bool :=
  let x := s.feedAt f
  let d := modLt (x.pub - x.pubPrev)
  decide (d < 32768) && decide (modLt (x.pub - a) < d)

/-- Registers of a pair. -/
def pairEn (s : State) (j : Nat) : Bool := s.flag .LAE_PAIR_CFG_EN j
def pairFeed (s : State) (j : Nat) : Nat := s.fget .LAE_PAIR_CFG_FEED j
def pairPhase (s : State) (j : Nat) : Nat := s.fget .LAE_PAIR_CFG_PHASE j
def pairStrat (s : State) (j : Nat) : Nat := s.fget .LAE_PAIR_CFG_STRAT j

/-- How a gate fires: its pair's MODE, or CONTINUOUS by R285. -/
def gateMode (s : State) (j : Nat) (g : Gate) : Nat := if g.cont then 2 else s.fget .LAE_PAIR_CFG_MODE j

/-- The pairs of a feed, and the enabled ones. -/
def pairsOf (s : State) (f : Nat) : List Nat := (List.range 12).filter fun j => pairFeed s j == f
def livePairs (s : State) (f : Nat) : List Nat := (pairsOf s f).filter (pairEn s)

/-- A status bit of a pair set; MISFIRE, SYMERR and CZTMO ring LAE_GATE on their first setting (R270). -/
def pairStatus (s : State) (fl : Fld) (j : Nat) : State := if s.flag fl j then s else (s.fset fl 1 j).ring 108

/-- The load feed, the other one, and the word of LAE_XSTAT as bytes. -/
def loadFeed (s : State) : Nat := s.fget .LAE_XSTAT_ACTIVE
def xstatBytes (s : State) : List Nat := leBytes 4 (s.regWord (regDesc .LAE_XSTAT) 0 0)


/-! ### Release, de-energised state, flux capture (R283, R288) -/

/-- The ramp of feed `f` starts again from ASTART (R281). -/
def rampRestart (s : State) (f : Nat) : State :=
  if (livePairs s f).any (fun j => pairStrat s j == 1) then
    ((s.fset .LAE_FEED_PRESTAT_DONE 0 f).fset .LAE_FEED_PRESTAT_RAMP 1 f).fset .LAE_FEED_PRESTAT_ALPHA
      (s.fget .LAE_FEED_PRECFG_ASTART f) f
  else s

/-- The pairs that a feed's current has flowed through since their last release (R294). -/
def carriers (s : State) (f : Nat) : List Nat := (List.range 12).filter fun j => (s.pairAt j).feedN == f

/-- No gate of the feed is active, and its currents have been declared zero since the last release of each. -/
def feedIdle (s : State) (f : Nat) : Bool :=
  (carriers s f).all fun j => !(s.pairAt j).fwd.open_ && !(s.pairAt j).rev.open_ && (s.pairAt j).rel.isNone

/-- What a flux-matched firing rests on has been written: its angle is found anew (R284). -/
def fluxMoved (s : State) : State := { s with feed := s.feed.map fun x => { x with xfArm := none } }

/-- The load is de-energised in this tick: the fluxes are captured (R283). -/
def deenergise (s : State) : State :=
  let idle := (List.range 12).all fun j => !(s.pairAt j).fwd.open_ && !(s.pairAt j).rev.open_
  let zero := (carriers s (loadFeed s)).all fun j => (s.pairAt j).rel.isNone
  if s.energised && idle && zero then
    let fl := (s.feedAt (loadFeed s)).flux
    let t := (List.range 3).foldl (fun u p => u.fset .LAE_REM_PSI (toS48 (fl.getD p 0)) p) s
    let t := { t.fset .LAE_REMV_VALID 1 with energised := false }
    let t := (t.setFeed 0 { t.feedAt 0 with xf := 0 }).setFeed 1 { t.feedAt 1 with xf := 0 }
    fluxMoved (rampRestart (rampRestart t 0) 1)
  else s

/-- A gate is released: it becomes inactive and its firing ends (R288). -/
def releaseGate (s : State) (j : Nat) (rev : Bool) : State :=
  let g := gateAt s j rev
  if g.open_ then
    let t := setGate s j rev { g with on := false, open_ := false, ext := false, stopAt := none, relNext := false }
    deenergise (t.setPair j { t.pairAt j with rel := some t.now })
  else setGate s j rev { g with stopAt := none, relNext := false }

/-- The current of a gate's polarity is above IZ (CONDF, CONDR). -/
def conducts (s : State) (j : Nat) (rev : Bool) : Bool :=
  s.flag (if rev then .LAE_PAIR_STAT_CONDR else .LAE_PAIR_STAT_CONDF) j

/-- Release of a pair whose EN is cleared, or whose feed has lost lock: at the next current zero when the gate conducts,
else at the next tick (R288). -/
def pairStop (s : State) (j : Nat) : State :=
  [false, true].foldl (fun t rev =>
    let g := gateAt t j rev
    if !g.open_ then t
    else if conducts t j rev then setGate t j rev { g with stopAt := some t.now }
    else setGate t j rev { g with relNext := true }) s

/-! ### Firing -/

/-- The interlock: no gate of the other feed is active, and every current of it has been declared zero since its last
release (R294). -/
def interlockFree (s : State) (f : Nat) : Bool :=
  feedIdle s (1 - f)

/-- The angle of a pair since its forward reference crossing. -/
def pairAngle (s : State) (j : Nat) : Rat := modLt ((s.feedAt (pairFeed s j)).pub - phi (pairPhase s j))

/-- A gate becomes active: its firing begins (R272, R276); a forward firing's actual angle is recorded (R275). -/
def fireGate (s : State) (j : Nat) (rev cont : Bool) : State :=
  let g := gateAt s j rev
  let t := setGate s j rev { g with
    on := true, open_ := true, cont := cont, firedAt := s.now, pulseAt := s.now, watch := true, confirmed := false, lat := 0,
    closed := false, ext := false, done := true, stopAt := none, relNext := false, waitZ := none, okAt := none }
  let t := t.setPair j { t.pairAt j with feedN := pairFeed s j, phaseN := pairPhase s j }
  let t := if rev then t else
    (t.setPair j { t.pairAt j with act := some (pairAngle s j) }).fset .LAE_PAIR_STAT_AACT (pairAngle s j).floor.toNat j
  { t with energised := true }

/-- The effective forward angle. -/
def effAngle (s : State) (j : Nat) : Rat := (s.pairAt j).eff.getD (s.fget .LAE_PAIR_ANG_ALPHA j : Nat)

/-- The target of a gate: the effective angle, or for the reverse gate the forward gate's actual angle (R275). -/
def gateTarget (s : State) (j : Nat) (rev : Bool) : Rat :=
  if rev then (s.pairAt j).act.getD (effAngle s j) else effAngle s j

/-- The angle of a gate since its own reference, modulo a cycle: the reverse gate's lies half a cycle later (R272). -/
def gateAngle (s : State) (j : Nat) (rev : Bool) : Rat := modLt (pairAngle s j - if rev then 32768 else 0)

/-- The tick from which a gate is ready: with STRAT = 3, CZMARG µs after the zero of the opposite current, or after the wait for it
has timed out; none while that current flows (R279, R286, R287). -/
def readyFrom (s : State) (j : Nat) (rev : Bool) : Option Nat :=
  if pairStrat s j != 3 then some 0
  else (match (gateAt s j rev).okAt with
    | some z => some z
    | none => (gateAt s j !rev).zero).map fun z => z + s.fget .LAE_PAIR_SLEW_CZMARG j * usTicks

def gateReady (s : State) (j : Nat) (rev : Bool) : Bool := (readyFrom s j rev).any fun z => decide (z ≤ s.now)

/-- The published angle comes to the gate's target in this tick (R272). -/
def gateHere (s : State) (j : Nat) (rev : Bool) : Bool :=
  reached s (pairFeed s j) (phi (pairPhase s j) + gateTarget s j rev + if rev then 32768 else 0)

/-- The instant of the gate's firing is this tick: the later of its target angle and its readiness (R275). A target of less than half a
cycle is waited past in its own half-cycle. -/
def gateDue (s : State) (j : Nat) (rev : Bool) : Bool :=
  let tgt := gateTarget s j rev
  let x := gateAngle s j rev
  (gateHere s j rev && gateReady s j rev) ||
    (decide (tgt ≤ x) && (decide (x < 32768) || decide (32768 ≤ tgt)) && readyFrom s j rev == some s.now)

/-- The window of the gate has not closed (R272); a SINGLE gate's firing has none. -/
def insideWindow (s : State) (j : Nat) (rev : Bool) : Bool :=
  s.fget .LAE_PAIR_CFG_MODE j == 0 || decide (gateAngle s j rev < ((s.pairAt j).endW : Rat))

/-! ### Capacitive load (R280, R281) -/

def lineToLine (s : State) (f : Nat) : Rat := rsqrt 3 * ofU48 (s.fget .LAE_FEED_AMP_AMP f)
def preCap (s : State) (f : Nat) : Rat := ofU48 (s.fget .LAE_FEED_PRECAP_PRECAP f)
def preInd (s : State) (f : Nat) : Rat := ofU48 (s.fget .LAE_FEED_PREIND_PREIND f)
def preLim (s : State) (f : Nat) : Rat := ofU48 (s.fget .LAE_FEED_PRELIM_PRELIM f)

/-- A quotient of the spec's formulas; it states none for a divisor of 0 (log entry 27). -/
def quot (a b : Rat) : Rat := if b = 0 then Config.byZero a else a / b

/-- The predicted peak inrush of a firing at `a` (R280). -/
def inrush (s : State) (f : Nat) (a : Rat) : Rat :=
  let v := if a ≤ 10923 then lineToLine s f else lineToLine s f * sinLt (a + 16384 / 3)
  max 0 (v - (s.feedAt f).vc) * rsqrt (quot (preCap s f) (preInd s f))

/-- The effective angle of the present cycle: the target ALPHA, or the ramp angle when that is later, at most SLEW from the last one, and
not before the angle that R275 asks for (R274, R275, R281). -/
def pairSlew (s : State) (j : Nat) : State :=
  let p := s.pairAt j
  let ramp := if pairStrat s j = 1 then s.fget .LAE_FEED_PRESTAT_ALPHA (pairFeed s j) else 0
  let tgt : Rat := (max p.alpha ramp : Nat)
  let step : Rat := s.fget .LAE_PAIR_SLEW_SLEW j
  s.setPair j { p with eff := some (max p.least (max (p.base - step) (min (p.base + step) tgt))) }

/-- A ramp angle found at line tick 0: the pairs of phase 1, whose cycle begins there, take it in this cycle. -/
def rampTo (s : State) (f a : Nat) : State :=
  let t := s.fset .LAE_FEED_PRESTAT_ALPHA a f
  ((pairsOf t f).filter fun j => pairPhase t j == 0 && pairStrat t j == 1).foldl pairSlew t

/-- RAMP_UPDATE: the ramp angle at line tick 0 (R281). -/
def execRampUpdate (f : Fin 2) (s : State) : Host.Outcome State Fault Refusal :=
  if reached s f 0 && s.flag .LAE_FEED_PRESTAT_RAMP f then
    let step := preLim s f * rsqrt (quot (preInd s f) (preCap s f))
    let vc := (s.feedAt f).vc
    if lineToLine s f - vc ≤ step then
      .next ((((rampTo s f 0).fset .LAE_FEED_PRESTAT_DONE 1 f).fset .LAE_FEED_PRESTAT_RAMP 0 f).ring 107)
    else
      let a := (32768 - asinLt (quot (vc + step) (lineToLine s f)) - 16384 / 3).ceil.toNat
      .next (rampTo s f (min a (s.fget .LAE_FEED_PRECFG_ASTART f)))
  else .next s

/-! ### Transformer load (R284, R285) -/

/-- The flux-matched angle of the phase pair (k, k + 1) (R284). -/
def fluxAngle (s : State) (f k : Nat) : Rat :=
  let psi (p : Nat) : Rat := (sext 48 (s.fget .LAE_REM_PSI (p % 3)) : Rat) / 4294967296
  let r3 := rsqrt 3
  let rho := quot ((psi k - psi (k + 1)) * twoPi * (s.feedAt f).freq) (ofU48 (s.fget .LAE_FEED_AMP_AMP f))
  let rho := max (-r3) (min r3 rho)
  if s.flag .LAE_REMV_VALID then modLt (acosLt (-rho / r3) - 16384 / 3) else 10923

/-- The first firing of feed `f` is to be flux-matched: armed by a transfer, or by a de-energised state with STRAT = 2. -/
def fluxArmed (s : State) (f : Nat) : Bool :=
  (s.feedAt f).xf == 1 ||
    ((s.feedAt f).xf == 0 && !s.energised && (livePairs s f).any (fun j => pairStrat s j == 2))

/-- The phase pair it begins with. -/
def fluxK (s : State) (f : Nat) : Nat := if (s.feedAt f).xf = 1 then (s.feedAt f).xfK else s.fget .LAE_FEED_XF_FIRST f % 3

/-- α_T found while a flux-matched firing is to be made (R284). -/
def fluxAim (s : State) (f : Nat) : State :=
  s.setFeed f { s.feedAt f with xfArm := if fluxArmed s f then some (fluxAngle s f (fluxK s f)) else none }

/-- A tick of feed `f`'s flux-matched firing: whether the published angle comes to φk + α_T in it. The third phase's instant lies behind
when it came in the tick before; a transfer's firing is not made after its last tick (R284, R285, R298). -/
def fluxTick (s : State) (f : Nat) : State :=
  let x := s.feedAt f
  if !fluxArmed s f then s.setFeed f { x with xfArm := none, xfFar := false, xfNow := false }
  else if x.xf = 1 ∧ x.xfBy.any (fun b => decide (b < s.now)) then s.setFeed f { x with xf := 0, xfBy := none, xfArm := none }
  else match x.xfArm with
    | none => let t := fluxAim s f; t.setFeed f { t.feedAt f with xfFar := false, xfNow := false }
    | some a =>
      let far := decide (32768 ≤ modLt (x.pub - phi (fluxK s f) - a))
      s.setFeed f { x with xfFar := far, xfNow := x.xfFar && !far }

/-- The pairs of a phase that a flux-matched firing uses: with STRAT = 2, in a transfer every pair. -/
def fluxPairs (s : State) (f p : Nat) : List Nat :=
  (livePairs s f).filter fun j => pairPhase s j == p % 3 && ((s.feedAt f).xf == 1 || (s.feedAt f).xf == 2 || pairStrat s j == 2)

/-- The flux-matched first firing: forward gates of phase k, reverse gates of phase k + 1 (R284). -/
def fluxFire (s : State) (f : Nat) : State :=
  let k := fluxK s f
  let a := fluxAngle s f k
  let fw := fluxPairs s f k
  let rv := fluxPairs s f (k + 1)
  let t := fw.foldl (fun u j => fireGate u j false false) s
  let t := rv.foldl (fun u j => fireGate u j true false) t
  (t.fset .LAE_REMV_VALID 0).setFeed f { t.feedAt f with xf := 2, xfK := k, xfAlpha := a, xfBy := none }

/-! ### The gate commands -/

/-- A new firing of the pair may start: enabled, its feed locked, in sequence, carrying the load, and the interlock free
(R267, R288, R294, R295). -/
def mayFire (s : State) (j : Nat) : Bool :=
  let f := pairFeed s j
  pairEn s j && laeEn s f && feedLocked s f && !s.flag .LAE_FEED_STAT_SEQREV f && !s.flag .LAE_XSTAT_NONE &&
    loadFeed s == f && !s.flag .LAE_XSTAT_BUSY && interlockFree s f

/-- The third phase's instant, θ = φk + α_T + XDLY (R285). -/
def thirdHere (s : State) (f : Nat) : Bool :=
  let x := s.feedAt f
  x.xf == 2 && reached s f (phi x.xfK + x.xfAlpha + (s.fget .LAE_FEED_XF_XDLY f : Rat))

/-- THIRD_PHASE_FIRE: both gates of the third phase, in CONTINUOUS (R285). -/
def execThirdPhaseFire (f : Fin 2) (s : State) : Host.Outcome State Fault Refusal :=
  if thirdHere s f then
    let js := (fluxPairs s f ((s.feedAt f).xfK + 2)).filter (mayFire s)
    let t := js.foldl (fun u j => fireGate (fireGate u j false true) j true true) s
    .next (t.setFeed f { t.feedAt f with xf := 3 })
  else .next s

/-- The flux-matched first firing of feed `f` falls in this tick: the angle has come to φk + α_T, or the firing of a transfer is in the
last tick it may be made in (R284, R298; log entry 29). -/
def fluxDue (s : State) (f : Nat) : Bool :=
  let x := s.feedAt f
  x.xfNow || (x.xf == 1 && x.xfBy == some s.now)

/-- A firing of a reverse gate more than 8 line ticks after its target (R275). -/
def symCheck (s : State) (j : Nat) (late : Bool) (x : Rat) : State :=
  if late then
    let u := (pairStatus s .LAE_PAIR_STAT_SYMERR j).fcount .LAE_PAIR_CNT_SYMCNT j
    u.setPair j { u.pairAt j with floor_ := x - 8 }
  else s

/-- GATE_FIRE (R272, R275, R284 to R287). A gate that comes to its target while the opposite current flows waits for its zero (R279,
R286). -/
def execGateFire (j : Fin 12) (rev : Bool) (s : State) : Host.Outcome State Fault Refusal :=
  let f := pairFeed s j
  let g := gateAt s j rev
  let x := gateAngle s j rev
  if !mayFire s j || g.done || g.open_ then .next s
  else if fluxArmed s f then
    .next (if !rev && pairPhase s j == fluxK s f && fluxDue s f then fluxFire s f else s)
  else if (s.feedAt f).xf = 2 ∨ (s.feedAt f).xf = 3 then .next s
  else if gateDue s j rev && insideWindow s j rev then
    .next (symCheck (fireGate s j rev false) j (rev && decide (gateTarget s j true + 8 < x)) x)
  else if gateHere s j rev && (readyFrom s j rev).isNone && g.waitZ.isNone then
    .next (setGate s j rev { g with waitZ := some s.now })
  else .next s

/-- PULSE_END: a pulse of TON µs has run; a SINGLE firing ends, a PICKET firing ends once latching is confirmed (R276,
R288). -/
def execPulseEnd (j : Fin 12) (rev : Bool) (s : State) : Host.Outcome State Fault Refusal :=
  let g := gateAt s j rev
  if g.on && gateMode s j g < 2 && decide (g.pulseAt + s.fget .LAE_PAIR_PULSE_TON j * usTicks ≤ s.now) then
    if gateMode s j g = 0 || g.confirmed then .next (releaseGate s j rev)
    else .next (setGate s j rev { g with on := false })
  else .next s

/-- PICKET_PULSE: every TPER µs until latching is confirmed or the window closes (R276), never beside the other feed's gates (R294). -/
def execPicketPulse (j : Fin 12) (rev : Bool) (s : State) : Host.Outcome State Fault Refusal :=
  let g := gateAt s j rev
  if g.open_ && gateMode s j g == 1 && !g.confirmed && interlockFree s (pairFeed s j) &&
      decide (g.pulseAt + s.fget .LAE_PAIR_PULSE_TPER j * usTicks ≤ s.now) then
    .next (setGate s j rev { g with on := true, pulseAt := s.now })
  else .next s

/-- MISFIRE_TIMEOUT: latching not confirmed within TON + 50 µs (SINGLE), or at the window's close (R276). -/
def execMisfireTimeout (j : Fin 12) (rev : Bool) (s : State) : Host.Outcome State Fault Refusal :=
  let g := gateAt s j rev
  let due := if gateMode s j g = 0 && !g.closed then
      decide (g.firedAt + (s.fget .LAE_PAIR_PULSE_TON j + 50) * usTicks ≤ s.now) else g.closed
  if g.watch && !g.confirmed && due then
    let t := setGate s j rev { g with watch := false, closed := false }
    .next ((pairStatus t .LAE_PAIR_STAT_MISFIRE j).fcount .LAE_PAIR_CNT_MISCNT j)
  else .next s

/-- WINDOW_CLOSE: at φp + END the gate is released; with STRAT 3 a CONTINUOUS gate that still conducts stays active until
its current's zero (R272, R286, R288). A SINGLE firing ends with its pulse. -/
def execWindowClose (j : Fin 12) (rev : Bool) (s : State) : Host.Outcome State Fault Refusal :=
  let g := gateAt s j rev
  let a := phi (pairPhase s j) + ((s.pairAt j).endW : Rat) + (if rev then 32768 else 0)
  if g.open_ && gateMode s j g != 0 && reached s (pairFeed s j) a then
    let t := setGate s j rev { g with closed := true }
    if pairStrat s j == 3 && gateMode s j g == 2 && g.zero.isNone then
      .next (setGate t j rev { g with closed := true, ext := true, stopAt := some s.now })
    else .next (releaseGate t j rev)
  else .next s

/-! ### Health and transfer (R292 to R300) -/

/-- A feed is qualified: healthy without break for QUAL ms (R292). -/
def qualified (s : State) (f : Nat) : Bool :=
  s.flag .LAE_FEED_STAT_HEALTHY f && decide ((s.feedAt f).since + s.fget .LAE_XCFG_QUAL * msTicks ≤ s.now)

/-- The longest network delay of a feed's voltage modulators, in ticks (R299). -/
def netDelayMax (s : State) (f : Nat) : Nat :=
  (List.range 3).foldl (fun a p => max a (4 * s.fget .LAE_NET_DLY (6 * f + p))) 0

/-- A start condition: a transfer starts, or is refused when the other feed is not qualified; ignored while one runs
(R296, R297, R299). -/
def startTransfer (s : State) (sag : Bool) : State :=
  let out := loadFeed s
  if s.flag .LAE_XSTAT_BUSY then s
  else if !s.flag .LAE_XSTAT_NONE && qualified s (1 - out) then
    let d := if sag then s.fget .LAE_FEED_CFG_SAGN out * usTicks + 1140 + netDelayMax s out + usTicks else 0
    { (s.fset .LAE_XSTAT_BUSY 1).raise 120 with xfer := { step := 2, t0 := s.now, td := s.now + 4 * msTicks - d } }
  else
    let t := (s.hset .LAE_XSTAT_REFUSED 1).ring 106
    t.notice 3 2 (xstatBytes t)

/-- A transfer ends: XDONE, LAE_XFER, its notice, and the enforcements deferred during it (R297, R300, R443). -/
def endTransfer (s : State) (code : Nat) : State :=
  let t := s.fset .LAE_XSTAT_BUSY 0
  let t := (t.fset .LAE_XSTAT_DUR (min 0xFFFF ((s.now - s.xfer.t0) / usTicks))).raise 121
  let t := { t.ring 106 with xfer := {} }
  enforceDeferred (t.notice 3 code (xstatBytes t))

/-- The transfer fails (R300). Step 2 still releases the outgoing gates when it has not come yet. -/
def failTransfer (s : State) : State :=
  let t := if s.xfer.step = 2 then
      (carriers s (loadFeed s)).foldl (fun u j => [false, true].foldl (fun v rev =>
        setGate v j rev { gateAt v j rev with relNext := true }) u) s
    else s
  endTransfer ((t.hset .LAE_XSTAT_XFAIL 1).fset .LAE_XSTAT_NONE 1) 1

/-- The load feed entered sag, lost lock, shows SEQREV or has AMPP fall below VMIN: under XAUTO a start condition (R296). -/
def loadFault (s : State) (f : Nat) (sag : Bool) : State :=
  if !s.flag .LAE_XSTAT_NONE && loadFeed s == f && s.flag .LAE_XCFG_XAUTO then startTransfer s sag else s

/-- AMPP is not below VMIN. -/
def amppHolds (s : State) (f : Nat) : Bool := decide (s.fget .LAE_FEED_VMIN_VMIN f ≤ s.fget .LAE_FEED_AMPP_AMPP f)

/-- The health of a feed (R292); an unhealthy incoming feed fails the transfer (R300). -/
def healthUpdate (s : State) (f : Nat) : State :=
  let h := feedLocked s f && !s.flag .LAE_FEED_STAT_SAG f && !s.flag .LAE_FEED_STAT_SEQREV f &&
    amppHolds s f
  if h == s.flag .LAE_FEED_STAT_HEALTHY f then s
  else if h then
    let t := s.fset .LAE_FEED_STAT_HEALTHY 1 f
    t.setFeed f { t.feedAt f with since := t.now }
  else
    let t := s.fset .LAE_FEED_STAT_HEALTHY 0 f
    if t.flag .LAE_XSTAT_BUSY && f == 1 - loadFeed t then failTransfer t else t

/-- A write of VMIN, which may end a feed's health or begin it (R292, R296). -/
def vminWrite (s : State) (f v : Nat) : State :=
  let t := s.writeNamed .LAE_FEED_VMIN v f
  let u := healthUpdate t f
  if amppHolds s f && !amppHolds t f then loadFault u f false else u

/-- SAG_ENTRY: below the threshold for SAGN samples (R293). -/
def execSagEntry (f : Fin 2) (s : State) : Host.Outcome State Fault Refusal :=
  if !s.flag .LAE_FEED_STAT_SAG f && decide (s.fget .LAE_FEED_CFG_SAGN f ≤ (s.feedAt f).below) && (s.feedAt f).below != 0 then
    .next (loadFault (healthUpdate (s.fset .LAE_FEED_STAT_SAG 1 f) f) f true)
  else .next s

/-- SAG_EXIT: at or above it for SAGN samples (R293). -/
def execSagExit (f : Fin 2) (s : State) : Host.Outcome State Fault Refusal :=
  if s.flag .LAE_FEED_STAT_SAG f && decide (s.fget .LAE_FEED_CFG_SAGN f ≤ (s.feedAt f).above) then
    .next (healthUpdate (s.fset .LAE_FEED_STAT_SAG 0 f) f)
  else .next s

/-- The feed to energise: the first to have qualified, PREF on a tie (R295). -/
def feedToEnergise (s : State) (f : Nat) : Nat :=
  let g := 1 - f
  if !qualified s g then f
  else if (s.feedAt f).since < (s.feedAt g).since then f
  else if (s.feedAt g).since < (s.feedAt f).since then g
  else s.fget .LAE_XCFG_PREF

/-- FEED_QUALIFIED: with no load feed, the feed is energised (R292, R295). -/
def execFeedQualified (f : Fin 2) (s : State) : Host.Outcome State Fault Refusal :=
  if qualified s f && s.flag .LAE_XSTAT_NONE && !s.flag .LAE_XSTAT_BUSY then
    let g := feedToEnergise s f
    let t := (s.fset .LAE_XSTAT_ACTIVE g).fset .LAE_XSTAT_NONE 0
    let t := t.setFeed g { t.feedAt g with xf := 0 }
    .next (if t.energised then t else rampRestart t g)
  else .next s

/-- AUTO_RETURN: the preferred feed has been qualified for RETDLY seconds (R296). -/
def execAutoReturn (s : State) : Host.Outcome State Fault Refusal :=
  let p := s.fget .LAE_XCFG_PREF
  let due := (s.feedAt p).since + s.fget .LAE_XCFG_QUAL * msTicks + s.fget .LAE_XCFG_RETDLY * 1000 * msTicks
  if s.flag .LAE_XCFG_AUTORET && !s.flag .LAE_XSTAT_NONE && loadFeed s != p && qualified s p && decide (due ≤ s.now) then
    .next (startTransfer s false)
  else .next s

/-- TRANSFER_ZEROS: step 3 ends (R297). -/
def execTransferZeros (s : State) : Host.Outcome State Fault Refusal :=
  if s.flag .LAE_XSTAT_BUSY && s.xfer.step == 3 && feedIdle s (loadFeed s) then
    .next { s with xfer := { s.xfer with step := 4, zeroAt := s.now } }
  else .next s

/-- The incoming firing of one pair in IMMEDIATE; a STRAT = 1 pair whose inrush would exceed the limit waits for its next
cycle (R298; log entry 81). -/
def immediateFire (s : State) (j : Nat) : State :=
  [false, true].foldl (fun t rev =>
    let x := gateAngle t j rev
    let f := pairFeed t j
    if gateTarget t j rev ≤ x && decide (x < ((t.pairAt j).endW : Rat)) && !(gateAt t j rev).open_ then
      if pairStrat t j = 1 ∧ preLim t f < inrush t f x then
        let p := t.pairAt j
        t.setPair j { p with fwd := { p.fwd with done := true }, rev := { p.rev with done := true } }
      else if gateReady t j rev then fireGate t j rev false
      else t
    else t) s

/-- The flux-matched firing of a transfer: the phase pair whose instant comes first, no later than T_D − 10 µs (R298). -/
def fluxTransfer (s : State) (f td : Nat) : State :=
  let dist (k : Nat) : Rat := modLt (phi k + fluxAngle s f k - (s.feedAt f).pub)
  let k := [1, 2].foldl (fun b k => if dist k < dist b then k else b) 0
  s.setFeed f { s.feedAt f with xf := 1, xfK := k, xfBy := some (max s.now (td - 10 * usTicks)), xfArm := none }

/-- TRANSFER_COMPLETE: step 5 (R297, R298). In ANGLE and IMMEDIATE each pair fires at its own angle, whatever its STRAT. -/
def execTransferComplete (s : State) : Host.Outcome State Fault Refusal :=
  let inn := 1 - loadFeed s
  if s.flag .LAE_XSTAT_BUSY && s.xfer.step == 4 && decide (s.xfer.zeroAt + s.fget .LAE_XCFG_MARG * usTicks ≤ s.now) then
    let td := s.xfer.td
    let t := (s.fset .LAE_XSTAT_ACTIVE inn).fset .LAE_XSTAT_NONE 0
    let t := if t.energised then t else rampRestart t inn
    let t := t.setFeed inn { t.feedAt inn with xf := 4 }
    let t := match t.fget .LAE_XCFG_XSAFE with
      | 1 => fluxTransfer t inn td
      | 2 => t
      | _ => if interlockFree t inn then (livePairs t inn).foldl immediateFire t else t
    .next (endTransfer (t.fcount .LAE_XCNT_COUNT) 0)
  else .next s

/-- TRANSFER_DEADLINE: T_D has come (R299, R443). -/
def execTransferDeadline (s : State) : Host.Outcome State Fault Refusal :=
  if s.flag .LAE_XSTAT_BUSY && decide (s.xfer.td ≤ s.now) then .next (enforceDeferred (s.hset .LAE_XSTAT_XLATE 1)) else .next s

/-- CURRENT_ZERO_TIMEOUT: a wait of 12 ms proceeds as if a zero had been declared (R279). -/
def execCurrentZeroTimeout (j : Fin 12) (s : State) : Host.Outcome State Fault Refusal :=
  let p := s.pairAt j
  let old (t : Option Nat) : Bool := match t with | some t => decide (t + 12 * msTicks ≤ s.now) | none => false
  if old p.rel || old p.fwd.stopAt || old p.rev.stopAt || old p.fwd.waitZ || old p.rev.waitZ then
    let t := pairStatus s .LAE_PAIR_STAT_CZTMO j
    let t := [false, true].foldl (fun u rev =>
      let g := gateAt u j rev
      let u := if old g.waitZ then setGate u j rev { g with waitZ := none, okAt := some u.now } else u
      if old g.stopAt then releaseGate u j rev else u) t
    let t := t.setPair j { t.pairAt j with rel := if old p.rel then none else (t.pairAt j).rel }
    .next (deenergise t)
  else .next s

/-! ### Gate balls (R271, R278, R289, R290) -/

/-- The shaping of a pulse's rise: chops of 80 ticks, on for 20 ticks in the first to 80 in the last of RISE × 0.5 µs
(R278). -/
def shaped (rise t : Nat) : Bool :=
  if t < 400 * rise then
    let n := 5 * rise
    decide (t % 80 * (n - 1) < 20 * (n - 1) + 60 * (t / 80))
  else true

/-- A gate of the pair is active at its output: with TRIAC = 1 both half-cycles drive GATE(2j) (R271). -/
def gateActive (s : State) (j : Nat) (rev : Bool) : Bool :=
  let lit (g : Gate) : Bool := g.on && shaped (s.fget .LAE_PAIR_CFG_RISE j) (s.now - g.pulseAt)
  if s.flag .LAE_PAIR_CFG_TRIAC j then !rev && (lit (s.pairAt j).fwd || lit (s.pairAt j).rev) else lit (gateAt s j rev)

/-- The level of ball GATE(2j) or GATE(2j + 1): none for high impedance with the pull-down (R289, R290). -/
def gatePin (s : State) (j : Nat) (rev : Bool) : Option Bool :=
  if !s.flag .LAE_DRIVE_DRV || !s.img.applied then none
  else
    let on := gateActive s j rev && !s.flag .CUP_STAT_SHUT && s.flag .TTH_STAT_OWNED
    some (on != s.flag (if rev then .LAE_PAIR_CFG_POLR else .LAE_PAIR_CFG_POLF) j)

/-- Ownership is gained: a PICKET window in progress resumes with a pulse at once (R291). -/
def gatesOwned (s : State) : State :=
  (List.range 12).foldl (fun t j => [false, true].foldl (fun u rev =>
    let g := gateAt u j rev
    if g.open_ && gateMode u j g == 1 && !g.confirmed then setGate u j rev { g with on := true, pulseAt := u.now } else u) t) s

end Sys2Proof.Machine
end

