-- ==== Sys2Proof/Machine/Lae.lean ====
section
/-! DEFINITION. The Line Angle Engine: sensing path, crossings, the PLL, seeding, lock, and the engine's tick
(spec/08_line_angle_engine.md). -/

namespace Sys2Proof.Machine

/-! ### The sensing path (R252, R253, R254) -/

/-- A fast-path sample of modulator `m` in V or A, and its flag (R81, R82, R90); a disabled modulator delivers none. -/
def fastSample (s : State) (m : Nat) : Rat × Bool :=
  ((sext 18 (s.fget .SDM_FAST_DATA m) : Rat) * ofU48 (s.fget .SDM_SCALE_FS m) / 131071,
    s.flag .SDM_FAST_OVR m || !s.fbit .SDM_CTRL_EN m)

/-- The pole of a modulator's network in Hz, none for 0 (R252). -/
def netPole (s : State) (m : Nat) : Option Rat :=
  if s.fget .LAE_NET_POLE m = 0 then none else some (10 * (s.fget .LAE_NET_POLE m : Rat))

/-- F / f_p, 0 with no pole. -/
def poleRatio (s : State) (m : Nat) (freq : Rat) : Rat :=
  match netPole s m with
  | none => 0
  | some p => freq / p

/-- The lag of a network at a frequency, in ticks (R252); its limit at frequency 0. -/
def netLag (s : State) (m : Nat) (freq : Rat) : Rat :=
  4 * (s.fget .LAE_NET_DLY m : Rat) +
    (match netPole s m with
     | none => 0
     | some p => if freq = 0 then 800000000 / (twoPi * p) else atanLt (freq / p) / 65536 / freq * 800000000)

/-- The voltage modulator of feed `f` with the largest lag. -/
def slowest (s : State) (f : Nat) (freq : Rat) : Nat :=
  [1, 2].foldl (fun b p => if netLag s (6 * f + b) freq < netLag s (6 * f + p) freq then p else b) 0

/-- Δ of modulator `m` at a frequency, in line ticks: the network, 1.425 µs and 2.5 ns (R253). -/
def angleDelta (s : State) (m : Nat) (freq : Rat) : Rat :=
  65536 * freq * (netLag s m freq + 1142) / 800000000

/-- A stream read `d` samples back, by linear interpolation (R253). -/
def streamAt (l : List (Rat × Bool)) (d : Rat) : Rat × Bool :=
  let i := d.floor.toNat
  let fr := d - (i : Rat)
  let a := l.getD i (0, true)
  if fr = 0 then a else
  let b := l.getD (i + 1) (0, true)
  (a.1 * (1 - fr) + b.1 * fr, a.2 || b.2)

/-- The three aligned line-to-neutral voltages (R86, R249, R253). -/
def alignedVolts (s : State) (f : Nat) : List (Rat × Bool) :=
  let x := s.feedAt f
  let w := netLag s (6 * f + slowest s f x.freq) x.freq
  let m := (List.range 3).map fun p => streamAt (x.volts.getD p []) ((w - netLag s (6 * f + p) x.freq) / 800)
  let v (p : Nat) : Rat × Bool := m.getD (p % 3) (0, true)
  if (if f = 0 then s.flag .SDM_CFG_VCONN_A else s.flag .SDM_CFG_VCONN_B) then
    (List.range 3).map fun p => (((v p).1 - (v (p + 2)).1) / 3, (v p).2 || (v (p + 2)).2)
  else m

/-- A write of LAE_NET[m]: one that would break a limit of R254 is ignored. -/
def netWrite (s : State) (m v : Nat) : State :=
  let t := s.writeNamed .LAE_NET v m
  let f := m / 6
  let d (p : Nat) : Rat := angleDelta t (6 * f + p) 66
  let l (p : Nat) : Rat := 65536 * 66 * netLag t (6 * f + p) 66 / 800000000
  let apart (a b : Rat) : Bool := decide (a - b ≤ 364) && decide (b - a ≤ 364)
  if m % 6 < 3 && !((List.range 3).all (fun p => decide (d p ≤ 2048)) && apart (l 0) (l 1) && apart (l 1) (l 2) &&
      apart (l 0) (l 2)) then s else t

/-! ### Publication -/

/-- The published angle, frequency and amplitudes of a feed (R253, R260, R262). -/
def publishFeed (s : State) (f : Nat) : State :=
  let x := s.feedAt f
  let pub := modLt (x.theta + x.delta)
  let a := (pub * 65536).floor.toNat
  let g := rsqrt (1 + poleRatio s (6 * f + slowest s f x.freq) x.freq * poleRatio s (6 * f + slowest s f x.freq) x.freq)
  let t := ((s.fset .LAE_FEED_ANGLE_FRAC a f).fset .LAE_FEED_ANGLE_TICKS (a / 65536) f).fset .LAE_FEED_FREQ_FREQ (toU48 x.freq) f
  ((t.fset .LAE_FEED_AMP_AMP (toU48 (x.amp * g)) f).fset .LAE_FEED_AMPP_AMPP (toU48 x.ampp) f).setFeed f { x with pub := pub }

/-! ### Lock (R264 to R268) -/

/-- STAT.COAST reads whether the loop coasts (R261). -/
def coastUpdate (s : State) (f : Nat) : State :=
  let x := s.feedAt f
  s.fput .LAE_FEED_STAT_COAST (x.seeded && (x.coastBad || x.flagged || decide (x.amp < x.ampp / 2))) f

/-- Loss of lock, or of a seed (R268): the angle runs on at the last frequency, clamped into 45 to 66 Hz. -/
def loseLock (s : State) (f : Nat) : State :=
  let x := s.feedAt f
  let fr := max 45 (min 66 x.freq)
  let t := coastUpdate (s.setFeed f { x with
    seeded := false, freq := fr, adv := fr, t1 := none, t2 := none, wait := [], bads := 0, coastBad := false, errs := [] }) f
  if !feedLocked t f then t
  else
    let t := ((lockIs t f false).hset .LAE_FEED_STAT_LOSTLOCK 1 f).ring 104
    let t := (t.raise (110 + f)).notice 4 1 [f]
    let t := (pairsOf t f).foldl pairStop t
    let t := loadFault (healthUpdate t f) f false
    if !t.flag .LAE_XSTAT_NONE && loadFeed t == f && !t.flag .LAE_XSTAT_BUSY && !qualified t (1 - f) then
      t.fset .LAE_XSTAT_NONE 1
    else t

/-- Lock is gained (R265). -/
def gainLock (s : State) (f : Nat) : State :=
  let t := ((lockIs s f true).ring 104).raise (110 + f)
  healthUpdate (t.notice 4 0 [f]) f

/-- A seed forms at `t2` with frequency `fr` (R264, R266, R267). -/
def seedLoop (s : State) (f : Nat) (fr t2 : Rat) : State :=
  let x := s.feedAt f
  let th := fr * ((s.now : Rat) - t2) / 800000000 * 65536
  let t := s.setFeed f { x with
    seeded := true, freq := fr, adv := fr, theta := modLt th, thetaS := modLt th, exp := 1, seen := false, decided := false,
    wait := [], bads := 0, badsWas := 0, coastBad := false, errs := [], errOk := false, t1 := none, t2 := none }
  healthUpdate (((coastUpdate t f).fset .LAE_FEED_STAT_OOB 0 f).fset .LAE_FEED_STAT_SEQREV 0 f) f

/-- Seeding finds reversed sequence (R267). -/
def reversed (s : State) (f : Nat) : State :=
  if s.flag .LAE_FEED_STAT_SEQREV f then s
  else
    let t := ((s.fset .LAE_FEED_STAT_SEQREV 1 f).hset .LAE_FEED_STAT_SEQERR 1 f).ring 105
    loadFault (healthUpdate (t.notice 4 2 [f]) f) f false

/-- A value lies within `d` of `c`. -/
def near (x c d : Rat) : Bool := decide (c - d ≤ x) && decide (x ≤ c + d)

/-- A good positive crossing of phase 1 at `t2` while seeding (R264). -/
def seedCrossing (s : State) (f : Nat) (t2 : Rat) : State :=
  let x := s.feedAt f
  let t := s.setFeed f { x with t1 := some t2, t2 := none }
  match x.t1 with
  | none => t
  | some t1 =>
    let fr := 800000000 / (t2 - t1)
    let y := match x.t2 with | some p => (p - t1) / (t2 - t1) | none => 0
    if !(decide (45 ≤ fr) && decide (fr ≤ 66)) then t
    else if near y (1 / 3) (1 / 24) then seedLoop t f fr t2
    else if near y (2 / 3) (1 / 24) then reversed t f
    else t

/-! ### Crossings (R257 to R259) -/

/-- The expected crossings in order of angle: phase and direction (R250, R258). -/
def crossings : List (Nat × Bool) := [(0, true), (2, false), (1, true), (0, false), (2, true), (1, false)]

/-- The angle of an expected crossing. -/
def crossAngle (i : Nat) : Rat :=
  let c := crossings.getD i (0, true)
  modLt (phi c.1 + (if c.2 then 0 else 32768))

/-- The index of a crossing by phase and direction. -/
def crossIdx (p : Nat) (rising : Bool) : Nat := crossings.findIdx (fun c => c.1 == p && c.2 == rising)

/-- A good crossing: the coast ends; seeding and lock use those of phases 1 and 2 (R259, R264, R265). -/
def goodCross (s : State) (f i : Nat) (tc : Rat) : State :=
  let x := s.feedAt f
  if x.seeded then
    let t := coastUpdate (s.setFeed f { x with
      bads := 0, badsWas := x.bads, coastBad := false, decided := if i = x.exp then true else x.decided }) f
    if i = 0 && !feedLocked t f && x.errOk then gainLock t f else t
  else if i = 0 then seedCrossing s f tc
  else if i = 2 then s.setFeed f { x with t2 := if x.t1.isSome then some tc else none }
  else s

/-- A bad crossing: counted, a coast begins; on the third in a row the feed loses lock (R258, R259, R268). While seeding a
crossing that is not good breaks the pair of consecutive ones. -/
def badCross (s : State) (f i : Nat) : State :=
  let x := s.feedAt f
  if x.seeded then
    let t := (coastUpdate (s.setFeed f { x with
      bads := x.bads + 1, coastBad := true, decided := if i = x.exp then true else x.decided }) f).fcount .LAE_FEED_BAD_COUNT f
    if 3 ≤ x.bads + 1 then loseLock t f else t
  else if i = 0 then s.setFeed f { x with t1 := none, t2 := none }
  else s

/-- The comparator's last edge agrees with a sign change at net instant `net` (R257, R258). -/
def edgeAgrees (s : State) (f i : Nat) (net : Rat) : Bool :=
  let c := crossings.getD i (0, true)
  let e := (s.feedAt f).zx.getD c.1 (false, -1000000000000)
  e.1 == c.2 && near (e.2 - 4 * (s.fget .LAE_ZXDLY_DLY (3 * f + c.1) : Rat)) net (800 * (s.fget .LAE_FEED_CWIN_ZXAGREE f : Rat))

/-- A sign change that can be a good crossing: with ZXUSE it needs the comparator, whose edge may come after it. -/
def candidate (s : State) (f i : Nat) (tc net : Rat) (flagged : Bool) : State :=
  if flagged then badCross s f i
  else if !s.flag .LAE_FEED_CFG_ZXUSE f || edgeAgrees s f i net then goodCross s f i tc
  else
    let x := s.feedAt f
    s.setFeed f { x with wait := x.wait ++ [⟨i, tc, net⟩] }

/-- A sign change of phase `p` at instant `tc`, loop angle `th` (R257, R258, R264). -/
def signChange (s : State) (f p : Nat) (rising : Bool) (tc net th : Rat) (flagged : Bool) : State :=
  let x := s.feedAt f
  let i := crossIdx p rising
  if !x.seeded then candidate s f i tc net flagged
  else if i ≠ x.exp then s
  else
    let w : Rat := s.fget .LAE_FEED_CWIN_CWIN f
    let d := modLt (th - crossAngle i)
    if !(decide (d ≤ w) || decide (65536 - w ≤ d)) then s
    else if x.seen then
      if x.decided && x.bads != 0 then s
      else badCross (s.setFeed f { x with
        bads := if x.decided then x.badsWas else x.bads, wait := x.wait.filter (fun w => w.idx ≠ i) }) f i
    else candidate (s.setFeed f { x with seen := true }) f i tc net flagged

/-- The sign changes of one phase between the last two aligned samples (R257). -/
def phaseCross (f : Nat) (lag : Rat) (prev cur : List (Rat × Bool)) (s : State) (p : Nat) : State :=
  let a := prev.getD p (0, true)
  let b := cur.getD p (0, true)
  let up := decide (a.1 < 0) && decide (0 ≤ b.1)
  let down := decide (0 ≤ a.1) && decide (b.1 < 0)
  if prev.isEmpty || !(up || down) then s
  else
    let fr := a.1 / (a.1 - b.1)
    let tc := (s.now : Rat) - 800 * (1 - fr)
    let x := s.feedAt f
    let th := modLt (x.theta - (1 - fr) * modLt (x.theta - x.thetaS))
    signChange s f p up tc (tc - lag) th (a.2 || b.2)

/-- Waits for the comparator that have run out are bad: an edge that came later would lie, less its declared delay, more than ZXAGREE
after the sign change (R258). -/
def expireWaits (s : State) (f : Nat) : State :=
  let x := s.feedAt f
  let delay (w : LaeWait) : Nat := 4 * s.fget .LAE_ZXDLY_DLY (3 * f + (crossings.getD w.idx (0, true)).1)
  let dead (w : LaeWait) : Bool :=
    decide (w.net + (delay w : Rat) + 800 * (s.fget .LAE_FEED_CWIN_ZXAGREE f : Rat) < (s.now : Rat))
  (x.wait.filter dead).foldl (fun t w => badCross t f w.idx) (s.setFeed f { x with wait := x.wait.filter (fun w => !dead w) })

/-- The loop angle has passed the window of the expected crossing. -/
def windowPassed (s : State) (f : Nat) : Bool :=
  let x := s.feedAt f
  let d := modLt (x.theta - crossAngle x.exp)
  decide ((s.fget .LAE_FEED_CWIN_CWIN f : Rat) < d) && decide (d < 32768)

/-- The next expected crossing, once the window of this one has passed; unseen, it is bad (R258). -/
def nextCrossing (s : State) (f : Nat) : State :=
  let x := s.feedAt f
  if x.seeded && windowPassed s f then
    let t := if x.seen then s else badCross s f x.exp
    let y := t.feedAt f
    t.setFeed f { y with exp := (x.exp + 1) % 6, seen := false, decided := false }
  else s

/-- CROSSING_TIMEOUT: no sign change by prediction + CWIN (R258). -/
def execCrossingTimeout (f : Fin 2) (s : State) : Host.Outcome State Fault Refusal :=
  if laeEn s f && !(s.feedAt f).seen then .next (nextCrossing s f) else .next s

/-- CROSSING_COMPARATOR_EDGE: the edge is time-stamped, and confirms a crossing that waits for it (R257, R258). -/
def execCrossingComparatorEdge (z : Fin 6) (rising : Bool) (s : State) : Host.Outcome State Fault Refusal :=
  if !s.clockOn 15 then .next s else
  let f := z.val / 3
  let x := s.feedAt f
  let t := s.setFeed f { x with zx := x.zx.set (z.val % 3) (rising, (s.now : Rat)) }
  if laeEn s f then
    let ok (w : LaeWait) : Bool := edgeAgrees t f w.idx w.net
    .next ((x.wait.filter ok).foldl (fun u w => goodCross u f w.idx w.tc)
      (t.setFeed f { t.feedAt f with wait := x.wait.filter (fun w => !ok w) }))
  else .next t

/-! ### The loop (R259 to R262) -/

/-- e to the power −1/n, for n of 1 up. -/
def decay (n : Nat) : Rat := alternating (mkRat 1 n) [1, 2, 3, 4, 5, 6, 7, 8]

/-- One 1 µs step of the 50 ms low-pass of A (R262). -/
def amppStep (y a : Rat) : Rat := grid (a + (y - a) * decay 50000)

/-- One 1 µs step of the flux: the voltage is integrated through a high-pass of 2 s (R283). -/
def fluxStep (y v : Rat) : Rat := grid (y * decay 2000000 + 2 * v * (1 - decay 2000000))

/-- The notch's width: the square of its poles' radius (log entry 27). -/
def notchPole : Rat := max 0 (min 1 Config.notchPole)

/-- One step of the notch at 2F: zeros at 2F, a gain of 1 at DC (R259, R260), of the last inputs and outputs; what it keeps of them. -/
def notchStep (fr : Rat) (h : List Rat) (x : Rat) : Rat × List Rat :=
  let c := cosLt (131072 * fr / 1000000)
  let g (i : Nat) : Rat := h.getD i 0
  let y := grid ((1 + notchPole) / 2 * (x - 2 * c * g 0 + g 1) + (1 + notchPole) * c * g 2 - notchPole * g 3)
  (y, [x, g 0, y, g 2])

/-- The PLL's step at a sample (R260, R261). -/
def pllStep (s : State) (f : Nat) (v : List (Rat × Bool)) : State :=
  let x := s.feedAt f
  let u (p : Nat) : Rat := (v.getD p (0, true)).1
  let va := (2 * u 0 - u 1 - u 2) / 3
  let vb := (u 1 - u 2) / rsqrt 3
  let a := rsqrt (va * va + vb * vb)
  let u0 := if a = 0 then s.drawn else s
  let e0 := if a = 0 then ((s.draw : Nat) : Rat) else (va * cosLt x.theta + vb * sinLt x.theta) / a
  let (e, errs) := notchStep x.freq x.errs (grid e0)
  let flagged := (List.range 3).any fun p => (fastSample s (6 * f + p)).2
  let coast := x.coastBad || flagged || decide (a < x.ampp / 2)
  let ec := if coast then 0 else e
  let ki := (sext 48 (s.fget .LAE_FEED_KI_KI f) : Rat) / 4294967296
  let kp := (sext 48 (s.fget .LAE_FEED_KP_KP f) : Rat) / 4294967296
  let fr := if x.seeded then grid (x.freq + ki * ec / (1000000 * twoPi)) else x.freq
  let adv := if x.seeded then grid (fr + kp * ec / twoPi) else x.adv
  let lt := e * 65536 / twoPi
  let half := decide (32768 ≤ x.theta)
  let begun := half && decide (x.thetaS < 32768)
  let within := coast || (decide (-91 ≤ lt) && decide (lt ≤ 91))
  let t := u0.setFeed f { x with
    freq := fr, adv := adv, errs := if x.seeded then errs else [], amp := a, flagged := flagged
    ampp := if coast || s.flag .LAE_FEED_STAT_SAG f then x.ampp else amppStep x.ampp a
    errOk := if half then (begun || x.errOk) && within else x.errOk
    flux := (List.range 3).map fun p => fluxStep (x.flux.getD p 0) (u p) }
  coastUpdate t f

/-- The sag counters (R293). -/
def sagCount (s : State) (f : Nat) : State :=
  let x := s.feedAt f
  let r := poleRatio s (6 * f + slowest s f x.freq) x.freq
  let env := x.amp * rsqrt (1 + r * r)
  let low := decide (env < (s.fget .LAE_FEED_CFG_SAGTH f : Rat) / 256 * x.ampp)
  s.setFeed f { x with below := if low then min 1024 (x.below + 1) else 0, above := if low then 0 else min 1024 (x.above + 1) }

/-- V_c integrated from the phase currents (R282). -/
def chargeStep (s : State) (f : Nat) (cur : List (Rat × Bool)) : State :=
  let c := preCap s f
  if s.flag .LAE_FEED_PRECFG_VCSRC f || c = 0 then s
  else
    let x := s.feedAt f
    let sum := cur.foldl (fun a i => a + (if i.1 < 0 then -i.1 else i.1)) 0
    let vc := x.vc + sum / 2 / c
    (s.setFeed f { x with vc := vc }).fset .LAE_FEED_PREVC_PREVC (toU48 vc) f

/-! ### Currents at a gate pair (R276, R279, R286, R288) -/

/-- Latching of a gate: the current of its polarity above ILATCH for LATN samples (R276). -/
def latchStep (s : State) (j : Nat) (rev : Bool) (i : Rat) : State :=
  let g := gateAt s j rev
  if g.watch && !g.confirmed && !g.closed then
    let own := if rev then -i else i
    let n := if (s.fget .LAE_PAIR_CUR_ILATCH j : Rat) / 10 < own then g.lat + 1 else 0
    if s.fget .LAE_PAIR_PULSE_LATN j ≤ n then
      let t := setGate s j rev { g with lat := n, confirmed := true, watch := false }
      if g.open_ && gateMode s j g == 1 && !g.on then releaseGate t j rev else t
    else setGate s j rev { g with lat := n }
  else s

/-- The tick since which the current of a polarity has been zero. -/
def zeroStep (s : State) (j : Nat) (rev : Bool) (i iz : Rat) : State :=
  let g := gateAt s j rev
  let own := if rev then -i else i
  if iz < own then setGate s j rev { g with zero := none }
  else
    let t := setGate s j rev { g with zero := some (g.zero.getD s.now) }
    setGate t j (!rev) { gateAt t j (!rev) with waitZ := none }

/-- A current sample of the feed and phase that a pair is assigned to: its conduction bits, its zeros, its latching (R276, R279). -/
def pairWatch (c : Rat × Bool) (s : State) (j : Nat) : State :=
  if c.2 then s
  else
    let iz := (s.fget .LAE_PAIR_CUR_IZ j : Rat) / 10
    let i := c.1
    let t := (s.fput .LAE_PAIR_STAT_CONDF (decide (iz < i)) j).fput .LAE_PAIR_STAT_CONDR (decide (i < -iz)) j
    let t := zeroStep (zeroStep t j false i iz) j true i iz
    latchStep (latchStep t j false i) j true i

/-- A current sample of the feed and phase that a pair last fired on: the releases, and the interlock, that wait for its zero (R279,
R288, R294). -/
def pairZero (c b : Rat × Bool) (t : State) (j : Nat) : State :=
  let iz := (t.fget .LAE_PAIR_CUR_IZ j : Rat) / 10
  if c.2 then t
  else
    if (decide (-iz ≤ c.1) && decide (c.1 ≤ iz)) || decide (b.1 * c.1 < 0) then
      let t := [false, true].foldl (fun u rev => if (gateAt u j rev).stopAt.isSome then releaseGate u j rev else u) t
      deenergise (t.setPair j { t.pairAt j with rel := none })
    else t

/-- A sample of the currents of feed `f`, at every pair. -/
def pairSample (f : Nat) (cur prev : List (Rat × Bool)) (s : State) (j : Nat) : State :=
  let p := s.pairAt j
  let t := if pairFeed s j = f then pairWatch (cur.getD (pairPhase s j) (0, true)) s j else s
  if p.feedN = f then pairZero (cur.getD p.phaseN (0, true)) (prev.getD p.phaseN (0, true)) t j else t

/-! ### The commands of the loop -/

/-- The current samples of a feed, at its pairs and at its precharge; the feed need not be enabled (R279, R282, R288). -/
def currentSample (s : State) (f : Nat) : State :=
  let x := s.feedAt f
  let cur := (List.range 3).map fun p => fastSample s (6 * f + 3 + p)
  let t := s.setFeed f { x with cur := cur }
  let t := if laeEn t f then chargeStep t f cur else t
  (List.range 12).foldl (pairSample f cur x.cur) t

/-- The voltage samples of an enabled feed: the loop, its crossings, what is published. -/
def voltSample (s : State) (f : Nat) : State :=
    let x := s.feedAt f
    let volts := (List.range 3).map fun p => (fastSample s (6 * f + p) :: x.volts.getD p []).take 400
    let t := s.setFeed f { x with volts := volts }
    let al := alignedVolts t f
    let t := pllStep t f al
    let y := t.feedAt f
    let t := t.setFeed f { y with
      delta := angleDelta t (6 * f + slowest t f y.freq) y.freq }
    let lag := netLag t (6 * f + slowest t f y.freq) y.freq + 1142
    let t := (List.range 3).foldl (phaseCross f lag x.prev al) t
    let t := nextCrossing t f
    let z := t.feedAt f
    let t := if z.seeded && !(decide (45 ≤ z.freq) && decide (z.freq ≤ 66)) then loseLock (t.fset .LAE_FEED_STAT_OOB 1 f) f else t
    let t := t.setFeed f { t.feedAt f with prev := al, thetaS := (t.feedAt f).theta }
    let u := publishFeed (sagCount t f) f
    let w := healthUpdate (if (u.feedAt f).xfArm.isSome then fluxAim u f else u) f
    if amppHolds t f && !amppHolds u f then loadFault w f false else w

/-- LAE_SAMPLE: one 1 µs sample of a feed: its voltages, aligned, when the feed and their modulators are enabled, and its currents. -/
def execLaeSample (f : Fin 2) (s : State) : Host.Outcome State Fault Refusal :=
  if !s.clockOn 15 then .next s
  else
    let t := if laeEn s f && (List.range 3).all (fun p => s.fbit .SDM_CTRL_EN (6 * f + p)) then voltSample s f else s
    .next (currentSample t f)

/-- ANGLE_EVENT: the published angle reaches φp or EVANG[i] while the feed is locked (R269). -/
def execAngleEvent (f : Fin 2) (i : Fin 7) (s : State) : Host.Outcome State Fault Refusal :=
  let x := s.feedAt f
  let on := i.val < 3 || s.flag .LAE_FEED_EVANG_EN f (i.val - 3)
  let a : Rat := if i.val < 3 then phi i.val else (s.fget .LAE_FEED_EVANG_ANGLE f (i.val - 3) : Nat)
  if feedLocked s f && on && reached s f a && !bit x.raised i then
    let t := s.setFeed f { x with raised := setBit x.raised i true }
    .next (t.raise (if i.val < 3 then 104 + 3 * f + i else 112 + 4 * f + (i.val - 3)))
  else .next s

/-! ### Register writes -/

/-- A pair configuration is valid (R277). -/
def pairValid (s : State) (j : Nat) : Bool :=
  let m := s.fget .LAE_PAIR_CFG_MODE j
  let ton := s.fget .LAE_PAIR_PULSE_TON j
  let e := s.fget .LAE_PAIR_ANG_END j
  !(m == 1 && decide (s.fget .LAE_PAIR_PULSE_TPER j ≤ ton)) &&
    !((m == 1 || m == 2) && (decide (e ≤ s.fget .LAE_PAIR_ANG_ALPHA j) || decide (32767 < e))) &&
    decide (s.fget .LAE_PAIR_CFG_RISE j < 2 * ton) && s.fget .LAE_PAIR_CFG_PHASE j != 3 && m != 3

/-- A pair is enabled: its effective angle is its target at once (log entry 47). -/
def pairBegin (s : State) (j : Nat) : State :=
  let a := s.fget .LAE_PAIR_ANG_ALPHA j
  let ramp := if pairStrat s j = 1 then s.fget .LAE_FEED_PRESTAT_ALPHA (pairFeed s j) else 0
  s.setPair j { s.pairAt j with
    alpha := a, endW := s.fget .LAE_PAIR_ANG_END j, eff := some (max a ramp : Nat), floor_ := 0, act := none
    base := (max a ramp : Nat), least := 0 }

/-- What follows a write of a pair's registers: disabled, or given to another feed or phase in a firing, its gates are released (R288;
log entry 101); newly a STRAT = 1 pair of a de-energised feed, its ramp starts from ASTART (R281). -/
def pairChanged (s t : State) (j : Nat) : State :=
  let ramps (u : State) : Bool := pairEn u j && pairStrat u j == 1
  let t := if (pairEn s j && !pairEn t j) || pairFeed s j != pairFeed t j || pairPhase s j != pairPhase t j then pairStop t j else t
  let t := if ramps t && !(ramps s && pairFeed s j == pairFeed t j) && !t.energised then rampRestart t (pairFeed t j) else t
  let t := if pairEn t j && !pairEn s j then pairBegin t j else t
  fluxMoved t

/-- A write of a pair's configuration register: one that makes it invalid leaves it unchanged (R277). -/
def pairWrite (s : State) (n : RegName) (j v : Nat) : State :=
  let t := s.writeNamed n v j
  if !pairValid t j then s else pairChanged s t j

/-- A write of LAE_FEED[f]_XF: FIRST = 3 leaves it unchanged (R284). -/
def xfWrite (s : State) (f v : Nat) : State := if bits v 16 2 = 3 then s else fluxMoved (s.writeNamed .LAE_FEED_XF v f)

/-- A feed enabled or disabled by LAE_CTRL (R264). -/
def feedEnable (s : State) (f : Nat) (b : Bool) : State :=
  if b == laeEn s f then s
  else
    let fl : Fld := if f = 0 then .LAE_CTRL_ENA else .LAE_CTRL_ENB
    let t := loseLock s f
    let t := t.fput fl b
    let x := t.feedAt f
    healthUpdate ((t.setFeed f { x with
      freq := if b then 0 else x.freq, adv := 0, volts := [], prev := [], amp := 0, ampp := 0, flagged := false,
      below := 0, above := 0 }).fset .LAE_FEED_STAT_SEQREV 0 f) f

/-- A write of LAE_CTRL. -/
def laeCtrlWrite (s : State) (v : Nat) : State := feedEnable (feedEnable s 0 (bit v 0)) 1 (bit v 1)

/-- A write of LAE_XCTRL.REQ (R296). -/
def xctrlWrite (s : State) (v : Nat) : State := if bit v 0 then startTransfer s false else s

/-- A write of PREVC sets V_c (R282). -/
def prevcWrite (s : State) (f v : Nat) : State :=
  (s.fset .LAE_FEED_PREVC_PREVC v f).setFeed f { s.feedAt f with vc := ofU48 (v % 2 ^ 48) }

/-! ### The engine's tick -/

/-- A pair's forward reference crossing: ALPHA and END are taken, the effective angle moves (R273 to R275). The actual angle of a forward
firing of the second half-cycle stays the target of the reverse gate, which fires in this cycle (R272). -/
def pairCycle (s : State) (j : Nat) : State :=
  let p := s.pairAt j
  let a := s.fget .LAE_PAIR_ANG_ALPHA j
  pairSlew (s.setPair j { p with
    alpha := a, endW := s.fget .LAE_PAIR_ANG_END j, base := p.eff.getD (a : Nat), least := p.floor_, floor_ := 0
    act := p.act.filter fun x => decide (32768 ≤ x)
    fwd := { p.fwd with done := false }, rev := { p.rev with done := false } }) j

/-- The releases of a pair that act in this tick (R288). -/
def pairTick (s : State) (j : Nat) : State :=
  [false, true].foldl (fun t rev => if (gateAt t j rev).relNext then releaseGate t j rev else t) s

/-- A feed's angle advances by a tick (R259, R260). -/
def feedTick (s : State) (f : Nat) : State :=
  if laeEn s f then
    let s := if thirdHere s f then s.setFeed f { s.feedAt f with xf := 3 } else s
    let x := s.feedAt f
    let th := modLt (grid (x.theta + x.adv * 65536 / 800000000))
    let pub := modLt (th + x.delta)
    let a := (pub * 65536).floor.toNat
    let t := s.setFeed f { x with theta := th, pubPrev := x.pub, pub := pub, raised := 0 }
    let t := (t.fset .LAE_FEED_ANGLE_FRAC a f).fset .LAE_FEED_ANGLE_TICKS (a / 65536) f
    let t := (pairsOf t f).foldl (fun u j => if reached u f (phi (pairPhase u j)) then pairCycle u j else u) t
    let t := if (t.feedAt f).xf = 3 ∧ reached t f 0 then t.setFeed f { t.feedAt f with xf := 0 } else t
    let t := if (t.feedAt f).wait.isEmpty then t else expireWaits t f
    let t := meterMark (fluxTick t f) f pub
    { t with angHist := vput t.angHist f ((a :: vget t.angHist f).take 6) }
  else { s with angHist := vput s.angHist f ((((vget s.angHist f)[0]?).getD 0 :: vget s.angHist f).take 6) }

/-- Step 2 of a transfer: every gate of the outgoing feed is released in the tick after T0 (R297). -/
def xferTick (s : State) : State :=
  if s.flag .LAE_XSTAT_BUSY && s.xfer.step == 2 then
    let out := loadFeed s
    let t := (carriers s out).foldl (fun u j => releaseGate (releaseGate u j false) j true) s
    let t := (livePairs t out).foldl (fun u j =>
      u.setPair j { u.pairAt j with rel := some u.now, feedN := out, phaseN := pairPhase u j }) t
    { t.setFeed out { t.feedAt out with xf := 0 } with xfer := { t.xfer with step := 3 } }
  else s

/-- The engine enters a new tick. -/
def laeTick (s : State) : State :=
  let t := feedTick (feedTick s 0) 1
  xferTick ((List.range 12).foldl pairTick t)

end Sys2Proof.Machine
end

