-- ==== Sys2Proof/Machine/PwmBase.lean ====
section
/-! DEFINITION. PWM channels: their registers by index, leading channels, demands and holds of the outputs, output edges through
Spire, cuts (spec/04_pwm_generator.md, spec/05_spire_edges.md). -/

namespace Sys2Proof.Machine

def State.chanAt (s : State) (n : Nat) : Chan := vget s.chan n
def State.setChan (s : State) (n : Nat) (c : Chan) : State := { s with chan := vput s.chan n c }

/-- The two fields, low and high, of a preload register by its number: PRD, PHS, CMPA to CMPD, DTR, DTF. A register of one
field has it twice. -/
def preFlds : Nat → Fld × Fld
  | 0 => (.PWM_CH_PRD_PRD, .PWM_CH_PRD_PRD)
  | 1 => (.PWM_CH_PHS_PHS, .PWM_CH_PHS_PHS)
  | 2 => (.PWM_CH_CMPA_FINE, .PWM_CH_CMPA_COARSE)
  | 3 => (.PWM_CH_CMPB_FINE, .PWM_CH_CMPB_COARSE)
  | 4 => (.PWM_CH_CMPC_FINE, .PWM_CH_CMPC_COARSE)
  | 5 => (.PWM_CH_CMPD_FINE, .PWM_CH_CMPD_COARSE)
  | 6 => (.PWM_CH_DTR_DT, .PWM_CH_DTR_DT)
  | _ => (.PWM_CH_DTF_DT, .PWM_CH_DTF_DT)

/-- The fields of an active register, as `preFlds`. -/
def actFlds : Nat → Fld × Fld
  | 0 => (.PWM_CH_APRD_PRD, .PWM_CH_APRD_PRD)
  | 1 => (.PWM_CH_APHS_PHS, .PWM_CH_APHS_PHS)
  | 2 => (.PWM_CH_ACMPA_FINE, .PWM_CH_ACMPA_COARSE)
  | 3 => (.PWM_CH_ACMPB_FINE, .PWM_CH_ACMPB_COARSE)
  | 4 => (.PWM_CH_ACMPC_FINE, .PWM_CH_ACMPC_COARSE)
  | 5 => (.PWM_CH_ACMPD_FINE, .PWM_CH_ACMPD_COARSE)
  | 6 => (.PWM_CH_ADTR_DT, .PWM_CH_ADTR_DT)
  | _ => (.PWM_CH_ADTF_DT, .PWM_CH_ADTF_DT)

/-- The value of a register of one field, or of a FINE and a COARSE field. -/
def getPair (s : State) (p : Fld × Fld) (n : Nat) : Nat :=
  if p.1 = p.2 then s.fget p.1 n else s.fget p.1 n + 128 * s.fget p.2 n

/-- The value written to such a register. -/
def setPair (s : State) (p : Fld × Fld) (n v : Nat) : State :=
  if p.1 = p.2 then s.fset p.1 v n else (s.fset p.1 v n).fset p.2 (v / 128) n

/-- Preload `r` and active register `r` of channel `n`. -/
def preload (s : State) (n r : Nat) : Nat := getPair s (preFlds r) n
def setPreload (s : State) (n r v : Nat) : State := setPair s (preFlds r) n v
def active (s : State) (n r : Nat) : Nat := getPair s (actFlds r) n
def setActive (s : State) (n r v : Nat) : State := setPair s (actFlds r) n v

def chEn (s : State) (n : Nat) : Bool := s.flag .PWM_CH_CFG_EN n
def chTeam (s : State) (n : Nat) : Nat := s.fget .PWM_CH_CFG_TEAM n
def chRun (s : State) (n : Nat) : Bool := s.flag .PWM_CH_STAT_RUN n
def teamOn (s : State) (t : Nat) : Bool := s.fbit .PWM_TEAMRUN_RUN t
def chDith (s : State) (n : Nat) : Bool := s.flag .PWM_CH_CFG_DITH n

/-- The enabled channels of a Team. -/
def teamChans (s : State) (t : Nat) : List Nat := (List.range 24).filter fun n => chEn s n && chTeam s n == t

/-- A Team's leading channel: the lowest-numbered enabled channel that runs (R132). -/
def leading (s : State) (t : Nat) : Option Nat := (teamChans s t).find? (chRun s)

/-- Some channel of the Team runs (R103). -/
def teamRuns (s : State) (t : Nat) : Bool := (List.range 24).any fun n => chTeam s n == t && chRun s n

/-! ### Status bits (R169) -/

/-- A status bit of channel `n` set; its first setting raises the event of the Team (R169). -/
def setStatus (s : State) (f : Fld) (n : Nat) : State :=
  if s.flag f n then s.noteSet f 1 n 0 else (s.hset f 1 n).raise (48 + chTeam s n)

/-! ### Demand and holds of an output (R149, R161, R164) -/

/-- The force in force on an output and on its complement; in HIGH ONLY a low force to active is ignored (R162). -/
def forces (s : State) (n : Nat) (low : Bool) : Nat × Nat :=
  let c := s.chanAt n
  let fl := if s.fget .PWM_CH_CFG_MODE n = 1 && c.forceL = 2 then 0 else c.forceL
  if low then (fl, c.forceH) else (c.forceH, fl)

/-- Rows 1 to 7 of R164: the output is not driven active. -/
def held (s : State) (n : Nat) (low : Bool) : Bool :=
  let c := s.chanAt n
  let f := forces s n low
  !s.flag .PWM_DRIVE_DRV || s.flag .CUP_STAT_SHUT || !s.flag .TTH_STAT_OWNED || !(chRun s n && c.live) ||
    (s.flag .PWM_CH_STAT_ESCL n || c.escHold) || s.flag .PWM_CH_STAT_CUT n ||
    (f.1 == 1 || f.1 == 3 || f.2 == 2)

/-- Rows 8 to 10 of R164: the output is demanded active (R149, R153, R161). -/
def demanded (s : State) (n : Nat) (low : Bool) : Bool :=
  let c := s.chanAt n
  let ref := c.ref && c.refrEnd.isNone
  (forces s n low).1 == 2 || (if low then !ref && s.fget .PWM_CH_CFG_MODE n == 0 else ref)

/-- The output is wanted on. -/
def wanted (s : State) (n : Nat) (low : Bool) : Bool := demanded s n low && !held s n low

/-! ### Spire (R173 to R176, R185, R191) -/

/-- The Spire line of an output is locked. -/
def lineLocked (s : State) (i : Nat) : Bool :=
  if i < 32 then s.fbit .SPR_LOCKLO_LOCK i else s.fbit .SPR_LOCKHI_LOCK (i - 32)

def State.sprAt (s : State) (i : Nat) : SprLine := vget s.spr i
def State.setSpr (s : State) (i : Nat) (x : SprLine) : State := { s with spr := vput s.spr i x }

/-- NARROW of line `i` (R175). -/
def narrowQ (s : State) (i : Nat) : Bool :=
  if i < 32 then s.fbit .SPR_NARROWLO_NARROW i else s.fbit .SPR_NARROWHI_NARROW (i - 32)
def narrowPut (s : State) (i : Nat) (b : Bool) : State :=
  if i < 32 then s.fbitSet .SPR_NARROWLO_NARROW i b else s.fbitSet .SPR_NARROWHI_NARROW (i - 32) b

/-- A line in coarse fallback (R185), as it stood at the start of the tick (R177), or of a channel in dither mode (R191). -/
def coarseOnly (s : State) (n i : Nat) : Bool := !(s.sprAt i).lock0 || chDith s n

/-- The tap table that a value of S, in sixteenths, makes: fine position j is tapped at stage round(j × S / 128), halves up (R172). -/
def tapStage (s16 j : Nat) : Nat := (j * s16 + 1024) / 2048

/-- The stage of line `i` that an edge of this tick at position `p` taps, by the table active at the start of the tick (R177). -/
def tapOf (s : State) (i p : Nat) : Option Nat :=
  if p / 128 = s.now then some (tapStage (s.sprAt i).tab (p % 128)) else none

/-- Where Spire places a turn-off (R185). -/
def placeOff (s : State) (n i p : Nat) : Nat := if coarseOnly s n i then p - p % 128 else p

/-- Where Spire places a turn-on before R175 (R185). -/
def placeOn (s : State) (n i p : Nat) : Nat := if coarseOnly s n i then (p + 127) / 128 * 128 else p

/-- A dead time in force, in dither mode rounded up to whole ticks (R150, R191). -/
def deadTime (s : State) (n : Nat) (low : Bool) : Nat :=
  let d := active s n (if low then 7 else 6)
  if chDith s n then (d + 127) / 128 * 128 else d

/-- An output of a channel. -/
def outAt (s : State) (n : Nat) (low : Bool) : PwmOut := if low then (s.chanAt n).outL else (s.chanAt n).outH

/-- An output of a channel replaced. -/
def setOut (s : State) (n : Nat) (low : Bool) (o : PwmOut) : State :=
  let c := s.chanAt n
  s.setChan n (if low then { c with outL := o } else { c with outH := o })

/-- The Spire line of an output. -/
def lineOf (n : Nat) (low : Bool) : Nat := 2 * n + b2n low

/-- NARROW set by an output's edge. -/
def setNarrow (s : State) (n : Nat) (low : Bool) : State :=
  let i := lineOf n low
  let t := if i < 32 then s.hbit .SPR_NARROWLO_NARROW i else s.hbit .SPR_NARROWHI_NARROW (i - 32)
  if narrowQ s i then t else setOut t n low { outAt t n low with narrow := true }

/-- STARVED of line `i` (R181). -/
def starvedQ (s : State) (i : Nat) : Bool :=
  if i < 32 then s.fbit .SPR_STARVEDLO_STARVED i else s.fbit .SPR_STARVEDHI_STARVED (i - 32)
def starvedPut (s : State) (i : Nat) (b : Bool) : State :=
  if i < 32 then s.fbitSet .SPR_STARVEDLO_STARVED i b else s.fbitSet .SPR_STARVEDHI_STARVED (i - 32) b

/-- A measurement of line `i` made in this tick does not count: an edge is placed in it (R178). -/
def unmeasure (s : State) (i : Nat) : State :=
  let x := s.sprAt i
  if x.lastMeas = some s.now then
    s.setSpr i { x with count := x.back.1, sum := x.back.2.1, bad := x.back.2.2.1, lastMeas := x.back.2.2.2 }
  else s

/-- A table installed in this tick waits again: the tick carries an edge (R179). -/
def uninstall (s : State) (i : Nat) : State :=
  let x := s.sprAt i
  match x.inst with
  | some (t, st, u) =>
    if t = s.now then
      let n := s.fget .SPR_LINE_UPDCNT i
      let v := (s.fset .SPR_LINE_S x.tab i).fset .SPR_LINE_UPDCNT (n + 2 ^ Fld.len .SPR_LINE_UPDCNT - 1) i
      (starvedPut v i st).setSpr i { x with inst := none, next := some (s.fget .SPR_LINE_S i), lastUpd := u }
    else s
  | none => s

/-- An edge of an output, which `o` shows, placed through Spire at position `q` (R178). -/
def placeEdge (s : State) (n : Nat) (low : Bool) (o : PwmOut) (q : Nat) : State :=
  let t := setOut s n low { o with edges := (q / 128 :: o.edges).take 4 }
  if q / 128 = s.now then uninstall (unmeasure t (lineOf n low)) (lineOf n low) else t

/-- A turn-off at the interlock at position `p`, at the ball through Spire, or at once when it does not pass Spire (R174): a
pulse that would be shorter than 32 fine ticks is not made (R175). -/
def turnOff (s : State) (n : Nat) (low direct : Bool) (p : Nat) : State :=
  let i := lineOf n low
  let o := { outAt s n low with on := false, offAt := some p }
  let q := if direct then p else placeOff s n i p
  if !o.spOn then setOut s n low o
  else if direct then
    setOut s n low (if o.spOnAt ≤ p then { o with spOn := false, spOffAt := some p }
      else { o with spOn := false, edges := o.edges.erase (o.spOnAt / 128) })
  else if q < o.spOnAt + 32 then
    setNarrow (setOut s n low { o with spOn := false, edges := o.edges.erase (o.spOnAt / 128) }) n low
  else placeEdge s n low { o with spOn := false, spOffAt := some q, tapOff := tapOf s i q } q

/-- An output brought into agreement with its demand and holds at position `p`: an output no longer wanted turns off; one
wanted is demanded since `p` and turns on by DEADTIME_TURN_ON. -/
def settleOut (n : Nat) (direct : Bool) (p : Nat) (s : State) (low : Bool) : State :=
  let o := outAt s n low
  if wanted s n low then setOut s n low { o with dem := some (o.dem.getD p) }
  else
    let t := setOut s n low { o with dem := none }
    if o.on then turnOff t n low direct p else t

/-- Both outputs of a channel brought into agreement at position `p`. -/
def settle (s : State) (n p : Nat) (direct : Bool := false) : State :=
  [false, true].foldl (settleOut n direct p) s

/-- The start of this tick, in fine ticks. -/
def State.fine0 (s : State) : Nat := 128 * s.now

/-- Every channel's outputs brought into agreement at the start of this tick (a change of ownership, shut-down or DRV). -/
def settleAll (s : State) (direct : Bool := false) : State :=
  (List.range 24).foldl (fun t n => settle t n t.fine0 direct) s

/-- Whether an output is active at its ball in this tick. -/
def ballActive (s : State) (n : Nat) (low : Bool) : Bool :=
  let o := outAt s n low
  s.flag .PWM_DRIVE_DRV && o.spOn && o.spOnAt < 128 * (s.now + 1)

/-- The level of a PWM ball: none for high impedance with the pull-down, until an image is applied and while DRV is 0
(R152, R164, R489). -/
def pwmPin (s : State) (n : Nat) (low : Bool) : Option Bool :=
  if s.flag .PWM_DRIVE_DRV && s.img.applied then
    some (ballActive s n low != s.flag (if low then .PWM_CH_CFG_POLL else .PWM_CH_CFG_POLH) n)
  else none

/-! ### Cuts (R155 to R157) -/

/-- A cut of channel `n` begins at position `p` (R155, R157, R174). -/
def cutChannel (s : State) (n p : Nat) : State :=
  if s.flag .PWM_CH_STAT_CUT n then s else
  let c := s.chanAt n
  let t := (s.setChan n { c with cutIn := true }).fset .PWM_CH_STAT_CUT 1 n
  settle (t.hset .PWM_CH_STAT_TRIPSEEN 1 n) n p true

/-- Every channel whose mask names line `r` is cut (R155). -/
def cutByLine (s : State) (r p : Nat) : State :=
  (List.range 24).foldl (fun t n => if t.fbit .PWM_CH_TRIPMASK_MASK r n then cutChannel t n p else t) s

/-- A write of TRIPMASK: a line already active cuts at once; removing a line ends no cut (R155). -/
def tripmaskWrite (s : State) (n v : Nat) : State :=
  let t := s.fset .PWM_CH_TRIPMASK_MASK v n
  if t.fget .PWM_CH_TRIPMASK_MASK n &&& t.fget .REIN_STAT_ACTIVE ≠ 0 then cutChannel t n t.fine0 else t

/-- A write of PWM_DRIVE (R164, R165). -/
def driveWrite (s : State) (v : Nat) : State := settleAll (s.fset .PWM_DRIVE_DRV v) true

end Sys2Proof.Machine
end

