-- ==== Sys2Proof/Machine/Reins.lean ====
section
/-! DEFINITION. Window comparators, trip pins and Rein lines (spec/03_comparators_reins.md). -/

namespace Sys2Proof.Machine

def State.cmpAt (s : State) (k : Nat) : Cmp := vget s.cmp k
def State.setCmp (s : State) (k : Nat) (c : Cmp) : State := { s with cmp := vput s.cmp k c }
def State.pinAt (s : State) (p : Nat) : TripPin := vget s.trip p
def State.setPin (s : State) (p : Nat) (x : TripPin) : State := { s with trip := vput s.trip p x }

/-! ### Latches and Rein lines -/

def latchSetQ (s : State) (k : Nat) : Bool :=
  if k < 32 then s.fbit .CMP_LATCHLO_LATCH k else s.fbit .CMP_LATCHHI_LATCH (k - 32)

def latchPut (s : State) (k : Nat) (b : Bool) : State :=
  if k < 32 then s.fbitSet .CMP_LATCHLO_LATCH k b else s.fbitSet .CMP_LATCHHI_LATCH (k - 32) b

/-- The latches set, as one mask. -/
def latches (s : State) : Nat := s.fget .CMP_LATCHLO_LATCH + 2 ^ 32 * s.fget .CMP_LATCHHI_LATCH

/-- Rein line `r`: the OR of its sources (R120). -/
def reinLevel (s : State) (r : Nat) : Bool :=
  (s.fget .REIN_CMPLO_MASK r + 2 ^ 32 * s.fget .REIN_CMPHI_MASK r) &&& latches s != 0 ||
    s.fget .REIN_PIN_MASK r &&& s.fget .REIN_PINSTAT_STATE != 0 || s.fbit .REIN_SWTRIP_FORCE r

/-- A line whose sources are all inactive is inactive (R120, R126). -/
def reinRelax (s : State) : State :=
  (List.range 16).foldl
    (fun t r => if t.fbit .REIN_STAT_ACTIVE r && !reinLevel t r then t.fbitSet .REIN_STAT_ACTIVE r false else t) s

/-- REIN_ACTIVE: the line becomes active: it cuts the channels that name it, is remembered in REIN_STICKY, raises REIN_r and
rings REIN_ACT_r when enabled (R122, R126, R155). -/
def execReinActive (r : Fin 16) (fine : Fin 128) (s : State) : Host.Outcome State Fault Refusal :=
  if reinLevel s r && !s.fbit .REIN_STAT_ACTIVE r then
    let t := { s with reinTick := setBit s.reinTick r true }
    let t := (t.fbitSet .REIN_STAT_ACTIVE r true).hbit .REIN_STICKY_SEEN r
    let t := (t.raise (56 + r)).ringIf (t.fbit .REIN_DBELL_EN r) (240 + r)
    .next (cutByLine t r (t.fine0 + fine))
  else .next s

/-- CLRREJ bit `k` set; its first setting rings CMP_CLRREJ (R108, R112). -/
def clearRefused (s : State) (k : Nat) : State :=
  let f : Fld := if k < 32 then .CMP_CLRREJLO_CLRREJ else .CMP_CLRREJHI_CLRREJ
  let b := if k < 32 then k else k - 32
  if s.fbit f b then s else (s.fbitSet f b true).ring 102

/-- The latch input: the filter output, which is the comparator output when the filter is bypassed (R104). -/
def latchInput (s : State) (k : Nat) : Bool := s.flag .CMP_STAT_FILT k

/-- Lines that a clear has dropped and that its refusal in the same tick leaves as they were (R108). -/
def reinKeep (s : State) (mask : Nat) : State :=
  (setBits 16 mask).foldl (fun t r => if reinLevel t r then t.fbitSet .REIN_STAT_ACTIVE r true else t) s

/-- The latch follows its input: an active input sets it (R107, R113). A set in the tick of an accepted clear leaves it set
and the clear refused (R108). -/
def latchFollow (s : State) (k : Nat) : State :=
  if latchInput s k then
    let c := s.cmpAt k
    let t := s.setCmp k { c with inTick := true }
    if latchSetQ t k then t
    else if c.clrAt = some t.now then clearRefused (reinKeep (latchPut t k true) c.clrLines) k
    else (latchPut t k true).ringIf (t.flag .CMP_CFG_DBELL k) (192 + k)
  else s

/-- A clear attempt of a set latch in this tick (R108). -/
def clearAttempt (s : State) (k : Nat) : State :=
  if !latchSetQ s k then s
  else if latchInput s k || (s.cmpAt k).inTick then clearRefused s k
  else
    let t := reinRelax (latchPut s k false)
    t.setCmp k { t.cmpAt k with clrAt := some t.now, clrLines := s.fget .REIN_STAT_ACTIVE ^^^ t.fget .REIN_STAT_ACTIVE }

/-- A soft clear of the latches named in a write (R109). -/
def softClear (s : State) (base v : Nat) : State :=
  (setBits (min 32 (48 - base)) v).foldl (fun t b => clearAttempt t (base + b)) s

/-- PERIOD_CLEAR_ATTEMPT: the leading channel of the comparator's team is at count L − 2 (R110). -/
def execPeriodClearAttempt (k : Fin 48) (s : State) : Host.Outcome State Fault Refusal :=
  match leading s (s.fget .CMP_CFG_TEAM k) with
  | none => .next s
  | some n =>
    if s.flag .CMP_CFG_CLRM k && decide ((s.chanAt n).cnt + 2 = (s.chanAt n).len) then .next (clearAttempt s k)
    else .next s

/-! ### The comparison (R93, R97, R98, R100) -/

/-- The threshold voltage of a code in units of 1/4096 microvolt, on a dedicated ball or on a SAR pair (R93). -/
def codeVolts (insrc code : Nat) : Int :=
  if insrc = 0 then (code : Int) * 1800000 else ((code : Int) - 2048) * 3600000

/-- A threshold of comparator `k` (R93). -/
def threshold (s : State) (k : Nat) (upper : Bool) : Int :=
  codeVolts (s.fget .CMP_CFG_INSRC k) (s.fget (if upper then .CMP_ATHR_UTH else .CMP_ATHR_LTH) k)

/-- The error of a threshold voltage: open within the bounds of R100, and from one code to the next within half a step, which keeps the
DAC monotonic (log entry 25). -/
def dacError (k : Nat) (upper : Bool) (mode insrc : Nat) : Nat → Int
  | 0 =>
    let b := (if mode < 2 then 3000 else 5000) * 4096 + ((codeVolts insrc 0).natAbs : Int) / 500
    clampI (-b) b (Config.cmpError k upper mode insrc 0)
  | c + 1 =>
    let b := (if mode < 2 then 3000 else 5000) * 4096 + ((codeVolts insrc (c + 1)).natAbs : Int) / 500
    let half := (codeVolts insrc 1 - codeVolts insrc 0) / 2
    clampI (-b) b (dacError k upper mode insrc c + clampI (-half) half (Config.cmpError k upper mode insrc (c + 1)))

/-- The error of a threshold of comparator `k`. -/
def thresholdError (s : State) (k : Nat) (upper : Bool) : Int :=
  dacError k upper (s.fget .CMP_CFG_MODE k) (s.fget .CMP_CFG_INSRC k)
    (s.fget (if upper then .CMP_ATHR_UTH else .CMP_ATHR_LTH) k)

/-- The SAR pair that comparator `k` shares: input k div 16 of converter k mod 16, at 4c + input (R92). -/
def sharedPair (k : Nat) : Nat := 4 * (k % 16) + k / 16

/-- The voltage at the source that INSRC selects (R92). -/
def cmpInput (s : State) (k : Nat) : Int :=
  if s.flag .CMP_CFG_INSRC k then vget s.pairUv (sharedPair k) else (s.cmpAt k).ballUv

/-- The hysteresis: 0, 5, 10 or 20 mV, open within ±30 % (R98; log entry 25). -/
def hysteresis (s : State) (k : Nat) : Int :=
  let h : Int := ([0, 5000, 10000, 20000].getD (s.fget .CMP_CFG_HYST k) 0) * 4096
  clampI (h * 7 / 10) (h * 13 / 10) (Config.cmpHyst k h)

/-- The comparator's two comparisons with hysteresis (R98) of its input. -/
def compareInput (s : State) (k : Nat) : Cmp :=
  let c := s.cmpAt k
  let v := cmpInput s k * 4096
  let u := threshold s k true + thresholdError s k true
  let l := threshold s k false + thresholdError s k false
  let h := hysteresis s k
  { c with
    upper := if c.upper then decide (u - h ≤ v) else decide (u < v)
    lower := if c.lower then decide (v ≤ l + h) else decide (v < l) }

/-- The window function (R97); `wide` is whether LTH lies below UTH, without which INSIDE is never active. -/
def windowFn (func : Nat) (upper lower wide : Bool) : Bool :=
  match func with
  | 0 => upper
  | 1 => lower
  | 2 => upper || lower
  | _ => !upper && !lower && wide

/-- The lower threshold in force lies below the upper one (R97). -/
def windowWide (s : State) (k : Nat) : Bool := decide (s.fget .CMP_ATHR_LTH k < s.fget .CMP_ATHR_UTH k)

/-- What the window function makes of the comparator's two comparisons (R97). -/
def windowOut (s : State) (k : Nat) : Bool :=
  windowFn (s.fget .CMP_CFG_FUNC k) (s.cmpAt k).upper (s.cmpAt k).lower (windowWide s k)

/-- N of the last M samples are active (R105). -/
def majority (s : State) (k : Nat) : Bool :=
  decide (s.fget .CMP_CFG_FN k ≤ ((s.cmpAt k).hist.take (s.fget .CMP_CFG_FM k)).count true)

/-- The comparator output takes a value; a bypassed filter passes it on (R104). -/
def outputIs (s : State) (k : Nat) (b : Bool) : State :=
  let t := s.fput .CMP_STAT_RAW b k
  if t.flag .CMP_CFG_BYP k then latchFollow (t.fput .CMP_STAT_FILT b k) k else t

/-- The comparator output follows its input (R97, R98), unless it is disabled (R114) or settles (R101). -/
def followInput (s : State) (k : Nat) : State :=
  let t := s.setCmp k (compareInput s k)
  outputIs t k (windowOut t k)

/-- COMPARATOR_CROSSING: the voltage at the comparator's ball, or at the SAR pair it shares, has changed (R92, R97 to R99, R103). -/
def execComparatorCrossing (k : Fin 48) (x : CmpVolts) (s : State) : Host.Outcome State Fault Refusal :=
  let t := if x.pair then { s with pairUv := vput s.pairUv (sharedPair k) x.uv } else s.setCmp k { s.cmpAt k with ballUv := x.uv }
  if t.flag .CMP_CFG_EN k && !t.flag .CMP_STAT_SETTLING k && x.pair == t.flag .CMP_CFG_INSRC k then .next (followInput t k)
  else .next t

/-- FILTER_OUTPUT_CHANGE: the filter output takes the majority of its samples (R105). -/
def execFilterOutputChange (k : Fin 48) (s : State) : Host.Outcome State Fault Refusal :=
  if s.flag .CMP_CFG_EN k && !s.flag .CMP_CFG_BYP k && !s.flag .CMP_STAT_SETTLING k then
    .next (latchFollow (s.fput .CMP_STAT_FILT (majority s k) k) k)
  else .next s

/-- The filter samples in this tick: every tick at 800 MHz, every 32 ticks at 25 MHz (R99, R105). -/
def samples (s : State) (k : Nat) : Bool :=
  s.flag .CMP_CFG_EN k && !s.flag .CMP_CFG_BYP k && !s.flag .CMP_STAT_SETTLING k &&
    (decide (s.fget .CMP_CFG_MODE k < 2) || s.ltc % 32 == 0)

/-- The filter's sample of this tick taken, or taken back, as the configuration now in force has it (R506). -/
def takeSample (s : State) (k : Nat) : State :=
  let c := s.cmpAt k
  if samples s k = c.sampled then s
  else if c.sampled then s.setCmp k { c with sampled := false, hist := c.hist.drop 1 }
  else s.setCmp k { c with sampled := true, hist := (s.flag .CMP_STAT_RAW k :: c.hist).take 16 }

/-- A comparator in a new tick. -/
def cmpTick (s : State) (k : Nat) : State :=
  takeSample (s.setCmp k { s.cmpAt k with inTick := latchInput s k, sampled := false }) k

/-- The comparator outputs as one mask. -/
def rawMask (s : State) : Nat := (List.range 48).foldl (fun m k => m + b2n (s.flag .CMP_STAT_RAW k) * 2 ^ k) 0

/-- The synchronisers of two ticks take in the end of the tick that passes. -/
def syncTick (s : State) : State :=
  { s with
    rawPast := [rawMask s, s.rawPast.headD 0], pinPast := [s.fget .REIN_PINSTAT_STATE, s.pinPast.headD 0]
    reinPast := [s.fget .REIN_STAT_ACTIVE, s.reinPast.headD 0] }

/-! ### Configuration and thresholds -/

/-- The threshold written is in force (R103). -/
def thresholdLoad (s : State) (k : Nat) : State :=
  let t := (s.fset .CMP_ATHR_UTH (s.fget .CMP_THR_UTH k) k).fset .CMP_ATHR_LTH (s.fget .CMP_THR_LTH k) k
  t.setCmp k { t.cmpAt k with thrWait := false }

/-- A write of CMP[k]_THR (R103). -/
def thrWrite (s : State) (k v : Nat) : State :=
  let t := s.writeNamed .CMP_THR v k
  if s.flag .CMP_CFG_THRUPD k && teamRuns s (s.fget .CMP_CFG_TEAM k) then
    t.setCmp k { t.cmpAt k with thrWait := true }
  else thresholdLoad t k

/-- Preloads that wait for Team `t` take effect (R103). -/
def thresholdsOf (s : State) (t : Nat) : State :=
  (List.range 48).foldl
    (fun u k => if (u.cmpAt k).thrWait && u.fget .CMP_CFG_TEAM k == t then thresholdLoad u k else u) s

/-- FN and FM of a write make a valid filter (R105). -/
def filterValid (v : Nat) : Bool := bits v 9 4 != 0 && bits v 13 4 != 0 && decide (bits v 9 4 ≤ bits v 13 4)

/-- A write of CMP[k]_CFG (R101, R103, R105, R114): one that clears EN ends a settle interval (log entry 98), one that ends the bypass
leaves the filter the samples from before it (log entry 99). -/
def cmpCfgOp (s : State) (k v : Nat) : State :=
  let old := s.flag .CMP_CFG_EN k
  let w := if filterValid v then v else setBit v 8 true
  let changed := bits v 1 2 ≠ s.fget .CMP_CFG_MODE k ∨ bit v 3 ≠ s.flag .CMP_CFG_INSRC k
  let t := s.writeNamed .CMP_CFG w k
  let t := if (t.cmpAt k).thrWait && !(t.flag .CMP_CFG_THRUPD k && teamRuns t (t.fget .CMP_CFG_TEAM k)) then
      thresholdLoad t k else t
  if !bit v 0 then
    let c := t.cmpAt k
    ((t.setCmp k { c with hist := [], sampled := false, upper := false, lower := false }).fset .CMP_STAT_SETTLING 0 k
      |>.fset .CMP_STAT_RAW 0 k).fset .CMP_STAT_FILT 0 k
  else if !old then
    let c := t.cmpAt k
    ((t.setCmp k { c with upper := false, lower := false }).fset .CMP_STAT_SETTLING 1 k
      |>.fset .CMP_STAT_RAW 0 k).fset .CMP_STAT_FILT 0 k
  else if changed ∨ t.flag .CMP_STAT_SETTLING k then outputIs (t.fset .CMP_STAT_SETTLING 1 k) k (t.flag .CMP_STAT_RAW k)
  else
    let u := followInput (takeSample t k) k
    if u.flag .CMP_CFG_BYP k then u else latchFollow (u.fput .CMP_STAT_FILT (majority u k) k) k

/-- SETTLE_END: the history is cleared, which makes the filter output inactive, and the output takes the comparison of the present
input and follows it again (R101, R105). -/
def execSettleEnd (k : Fin 48) (s : State) : Host.Outcome State Fault Refusal :=
  if s.flag .CMP_STAT_SETTLING k then
    let t := (s.setCmp k { s.cmpAt k with hist := [], sampled := false, upper := false, lower := false }).fset .CMP_STAT_SETTLING 0 k
    .next (followInput (t.fset .CMP_STAT_FILT 0 k) k)
  else .next s

/-! ### Trip pins (R116 to R119, R507) -/

/-- The filtered state of pin `p`, and the Rein lines it leaves (R119, R120). -/
def pinStateIs (s : State) (p : Nat) (b : Bool) : State := reinRelax (s.fbitSet .REIN_PINSTAT_STATE p b)

/-- The trip balls act, with no clock: no reset is asserted and the domain's logic has power (R397, R403). -/
def pinsLive (s : State) : Bool := s.pw.rst.isNone && decide (domState s 14 ≤ 1)

/-- The filtered state of a pin with LEN = 0 is that of its ball (R117). -/
def pinFollow (s : State) (p : Nat) : State :=
  if s.fget .REIN_PINCFG_LEN p = 0 then pinStateIs s p ((s.pinAt p).ball == s.flag .REIN_PINCFG_POL p) else s

/-- Every pin with LEN = 0 follows its ball: the block has left a reset, or has power again. -/
def pinsFollow (s : State) : State := if pinsLive s then (List.range 16).foldl pinFollow s else s

/-- TRIP_PIN_EDGE: with LEN = 0 the filtered state follows the ball (R116, R117). -/
def execTripPinEdge (p : Fin 16) (level : Bool) (s : State) : Host.Outcome State Fault Refusal :=
  let t := s.setPin p { s.pinAt p with ball := level }
  .next (if pinsLive t then pinFollow t p else t)

/-- TRIP_FILTER_CHANGE: the synchronised input has held its state for LEN ticks (R118). -/
def execTripFilterChange (p : Fin 16) (s : State) : Host.Outcome State Fault Refusal :=
  let x := s.pinAt p
  if s.fget .REIN_PINCFG_LEN p ≠ 0 ∧ s.fget .REIN_PINCFG_LEN p ≤ x.run then
    .next (pinStateIs s p (x.past2 == s.flag .REIN_PINCFG_POL p))
  else .next s

/-- The synchroniser and the run count of a pin in a new tick (R118): the filter acts two ticks behind the synchroniser, so that L + 2
to L + 3 ticks lie between the ball edge and the change. -/
def pinTick (x : TripPin) : TripPin :=
  { x with
    sync1 := x.ball, sync2 := x.sync1, past1 := x.sync2, past2 := x.past1,
    run := if x.past1 = x.past2 then min 256 (x.run + 1) else 1 }

/-- A write of REIN_PINCFG[p] (R507). -/
def pincfgOp (s : State) (p v : Nat) : State :=
  let changed := bits v 0 8 ≠ s.fget .REIN_PINCFG_LEN p ∨ bit v 8 ≠ s.flag .REIN_PINCFG_POL p
  let t := s.writeNamed .REIN_PINCFG v p
  if changed then
    let x := t.pinAt p
    let lvl := if t.fget .REIN_PINCFG_LEN p = 0 then x.ball else x.sync2
    pinStateIs (t.setPin p { x with past1 := x.sync2, past2 := x.sync2, run := 0 }) p (lvl == t.flag .REIN_PINCFG_POL p)
  else t

/-! ### Mirror balls (R115) -/

/-- The level of mirror ball `j`. -/
def mirPin (s : State) (j : Nat) : Bool :=
  let k := s.fget .CMP_MIR_SEL j
  s.img.applied && s.flag .CMP_MIR_EN j && decide (k < 48) &&
    (match s.fget .CMP_MIR_TAP j with
     | 0 => s.flag .CMP_STAT_RAW k
     | 1 => s.flag .CMP_STAT_FILT k
     | 2 => latchSetQ s k
     | _ => false)

end Sys2Proof.Machine
end

