-- ==== Sys2Proof/Machine/Sar.lean ====
section
/-! DEFINITION. The SAR converters, the slot table and its banks, calibration (spec/02_sensing_converters.md). -/

namespace Sys2Proof.Machine

def State.sarAt (s : State) (c : Nat) : Sar := vget s.sar c
def State.setSar (s : State) (c : Nat) (x : Sar) : State := { s with sar := vput s.sar c x }

/-! ### Slot entries -/

/-- The bank in use, and the other one (ADC_BANK.ACTIVE). -/
def activeBank (s : State) : Nat := s.fget .ADC_BANK_ACTIVE
def inactiveBank (s : State) : Nat := 1 - s.fget .ADC_BANK_ACTIVE

/-- The words of entry `e` in a bank. -/
def slotW0 (s : State) (e b : Nat) : Nat := s.regWord (regDesc .ADC_SLOT_W0) e b
def slotW1 (s : State) (e b : Nat) : Nat := s.regWord (regDesc .ADC_SLOT_W1) e b

/-- Fields of the two words of an entry. -/
def w0Trig (w : Nat) : Nat := bits w 0 9
def w0Dly (w : Nat) : Nat := bits w 9 8
def w0Conv (w : Nat) : Nat := bits w 17 4
def w0Input (w : Nat) : Nat := bits w 21 3
def w0Se (w : Nat) : Bool := bit w 24
def w0Osr (w : Nat) : Nat := bits w 25 3
def w0Every (w : Nat) : Bool := bit w 28
def w0En (w : Nat) : Bool := bit w 29
def w0Exc (w : Nat) : Nat := bits w 30 2
def w1Occ (w : Nat) : Nat := bits w 0 8
def w1Lane (w : Nat) : Nat := bits w 8 5
def w1Deliv (w : Nat) : Bool := bit w 13
def w1Scale (w : Nat) : Nat := bits w 14 5
def w1Trk (w : Nat) : Nat := bits w 19 4
def w1Tag (w : Nat) : Nat := bits w 23 4

/-- An entry that R67 calls invalid, given the scale entries declared. -/
def slotInvalid (decl w0 w1 : Nat) : Bool :=
  208 ≤ w0Trig w0 || w0Input w0 == 7 || (w0Input w0 == 4 && 10 ≤ w0Conv w0) || 5 ≤ w0Osr w0 || w0Exc w0 == 3 ||
    (w0Exc w0 != 0 && !(w0Input w0 == 3 && 12 ≤ w0Conv w0)) || (w1Deliv w1 && !bit decl (w1Scale w1))

/-- Both words of entry `e` written in a bank; an invalid entry is stored with EN 0 (R67, R71). -/
def storeSlot (s : State) (e b w0 w1 : Nat) : State :=
  let t := (s.writeReg (regDesc .ADC_SLOT_W0) e b w0).writeReg (regDesc .ADC_SLOT_W1) e b w1
  if slotInvalid s.scaleDecl w0 w1 then t.fset .ADC_SLOT_W0_EN 0 e b else t

/-- A write of ADC_SLOT[e]_W0 by master `m` is staged (R71). -/
def slotW0Op (s : State) (m e v : Nat) : State :=
  s.setPort m { s.portAt m with slotW0 := some (e, v % 2 ^ 32) }

/-- The W0 that a W1 write of entry `e` uses: the staged one of that entry, else the stored one (R71). -/
def stagedOr (st : Option (Nat × Nat)) (e old : Nat) : Nat :=
  match st with
  | some (x, v) => if x = e then v else old
  | none => old

/-- A staged W0 is consumed by the W1 write of its entry (R71). -/
def consumeStage (st : Option (Nat × Nat)) (e : Nat) : Option (Nat × Nat) :=
  match st with
  | some (x, v) => if x = e then none else some (x, v)
  | none => none

/-- Both words of an entry stored as they are: the sequencer's writes, which the image check judges (R67). -/
def storeSlotRaw (s : State) (e b w0 w1 : Nat) : State :=
  (s.writeReg (regDesc .ADC_SLOT_W0) e b w0).writeReg (regDesc .ADC_SLOT_W1) e b w1

/-- A write of ADC_SLOT[e]_W1 by master `m` lands in the inactive bank (R71, R72). -/
def slotW1Op (s : State) (m e v : Nat) : State :=
  let b := inactiveBank s
  let p := s.portAt m
  let put := if m = 7 then storeSlotRaw else storeSlot
  let t := put s e b (stagedOr p.slotW0 e (slotW0 s e b)) (v % 2 ^ 32)
  t.setPort m { p with slotW0 := consumeStage p.slotW0 e }

/-- A slot write: held while a copy runs (R74), else landed. -/
def slotWrite (s : State) (m e : Nat) (w1 : Bool) (v : Nat) : State :=
  if s.flag .ADC_BANK_COPYBUSY then { s with slotHeld := s.slotHeld ++ [⟨m, e, w1, v⟩] }
  else if w1 then slotW1Op s m e v else slotW0Op s m e v

/-- Writes of the active bank are allowed: a JTAG debug session is open and ACTWR is set (R75). -/
def actWritable (s : State) : Bool := s.fyz.jtag.debug && s.flag .ADC_BANK_ACTWR

/-- A write of ADC_SLOTACT[e] by master `m`: staged, or landed in the active bank with the occurrence count at 0 (R75), also while a
copy runs, which copies it (log entry 95). -/
def slotActWrite (s : State) (m e : Nat) (w1 : Bool) (v : Nat) : State :=
  if actWritable s then
    let p := s.portAt m
    if w1 then
      let b := activeBank s
      let t := storeSlot s e b (stagedOr p.slotActW0 e (slotW0 s e b)) (v % 2 ^ 32)
      let u := { t with occ := vput t.occ e 0 }
      u.setPort m { p with slotActW0 := consumeStage p.slotActW0 e }
    else s.setPort m { p with slotActW0 := some (e, v % 2 ^ 32) }
  else s

/-- A write of ADC_BANK: COPY is judged on the state before the write (R74); ACTWR is writable in a debug session (R75). -/
def adcBankWrite (s : State) (v : Nat) : State :=
  let copy := bit v 2 && !s.flag .ADC_BANK_SWAPREQ && !s.flag .ADC_BANK_COPYBUSY
  let t := if bit v 1 then s.fset .ADC_BANK_SWAPREQ 1 else s
  let t := if s.fyz.jtag.debug then t.fput .ADC_BANK_ACTWR (bit v 4) else t
  if copy then { t.fset .ADC_BANK_COPYBUSY 1 with copyEnd := s.now + 240 } else t

/-- A write of ADC_FRAME: a reserved SRC is stored with EN 0 (R67). -/
def adcFrameWrite (s : State) (v : Nat) : State :=
  (s.fset .ADC_FRAME_SRC v).fput .ADC_FRAME_EN (bit v 9 && bits v 0 9 < 208)

/-- The active bank copied into the inactive bank. -/
def copyBanks (s : State) : State :=
  (List.range 96).foldl (fun t e =>
    (t.writeReg (regDesc .ADC_SLOT_W0) e (inactiveBank s) (slotW0 s e (activeBank s))).writeReg
      (regDesc .ADC_SLOT_W1) e (inactiveBank s) (slotW1 s e (activeBank s))) s

/-- A copy completes and the held slot writes land on the copied data (R74). -/
def copyFinish (s : State) : State :=
  if s.flag .ADC_BANK_COPYBUSY then
    let t := { (copyBanks s).fset .ADC_BANK_COPYBUSY 0 with slotHeld := [] }
    s.slotHeld.foldl (fun u h => slotWrite u h.m h.e h.w1 h.v) t
  else s

/-- COPY_END (R74). -/
def execCopyEnd (s : State) : Host.Outcome State Fault Refusal :=
  if s.flag .ADC_BANK_COPYBUSY && decide (s.copyEnd ≤ s.now) then .next (copyFinish s) else .next s

/-! ### Triggers, frames and visits -/

/-- A converter is reserved: a visit holds it, or its last conversion has not ended (R63). -/
def sarReserved (s : State) (c : Nat) : Bool :=
  (s.sarAt c).visit.isSome || decide (s.now < (s.sarAt c).freeAt)

/-- An entry skipped: counted, with its index; the first since the counter was read rings ADC_FAULT (R63, R70). -/
def skipEntry (s : State) (e : Nat) : State :=
  ((s.ringIf (s.fget .ADC_SKIPCNT_COUNT == 0) 101).fcount .ADC_SKIPCNT_COUNT).fset .ADC_SKIPCNT_LAST e

/-- Conversions of a visit (OSR, R64). -/
def osrCount (w0 : Nat) : Nat := 2 ^ w0Osr w0

/-- A visit of entry `e`: its first hold edge falls 8 + 8 × TRK ticks after DLY (R61). A Cupola burst is abandoned (R430). -/
def startVisit (s : State) (e : Nat) : State :=
  let b := activeBank s
  let w0 := slotW0 s e b
  let w1 := slotW1 s e b
  let c := w0Conv w0
  s.setSar c { s.sarAt c with
    visit := some ⟨e, b, w0, w1, s.now, s.now + w0Dly w0 + 8 + 8 * w1Trk w1, osrCount w0, 0, 0, false⟩, burst := none }

/-- A firing of entry `e`: ignored while its converter is disabled (R76), accepted when the converter is free, else skipped
(R63). -/
def fireEntry (s : State) (e : Nat) : State :=
  let c := w0Conv (slotW0 s e (activeBank s))
  if !s.fbit .ADC_CTRL_EN c then s else if sarReserved s c then skipEntry s e else startVisit s e

/-- One entry's part in the events of a tick: an EVERY entry fires; an armed ONCE entry counts and fires at OCC, and disarms (R68), also
when its converter is disabled (log entry 94). -/
def entryEvent (trigs : List Nat) (s : State) (e : Nat) : State :=
  let b := activeBank s
  if s.flag .ADC_SLOT_W0_EN e b && trigs.contains (s.fget .ADC_SLOT_W0_TRIG e b) then
    if s.flag .ADC_SLOT_W0_MODE e b then fireEntry s e
    else if vget s.armed e then
      let n := vget s.occ e + 1
      let t := { s with occ := vput s.occ e n }
      if n = s.fget .ADC_SLOT_W1_OCC e b then fireEntry { t with armed := vput t.armed e false } e else t
    else s
  else s

/-- A frame boundary: a requested swap when no copy runs (R72, R74), then every enabled ONCE entry armed (R68). -/
def frameBoundary (s : State) : State :=
  let t := if s.flag .ADC_BANK_SWAPREQ && !s.flag .ADC_BANK_COPYBUSY then
      (s.fset .ADC_BANK_ACTIVE (1 - s.fget .ADC_BANK_ACTIVE)).fset .ADC_BANK_SWAPREQ 0
    else s
  let b := activeBank t
  (List.range 96).foldl (fun u e =>
    if u.flag .ADC_SLOT_W0_EN e b && !u.flag .ADC_SLOT_W0_MODE e b then
      { u with armed := vput u.armed e true, occ := vput u.occ e 0 }
    else { u with armed := vput u.armed e false }) t

/-- A channel or timer event with its TRIG code (R66). -/
def slotEvent (s : State) (trig : Nat) : State := { s with trigs := trig :: s.trigs }

/-- The slot sequencer takes the events of a tick: the frame boundary among them first (R73), then the entries, the lowest index first
(R63). A slot or bank write that has landed in the tick counts as before it (R72). -/
def slotTick (s : State) : State :=
  if s.trigs = [] then s else
  let t := if s.flag .ADC_FRAME_EN && s.trigs.contains (s.fget .ADC_FRAME_SRC) then frameBoundary s else s
  { (List.range 96).foldl (entryEvent s.trigs) t with trigs := [] }

/-- The end code of a mode on the side of a code (R56). -/
def endOf (se : Bool) (code : Nat) : Nat :=
  if se then (if code % 65536 < 32768 then 0 else 65535) else if code % 65536 < 32768 then 32767 else 32768

/-- An end code of a mode (R56). -/
def endCode (se : Bool) (code : Nat) : Bool :=
  let c := code % 65536
  if se then c == 0 || c == 65535 else c == 32767 || c == 32768

/-- The corrected code, in units of 2⁻²⁴ LSB of the entry's mode (R77): (code − offset) × Gain. -/
def correctCode (s : State) (c : Nat) (se : Bool) (code : Nat) : Int :=
  let off := sext 12 (s.fget .ADC_CAL_OFFTRIM c)
  let raw : Int := if se then (code % 65536 : Nat) else sext 16 code
  let x := if se then 16 * raw - 2 * off else 16 * raw - off
  x * (2 ^ 20 + s.fget .ADC_CAL_GAINTRIM c - 32768)

/-- The first result-clock edge at least 13 ticks after a hold edge, as a delay (R62). -/
def presentDelay (ltc : Nat) : Nat := 13 + (5 - (ltc + 13) % 5) % 5

/-- SAR_HOLD_EDGE: the converter holds and converts, an input beyond full scale to the end code, which sets CLIP (R56; log entry 105);
the next hold of an oversampling visit follows 20 ticks later, the last one makes the result (R61 to R64). -/
def execSarHoldEdge (c : Fin 16) (code : Nat) (clip : Bool) (s : State) : Host.Outcome State Fault Refusal :=
  let x := s.sarAt c
  match x.visit with
  | none => .next s
  | some v =>
    if v.holdAt ≤ s.now then
      let code := if clip then endOf (w0Se v.w0) code else code
      let v := { v with
        sum := v.sum + correctCode s c (w0Se v.w0) code, code := code % 65536, clip := v.clip || endCode (w0Se v.w0) code,
        left := v.left - 1, holdAt := s.now + 20 }
      if v.left = 0 then
        .next (s.setSar c { x with
          visit := none, freeAt := s.now + 13, results := x.results ++ [⟨v, s.now + presentDelay s.ltc⟩] })
      else .next (s.setSar c { x with visit := some v, freeAt := s.now + 13 })
    else .next s

/-- Units of a corrected code in a volt: 2²⁴ × full-scale codes per 1.8 V (R56, R77), with the conversions averaged. -/
def voltDen (w0 : Nat) : Nat := osrCount w0 * 2 ^ 24 * (if w0Se w0 then 65536 else 32768) * 5

/-- The operand of a result: V × GAIN + OFFSET, rounded to nearest and saturated (R69). -/
def sarOperand (s : State) (v : SarVisit) : Nat :=
  let sc := w1Scale v.w1
  let g := sext 48 (s.fget .ADC_SCALE_GAIN_GAIN sc)
  let o := sext 48 (s.fget .ADC_SCALE_OFFSET_OFFSET sc)
  (satS48 (roundDiv 0 (v.sum * 9 * g + o * voltDen v.w0) (voltDen v.w0))).1

/-- A trim step: `x / 256`, one that is not whole rounded down or up as a free value says (R78; log entry 24). -/
def trimStep (s : State) (x : Int) (d : Nat) : Int :=
  x / (256 * d) + if x % (256 * d) = 0 then 0 else ((s.draw % 2 : Nat) : Int)

/-- The ideal ZERO result of a mode, in units of 2⁻²⁴ LSB (R77). -/
def idealZero (se : Bool) : Int := if se then 32768 * 2 ^ 24 else 0

/-- A ZERO visit: the offset trim follows, and the level is remembered for the mode (R78). -/
def zeroVisit (s : State) (c : Nat) (v : SarVisit) : State :=
  let se := w0Se v.w0
  let mean := v.sum / (osrCount v.w0 : Nat)
  let x := s.sarAt c
  let t := s.setSar c (if se then { x with zeroS := some mean } else { x with zeroD := some mean })
  if s.flag .ADC_CAL_AUTOCAL c then
    let err := (mean - idealZero se) * (if se then 8 else 16)
    let o := sext 12 (s.fget .ADC_CAL_OFFTRIM c) + trimStep t err (2 ^ 24)
    (t.fset .ADC_CAL_OFFTRIM (twos 12 (clampI (-2048) 2047 o)) c).drawn
  else t

/-- The ideal CALREF result less the ideal ZERO result of a mode, in units of 2⁻²⁴ LSB (R77, R78). -/
def idealSpan (se : Bool) : Int :=
  let single : Int := ((Config.calref16 : Int) - 16 * 32768) * 2 ^ 20
  if se then single else single / 2

/-- A CALREF visit: the gain trim follows the measured gain error (R78); the ZERO level of the mode is that of its last ZERO visit, the
ideal one before the first (log entry 24). -/
def calrefVisit (s : State) (c : Nat) (v : SarVisit) : State :=
  if s.flag .ADC_CAL_AUTOCAL c then
    let se := w0Se v.w0
    let mean := v.sum / (osrCount v.w0 : Nat)
    let zero := (if se then (s.sarAt c).zeroS else (s.sarAt c).zeroD).getD (idealZero se)
    let span := idealSpan se
    let err := (mean - zero - span) * 2 ^ 20 * span.sign
    let g := (s.fget .ADC_CAL_GAINTRIM c : Int) - trimStep s err span.natAbs
    (s.fset .ADC_CAL_GAINTRIM (clampI 0 65535 g).toNat c).drawn
  else s

/-- The trims that follow a ZERO or CALREF visit (R78). -/
def autoCal (s : State) (c : Nat) (v : SarVisit) : State :=
  if w0Input v.w0 = 6 then zeroVisit s c v else if w0Input v.w0 = 5 then calrefVisit s c v else s

/-- A result written to ADC_RES and ADC_RESINFO, and delivered when DELIV is 1 (R69, R70). -/
def presentResult (s : State) (c : Nat) (v : SarVisit) : State :=
  let op := sarOperand s v
  let t := (((((s.fset .ADC_RES_VALUE op c).fset .ADC_RESINFO_ENTRY v.entry c).fset .ADC_RESINFO_BANK v.bank c).fset
    .ADC_RESINFO_CODE v.code c).fput .ADC_RESINFO_CLIP v.clip c).fset .ADC_RESINFO_SEQ (s.fget .ADC_RESINFO_SEQ c + 1) c
  let t := autoCal t c v
  if w1Deliv v.w1 then
    t.arrive (w1Lane v.w1) (s.ltc + (if s.ltc % 2 = 0 then 4 else 3)) ⟨op, true, w1Tag v.w1, 0, c⟩
  else t

/-- RESULT_PRESENT: the oldest result whose edge has come is presented (R62, R69). -/
def execResultPresent (c : Fin 16) (s : State) : Host.Outcome State Fault Refusal :=
  let x := s.sarAt c
  match x.results with
  | [] => .next s
  | r :: rest =>
    if r.readyAt ≤ s.now then .next (presentResult (s.setSar c { x with results := rest }) c r.visit) else .next s

/-- The converter's enable cleared: no later hold edge, and no result whose edge has not passed (R76). -/
def sarStop (s : State) (c : Nat) : State :=
  s.setSar c { s.sarAt c with visit := none, results := (s.sarAt c).results.filter fun r => r.readyAt < s.now }

/-- A write of ADC_CTRL (R76). -/
def adcCtrlWrite (s : State) (v : Nat) : State :=
  let old := s.fget .ADC_CTRL_EN
  (List.range 16).foldl (fun t c => if bit old c && !bit v c then sarStop t c else t) (s.fset .ADC_CTRL_EN v)

/-- The trims the sequencer sets from 64 conversions of ZERO and 64 of CALREF, given their sums (R77): the gain that takes the span
between them to its ideal value, to the nearest step (log entry 96). -/
def sarCalibrate (s : State) (c zr calref : Nat) : State :=
  let off := roundDiv 0 (8 * ((zr : Int) - 64 * 32768)) 64
  let o := clampI (-2048) 2047 off
  let span := 16 * ((calref : Int) - zr)
  let gain := roundDiv 0 (((Config.calref16 : Int) - 16 * 32768) * 64 * 2 ^ 20 * span.sign) (max 1 span.natAbs)
  (s.fset .ADC_CAL_OFFTRIM (twos 12 o) c).fset .ADC_CAL_GAINTRIM (clampI 0 65535 (gain - 2 ^ 20 + 32768)).toNat c

end Sys2Proof.Machine
end

