-- ==== Sys2Proof/Machine/TwinBase.lean ====
section
/-! DEFINITION. Twin pairing: roles, claims and releases of output ownership, takeover, the split case
(spec/11_twin_pairing.md, R360 to R362, R383 to R389). -/

namespace Sys2Proof.Machine

/-- The roles of R383. -/
def roleInit : Nat := 0
def roleSolo : Nat := 1
def rolePrimary : Nat := 2
def roleStandby : Nat := 3
def roleJoining : Nat := 4
def roleDetached : Nat := 5

def State.role (s : State) : Nat := s.fget .TTH_STAT_ROLE

/-- Tether and Bridle are both lost. -/
def bothLost (s : State) : Bool := !s.flag .TTH_STAT_TETHER && !s.flag .TTH_STAT_BRIDLE

/-- READY (an image applied in place is GOOD once it is first 1 in STANDBY, R420): LOCKED, not DIVERGED, and in STANDBY DIVN good frames since it was entered (R384, R390). -/
def readyUpdate (s : State) : State :=
  let ready := s.flag .TTH_STAT_LOCKED && !s.flag .TTH_STAT_DIVERGED && s.twin.joined
  let t := s.fput .TTH_STAT_READY ready
  if ready && s.role == roleStandby && s.img.fresh then
    { setSlotState t s.img.slot 4 with img := { s.img with fresh := false } }
  else t

/-- A claim decided in this tick: OWN is driven active in the next one; the keepalive count restarts (R360, R362). -/
def ownClaim (s : State) : State :=
  if s.flag .TTH_STAT_OWN || s.twin.claimAt.isSome then s
  else { s with twin := { s.twin with claimAt := some s.now, keepFrom := s.now, releaseAt := none } }

/-- The device holds OWN or has decided to claim it. -/
def holdsOwn (s : State) : Bool := s.flag .TTH_STAT_OWN || s.twin.claimAt.isSome

/-- A release decided in this tick: output ownership ends at once, OWN goes inactive LEAD ticks later (R360). -/
def ownRelease (s : State) : State :=
  if holdsOwn s then
    let t := { s with twin := { s.twin with claimAt := none, releaseAt := some (s.twin.releaseAt.getD s.now) } }
    settleAll (t.fset .TTH_STAT_OWNED 0) true
  else s

/-- A change of role, with its ring and its notice (R383, R479). -/
def setRole (s : State) (r : Nat) : State :=
  let t := { s.fset .TTH_STAT_ROLE r with twin := { s.twin with hand := false, handed := false } }
  let t := if s.role = roleStandby then
    readyUpdate { t with twin := { t.twin with joined := false, snaps := [], apply := [], divRun := 0, goodRun := 0 } } else t
  let u := t.ring 130
  u.notice 2 r (leBytes 4 (u.regWord (regDesc .TTH_STAT) 0 0))

/-- JOINING begins from its first step, or begins again after a loss of Tether (R390). -/
def restartJoin (s : State) : State :=
  { s with twin := { s.twin with
      join := 1, imgGot := [], sync := [], bulkRx := [], wraps := Vector.replicate 8 none, align := Vector.replicate 8 0 } }

/-- JOINING is entered: TOOK clears, the acquisition of the timebase discipline begins (R381, R383). -/
def enterJoining (s : State) : State :=
  let t := restartJoin (setRole s roleJoining)
  let t := { t with twin := { t.twin with
    acq := true, winAt := t.now, sum := 0, cnt := 0, mean := none, okFrom := none, badFrom := none, rxL := none } }
  readyUpdate ((t.fset .TTH_STAT_TOOK 0).fset .TTH_STAT_LOCKED 0)

/-- The takeover of a standby (R385). -/
def takeover (s : State) : State := ownClaim ((setRole s rolePrimary).fset .TTH_STAT_TOOK 1)

/-- A standby may take over (R384). -/
def eligible (s : State) : Bool :=
  s.img.applied && !s.flag .CUP_STAT_SHUT && (s.flag .TTH_STAT_READY || s.flag .TTH_CFG_DIVTAKE)

/-- The switch-node monitor reports no switching (R387). -/
def noSwitching (s : State) : Bool := decide (3 ≤ s.monQuiet) && s.fget .TTH_SNSCFG_MASK != 0 &&
  teamRuns s (s.fget .TTH_SNSCFG_TEAM)

/-- SPLIT sets when both links are lost while switching is seen: at the owner, and at a standby whose partner's OWN is active
(R388). -/
def splitCheck (s : State) : State :=
  let here := (s.role == rolePrimary && s.flag .TTH_STAT_OWN) || (s.role == roleStandby && s.flag .TTH_STAT_OWNIN)
  if bothLost s && here && s.flag .TTH_STAT_SWITCHING && !s.flag .TTH_STAT_SPLIT then (s.hset .TTH_STAT_SPLIT 1).ring 132
  else s

/-- A SOLO device claims: at its start, and again after a release (R362, R383). -/
def soloMayClaim (s : State) : Bool :=
  s.role == roleSolo && !s.flag .CUP_STAT_SHUT && !s.flag .TTH_STAT_KEEPEXP && !s.flag .TTH_STAT_OWNIN &&
    !holdsOwn s && s.twin.releaseAt.isNone

/-- A device in INIT claims alone: the preferred seat after 64 µs with no partner seen, the other after WAITB with neither link
(R383, R395). -/
def initMayClaim (s : State) : Bool :=
  s.role == roleInit && s.img.applied && s.flag .TTH_CFG_PAIRED && !s.flag .TTH_STAT_SEATERR && !s.flag .TTH_STAT_OWNIN &&
    (if s.fget .TTH_STAT_SEAT = s.fget .TTH_CFG_PREFSEAT then decide (64 * usTicks ≤ s.now) && !s.twin.seen
     else bothLost s && decide (s.twin.aloneFrom + s.fget .TTH_CFG_WAITB * msTicks ≤ s.now))

/-- A standby takes over: by the fast path, or by the split path (R384); one that has just handed over waits for its partner's
claim, or for the 100 µs of R392 (log entry 30). -/
def standbyTakes (s : State) : Bool :=
  s.role == roleStandby && eligible s && !s.twin.handed && (!s.flag .TTH_STAT_OWNIN || (bothLost s && noSwitching s))

/-- The transitions and claims whose condition is a state of the device: each takes effect in the tick in which it is met
(R362, R383, R384). -/
def roleCheck (s : State) : State :=
  let s := if s.role == roleInit && s.img.applied && !s.flag .TTH_CFG_PAIRED then setRole s roleSolo else s
  if initMayClaim s then ownClaim (setRole s rolePrimary)
  else if soloMayClaim s then ownClaim s
  else if standbyTakes s then takeover s
  else s

/-- The device detaches: a primary releases (R383). -/
def detach (s : State) : State :=
  if s.role = rolePrimary then setRole (ownRelease s) roleDetached
  else if s.role = roleStandby ∨ s.role = roleJoining then setRole s roleDetached
  else s

/-- What a release for the keepalive or the shut-down state makes of the role: SOLO stays (R362). -/
def releaseCause (s : State) : State :=
  if s.role = roleSolo then ownRelease s else detach (ownRelease s)

/-- The conflict rule (R389): a primary by takeover releases; then DETACHED, or JOINING when `rejoin` and Tether is trained. -/
def conflict (s : State) (rejoin : Bool) : State :=
  let t := ((ownRelease s).hset .TTH_STAT_OWNCONF 1).ringIf (!s.flag .TTH_STAT_OWNCONF) 133
  if rejoin && s.flag .TTH_STAT_TETHER then enterJoining t else setRole t roleDetached

/-- The tick's part of the claims: OWN is driven active in the tick after a claim (R360). -/
def ownTick (s : State) : State :=
  match s.twin.claimAt with
  | some c =>
    if !s.flag .TTH_STAT_OWN && decide (c < s.now) then
      { (s.fset .TTH_STAT_OWN 1) with twin := { s.twin with ownAt := s.now } }
    else s
  | none => s

/-- The level of the OWN ball; `none` until an image has been applied (R357). -/
def ownPin (s : State) : Option Bool := if s.img.applied then some (s.flag .TTH_STAT_OWN) else none

end Sys2Proof.Machine
end

