-- ==== Sys2Proof/Machine/Pwm.lean ====
section
/-! DEFINITION. The PWM generator: start, stop, wraps, transfers, early commit, period override, actions, events, forces and
refresh (spec/04_pwm_generator.md, dither mode of spec/05_spire_edges.md). -/

namespace Sys2Proof.Machine

/-! ### Events (R66, R167, R168) -/

/-- The prescale value of event `e` (wrap, period, compares A to D). -/
def evPrescale (s : State) (n e : Nat) : Nat :=
  s.fget ([Fld.PWM_CH_EVCFG_PSWRAP, .PWM_CH_EVCFG_PSPRD, .PWM_CH_EVCFG_PSA, .PWM_CH_EVCFG_PSB, .PWM_CH_EVCFG_PSC].getD e
    .PWM_CH_EVCFG_PSD) n

/-- Event `e` of channel `n`: the slot table takes it, the Harness takes it by the enable and the prescaler. -/
def pwmEvent (s : State) (n e : Nat) : State :=
  let t := slotEvent s (6 * n + e)
  if t.fbit .PWM_CH_EVCFG_EN e n then
    let c := t.chanAt n
    if vget c.psc e = 0 then
      (t.setChan n { c with psc := vput c.psc e (evPrescale t n e) }).raise (if e < 2 then n else 24 + n)
    else t.setChan n { c with psc := vput c.psc e (vget c.psc e - 1) }
  else t

/-! ### REF and the action points (R130, R131, R189) -/

/-- An action on REF. -/
def refAction (code : Nat) (r : Bool) : Bool :=
  match code with
  | 0 => r
  | 1 => false
  | 2 => true
  | _ => !r

/-- REF after a tick's actions. -/
def refAfter (r : Bool) (acts : List (Nat × Nat)) : Bool := acts.foldl (fun b a => refAction a.2 b) r

/-- An action put in its place by fine position, then wrap, A, B, C, D. -/
def actInsert : List (Nat × Nat) → Nat × Nat → List (Nat × Nat)
  | [], a => [a]
  | b :: t, a => if a.1 < b.1 then a :: b :: t else b :: actInsert t a

/-- The fine position of the last action. -/
def lastFine (acts : List (Nat × Nat)) : Nat := (acts.getLast?.map (fun a => a.1 / 8)).getD 0

/-- An output as it stood before this tick's actions, with what the edges now withdrawn have set in NARROW (R131, R175). -/
def undoOut (s : State) (n : Nat) (low : Bool) : State :=
  let t := if (outAt s n low).narrow then narrowPut s (lineOf n low) false else s
  setOut t n low (if low then (s.chanAt n).outL0 else (s.chanAt n).outH0)

/-- An action point at fine position `fine` of this tick (`ord`: 0 wrap, 1 to 4 compares A to D): REF at the end of the
tick and the place of its one edge follow from the tick's actions in order (R131). -/
def takeAction (s : State) (n fine ord code : Nat) : State :=
  if code = 0 then s else
  let c := s.chanAt n
  let acts := actInsert c.acts (8 * fine + ord, code)
  let undo := refAfter c.ref0 c.acts != c.ref0
  let t := if undo && !held s n false then undoOut s n false else s
  let t := if undo && !held s n true then undoOut t n true else t
  let t := t.setChan n { t.chanAt n with acts := acts, ref := refAfter c.ref0 acts }
  settle t n (t.fine0 + lastFine acts)

/-- Bits of a 4-bit number in reverse order (R189). -/
def bitrev4 (p : Nat) : Nat := bits p 3 1 + 2 * bits p 2 1 + 4 * bits p 1 1 + 8 * bits p 0 1

/-- The tick of the count and the fine position at which an edge value acts (R12, R189). -/
def edgeActs (s : State) (n v : Nat) : Nat × Nat :=
  if chDith s n then (v / 128 + b2n (decide (bitrev4 (s.fget .SPR_DITH_IDX n) < bits v 3 4)), 0)
  else (v / 128, v % 128)

/-- The action fields: wrap, A, B, C, D. -/
def actionOf (s : State) (n ord : Nat) : Nat :=
  s.fget ([Fld.PWM_CH_ACT_WRAP, .PWM_CH_ACT_A, .PWM_CH_ACT_B, .PWM_CH_ACT_C].getD ord .PWM_CH_ACT_D) n

/-- COMPARE_MATCH: a running channel past its first wrap reaches a compare in the tick of its count (R130, R131, R147). -/
def execCompareMatch (n : Fin 24) (x : Fin 4) (s : State) : Host.Outcome State Fault Refusal :=
  let c := s.chanAt n
  let e := edgeActs s n (active s n (2 + x))
  if chRun s n && c.live && e.1 == c.cnt && decide (c.cnt < c.len) && !bit c.done x then
    let t := s.setChan n { c with done := setBit c.done x true }
    .next (pwmEvent (takeAction t n e.2 (1 + x) (actionOf t n (1 + x))) n (2 + x))
  else .next s

/-- PERIOD_EVENT: in the tick whose count is L − 1 (R167). -/
def execPeriodEvent (n : Fin 24) (s : State) : Host.Outcome State Fault Refusal :=
  let c := s.chanAt n
  if chRun s n && c.live && c.cnt + 1 == c.len && c.prdAt != some s.now then
    .next (pwmEvent (s.setChan n { c with prdAt := some s.now }) n 1)
  else .next s

/-! ### Refresh (R153, R154) -/

/-- REFW is valid with a period and a DTF (R154). -/
def refreshValid (w p dtf : Nat) : Bool := decide (w < p) && decide (dtf < w * 128)

/-- The check of R154 when the active P or DTF has changed. -/
def refreshCheck (s : State) (n : Nat) : State :=
  if s.fget .PWM_CH_REFR_REFN n ≠ 0 && !refreshValid (s.fget .PWM_CH_REFR_REFW n) (active s n 0) (active s n 7) then
    s.fset .PWM_CH_REFR_REFN 0 n
  else s

/-- A write of REFR: a failing value is stored with REFN = 0 (R154). -/
def refrWrite (s : State) (n v : Nat) : State :=
  let t := s.writeNamed .PWM_CH_REFR v n
  refreshCheck (t.setChan n { t.chanAt n with before := (t.chanAt n).before.set 8 (t.fget .PWM_CH_REFR_REFN n) }) n

/-- REFRESH_END: REF is released (R153). -/
def execRefreshEnd (n : Fin 24) (s : State) : Host.Outcome State Fault Refusal :=
  let c := s.chanAt n
  match c.refrEnd with
  | some e => if e ≤ s.now then .next (settle (s.setChan n { c with refrEnd := none }) n (128 * e)) else .next s
  | none => .next s

/-! ### Turn-on after the dead time (R150, R151, R173, R175) -/

/-- The position a demanded output turns on at: once demanded, and once its complement has been off for the dead time. -/
def turnOnAt (s : State) (n : Nat) (low : Bool) : Option Nat :=
  let o := outAt s n low
  let x := outAt s n !low
  match o.dem with
  | none => none
  | some d =>
    if o.on || x.on then none
    else some (match x.offAt with
      | none => d
      | some q => max d (q + deadTime s n low))

/-- DEADTIME_TURN_ON. -/
def execDeadtimeTurnOn (n : Fin 24) (low : Bool) (s : State) : Host.Outcome State Fault Refusal :=
  match turnOnAt s n low with
  | none => .next s
  | some p =>
    if p < 128 * (s.now + 1) && wanted s n low then
      let p := max p s.fine0
      let i := lineOf n low
      let o := outAt s n low
      let q := placeOn s n i p
      let short := match o.spOffAt with | some f => decide (q < f + 32) | none => false
      let q2 := if short then o.spOffAt.getD 0 + 32 else q
      let t := placeEdge s n low { o with on := true, spOn := true, spOnAt := q2, tapOn := tapOf s i q2 } q2
      .next (if short then setNarrow t n low else t)
    else .next s

/-! ### Start and stop (R133 to R136, R170) -/

/-- The copy of all preloads into the active registers; the pending flag clears (R133, R135). -/
def copyAll (s : State) (n : Nat) : State :=
  let t := (List.range 8).foldl (fun u r => setActive u n r (preload u n r)) s
  refreshCheck (t.fset .PWM_CH_STAT_PEND 0 n) n

/-- A channel starts in this tick (R133). -/
def startChan (s : State) (n : Nat) : State :=
  let t := copyAll s n
  let p := active t n 0
  let k := (p - active t n 1 % p) % p
  let c := t.chanAt n
  let t := t.setChan n { c with
    cnt := if k = 0 then p else k, len := p, live := false, ref := false, ref0 := false, acts := [], stopAt := none,
    waitAt := none, startNext := false, loadAt := none, done := 0, psc := Vector.replicate 6 0, low := true, full := 0,
    refrEnd := none, cutIn := c.cutIn || t.flag .PWM_CH_STAT_CUT n }
  let t := (t.fset .PWM_CH_STAT_RUN 1 n).fset .SPR_DITH_IDX 0 n
  settle t n t.fine0

/-- A channel's counter stops at count 0 (R134, R170): its outputs go inactive. -/
def stopChan (s : State) (n : Nat) : State :=
  let c := s.chanAt n
  let t := s.setChan n { c with
    cnt := 0, live := false, ref := false, ref0 := false, acts := [], stopAt := none, refrEnd := none, full := 0, done := 0,
    immPrd := none, early := [] }
  let t := (t.fset .PWM_CH_STAT_RUN 0 n).fset .SPR_DITH_IDX 0 n
  let t := settle t n t.fine0
  if teamRuns t (chTeam t n) then t else thresholdsOf t (chTeam t n)

/-- The disable of a channel acts (R170). -/
def disableActs (s : State) (n : Nat) : State :=
  let t := stopChan s n
  let t := (List.range 8).foldl (fun u r => setPreload u n r (active u n r)) t
  let t := ((t.fset .PWM_CH_STAT_PEND 0 n).fset .PWM_CH_FORCE_FH 0 n).fset .PWM_CH_FORCE_FL 0 n
  (t.fset .PWM_CH_STAT_CUTCNT 0 n).setChan n { t.chanAt n with disNext := false, forceH := 0, forceL := 0, cutIn := false }

/-- A channel newly enabled: it starts in the next tick, at the leading channel's next wrap, or with its Team (R136). -/
def enableActs (s : State) (n : Nat) : State :=
  let t := chTeam s n
  let c := s.chanAt n
  if !teamOn s t then s
  else if (List.range 24).any (fun x => x != n && chEn s x && chTeam s x == t && chRun s x) then
    s.setChan n { c with waitAt := some s.now }
  else s.setChan n { c with startNext := true }

/-- A write of PWM_CH[n]_CFG (R149, R166, R170). -/
def chCfgOp (s : State) (n v : Nat) : State :=
  let c := s.chanAt n
  if chEn s n then
    if bit v 0 then s else (s.fset .PWM_CH_CFG_EN 0 n).setChan n { c with disNext := true, waitAt := none, startNext := false }
  else if 2 ≤ bits v 4 2 then s
  else
    let t := s.writeNamed .PWM_CH_CFG v n
    if bit v 0 then enableActs t n else t

/-- A write of PWM_CH[n]_ACT (R166). -/
def chActOp (s : State) (n v : Nat) : State := if chEn s n then s else s.writeNamed .PWM_CH_ACT v n

/-- A write of PWM_TEAMRUN: each bit that changes starts, restarts or stops its Team (R133 to R135). -/
def teamRunOp (s : State) (v : Nat) : State :=
  let old := s.fget .PWM_TEAMRUN_RUN
  let t := s.fset .PWM_TEAMRUN_RUN v
  (List.range 24).foldl (fun u n =>
    let k := chTeam u n
    let c := u.chanAt n
    if !bit old k && bit v k && chEn u n then u.setChan n { c with startNext := true, waitAt := none }
    else if bit old k && !bit v k then
      u.setChan n { c with stopAt := if chRun u n then some u.now else none, waitAt := none, startNext := false }
    else u) t

/-! ### Preload writes and the immediate period override (R139 to R144, R148) -/

/-- A write on a preload register from a writer of rank `rank` (lane groups 0 to 3, the fabric 4): of two in one tick the
lower rank is kept (R143); one in the tick of a transfer waits for the next (R141). -/
def preloadOp (s : State) (n r v rank : Nat) : State :=
  let c := s.chanAt n
  let same := c.wrote.filter (fun w => w.1 = r)
  let s1 := if same.isEmpty then s else s.hset .PWM_CH_STAT_COLL 1 n
  if same.any (fun w => w.2.1 < rank) then s1
  else
    let w := if r = 0 then max 8 (v % 2 ^ 24) else v
    let old := match same.head? with | some x => x.2.2 | none => preload s1 n r
    let s2 := setPreload s1 n r w
    let c2 := { c with
      wrote := (r, rank, old) :: c.wrote
      immPrd := if r = 0 && s1.flag .PWM_CH_CFG_PRDIMM n && chRun s1 n then some w else c.immPrd }
    let s3 := s2.setChan n c2
    if c.xferAt = some s.now then setStatus (s3.fset .PWM_CH_STAT_PEND 1 n) .PWM_CH_STAT_LATE n else s3

/-- The table of R148, at the end of the tick the value landed in. -/
def overrideActs (s : State) (n : Nat) : State :=
  let c := s.chanAt n
  match c.immPrd with
  | none => s
  | some p =>
    let t := setActive (s.setChan n { c with immPrd := none }) n 0 p
    let c := t.chanAt n
    let t :=
      if c.cnt + 1 ≤ p then t.setChan n { c with len := p }
      else if c.cnt + 1 < c.len then
        setStatus (t.setChan n { c with len := c.cnt + 1 }) .PWM_CH_STAT_PRDSHORT n
      else t
    refreshCheck t n

/-! ### Load-all and early commit (R140, R141, R145, R146, R190) -/

/-- The evaluation of one compare for early application (R145, R146). -/
def earlyCompare (n : Nat) (s : State) (x : Nat) : State :=
  let a := active s n (2 + x)
  let p := preload s n (2 + x)
  let c := s.chanAt n
  let o := (edgeActs s n a).1
  let w := (edgeActs s n p).1
  if a = p then s
  else if c.cnt < o && c.cnt < w then s.setChan n { c with early := (2 + x, p) :: c.early.filter (fun e => e.1 ≠ 2 + x) }
  else if c.cnt = o || c.cnt = w then setStatus s .PWM_CH_STAT_LATE n
  else s

/-- A load-all on an enabled channel. In a wrap tick nothing is transferred, and a transfer made there is taken back
(R141). -/
def loadChan (s : State) (n : Nat) : State :=
  let c := s.chanAt n
  let t := (s.setChan n { c with loadAt := some s.now }).fset .PWM_CH_STAT_PEND 1 n
  if c.wrapAt = some s.now then
    let t := if c.xferAt = some s.now then
        let u := (List.range 8).foldl (fun u r => setActive u n r (c.before.getD r 0)) t
        let u := refreshCheck (u.fset .PWM_CH_REFR_REFN (c.before.getD 8 0) n) n
        u.setChan n { u.chanAt n with len := c.before.getD 0 0, xferAt := none }
      else t
    setStatus t .PWM_CH_STAT_LATE n
  else if chRun s n ∧ c.len ≤ c.cnt then t
  else if s.flag .PWM_TEAM_CFG_EARLY (chTeam s n) then
    (List.range 4).foldl (earlyCompare n) t
  else t

/-- Load-all bits set by a write or a COMMIT (R140, R142). -/
def loadAllOp (s : State) (mask : Nat) : State :=
  (List.range 24).foldl (fun t n => if chEn t n && bit (mask % 256) (chTeam t n) then loadChan t n else t) s

/-- PWM_TEAMLOAD reads 1 while an enabled channel of the Team is pending (R140). -/
def teamLoadRead (s : State) : Nat :=
  (List.range 8).foldl (fun a t => a + b2n ((teamChans s t).any fun n => s.flag .PWM_CH_STAT_PEND n) * 2 ^ t) 0

/-- The oldest entry leaves a group's queue: the next one follows in the next tick at the earliest (R142, R247). -/
def dutyLeaves (s : State) (g : Nat) (q : List DutyEntry) : State :=
  { s.setDuty g q with dutyNext := vput s.dutyNext g (s.now + 1) }

/-- DUTY_LANDING: the oldest entry of a group's queue lands 3 ticks after it entered, one a tick (R142, R229, R247). -/
def execDutyLanding (g : Fin 4) (s : State) : Host.Outcome State Fault Refusal :=
  if s.now < vget s.dutyNext g then .next s
  else match s.dutyAt g with
  | [] => .next s
  | .duty e _ ch reg v :: q => if e + 3 ≤ s.ltc then .next (preloadOp (dutyLeaves s g q) ch reg v g) else .next s
  | .commit e _ mask :: q => if e + 3 ≤ s.ltc then .next (loadAllOp (dutyLeaves s g q) mask) else .next s

/-! ### The wrap (R129, R134, R138, R140, R156, R158) -/

/-- ESCL sets on a channel (R158, R169). -/
def escalate (s : State) (n : Nat) : State :=
  let t := setStatus (s.setChan n { s.chanAt n with escHold := true }) .PWM_CH_STAT_ESCL n
  settle t n t.fine0

/-- The cut at a wrap: the count of cut periods, the release, the escalation (R156, R158 to R160). -/
def wrapCut (s : State) (n : Nat) : State :=
  let c := s.chanAt n
  let named := s.fget .PWM_CH_TRIPMASK_MASK n &&& s.reinPrev != 0
  let t := s.fset .PWM_CH_STAT_CUTCNT (if c.cutIn then min 255 (s.fget .PWM_CH_STAT_CUTCNT n + 1) else 0) n
  let t := if named then t else t.fset .PWM_CH_STAT_CUT 0 n
  let t := t.setChan n { c with
    cutIn := t.flag .PWM_CH_STAT_CUT n, escHold := c.escHold && (named || t.flag .PWM_CH_STAT_ESCL n) }
  let e := t.fget .PWM_CH_CFG_ESC n
  if e ≠ 0 && decide (e ≤ t.fget .PWM_CH_STAT_CUTCNT n) && !t.flag .PWM_CH_STAT_ESCL n then
    let u := escalate t n
    if u.flag .PWM_CH_CFG_ESCTEAM n then
      (teamChans u (chTeam u n)).foldl (fun v x =>
        if x != n && v.flag .PWM_CH_CFG_ESCTEAM x && !v.flag .PWM_CH_STAT_ESCL x then escalate v x else v) u
    else u
  else t

/-- The lag Δ of R138. -/
def phaseShift (p new old : Nat) : Int :=
  let d := ((new : Int) - old) % (p : Int)
  if d < (p : Int) - (p / 2 : Nat) then d else d - p

/-- The wrap transfer: the preloads as they stood at the end of the tick before, with the phase moved in this period
(R138, R140, R141). -/
def wrapTransfer (s : State) (n : Nat) : State :=
  let c := s.chanAt n
  let late := c.loadAt = some s.now
  if s.flag .PWM_CH_STAT_PEND n && !late then
    let before := (List.range 8).map (active s n) ++ [s.fget .PWM_CH_REFR_REFN n]
    let value (u : State) (r : Nat) : Nat :=
      match (c.wrote.filter (fun w => w.1 = r)).head? with | some w => w.2.2 | none => preload u n r
    let t := (List.range 8).foldl (fun u r => setActive u n r (value u r)) s
    let p := active t n 0
    let t := t.setChan n { t.chanAt n with
      len := ((p : Int) + phaseShift p (active t n 1) (before.getD 1 0)).toNat, before := before, xferAt := some s.now }
    let t := refreshCheck (t.fset .PWM_CH_STAT_PEND 0 n) n
    if c.wrote.isEmpty then t else setStatus (t.fset .PWM_CH_STAT_PEND 1 n) .PWM_CH_STAT_LATE n
  else
    let t := s.setChan n { c with len := active s n 0 }
    if late then setStatus t .PWM_CH_STAT_LATE n else t

/-- The refresh at a wrap (R153): `full` is whether the period just ended was full-on. A refresh off-pulse that still runs goes on. -/
def wrapRefresh (s : State) (n : Nat) (full : Bool) : State :=
  let c := s.chanAt n
  let k := if full then c.full + 1 else 0
  let g := s.fget .PWM_CH_REFR_REFN n
  if g ≠ 0 ∧ g ≤ k then
    (s.setChan n { c with full := 0, refrEnd := some (s.now + s.fget .PWM_CH_REFR_REFW n) }).hset .PWM_CH_STAT_REFRESH 1 n
  else s.setChan n { c with full := k }

/-- The end of a monitor period; it may show a split, or let a standby take over (R384, R387, R388). The first wrap after a start only
begins one. -/
def monitorPeriod (s : State) (first : Bool) : State :=
  if first then { s with monEdge := false, monArmed := bothLost s } else
  let quiet := s.monArmed && !s.monEdge && s.fget .TTH_SNSCFG_MASK != 0
  roleCheck (splitCheck { s.fput .TTH_STAT_SWITCHING s.monEdge with
    monEdge := false, monQuiet := if quiet then s.monQuiet + 1 else 0, monArmed := bothLost s })

/-- What the wrap of a Team does beside its leading channel: threshold preloads, channels that wait, the monitor
(R103, R132, R136, R387). -/
def teamWrapped (s : State) (t : Nat) (first : Bool) : State :=
  let u := thresholdsOf s t
  let u := (teamChans u t).foldl (fun v n =>
    match (v.chanAt n).waitAt with
    | some w => if w < v.now && !chRun v n then startChan v n else v
    | none => v) u
  if u.fget .TTH_SNSCFG_TEAM = t then monitorPeriod u first else u

/-- PWM_WRAP. The tick in which the leading channel stops is no wrap of its Team (log entry 100). -/
def execPwmWrap (n : Fin 24) (s : State) : Host.Outcome State Fault Refusal :=
  let c := s.chanAt n
  if !(chRun s n && decide (c.len ≤ c.cnt)) then .next s else
  let full := c.live && !c.low && !c.cutIn
  let lead := leading s (chTeam s n) == some n.val
  let t := wrapCut (s.setChan n { c with cnt := 0 }) n
  if (match c.stopAt with | some w => decide (w < s.now) | none => false) then .next (stopChan t n)
  else
    let t := wrapTransfer t n
    let t := t.fset .SPR_DITH_IDX (if c.live then t.fget .SPR_DITH_IDX n + 1 else 0) n
    let t := t.setChan n { t.chanAt n with live := true, wrapAt := some s.now, done := 0, low := false }
    let t := wrapRefresh t n full
    let t := settle t n t.fine0
    let t := t.setChan n { t.chanAt n with outH0 := (t.chanAt n).outH, outL0 := (t.chanAt n).outL }
    let t := takeAction t n 0 0 (actionOf t n 0)
    let t := pwmEvent t n 0
    .next (if lead then teamWrapped t (chTeam t n) (!c.live) else t)

/-! ### Forces and status (R160 to R162) -/

/-- A write of FORCE: it acts from the next tick; a value that makes both outputs active is refused there (R161, R162). -/
def forceOp (s : State) (n v : Nat) : State :=
  let t := s.writeNamed .PWM_CH_FORCE v n
  if bits v 0 2 = 2 ∧ bits v 2 2 = 2 ∧ t.fget .PWM_CH_CFG_MODE n ≠ 1 then t.hset .PWM_CH_STAT_FORCEERR 1 n else t

/-- A write of STAT: clearing ESCL also clears CUTCNT (R160). -/
def chStatOp (s : State) (n v : Nat) : State :=
  let t := s.writeNamed .PWM_CH_STAT v n
  if bit v 4 && !t.flag .PWM_CH_STAT_ESCL n then t.fset .PWM_CH_STAT_CUTCNT 0 n else t

/-- A write of EVCFG restarts the prescalers (R168). -/
def evcfgOp (s : State) (n v : Nat) : State :=
  let t := s.writeNamed .PWM_CH_EVCFG v n
  t.setChan n { t.chanAt n with psc := Vector.replicate 6 0 }

/-! ### A new tick -/

/-- REF was 0 at an instant of the tick that ends (R153). -/
def lowInTick (c : Chan) : Bool := !c.ref || c.refrEnd.isSome || (!c.ref0 && lastFine c.acts != 0)

/-- A channel enters a new tick: what acts from this tick takes effect, and the counter advances (R129). -/
def chanTick (s : State) (n : Nat) : State :=
  let c := s.chanAt n
  let s := s.setChan n { c with low := c.low || lowInTick c }
  let s := overrideActs s n
  let c := s.chanAt n
  let s := c.early.foldl (fun u e => setActive u n e.1 e.2) (s.setChan n { c with early := [] })
  let s := if c.disNext then disableActs s n else s
  let s := if c.startNext then startChan s n
    else if chRun s n then s.setChan n { s.chanAt n with cnt := (s.chanAt n).cnt + 1 } else s
  let c := s.chanAt n
  let s := s.setChan n { c with
    forceH := s.fget .PWM_CH_FORCE_FH n, forceL := s.fget .PWM_CH_FORCE_FL n, acts := [], ref0 := c.ref, wrote := [] }
  let s := settle s n s.fine0
  let c := s.chanAt n
  let i := lineOf n false
  let out (i : Nat) (o : PwmOut) : PwmOut :=
    { o with narrow := false, tapOn := if o.spOn && o.spOnAt / 128 == s.now then tapOf s i o.spOnAt else o.tapOn }
  let h := out i c.outH
  let l := out (i + 1) c.outL
  s.setChan n { c with outH := h, outL := l, outH0 := h, outL0 := l }

/-- A channel that waits for a leading channel its Team no longer has starts (R136). -/
def waitTick (s : State) (n : Nat) : State :=
  if (s.chanAt n).waitAt.isSome && teamOn s (chTeam s n) && (leading s (chTeam s n)).isNone then startChan s n else s

end Sys2Proof.Machine
end

