-- ==== Sys2Proof/Machine/TwinStream.lean ====
section
/-! DEFINITION. Twin pairing: frames, the streamed state, its application and comparison, the sync of a joining seat
(spec/11_twin_pairing.md, R369 to R382, R390). -/

namespace Sys2Proof.Machine

/-! ### Frames (R369 to R371) -/

/-- The frame types of R370. -/
def tyHealth : Nat := 0x01
def tyState : Nat := 0x02
def tyCtrl : Nat := 0x03
def tyPing : Nat := 0x04
def tyPong : Nat := 0x05
def tyRdreq : Nat := 0x10
def tyRdrsp : Nat := 0x11
def tyBell : Nat := 0x12
def tyBulk : Nat := 0x20
def tyAck : Nat := 0x21

def frameTypes : List Nat := [tyHealth, tyState, tyCtrl, tyPing, tyPong, tyRdreq, tyRdrsp, tyBell, tyBulk, tyAck]
def longFrame (ty : Nat) : Bool := ty == tyState || ty == tyBulk

/-- The body of a frame (R369). -/
def frameBody (ty seq : Nat) (payload : List Nat) : List Nat :=
  let b := [ty, 0] ++ leBytes 2 seq ++ leBytes 2 payload.length ++ payload
  b ++ leBytes 4 (crc32c b)

/-- A received body read: TYPE, SEQ, payload; none for a bad CRC, a wrong length or an unknown TYPE (R370, R371). -/
def frameRead (b : List Nat) : Option (Nat × Nat × List Nat) :=
  let n := b.length
  let ty := b.headD 0
  let len := leNat ((b.drop 4).take 2)
  if n < 10 ∨ len + 10 ≠ n ∨ leNat (b.drop (n - 4)) ≠ crc32c (b.take (n - 4)) ∨ !frameTypes.contains ty then none
  else some (ty, leNat ((b.drop 2).take 2), (b.drop 6).take len)

/-- A frame handed to the transmitter, where it waits for its turn (R371). -/
def sendFrame (s : State) (ty : Nat) (payload : List Nat) : State :=
  { s with twin := { s.twin with txq := s.twin.txq ++ [⟨ty, payload, s.now⟩] } }

/-- A CTRL frame: code and reason, four copies (R370). -/
def sendCtrl (s : State) (code reason : Nat) : State :=
  (List.range 4).foldl (fun t _ => sendFrame t tyCtrl [code, reason, 0, 0]) s

/-- The link carries frames: trained, or in the steps of training that exchange them (R366). -/
def linkUp (s : State) : Bool := s.flag .TTH_STAT_TETHER
def linkTalks (s : State) : Bool := linkUp s || decide (3 ≤ s.twin.step)

/-! ### The transmitter (R364, R371) -/

/-- The HEALTH payload (R372). -/
def healthPayload (s : State) : List Nat :=
  let st := fun f => b2n (s.flag f)
  let age := if s.flag .TTH_STAT_OWN then min (2 ^ 32 - 1) ((s.now - s.twin.ownAt) / usTicks) else 0
  [st .TTH_STAT_SEAT + 2 * s.role + 16 * st .TTH_STAT_OWN + 32 * st .TTH_STAT_OWNED + 64 * st .TTH_STAT_READY +
      128 * st .TTH_STAT_TOOK,
    st .TTH_STAT_BRIDLE + 2 * st .TTH_STAT_SWITCHING + 4 * st .CUP_STAT_SHUT + 8 * b2n s.img.applied +
      16 * st .TTH_CTRL_LANEEN0 + 32 * st .TTH_CTRL_LANEEN1, 0, 0] ++
    leBytes 8 s.ltc ++ leBytes 4 age ++ (if s.img.applied then s.img.digest.take 8 else List.replicate 8 0)

/-- The order in which waiting frames go: the short ones, then the long ones, a STATE frame before a BULK frame that has not begun
(R371). PING and PONG, which go in training only, stand after HEALTH (log entry 89). -/
def shortOrder : List Nat := [tyCtrl, tyRdrsp, tyRdreq, tyBell, tyAck, tyHealth, tyPong, tyPing]
def longOrder : List Nat := [tyState, tyBulk]

/-- The first frame that waits, by an order of types. -/
def nextFrame (s : State) (order : List Nat) : Option TxFrame := order.findSome? fun ty => s.twin.txq.find? (·.ty == ty)

/-- The quarter nanoseconds a body of `n` bytes takes: SOF and EOF 4 ns, and 2 ns a pair of bytes (R364). A tick is five of them. -/
def serialTime (n : Nat) : Nat := 4 * (4 + 2 * ((n + 1) / 2))

/-- The payload as it stands when SOF is sent: HEALTH says the line-time of that tick (R372), PONG the turnaround since its PING in
hundredths of a nanosecond (R366). -/
def payloadAtSof (s : State) (f : TxFrame) : List Nat :=
  if f.ty = tyHealth then healthPayload s
  else if f.ty = tyPong then f.payload.take 8 ++ leBytes 8 (125 * (s.now - f.at_))
  else f.payload

/-- A frame begins on the link, with the SEQ of its class (R369). -/
def startFrame (s : State) (f : TxFrame) : State :=
  let w := s.twin
  let long := longFrame f.ty
  let seq := if long then w.seqL else w.seqS
  let body := frameBody f.ty seq (payloadAtSof s f)
  let w : Twin := { w with tx := w.tx.filter (fun e => e.1 != f.ty) ++ [(f.ty, body)], txq := w.txq.erase f }
  if long then
    { s with twin := { w with
      seqL := (seq + 1) % 65536, longLeft := serialTime body.length, longTy := f.ty, longOff := leNat (f.payload.take 4) } }
  else { s with twin := { w with seqS := (seq + 1) % 65536, shortLeft := serialTime body.length } }

/-- A long frame has left; the 5 µs of a BULK frame's acknowledgement count from here (R371). -/
def longDone (s : State) : State :=
  let w := s.twin
  let out := if w.longTy = tyBulk then
      w.bulkOut.map fun x => if x.off = w.longOff then { x with sentAt := some s.now } else x
    else w.bulkOut
  { s with twin := { w with longTy := 0, bulkOut := out } }

/-- `b` quarter nanoseconds of the link: a short frame under way; a short frame that waits, also inside a long one; the long frame
under way; a long frame that waits (R371). -/
def txRun : Nat → Nat → State → State
  | 0, _, s => s
  | n + 1, b, s =>
    let w := s.twin
    if b = 0 then s
    else if w.shortLeft ≠ 0 then
      let k := min b w.shortLeft
      txRun n (b - k) { s with twin := { w with shortLeft := w.shortLeft - k } }
    else match nextFrame s shortOrder with
    | some f => txRun n b (startFrame s f)
    | none =>
      if w.longTy ≠ 0 then
        let k := min b w.longLeft
        let t := { s with twin := { w with longLeft := w.longLeft - k } }
        txRun n (b - k) (if t.twin.longLeft = 0 then longDone t else t)
      else match nextFrame s longOrder with
      | some f => txRun n b (startFrame s f)
      | none => s

/-- A tick of the transmitter. -/
def txTick (s : State) : State := if linkTalks s then txRun 8 5 s else s

/-- The link is down: what waits or is under way is lost. -/
def txClear (s : State) : State := { s with twin := { s.twin with txq := [], shortLeft := 0, longLeft := 0, longTy := 0, laneStop := false } }

/-- A STATE frame waits or is under way (R377). -/
def stateBusy (s : State) : Bool := s.twin.longTy == tyState || s.twin.txq.any (·.ty == tyState)

/-- A received frame of type `ty`: a bad one is discarded and counted (R371); one of another type does nothing here. -/
def rxFrame (s : State) (ty : Nat) (body : List Nat) (op : Nat → List Nat → State → State) : State :=
  if !linkTalks s then s else
  match frameRead body with
  | none => s.fcount .TTH_ERRCNT_CRCERR
  | some (t, seq, p) =>
    if t = ty then op seq p (if longFrame ty then { s with twin := { s.twin with rxL := some seq } } else s) else s

/-! ### The LAE record (R378) -/

def laeFlags (s : State) : Nat :=
  b2n (s.flag .LAE_FEED_PRESTAT_DONE 0) + 2 * b2n (s.flag .LAE_FEED_PRESTAT_RAMP 0) +
  4 * b2n (s.flag .LAE_FEED_PRESTAT_DONE 1) + 8 * b2n (s.flag .LAE_FEED_PRESTAT_RAMP 1) +
  16 * s.fget .LAE_XSTAT_ACTIVE + 32 * s.fget .LAE_XSTAT_NONE + 64 * s.fget .LAE_XSTAT_BUSY

/-- A feed's angle register: line ticks and their fraction. -/
def feedAngle (s : State) (f : Nat) : Nat := s.fget .LAE_FEED_ANGLE_FRAC f + 65536 * s.fget .LAE_FEED_ANGLE_TICKS f

/-- The LAE record as this device has it (R378). -/
def laeRecord (s : State) : List Nat :=
  leBytes 4 (feedAngle s 0) ++ leBytes 4 (feedAngle s 1) ++
  leBytes 6 (s.fget .LAE_FEED_PREVC_PREVC 0) ++ leBytes 6 (s.fget .LAE_FEED_PREVC_PREVC 1) ++ leBytes 2 (laeFlags s) ++
  (List.range 3).flatMap (fun i => leBytes 6 (s.fget .LAE_REM_PSI i)) ++ [s.fget .LAE_REMV_VALID, 0] ++
  (List.range 12).flatMap (fun j => leBytes 2 (effAngle s j).floor.toNat) ++ List.replicate 62 0

/-- The little-endian number of `n` bytes at offset `o`. -/
def leAt (l : List Nat) (o n : Nat) : Nat := leNat ((l.drop o).take n)

/-- A received LAE record overwrites the fields it names (R378). -/
def applyLae (s : State) (r : List Nat) : State :=
  let fl := leAt r 20 2
  let feed := fun (t : State) (f : Nat) =>
    let t := if t.flag .LAE_FEED_PRECFG_VCSRC f then t else prevcWrite t f (leAt r (8 + 6 * f) 6)
    (t.fput .LAE_FEED_PRESTAT_DONE (bit fl (2 * f)) f).fput .LAE_FEED_PRESTAT_RAMP (bit fl (2 * f + 1)) f
  let t := feed (feed s 0) 1
  let t := if t.flag .LAE_XSTAT_BUSY || bit fl 6 then t
    else (t.fput .LAE_XSTAT_ACTIVE (bit fl 4)).fput .LAE_XSTAT_NONE (bit fl 5)
  let t := (List.range 3).foldl (fun u i => u.fset .LAE_REM_PSI (leAt r (22 + 6 * i) 6) i) t
  let t := t.fput .LAE_REMV_VALID (bit (leAt r 40 1) 0)
  (List.range 12).foldl (fun u j =>
    u.setPair j { u.pairAt j with eff := some (leAt r (42 + 2 * j) 2 : Nat) }) t

/-! ### Snapshots (R376, R377) -/

def entKind (s : State) (e : Nat) : Nat := s.fget .TTH_STREAM_W0_KIND e
def entMode (s : State) (e : Nat) : Nat := s.fget .TTH_STREAM_W0_MODE e
def entLane (s : State) (e : Nat) : Nat := s.fget .TTH_STREAM_W0_LANE e
def entIndex (s : State) (e : Nat) : Nat := s.fget .TTH_STREAM_W0_INDEX e
def entCount (s : State) (e : Nat) : Nat := s.fget .TTH_STREAM_W1_COUNT e

def entOverwrites (s : State) (e : Nat) : Bool := entMode s e == 0 || entMode s e == 2
def entCompares (s : State) (e : Nat) : Bool := entMode s e == 1 || entMode s e == 2

/-- The entries in use. -/
def streamEntries (s : State) : List Nat := (List.range 256).filter fun e => entKind s e != 0

/-- The words of a range as bursts of up to eight: first word and beats (R377). -/
def bursts8 (word count : Nat) : List (Nat × Nat) :=
  (List.range ((count + 7) / 8)).map fun b => (word + 8 * b, min 8 (count - 8 * b))

/-- The Saddle reads of an entry are requested (R377). -/
def requestEntry (s : State) (e : Nat) : State :=
  (bursts8 (entIndex s e) (entCount s e)).foldl (fun t b => sdlRequest t 15 b.1 b.2 false [] .shadowRead) s

/-- The registers of an entry of kind PWM or LAE, sampled in this tick. -/
def sampleNow (s : State) (e : Nat) : List Nat :=
  if entKind s e = 3 then (List.range 8).map (preload s (entLane s e)) else laeRecord s

/-- The snapshot of a frame event begins (R377). -/
def snapshotStart (s : State) : State :=
  let es := streamEntries s
  let lanes := es.filter fun e => entKind s e == 1
  let idle := lanes.filter fun e => !(s.laneAt (entLane s e)).active && (s.laneAt (entLane s e)).faultWait.isNone
  let sdl := es.filter fun e => entKind s e == 2
  let data := (es.filter fun e => decide (3 ≤ entKind s e)).map (fun e => (e, sampleNow s e)) ++
    idle.map (fun e => (e, sampleLane s e (entLane s e)))
  sdl.foldl requestEntry { s with
    shadowIn := []
    snap := some ⟨s.laneEdge, data, (lanes.filter fun e => !idle.contains e).map (fun e => (e, entLane s e)), sdl⟩ }

/-- The words read for a Saddle entry. -/
def entWords (s : State) (e : Nat) : List Nat :=
  (List.range (entCount s e)).map fun i => ((s.shadowIn.find? (fun w => w.1 == entIndex s e + i)).map (·.2)).getD 0

/-- A request of the shadow engine with a use is at a bank. -/
def shadowBusy (s : State) (u : SdlUse) : Bool := (allReqs s ++ allOwners s).any fun r => r.who == 15 && decide (r.use = u)

/-- The Saddle part of a snapshot is complete when no read of it is outstanding; a device other than a primary keeps the finished
snapshot for comparison (R377, R380). -/
def snapshotTick (s : State) : State :=
  match s.snap with
  | none => s
  | some n =>
    let t := if !n.waitSdl.isEmpty && !shadowBusy s .shadowRead then
        { s with shadowIn := [], snap := some { n with
          data := n.data ++ n.waitSdl.map (fun e => (e, entWords s e)), waitSdl := [] } }
      else s
    match t.snap with
    | some m =>
      if t.role != rolePrimary && m.waitLane.isEmpty && m.waitSdl.isEmpty then
        { t with snap := none, twin := { t.twin with snaps := (m :: t.twin.snaps).take 16 } }
      else t
    | none => t

/-- An entry's data as bytes (R376). -/
def entBytes (s : State) (e : Nat) (v : List Nat) : List Nat :=
  match entKind s e with
  | 3 => v.flatMap (leBytes 4)
  | 4 => v
  | _ => v.flatMap (leBytes 6)

/-- An entry's data from bytes. -/
def entValues (kind : Nat) (b : List Nat) : List Nat :=
  match kind with
  | 3 => (List.range (b.length / 4)).map fun i => leAt b (4 * i) 4
  | 4 => b
  | _ => (List.range (b.length / 6)).map fun i => leAt b (6 * i) 6

/-- The payload of a STATE frame: its header of 16 bytes, then each entry with its header of 4 (R376). -/
def statePayload (s : State) (n : Snapshot) : List Nat :=
  let es := (streamEntries s).filterMap fun e => (n.data.find? (fun d => d.1 == e))
  leBytes 4 s.twin.frames ++ leBytes 8 n.ltv ++ leBytes 2 es.length ++ [0, 0] ++
    es.flatMap fun d =>
      let b := entBytes s d.1 d.2
      [d.1, entKind s d.1] ++ leBytes 2 b.length ++ b

/-- STATE_SEND: the primary sends the frame of a complete snapshot (R377). -/
def execStateSend (s : State) : Host.Outcome State Fault Refusal :=
  match s.snap with
  | none => .next s
  | some n =>
    if s.role = rolePrimary && linkUp s && n.waitLane.isEmpty && n.waitSdl.isEmpty then
      let t := sendFrame { s with snap := none } tyState (statePayload s n)
      .next { t with twin := { t.twin with frames := t.twin.frames + 1 } }
    else .next s

/-- A frame event (R362): the keepalive restarts, a planned handover releases, a snapshot begins; a primary that is still at the
frame before makes none and counts it (R377, R380, R392). -/
def frameEvent (s : State) : State :=
  let s := { s with twin := { s.twin with keepFrom := s.now } }
  let s := if s.twin.hand && s.role == rolePrimary then
      let t := setRole (ownRelease s) roleStandby
      readyUpdate { t with twin := { t.twin with hand := false, handed := true, handUntil := some (t.now + 100 * usTicks) } }
    else s
  if s.role = rolePrimary then
    if !linkUp s then s
    else if s.snap.isSome || stateBusy s then s.fcount .TTH_FRMCNT_SKIP
    else snapshotStart s
  else if s.role = roleStandby ∧ s.snap.isNone then snapshotStart s
  else s

/-! ### Application (R379) -/

/-- The entries of a STATE payload: index, kind, data. -/
def stateEntries : Nat → List Nat → List (Nat × Nat × List Nat)
  | 0, _ => []
  | k + 1, b =>
    let len := leAt b 2 2
    (leAt b 0 1, leAt b 1 1, (b.drop 4).take len) :: stateEntries k (b.drop (4 + len))

/-- The Saddle words of a frame are written, as requester 15 (R379). -/
def applySaddle (s : State) (e : Nat) (v : List Nat) : State :=
  (bursts8 (entIndex s e) v.length).foldl (fun t b =>
    sdlRequest t 15 b.1 b.2 true ((v.drop (b.1 - entIndex s e)).take b.2) .shadowWrite) s

/-- The lane registers of an entry, through the lane's stage (R379). -/
def applyLaneRegs (s : State) (e : Nat) (v : List Nat) : State :=
  v.zipIdx.foldl (fun t (p : Nat × Nat) => lregWrite t (entLane s e) (s.fget .TTH_STREAM_W0_FIRST e + p.2) p.1) s

/-- The rest of a frame's overwrites once its Saddle words are written: the LAE record, the lane registers, one apply for each
lane; then TTH_FRAME (R379). A joining device enters STANDBY with its first frame (R383, R390). -/
def applyRest (s : State) (es : List (Nat × List Nat)) : State :=
  let t := { s with twin := { s.twin with apply := s.twin.apply.drop 1 } }
  let t := (es.filter fun e => entKind s e.1 == 4).foldl (fun u e => applyLae u e.2) t
  let lanes := es.filter fun e => entKind s e.1 == 1
  let t := lanes.foldl (fun u e => applyLaneRegs u e.1 e.2) t
  let t := ((List.range 32).filter fun k => lanes.any (fun e => entLane s e.1 == k)).foldl laneApplyReq t
  let t := t.raiseLane 126 0
  if t.role = roleJoining then
    roleCheck (readyUpdate (setRole { t with twin := { t.twin with divRun := 0, goodRun := 0, joined := false } } roleStandby))
  else t

/-- The oldest frame's Saddle words are requested, unless they have been: as requester 15 (R379). -/
def frameStart (s : State) : State :=
  match s.twin.apply with
  | (es, false) :: rest =>
    let t := (es.filter fun e => entKind s e.1 == 2).foldl (fun u e => applySaddle u e.1 e.2) s
    { t with twin := { t.twin with apply := (es, true) :: rest } }
  | _ => s

/-- The tick's part of an application: a frame whose Saddle words are written is applied whole, and the next one begins (R379). -/
def applyTick (s : State) : State :=
  match s.twin.apply with
  | (es, true) :: _ => if shadowBusy s .shadowWrite then s else frameStart (applyRest s es)
  | _ => frameStart s

/-! ### Comparison (R380) -/

/-- Two values differ by at most `d`. -/
def within (a b d : Int) : Bool := decide (a - b ≤ d) && decide (b - a ≤ d)

/-- Two angles in 2⁻¹⁶ line ticks differ by at most `d` line ticks, modulo 65,536 (R380). -/
def withinAngle (a b d : Nat) : Bool :=
  let x := (a + 2 ^ 32 - b % 2 ^ 32) % 2 ^ 32
  decide (x ≤ 65536 * d) || decide (2 ^ 32 - x ≤ 65536 * d)

/-- A compare entry is within tolerance: `mine` is this device's snapshot, `theirs` the frame's (R380). -/
def entWithin (s : State) (locks e : Nat) (mine theirs : List Nat) : Bool :=
  let tol := s.fget .TTH_STREAM_W1_TOL e
  match entKind s e with
  | 3 => (List.range 8).all fun r =>
      let a := mine.getD r 0
      let b := theirs.getD r 0
      if 2 ≤ r ∧ r ≤ 5 then within a b tol else a == b
  | 4 => (List.range 2).all fun f =>
      !(feedLocked s f && bit locks f) || withinAngle (leAt mine (4 * f) 4) (leAt theirs (4 * f) 4) tol
  | _ => (mine.zip theirs).all fun p => within (sext 48 p.1) (sext 48 p.2) (2 ^ s.fget .TTH_STREAM_W1_TOLEXP e)

/-- The first compare entry of a frame out of tolerance against a snapshot. -/
def firstOut (s : State) (locks : Nat) (n : Snapshot) (es : List (Nat × List Nat)) : Option Nat :=
  (es.find? fun e => entCompares s e.1 && match n.data.find? (fun d => d.1 == e.1) with
    | some d => !entWithin s locks e.1 d.2 e.2
    | none => false).map (·.1)

/-- A frame found divergent, at entry `e`, or not divergent: DIVERGED after DIVN in a row (R380, R390); a standby that becomes READY
may take over in that tick (R384). -/
def judgeFrame (s : State) (out : Option Nat) : State :=
  let n := s.fget .TTH_CFG_DIVN
  match out with
  | some e =>
    let t := { s.fcount .TTH_DIVCNT_DIV with twin := { s.twin with divRun := s.twin.divRun + 1, goodRun := 0 } }
    if n ≤ t.twin.divRun && !t.flag .TTH_STAT_DIVERGED then
      readyUpdate (((t.fset .TTH_STAT_DIVERGED 1).fset .TTH_DIVCNT_LAST e).ring 131)
    else t
  | none =>
    let t := { s with twin := { s.twin with divRun := 0, goodRun := s.twin.goodRun + 1 } }
    if n ≤ t.twin.goodRun then
      roleCheck (readyUpdate { (t.fset .TTH_STAT_DIVERGED 0) with twin := { t.twin with joined := true } })
    else t

/-- The comparison of a frame whose event had line-time `ltv` with the snapshot that lies within ±16 ticks of it plus Θ0 (R380). -/
def compareFrame (s : State) (locks ltv : Nat) (es : List (Nat × List Nat)) : State :=
  match s.twin.snaps.find? (fun n => within n.ltv (ltv + s.twin.theta0) 16) with
  | some n => judgeFrame s (firstOut s locks n es)
  | none => s.fcount .TTH_DIVCNT_SKIP

/-- The frames a device takes: a standby with Tether trained, a joining device at its last step (R379, R390). -/
def takesFrames (s : State) : Bool :=
  linkUp s && (s.role == roleStandby || (s.role == roleJoining && s.twin.join == 4))

/-- The entries of a STATE payload whose kind is that of the own table, with their values (R376). -/
def frameValues (s : State) (p : List Nat) : List (Nat × List Nat) :=
  (stateEntries (leAt p 12 2) (p.drop 16)).filterMap fun (e : Nat × Nat × List Nat) =>
    if e.2.1 = entKind s e.1 then some (e.1, entValues e.2.1 e.2.2) else none

/-- What a good STATE frame does at a device that takes it (R379, R380). -/
def stateFrame (s : State) (locks : Nat) (prev : Option Nat) (seq : Nat) (p : List Nat) : State :=
  let t := match prev with
    | some q => if seq = (q + 1) % 65536 then s else s.fcount .TTH_FRMCNT_GAP
    | none => s
  let es := frameValues t p
  let t := if t.role = roleStandby then compareFrame t locks (leAt p 4 8) es else t
  if takesFrames t then
    frameStart { t with twin := { t.twin with apply := t.twin.apply ++ [(es.filter fun e => entOverwrites t e.1, false)] } }
  else t

/-- STATE_RX. -/
def execStateRx (body : List Nat) (locks : Fin 4) (s : State) : Host.Outcome State Fault Refusal :=
  .next (rxFrame s tyState body fun seq p t => if takesFrames t then stateFrame t locks s.twin.rxL seq p else t)

/-! ### The sync of a joining seat (R390) -/

def enabledLanes (s : State) : Nat := (List.range 32).foldl (fun m k => m + b2n (s.flag .LANE_CTRL_EN k) * 2 ^ k) 0

/-- The Saddle ranges of TTH_BULK in use: first word and words. -/
def bulkRanges (s : State) : List (Nat × Nat) :=
  ((List.range 16).filter fun b => s.flag .TTH_BULK_W0_EN b).map fun b =>
    (s.fget .TTH_BULK_W0_INDEX b, s.fget .TTH_BULK_W1_COUNT b + 1)

/-- A Team's part of the sync: running, the line-time of its last wrap, its PRD. -/
def teamSync (s : State) (t : Nat) : List Nat :=
  match leading s t with
  | some n => [1] ++ leBytes 8 (s.ltc - (s.now - ((s.chanAt n).wrapAt.getD s.now))) ++ leBytes 4 (active s n 0)
  | none => [0] ++ List.replicate 12 0

/-- The sync stream of this device: the registers of its enabled lanes, its Saddle ranges, the LAE record, its Teams. -/
def syncBytes (s : State) : List Nat :=
  (setBits 32 (enabledLanes s)).flatMap (fun k => (List.range 64).flatMap fun i => leBytes 6 (s.lreg k i)) ++
  s.syncIn.flatMap (leBytes 6) ++
  laeRecord s ++ (List.range 8).flatMap (teamSync s)

/-- The length of the sync of a device whose lanes `mask` are in use. -/
def syncLength (s : State) (mask : Nat) : Nat :=
  384 * (setBits 32 mask).length + ((bulkRanges s).map (fun r => 6 * r.2)).sum + 128 + 104

/-- The registers of one lane written from the sync (R234, R390). -/
def syncLane (b : List Nat) (s : State) (p : Nat × Nat) : State :=
  (List.range 64).foldl (fun t i => t.setLreg p.1 i (leAt b (384 * p.2 + 6 * i) 6)) s

/-- The whole sync applied, its Saddle words as requester 15: lanes, Saddle ranges, LAE record, Teams; the lanes are enabled again (R390). -/
def applySync (s : State) : State :=
  let b := s.twin.sync
  let lanes := setBits 32 s.twin.syncLanes
  let t := lanes.zipIdx.foldl (syncLane b) s
  let b := b.drop (384 * lanes.length)
  let (t, b) := (bulkRanges s).foldl (fun (x : State × List Nat) r =>
    ((bursts8 r.1 r.2).foldl (fun u c => sdlRequest u 15 c.1 c.2 true ((List.range c.2).map fun i =>
      leAt x.2 (6 * (c.1 - r.1 + i)) 6) .shadowWrite) x.1, x.2.drop (6 * r.2))) (t, b)
  let t := applyLae t b
  let b := b.drop 128
  let wraps := (List.range 8).foldl (fun (v : Vector (Option (Nat × Nat)) 8) k =>
    vput v k (if leAt b (13 * k) 1 = 1 then some (leAt b (13 * k + 1) 8, leAt b (13 * k + 9) 4) else none))
    (Vector.replicate 8 none)
  let t := lanes.foldl laneEnableOp t
  { t with twin := { t.twin with join := 3, sync := [], syncLanes := 0, wraps := wraps } }

/-- Where an image to be received is written: the slot that is not applied (R390, R421). -/
def spareSlot (s : State) : Nat := 1 - s.img.slot

/-- The first data of a sync: the lanes in use are disabled (R390). -/
def syncBegin (s : State) : State :=
  if s.twin.sync = [] then
    let m := enabledLanes s ||| s.twin.syncLanes
    (setBits 32 m).foldl laneDisableOp { s with twin := { s.twin with syncLanes := m } }
  else s

/-- Image data of a join: the slot's STATE goes first to WRITING, then the data are written (R390, R420). -/
def imageData (s : State) (off : Nat) (data : List Nat) : State :=
  let n := spareSlot s
  let t := if s.twin.imgGot = [] then s.mramStore (slotBase n) (leBytes 4 1 ++ List.replicate 60 0) else s
  let t := t.mramStore (slotBase n + 0x40 + off) data
  { t with twin := { t.twin with imgGot := t.twin.imgGot.filter (fun g => g.1 != off) ++ [(off, data.length)] } }

/-- How often the BULK frame of a kind and offset has been received. -/
def bulkCopies (s : State) (kind off : Nat) : Nat :=
  ((s.twin.bulkRx.find? fun e => e.1 == kind && e.2.1 == off).map (·.2.2)).getD 0

/-- Sync data in order: gathered, and applied when they are whole (R390). -/
def syncData (s : State) (data : List Nat) : State :=
  let u := syncBegin s
  let u := { u with twin := { u.twin with join := 2, sync := u.twin.sync ++ data } }
  if syncLength u u.twin.syncLanes ≤ u.twin.sync.length then applySync u else u

/-- What a BULK frame's data do at a joining device; none when they are not taken, so that they will be sent again (R371, R390): image
data, of kind 0, go to the spare slot, sync data, of kind 1, are gathered in order. -/
def bulkTake (s : State) (kind off : Nat) (data : List Nat) : Option State :=
  let w := s.twin
  match kind with
  | 0 => if w.join ≠ 1 then some s else if off + data.length ≤ 0x1FFFC0 then some (imageData s off data) else none
  | 1 =>
    if w.join = 1 ∧ w.pDigest ≠ s.img.digest.take 8 then none
    else if 2 < w.join ∨ off + data.length ≤ w.sync.length then some s
    else if off = w.sync.length then some (syncData s data)
    else none
  | _ => none

/-- A BULK frame at a joining device: it is acknowledged when its data are taken or were before; the sixteenth repetition of one frame
ends the attempt (R371, R383, R390). -/
def bulkFrame (s : State) (p : List Nat) : State :=
  let off := leAt p 0 4
  let kind := leAt p 4 4
  let n := bulkCopies s kind off + 1
  let rx := (s.twin.bulkRx.filter fun e => !(e.1 == kind && e.2.1 == off)) ++ [(kind, off, n)]
  let s := { s with twin := { s.twin with bulkRx := rx } }
  if 17 ≤ n then setRole s roleInit
  else match bulkTake s kind off (p.drop 8) with
  | some t => sendFrame t tyAck (leBytes 4 off)
  | none => s

/-- BULK_RX. -/
def execBulkRx (body : List Nat) (s : State) : Host.Outcome State Fault Refusal :=
  .next (rxFrame s tyBulk body fun _ p t => if t.role = roleJoining ∧ linkUp t then bulkFrame t p else t)

/-! ### The primary's side of a join (R371, R390) -/

/-- The window of eight unacknowledged frames is filled. -/
def bulkFill : Nat → State → State
  | 0, s => s
  | n + 1, s =>
    match s.twin.bulkKind with
    | some k =>
      if s.twin.bulkLeft = [] ∨ 8 ≤ s.twin.bulkOut.length then s
      else
        let d := s.twin.bulkLeft.take 1024
        let t := sendFrame s tyBulk (leBytes 4 s.twin.bulkPos ++ leBytes 4 k ++ d)
        bulkFill n { t with twin := { t.twin with
          bulkOut := t.twin.bulkOut ++ [⟨s.twin.bulkPos, k, d, none, 0⟩]
          bulkPos := s.twin.bulkPos + d.length, bulkLeft := s.twin.bulkLeft.drop 1024 } }
    | none => s

/-- A stream of a kind begins. -/
def bulkStart (s : State) (kind : Nat) (data : List Nat) : State :=
  bulkFill 8 { s with twin := { s.twin with bulkKind := some kind, bulkPos := 0, bulkLeft := data, bulkOut := [] } }

/-- The sync begins: the shadow engine reads the Saddle words of the ranges first, in bursts of up to eight (R390). -/
def syncServe (s : State) : State :=
  if s.twin.gather || shadowBusy s .syncRead then s
  else if bulkRanges s = [] then bulkStart { s with syncIn := [] } 1 (syncBytes { s with syncIn := [] })
  else
    (bulkRanges s).foldl (fun t r => (bursts8 r.1 r.2).foldl (fun u c => sdlRequest u 15 c.1 c.2 false [] .syncRead) t)
      { s with syncIn := [], twin := { s.twin with gather := true } }

/-- The sync is sent once its Saddle words are there. -/
def gatherTick (s : State) : State :=
  if s.twin.gather && !shadowBusy s .syncRead then
    bulkStart { s with twin := { s.twin with gather := false } } 1 (syncBytes s)
  else s

/-- What a primary sends a joining partner: its image when the digests differ, then the sync (R390). -/
def bulkServe (s : State) : State :=
  let w := s.twin
  if s.role = rolePrimary ∧ linkUp s = true ∧ w.pRole = roleJoining then
    let same := w.pDigest == s.img.digest.take 8
    match w.bulkKind with
    | none => if same then syncServe s
        else bulkStart s 0 (s.loadBytes (slotBase s.img.slot + 0x40) s.img.size)
    | some 0 => if same && w.bulkLeft.isEmpty && w.bulkOut.isEmpty then syncServe s else s
    | some _ => s
  else { s with twin := { w with bulkKind := none, bulkLeft := [], bulkOut := [], gather := false } }

/-- ACK_RX: the frame at the offset is acknowledged, and the window moves on (R371). -/
def execAckRx (body : List Nat) (s : State) : Host.Outcome State Fault Refusal :=
  .next (rxFrame s tyAck body fun _ p t =>
    bulkFill 8 { t with twin := { t.twin with bulkOut := t.twin.bulkOut.filter (fun b => b.off != leAt p 0 4) } })

/-- The first frame whose acknowledgement is 5 µs late (R371). -/
def bulkLate (s : State) : Option BulkOut :=
  s.twin.bulkOut.find? fun b => b.sentAt.any fun t => decide (t + 5 * usTicks ≤ s.now)

/-- BULK_RETRANSMIT: it is sent again; after 16 times the stream is given up (R371, R383). -/
def execBulkRetransmit (s : State) : Host.Outcome State Fault Refusal :=
  match bulkLate s with
  | none => .next s
  | some b =>
    if 16 ≤ b.again then .next { s with twin := { s.twin with bulkLeft := [], bulkOut := [] } }
    else
      let t := sendFrame s tyBulk (leBytes 4 b.off ++ leBytes 4 b.kind ++ b.data)
      .next { t with twin := { t.twin with bulkOut := t.twin.bulkOut.map fun x =>
        if x.off = b.off then { x with sentAt := none, again := x.again + 1 } else x } }

/-! ### Realignment of the Teams (R382) -/

/-- A Team that runs on both seats and is to be realigned. -/
def alignDue (s : State) (t : Nat) : Bool :=
  s.role == roleJoining && s.twin.join == 3 && s.flag .TTH_STAT_LOCKED && (vget s.twin.wraps t).isSome &&
    (vget s.twin.align t == 1 || (vget s.twin.align t == 0 && teamOn s t))

/-- A set of PWM_TEAMRUN that lands in this tick brings the Team's first wrap to the primary's wraps plus Θ0 (R133, R382). -/
def alignNow (s : State) (t : Nat) : Bool :=
  match vget s.twin.wraps t, (teamChans s t).head? with
  | some (w, p), some n => ((s.ltc + 1 + preload s n 1 % max 1 (preload s n 0) : Nat) - (w + s.twin.theta0) : Int) % (max 1 p : Nat) == 0
  | _, _ => false

/-- The joining device goes on to the first frame when every Team is realigned (R390). -/
def alignDone (s : State) : State :=
  if s.role == roleJoining && s.twin.join == 3 && s.flag .TTH_STAT_LOCKED && (List.range 8).all (fun t => !alignDue s t) then
    { s with twin := { s.twin with join := 4 } }
  else s

/-- TEAM_REALIGN: a clear of the Team's bit, and in the tick that aligns its wrap the set (R382). -/
def execTeamRealign (t : Fin 8) (s : State) : Host.Outcome State Fault Refusal :=
  if !alignDue s t then .next (alignDone s) else
  let v := s.fget .PWM_TEAMRUN_RUN
  if vget s.twin.align t = 0 then
    let u := teamRunOp s (setBit v t false)
    .next { u with twin := { u.twin with align := vput u.twin.align t 1 } }
  else if alignNow s t then
    let u := teamRunOp s (setBit v t true)
    .next (alignDone { u with twin := { u.twin with align := vput u.twin.align t 2 } })
  else .next s

end Sys2Proof.Machine
end

