-- ==== Sys2Proof/Machine/TwinLink.lean ====
section
/-! DEFINITION. Twin pairing: ownership steps, training, HEALTH and CTRL frames, Bridle, the timebase discipline
(spec/11_twin_pairing.md). -/

namespace Sys2Proof.Machine

/-! ### Ownership (R360 to R362) -/

/-- OWN_CLAIM: a claim that is due is decided (R360, R362). -/
def execOwnClaim (s : State) : Host.Outcome State Fault Refusal := .next (if soloMayClaim s then ownClaim s else s)

/-- OWNERSHIP_GAIN: LEAD ticks after OWN was driven active, output ownership is held: the outputs take their state (R291, R360,
R385). -/
def execOwnershipGain (s : State) : Host.Outcome State Fault Refusal :=
  match s.twin.claimAt with
  | some c =>
    if c + 1 + s.fget .TTH_OWNCFG_LEAD ≤ s.now then
      let t := { ((s.fset .TTH_STAT_OWN 1).fset .TTH_STAT_OWNED 1) with twin := { s.twin with claimAt := none } }
      .next (gatesOwned (settleAll t))
    else .next s
  | none => .next s

/-- A release is due: the role, the shut-down state or the keepalive does not allow the device OWN (R362, R383). -/
def releaseDue (s : State) : Bool :=
  holdsOwn s && s.twin.releaseAt.isNone &&
    (s.flag .CUP_STAT_SHUT || s.flag .TTH_STAT_KEEPEXP || !(s.role == roleSolo || s.role == rolePrimary))

/-- OWN_RELEASE: a release that is due is decided; output ownership ends at once (R360, R362). -/
def execOwnRelease (s : State) : Host.Outcome State Fault Refusal := .next (if releaseDue s then releaseCause s else s)

/-- OWN_DEASSERT: LEAD ticks after the release OWN is driven inactive (R360). -/
def execOwnDeassert (s : State) : Host.Outcome State Fault Refusal :=
  match s.twin.releaseAt with
  | some r =>
    if r + s.fget .TTH_OWNCFG_LEAD ≤ s.now then
      .next (roleCheck { (s.fset .TTH_STAT_OWN 0) with twin := { s.twin with releaseAt := none } })
    else .next s
  | none => .next s

/-- OWNIN_CHANGE: the ball has held a new level for QUAL ticks, or 16 during a planned handover (R361, R392). -/
def execOwnInChange (level : Bool) (ticks : Nat) (s : State) : Host.Outcome State Fault Refusal :=
  let q := if s.twin.handUntil.any (fun h => decide (s.now < h)) then 16 else s.fget .TTH_OWNCFG_QUAL
  if s.clockOn 16 = false ∨ level = s.flag .TTH_STAT_OWNIN ∨ ticks < q then .next s
  else .next (roleCheck (splitCheck { (s.fput .TTH_STAT_OWNIN level) with
    twin := { s.twin with ownInAt := s.now, handed := s.twin.handed && !level } }))

/-- KEEPALIVE_EXPIRY (R362). -/
def execKeepaliveExpiry (s : State) : Host.Outcome State Fault Refusal :=
  let k := s.fget .TTH_KEEP_KEEP
  if k ≠ 0 ∧ holdsOwn s = true ∧ s.twin.releaseAt = none ∧ s.twin.keepFrom + k ≤ s.now then
    .next (releaseCause ((s.hset .TTH_STAT_KEEPEXP 1).ring 135))
  else .next s

/-- OWN_CONFLICT_TIMEOUT: OWNIN has stayed active for 1 ms after the claim of a takeover (R389). -/
def execOwnConflictTimeout (s : State) : Host.Outcome State Fault Refusal :=
  let w := s.twin
  if s.role = rolePrimary ∧ s.flag .TTH_STAT_TOOK = true ∧ s.flag .TTH_STAT_OWNIN = true ∧
      holdsOwn s = true ∧ w.ownInAt ≤ w.ownAt ∧ w.ownAt + msTicks ≤ s.now then .next (conflict s false)
  else .next s

/-- PREFSEAT_WAIT_EXPIRY and WAITB_EXPIRY: a device in INIT that may claim alone does (R383). -/
def execPrefseatWaitExpiry (s : State) : Host.Outcome State Fault Refusal :=
  .next (if s.fget .TTH_STAT_SEAT = s.fget .TTH_CFG_PREFSEAT ∧ s.role = roleInit then roleCheck s else s)
def execWaitbExpiry (s : State) : Host.Outcome State Fault Refusal :=
  .next (if s.fget .TTH_STAT_SEAT ≠ s.fget .TTH_CFG_PREFSEAT ∧ s.role = roleInit then roleCheck s else s)

/-- SNS_EDGE: an edge on an SNS ball, which goes into the input's glitch filter (R387). -/
def execSnsEdge (j : Fin 8) (s : State) : Host.Outcome State Fault Refusal :=
  .next { s with snsBall := setBit s.snsBall j (!bit s.snsBall j) }

/-- An edge behind the filter of input `j`: on a watched one the report of no switching ends (R387). -/
def snsEdge (s : State) (j : Nat) : State :=
  let t := { s with snsLevel := setBit s.snsLevel j (!bit s.snsLevel j), snsRun := vput s.snsRun j 0 }
  if t.fbit .TTH_SNSCFG_MASK j then { t with monEdge := true, monQuiet := 0 } else t

/-- A tick of the glitch filter of input `j`: a level passes it once the ball has held it for four ticks (R387). -/
def snsFilter (s : State) (j : Nat) : State :=
  if bit s.snsBall j = bit s.snsLevel j then { s with snsRun := vput s.snsRun j 0 }
  else if 3 ≤ vget s.snsRun j then snsEdge s j
  else { s with snsRun := vput s.snsRun j (vget s.snsRun j + 1) }

/-! ### Training and loss (R366 to R368) -/

/-- The longest time of a training step, in ticks (R366). -/
def stepMax (n : Nat) : Nat := if n = 2 then 2 * usTicks else 4 * usTicks

/-- Both lanes are enabled here. -/
def lanesEnabled (s : State) : Bool := s.flag .TTH_CTRL_LANEEN0 && s.flag .TTH_CTRL_LANEEN1

/-- A training step begins; step 3 sends eight PING frames (R366). -/
def beginStep (s : State) (n : Nat) : State :=
  let t := { s with twin := { s.twin with step := n, stepAt := s.now, pongs := 0, greets := 0 } }
  if n = 3 then (List.range 8).foldl (fun u _ => sendFrame u tyPing (leBytes 8 u.now)) t else t

/-- The link's progress bits of a new attempt, or of a link that is down. -/
def clearLink (s : State) : State :=
  (((s.fset .TTH_LINKSTAT_LOCK0 0).fset .TTH_LINKSTAT_LOCK1 0).fset .TTH_LINKSTAT_DESKEW 0).fset .TTH_LINKSTAT_TRAINED 0

/-- TRAINING_START (R366, R368). -/
def execTrainingStart (s : State) : Host.Outcome State Fault Refusal :=
  .next (if s.clockOn 16 && !linkUp s && s.twin.step == 0 && lanesEnabled s && decide (s.twin.retryAt ≤ s.now) then beginStep (clearLink s) 1
    else s)

/-- A link that becomes trained or untrained raises TTH_LINK and rings TTH_LINKCHG (R366). -/
def linkChanged (s : State) : State := (s.ring 128).raiseLane 127 0

/-- Both links lost at a joining device take it back to INIT (R383). -/
def joinLost (s : State) : State := if s.role = roleJoining ∧ bothLost s then setRole s roleInit else s

/-- The tick since which neither link is there (R383). -/
def aloneSince (s : State) : State := if bothLost s then { s with twin := { s.twin with aloneFrom := s.now } } else s

/-- A link has come back: the switch-node monitor counts no more (R387). -/
def monitorOff (s : State) : State := { s with monArmed := false, monQuiet := 0 }

/-- The trained link goes down (R366 to R368, R371, R388, R390). -/
def linkDown (s : State) : State :=
  let t := (clearLink (txClear s)).fset .TTH_STAT_TETHER 0
  let t := linkChanged { t with
    twin := { t.twin with step := 0, retryAt := t.now, bulkKind := none, bulkLeft := [], bulkOut := [], gather := false, apply := [] } }
  let t := if t.role = roleJoining then restartJoin t else t
  roleCheck (splitCheck (joinLost (aloneSince t)))

/-- Tether is lost: LINKLOST sets (R367). -/
def linkLost (s : State) : State := linkDown (s.hset .TTH_STAT_LINKLOST 1)

/-- The link is trained (R366); a standby that had lost it joins again (R383). -/
def linkTrained (s : State) : State :=
  let t := (s.fset .TTH_LINKSTAT_TRAINED 1).fset .TTH_STAT_TETHER 1
  let t := monitorOff (linkChanged { t with twin := { t.twin with step := 0, healthAt := t.now, rxL := none } })
  if t.role = roleStandby then enterJoining t else t

/-- TRAINING_STEP_DONE: the running step has ended within its maximum; step 3 needs its eight PONG frames and step 4 its two good
HEALTH frames (R366). -/
def execTrainingStepDone (skew : Nat) (s : State) : Host.Outcome State Fault Refusal :=
  let w := s.twin
  if w.stepAt + stepMax w.step < s.now then .next s else
  match w.step with
  | 1 => .next (beginStep ((s.fset .TTH_LINKSTAT_LOCK0 1).fset .TTH_LINKSTAT_LOCK1 1) 2)
  | 2 => .next (beginStep ((s.fset .TTH_LINKSTAT_DESKEW 1).fset .TTH_LINKSTAT_SKEW skew) 3)
  | 3 => .next (if 8 ≤ w.pongs then beginStep s 4 else s)
  | 4 => .next (if 2 ≤ w.greets then linkTrained s else s)
  | _ => .next s

/-- TRAINING_TIMEOUT: the attempt fails; the next begins 100 µs later (R366). -/
def execTrainingTimeout (s : State) : Host.Outcome State Fault Refusal :=
  let w := s.twin
  if w.step ≠ 0 ∧ w.stepAt + stepMax w.step < s.now then
    let t := (clearLink (txClear s)).fcount .TTH_LINKSTAT_FAILS
    .next { t with twin := { t.twin with step := 0, retryAt := s.now + 100 * usTicks } }
  else .next s

/-- LANE_LOCK_LOSS: the errors of 64 symbols are counted; four lose the lane's lock, and a trained link with it (R367). -/
def execLaneLockLoss (lane : Fin 2) (errors : Nat) (s : State) : Host.Outcome State Fault Refusal :=
  let f := if lane = 0 then Fld.TTH_LINKSTAT_LOCK0 else .TTH_LINKSTAT_LOCK1
  if !s.flag f then .next s
  else
    let t := s.fcount .TTH_ERRCNT_CODEERR 0 0 errors
    if errors < 4 then .next t
    else .next (if linkUp s then linkLost (t.fset f 0) else t.fset f 0)

/-- HEALTH_TIMEOUT (R367). -/
def execHealthTimeout (s : State) : Host.Outcome State Fault Refusal :=
  .next (if linkUp s && decide (s.twin.healthAt + 4 * usTicks ≤ s.now) then linkLost s else s)

/-- PING_RX: answered by a PONG of 16 bytes: the eight received, then the turnaround (R366). -/
def execPingRx (body : List Nat) (s : State) : Host.Outcome State Fault Refusal :=
  .next (rxFrame s tyPing body fun _ p t =>
    if linkUp t then t else sendFrame t tyPong ((p ++ List.replicate 8 0).take 8 ++ leBytes 8 0))

/-- PONG_RX: the one-way latency is half of the round trip less the partner's turnaround (R366). -/
def execPongRx (body : List Nat) (round : Nat) (s : State) : Host.Outcome State Fault Refusal :=
  .next (rxFrame s tyPong body fun _ p t =>
    if t.twin.step = 3 then
      { (t.fset .TTH_LAT_ONEWAY ((round - leAt p 8 8) / 2)) with twin := { t.twin with pongs := t.twin.pongs + 1 } }
    else t)

/-! ### Writes of TTH_CTRL (R366, R368, R383, R392) -/

/-- A detach asked for by software or a host (R383). -/
def detachOp (s : State) : State := detach s

/-- An attach: a detached device whose partner is PRIMARY over a trained link, not in shut-down, joins; a primary passes the
request to its partner (R370, R383). -/
def attachHere (s : State) : State :=
  if s.role = roleDetached ∧ s.twin.pRole = rolePrimary ∧ linkUp s ∧ !s.flag .CUP_STAT_SHUT then enterJoining s else s
def attachOp (s : State) : State := if s.role = rolePrimary ∧ linkUp s then sendCtrl s 2 0 else attachHere s

/-- A planned handover may proceed (R392). -/
def handoverOk (s : State) : Bool :=
  s.role == rolePrimary && linkUp s && s.twin.hRole == roleStandby && s.twin.pReady

/-- A planned handover: CTRL HANDOVER, and the release at the next frame event; else refused with a ring (R392). -/
def handoverOp (s : State) : State :=
  if handoverOk s then
    let t := sendCtrl s 3 0
    { t with twin := { t.twin with hand := true } }
  else s.ring 130

/-- The LANEEN bits of a write: cleared while trained, the seat sends CTRL DETACH (reason 1, LANEDIS) and stops the lane; a
standby or joining seat detaches (R368, R383). -/
def laneEnWrite (s : State) (v : Nat) : State :=
  let t := (s.fput .TTH_CTRL_LANEEN0 (bit v 0)).fput .TTH_CTRL_LANEEN1 (bit v 1)
  if bit v 0 && bit v 1 then t
  else
    let off := (s.flag .TTH_CTRL_LANEEN0 && !bit v 0) || (s.flag .TTH_CTRL_LANEEN1 && !bit v 1)
    let u := if linkUp s && off then sendCtrl t 1 1 else t
    let u := if off && (u.role == roleStandby || u.role == roleJoining) then setRole u roleDetached else u
    if linkUp u then (if off then { u with twin := { u.twin with laneStop := true } } else u)
    else { clearLink u with twin := { u.twin with step := 0 } }

/-- The link of a disabled lane goes down when the CTRL frames have left (R368). -/
def laneStopTick (s : State) : State :=
  if s.twin.laneStop && s.twin.shortLeft == 0 && !s.twin.txq.any (·.ty == tyCtrl) then linkDown s else s

/-- A write of TTH_CTRL. -/
def tthCtrlWrite (s : State) (v : Nat) : State :=
  let t := laneEnWrite s v
  let t := if bit v 2 then detachOp t else t
  let t := if bit v 3 then attachOp t else t
  let t := if bit v 4 then handoverOp t else t
  if bit v 5 then (if linkUp t then linkDown t else { clearLink t with twin := { t.twin with step := 0, retryAt := t.now } })
  else t

/-- HANDOVER_FILTER_EXPIRY: the short filter ends; a standby whose OWNIN is inactive takes over (R384, R392). -/
def execHandoverFilterExpiry (s : State) : Host.Outcome State Fault Refusal :=
  match s.twin.handUntil with
  | some h => .next (if h ≤ s.now then roleCheck { s with twin := { s.twin with handUntil := none, handed := false } } else s)
  | none => .next s

/-! ### The partner as seen (R374, R383, R389, R395) -/

/-- What a view of the partner brings about: a seat error, a transition out of INIT or JOINING, the conflict rule. `sure` is true
of a HEALTH frame and of the second valid Bridle word with the role. -/
def partnerSeen (s : State) (seat role : Nat) (own sure : Bool) : State :=
  let s := { s with twin := { s.twin with
    pRole := role, pOwn := own, seen := s.twin.seen || role == rolePrimary || role == roleSolo } }
  let s := if seat = s.fget .TTH_STAT_SEAT then (s.hset .TTH_STAT_SEATERR 1).ringIf (!s.flag .TTH_STAT_SEATERR) 134 else s
  let s := if sure && role == rolePrimary && s.role == roleInit then enterJoining s else s
  let s := if sure && role == roleSolo && (s.role == roleInit || s.role == roleJoining) then setRole s roleDetached else s
  if s.role == rolePrimary && s.flag .TTH_STAT_TOOK && holdsOwn s && own && role == rolePrimary &&
      (!s.twin.pTook || s.fget .TTH_STAT_SEAT == 1) then conflict s true else s

/-! ### HEALTH and CTRL (R370, R372, R381) -/

/-- HEALTH_TX: once per microsecond (R370). -/
def execHealthTx (s : State) : Host.Outcome State Fault Refusal :=
  .next (if (linkUp s || s.twin.step == 4) && decide (s.twin.healthTx + usTicks ≤ s.now) then
    let t := sendFrame s tyHealth []
    { t with twin := { t.twin with healthTx := t.now } }
  else s)

/-- LOCKED sets once |Θ − Θ0| has stayed within 4 ticks for 1 ms of the hold (R381). -/
def lockCheck (s : State) : State :=
  if s.twin.okFrom.any (fun a => decide (a + msTicks ≤ s.now)) && !s.flag .TTH_STAT_LOCKED then
    alignDone (readyUpdate (s.fset .TTH_STAT_LOCKED 1)) else s

/-- A measurement of Θ at a HEALTH frame (R381). -/
def measureTheta (s : State) (theta : Int) : State :=
  let w := s.twin
  if s.role ≠ roleJoining ∧ s.role ≠ roleStandby then s
  else if w.acq then { s with twin := { w with sum := w.sum + theta, cnt := w.cnt + 1 } }
  else
    let e := theta - w.theta0
    let ok := within e 0 4
    let bad := !within e 0 8
    lockCheck { (s.fset .TTH_DISC_ERR (twos 16 e)) with twin := { w with
      okFrom := if ok then some (w.okFrom.getD s.now) else none
      badFrom := if bad then some (w.badFrom.getD s.now) else none } }

/-- What a good HEALTH frame does (R372, R381, R383, R389, R390). -/
def healthFrame (s : State) (p : List Nat) (ago : Nat) : State :=
  let a := leAt p 0 1
  let w := s.twin
  let t := { s with twin := { w with
    healthAt := s.now, greets := w.greets + 1, hRole := bits a 1 3, pReady := bit a 6, pTook := bit a 7, pDigest := (p.drop 16).take 8 } }
  let t := partnerSeen t (a % 2) (bits a 1 3) (bit a 4) true
  let theta : Int := (s.ltc - ago : Nat) - (leAt p 4 8 : Nat) - (s.fget .TTH_LAT_ONEWAY / 125 : Nat)
  roleCheck (bulkServe (measureTheta t theta))

/-- HEALTH_RX. -/
def execHealthRx (body : List Nat) (ago : Nat) (s : State) : Host.Outcome State Fault Refusal :=
  .next (rxFrame s tyHealth body fun _ p t => if linkUp t ∨ t.twin.step = 4 then healthFrame t p ago else t)

/-- A CTRL frame with code `code`. -/
def rxCtrl (s : State) (code : Nat) (body : List Nat) (op : State → State) : State :=
  rxFrame s tyCtrl body fun _ p t => if p.headD 0 = code ∧ linkUp t then op t else t

/-- CTRL_DETACH_RX (R368, R383). -/
def execCtrlDetachRx (body : List Nat) (s : State) : Host.Outcome State Fault Refusal :=
  .next (rxCtrl s 1 body fun t => if t.role = roleStandby ∨ t.role = roleJoining then setRole t roleDetached else t)

/-- CTRL_ATTACH_RX (R383). -/
def execCtrlAttachRx (body : List Nat) (s : State) : Host.Outcome State Fault Refusal := .next (rxCtrl s 2 body attachHere)

/-- CTRL_HANDOVER_RX: the standby filters OWNIN with 16 ticks for 100 µs (R392). -/
def execCtrlHandoverRx (body : List Nat) (s : State) : Host.Outcome State Fault Refusal :=
  .next (rxCtrl s 3 body fun t =>
    if t.role = roleStandby ∧ t.twin.handUntil = none then
      { t with twin := { t.twin with handUntil := some (t.now + 100 * usTicks) } } else t)

/-- BELL_RX: the source number of a partner's ring goes to Belfry (R335). -/
def execBellRx (body : List Nat) (s : State) : Host.Outcome State Fault Refusal :=
  .next (rxFrame s tyBell body fun _ p t => if linkUp t then partnerRingOp t (leAt p 0 4) else t)

/-! ### The timebase discipline (R381) -/

/-- A move of the trim by at most `lim` steps of 2⁻²⁴, within ±250 ppm (4,194 steps). -/
def trimBy (s : State) (d : Int) : State :=
  s.fset .TTH_DISC_TRIM (twos 16 (clampI (-4194) 4194 (sext 16 (s.fget .TTH_DISC_TRIM) + d)))

/-- DISC_WINDOW_END: acquisition moves the trim by up to 50 ppm (838 steps) toward the value at which Θ stops drifting, and ends
when the drift is within 2 ticks; the hold moves it by up to 1 ppm (16 steps). How far within those bounds is free (R381). -/
def execDiscWindowEnd (s : State) : Host.Outcome State Fault Refusal :=
  let w := s.twin
  if (s.role ≠ roleJoining ∧ s.role ≠ roleStandby) ∨ s.now < w.winAt + msTicks then .next s
  else if !w.acq then
    .next (lockCheck { trimBy s (clampI (-16) 16 ((s.draw % 33 : Nat) - 16)) with
      free := s.free + 1, twin := { w with winAt := s.now } })
  else if w.cnt = 0 then .next { s with twin := { w with winAt := s.now } }
  else
    let mean := roundDiv 0 w.sum w.cnt
    let t := { s with twin := { w with winAt := s.now, sum := 0, cnt := 0, mean := some mean } }
    match w.mean with
    | none => .next t
    | some m =>
      let d := mean - m
      let t := t.fset .TTH_DISC_ERR (twos 16 d)
      if within d 0 2 then .next { t with twin := { t.twin with acq := false, theta0 := mean } }
      else
        let want := min 838 ((d.natAbs * 2 ^ 24) / 800000)
        let step : Nat := t.draw % (want + 1)
        .next { trimBy t (if 0 < d then -(step : Int) else step) with free := t.free + 1 }

/-- DISC_ERROR_EXPIRY: in STANDBY the offset has been off by more than 8 ticks for 100 µs (R381). -/
def execDiscErrorExpiry (s : State) : Host.Outcome State Fault Refusal :=
  if s.role = roleStandby ∧ s.flag .TTH_STAT_LOCKED = true ∧ s.twin.badFrom.any (fun a => decide (a + 100 * usTicks ≤ s.now)) then
    .next (readyUpdate ((s.fset .TTH_STAT_LOCKED 0).ring 131))
  else .next s

/-! ### Bridle (R373 to R375) -/

/-- A Bridle word but for its parity: cells 1 to 14 in bits 1 to 14 (R374). -/
def bridleBody (s : State) : Nat :=
  2 * s.fget .TTH_STAT_SEAT + 4 * s.role + 32 * s.fget .TTH_STAT_OWN +
    64 * b2n (s.img.applied && !s.flag .CUP_STAT_SHUT) + 128 * s.fget .TTH_STAT_TETHER + 256 * (s.twin.bCount % 16)

/-- The number of ones among cells 1 to 14. -/
def bridleOnes (w : Nat) : Nat := ((List.range 14).filter fun i => bit w (i + 1)).length

/-- A word with its parity cell: even parity over cells 1 to 14 (R374). -/
def bridleWord (s : State) : Nat := bridleBody s + 32768 * (bridleOnes (bridleBody s) % 2)

/-- BRIDLE_CELL_TX: a cell each microsecond, once an image is applied, and on while another is applied in its place (R373 to R375, R420). -/
def execBridleCellTx (s : State) : Host.Outcome State Fault Refusal :=
  let w := s.twin
  if !(s.img.applied || s.pw.prevSlot.isSome) || w.bAt.any (fun a => decide (s.now < a + usTicks)) then .next s
  else
    let word := if w.bIdx = 0 then bridleWord s else w.bWord
    .next { s with twin := { w with
      bAt := some s.now, bWord := word, bCell := if w.bIdx = 0 then 2 else b2n (bit word w.bIdx)
      bCount := if w.bIdx = 15 then (w.bCount + 1) % 16 else w.bCount, bIdx := (w.bIdx + 1) % 16 } }

/-- The ticks BRDL_OUT stays high in the running cell (R373). -/
def bridleHigh (cell : Nat) : Nat := match cell with | 0 => 200 | 2 => 400 | _ => 600

/-- Bridle becomes present or is lost (R375, R388). -/
def bridleChanged (s : State) (b : Bool) : State :=
  let t := (s.fput .TTH_STAT_BRIDLE b).ring 129
  if b then monitorOff t
  else roleCheck (splitCheck (joinLost (aloneSince { (t.fset .TTH_PARTNER_VALID 0) with
    twin := { t.twin with bGood := 0, bBad := 0, bLast := none, bRun := 0 } })))

/-- A valid word: TTH_PARTNER, presence after two in a row, what the partner shows (R375, R383, R389). -/
def bridleValid (s : State) (w : Nat) : State :=
  let x := s.twin
  let role := bits w 2 3
  let run := if x.bRole = role then x.bRun + 1 else 1
  let t := { s with twin := { x with
    bGood := x.bGood + 1, bBad := 0, bLast := some (bits w 8 4), bRole := role, bRun := run } }
  let t := if 2 ≤ t.twin.bGood && !t.flag .TTH_STAT_BRIDLE then bridleChanged t true else t
  let t := (t.fset .TTH_PARTNER_WORD w).fput .TTH_PARTNER_VALID (t.flag .TTH_STAT_BRIDLE)
  roleCheck (partnerSeen t (bits w 1 1) role (bit w 5) (decide (2 ≤ run)))

/-- An invalid word: the third in a row loses Bridle (R375). -/
def bridleInvalid (s : State) (last : Option Nat) : State :=
  let x := s.twin
  let t := { s with twin := { x with bGood := 0, bRun := 0, bBad := x.bBad + 1, bLast := last } }
  if 3 ≤ t.twin.bBad && t.flag .TTH_STAT_BRIDLE then bridleChanged t false else t

/-- The value of a cell by the nanoseconds its line stayed high: 0, 1, or 2 for SYNC; none for an invalid cell (R373). -/
def cellValue (high : Nat) : Option Nat :=
  if 150 ≤ high ∧ high ≤ 350 then some 0
  else if 400 ≤ high ∧ high ≤ 600 then some 2
  else if 650 ≤ high ∧ high ≤ 850 then some 1
  else none

/-- The cells of a word, 0 or 1 after SYNC, as bits 1 to 15 (R374); none with an invalid cell. -/
def cellsWord (highs : List Nat) : Option Nat :=
  let v := highs.map cellValue
  if v.length = 16 ∧ v.headD none = some 2 ∧ (v.drop 1).all (fun x => x == some 0 || x == some 1) then
    some ((v.drop 1).foldr (fun x w => 2 * (w + x.getD 0)) 0)
  else none

/-- A received word is valid after one with COUNT `last`: even parity, and a COUNT that follows (R374, R375). -/
def bridleGood (last : Option Nat) (w : Nat) : Bool :=
  bridleOnes w % 2 == bits w 15 1 && last.all (fun l => bits w 8 4 == (l + 1) % 16)

/-- BRIDLE_WORD_RX: sixteen cells, given by their high times; valid with even parity and a COUNT that follows the word before (R373 to
R375). -/
def execBridleWordRx (highs : List Nat) (s : State) : Host.Outcome State Fault Refusal :=
  if !s.clockOn 16 then .next s else
  let s := { s with twin := { s.twin with bRxAt := s.now } }
  match cellsWord highs with
  | none => .next (bridleInvalid s (s.twin.bLast.map fun c => (c + 1) % 16))
  | some w =>
    .next (if bridleGood s.twin.bLast w then bridleValid s w else bridleInvalid s (some (bits w 8 4)))

/-- BRIDLE_EDGE_TIMEOUT: no rising edge for 3 µs; the last cell of a word rose at most 850 ns before its end (R373, R375). -/
def execBridleEdgeTimeout (s : State) : Host.Outcome State Fault Refusal :=
  .next (if s.flag .TTH_STAT_BRIDLE && decide (s.twin.bRxAt + 3 * usTicks ≤ s.now + 680) then bridleChanged s false else s)

/-- A joining device that has left the role enables the lanes again that it held for the sync (R390). -/
def lanesBack (s : State) : State :=
  if s.role ≠ roleJoining ∧ s.twin.syncLanes ≠ 0 then
    (setBits 32 s.twin.syncLanes).foldl laneEnableOp { s with twin := { s.twin with syncLanes := 0 } }
  else s

/-- The pair's part of a tick. -/
def twinTick (s : State) : State :=
  let t := (List.range 8).foldl snsFilter (laneStopTick (txTick (gatherTick (applyTick (snapshotTick (ownTick s))))))
  lanesBack (roleCheck t)

end Sys2Proof.Machine
end

