-- ==== Sys2Proof/Machine/Cupola.lean ====
section
/-! DEFINITION. Cupola: bursts, samples, levels, broken sensors, throttle, enforcement, shut-down
(spec/13_cupola_thermal.md). -/

namespace Sys2Proof.Machine

def State.cupAt (s : State) (i : Nat) : CupSensor := vget s.cupS i
def State.setCup (s : State) (i : Nat) (x : CupSensor) : State := { s with cupS := vput s.cupS i x }

/-- A sensor's class: 0 die, 1 remote diode, 2 NTC; its converter (R428). -/
def cupClass (i : Nat) : Nat := if i < 10 then 0 else if i < 14 then 1 else 2
def cupConv (s : State) (i : Nat) : Nat := if i < 10 then i else if i < 14 then i + 2 else s.fget .CUP_SNS_CFG_CONV i

def cupEn (s : State) (i : Nat) : Bool := s.flag .CUP_SNS_CFG_EN i
def cupLevel (s : State) (i : Nat) : Nat := s.fget .CUP_SNS_TEMP_LEVEL i
def cupBroken (s : State) (i : Nat) : Bool := s.flag .CUP_SNS_TEMP_BROKEN i

/-- The kind of enforcement a sensor raises: 0 clock, 1 limit (R440). -/
def cupKind (i : Nat) : Nat := if i < 10 then 0 else 1

/-! ### Bursts (R430, R431, R435) -/

/-- The ticks from the last sample to the next: 1 ms, or 31.25 µs of a sensor that was near when that sample began; so a change of nearness
tells at the sample after the reading (R435). -/
def cupInterval (s : State) (i : Nat) : Nat := if (s.cupAt i).fast then 25000 else msTicks

/-- A burst of the sensor is due: its interval has passed, or a burst was abandoned, or a diode's second burst is to follow. -/
def burstDue (s : State) (i : Nat) : Bool :=
  let x := s.cupAt i
  match x.startAt with
  | none => true
  | some a => decide (a + cupInterval s i ≤ s.now) || (!x.ready && decide (x.doneAt < a))

/-- CUPOLA_BURST_START: only on a converter that no slot entry reserves and no burst occupies (R430); while the SAR domain is not
ON the burst waits, and wakes it (R408, R431). -/
def execCupolaBurstStart (i : Fin 22) (s : State) : Host.Outcome State Fault Refusal :=
  let c := cupConv s i
  let x := s.cupAt i
  if s.pw.rst.isSome || !cupEn s i || x.ready || sarReserved s c || (s.sarAt c).burst.isSome || !burstDue s i then .next s
  else if s.fget .PMG_DOMSTAT_STATE 12 ≠ 0 then .next { s with pw := { s.pw with waking := setBit s.pw.waking 12 true } }
  else
    let second := cupClass i == 1 && x.first.any (fun a => decide (s.now + 281 ≤ a + 100 * usTicks))
    let fresh := match x.startAt with | some a => decide (a + cupInterval s i ≤ s.now) | none => true
    let t := s.setSar c { s.sarAt c with burst := some ⟨i, second, s.now⟩ }
    .next (t.setCup i { x with
      startAt := if fresh && !second then some s.now else x.startAt
      fast := if fresh && !second then s.flag .CUP_SNS_TEMP_NEAR i else x.fast, first := if second then x.first else none })

/-- A burst is over after 281 ticks (R430): it is a sample, or a diode's first half (R431). -/
def burstTick (s : State) (c : Nat) : State :=
  match (s.sarAt c).burst with
  | some b =>
    if b.start + 281 ≤ s.now then
      let t := s.setSar c { s.sarAt c with burst := none }
      let x := t.cupAt b.sensor
      t.setCup b.sensor (if cupClass b.sensor = 1 ∧ !b.second then { x with first := some s.now }
        else { x with ready := true, first := none })
    else s
  | none => s

/-- Cupola's part of a tick. -/
def cupTick (s : State) : State := (List.range 16).foldl burstTick s

/-! ### Readings (R432, R433, R438) -/

/-- A temperature in sixteenths of a degree; which neighbour a fraction is rounded to is free (log entry 27). -/
def sixteenths (s : State) (c : Rat) : Int := (c * 16).floor + ((s.draw % 2 : Nat) : Int)

/-- A remote diode's temperature in °C (R432): the voltages in microvolts. -/
def diodeTemp (s : State) (i hi lo : Nat) : Rat :=
  let dv : Rat := ((hi : Rat) - lo) / 1000000
  let rs : Rat := (s.fget .CUP_SNS_P1_P i : Rat) / 1000
  quot ((dv - 90 / 1000000 * rs) * (50399 / 10)) ((s.fget .CUP_SNS_P0_P i : Rat) / 65536) - 27315 / 100

/-- An NTC's temperature in °C (R433): the voltage in microvolts. -/
def ntcTemp (s : State) (i uv : Nat) : Rat :=
  let r : Rat := (s.fget .CUP_SNS_P2_P i : Rat) * uv / (1500000 - uv)
  let inv : Rat := 100 / 29815 + quot (lnR (quot r (s.fget .CUP_SNS_P0_P i))) (s.fget .CUP_SNS_P1_P i % 65536 : Nat)
  quot 1 inv - 27315 / 100

/-- What a sample says: the reason it is broken for, or its reading (R432, R433, R438). -/
def readSample (s : State) (i uv lo : Nat) : Nat ⊕ Int :=
  match cupClass i with
  | 0 => match Config.dieWindow i uv with
    | 1 => .inl 1
    | 2 => .inl 2
    | _ => .inr (Config.dieTemp i uv)
  | 1 => if 1500000 < lo then .inl 1 else if uv < lo + 40000 then .inl 2 else .inr (sixteenths s (diodeTemp s i uv lo))
  | _ => if 1470000 < uv then .inl 1 else if uv < 30000 then .inl 2 else .inr (sixteenths s (ntcTemp s i uv))

def cupTemp (s : State) (i : Nat) : Int := sext 16 (s.fget .CUP_SNS_TEMP_TEMP i)

/-- The other sensors of a group that are not broken and have a reading (R438). -/
def cupPeers (s : State) (i : Nat) : List Nat :=
  (List.range 22).filter fun j => j != i && cupEn s j && !cupBroken s j &&
    s.fget .CUP_SNS_CFG_GRP j == s.fget .CUP_SNS_CFG_GRP i && (s.cupAt j).last.isSome

/-- A reading lies more than PLAUS outside the readings of the others of its group, which holds three or more (R438). -/
def implausible (s : State) (i : Nat) (v : Int) : Bool :=
  let p := (cupPeers s i).map (cupTemp s)
  let m : Int := 16 * s.fget .CUP_CFG_PLAUS
  decide (2 ≤ p.length) && (p.all (fun x => decide (x + m < v)) || p.all (fun x => decide (v + m < x)))

/-! ### Levels (R435 to R437) -/

/-- The threshold of a level, and its hysteresis, in sixteenths of a degree (R436). -/
def cupThreshold (s : State) (c l : Nat) : Int :=
  match l with
  | 1 => sext 16 (s.fget .CUP_CLASS_THRA_WARN c)
  | 2 => sext 16 (s.fget .CUP_CLASS_THRA_THROT c)
  | _ => sext 16 (s.fget .CUP_CLASS_THRB_SHUT c)

def cupHyst (s : State) (c l : Nat) : Int :=
  match l with
  | 1 => 4 * s.fget .CUP_CLASS_HYST_HW c
  | 2 => 4 * s.fget .CUP_CLASS_HYST_HT c
  | _ => 4 * s.fget .CUP_CLASS_HYST_HS c

/-- A sensor that leaves levels on a pair of samples of which `b` is the higher (R437). -/
def levelDown (s : State) (c : Nat) (b : Int) : Nat → Nat
  | 0 => 0
  | l + 1 => if b < cupThreshold s c (l + 1) - cupHyst s c (l + 1) then levelDown s c b l else l + 1

/-- The level after two consecutive samples (R437). -/
def levelAfter (s : State) (c old : Nat) (x y : Int) : Nat :=
  let a := min x y
  let up := if cupThreshold s c 3 ≤ a then 3 else if cupThreshold s c 2 ≤ a then 2 else if cupThreshold s c 1 ≤ a then 1 else 0
  levelDown s c (max x y) (max old up)

/-- A reading is within 8 °C of a threshold or a release level (R435). -/
def nearReading (s : State) (c : Nat) (v : Int) : Bool :=
  [1, 2, 3].any fun l => within v (cupThreshold s c l) 128 || within v (cupThreshold s c l - cupHyst s c l) 128

/-- A sensor is found broken (R438). -/
def breakSensor (s : State) (i reason : Nat) : State :=
  if cupBroken s i then s
  else (((s.fset .CUP_SNS_TEMP_BROKEN 1 i).fset .CUP_SNS_TEMP_REASON reason i).fset .CUP_SNS_TEMP_LEVEL 3 i).ring 116

/-- The device level (R437). -/
def deviceLevel (s : State) : Nat := ((List.range 22).filter (cupEn s)).foldl (fun m i => max m (cupLevel s i)) 0

/-- Some enabled sensor of the kind is at level 2 or above. -/
def kindHot (s : State) (kind : Nat) : Bool := (List.range 22).any fun i => cupEn s i && cupKind i == kind && decide (2 ≤ cupLevel s i)

/-! ### Throttle, grace, shut-down (R439 to R446) -/

/-- The level driven on THROT (R439, R444). -/
def throtUpdate (s : State) : State :=
  let b := decide (2 ≤ s.fget .CUP_STAT_LEVEL) || s.flag .CUP_STAT_SHUT
  (s.fput .CUP_STAT_THROT b).ringIf (b && !s.flag .CUP_STAT_THROT) 113

/-- An enforcement is to start: at once, or deferred while a feed transfer runs, until its deadline T_D at the latest (R440,
R443). -/
def enforce (s : State) (kind : Nat) : State :=
  if s.flag .LAE_XSTAT_BUSY then
    let t := s.fset (if kind = 0 then .CUP_STAT_GRACECLK else .CUP_STAT_GRACECUR) 0
    if s.xfer.td ≤ s.now then startEnforce (t.hset .CUP_STAT_DEFER 1) kind
    else { (t.hset .CUP_STAT_DEFER 1) with
      cupGrace := vput t.cupGrace kind none, cupDefer := vput t.cupDefer kind true }
  else startEnforce s kind

def enfFlag (kind : Nat) : Fld := if kind = 0 then .CUP_STAT_ENFCLK else .CUP_STAT_ENFCUR
def graceFlag (kind : Nat) : Fld := if kind = 0 then .CUP_STAT_GRACECLK else .CUP_STAT_GRACECUR

/-- What a change of a sensor's level means for its kind: the grace timer starts when a sensor reaches level 2, stops when all are
below; the time below is kept for the end of an enforcement (R440, R441). -/
def kindUpdate (s : State) (kind : Nat) (reached : Bool) : State :=
  let hot := kindHot s kind
  let s := if !hot && s.flag (graceFlag kind) then
      { (s.fset (graceFlag kind) 0) with cupGrace := vput s.cupGrace kind none } else s
  let s := { s with cupBelow := vput s.cupBelow kind (if hot then none else some ((vget s.cupBelow kind).getD s.now)) }
  if reached && !s.flag (enfFlag kind) && !s.flag (graceFlag kind) && !vget s.cupDefer kind then
    if s.fget .CUP_CFG_GRACE == 0 then enforce s kind
    else { (s.fset (graceFlag kind) 1) with cupGrace := vput s.cupGrace kind (some s.now) }
  else s

/-- The shutdown record without its SEQ and CRC (R445): bytes 8 to 123. -/
def recordBytes (s : State) (i : Nat) : List Nat :=
  leBytes 8 s.ltc ++ [i, s.fget .CUP_SNS_TEMP_REASON i, s.role,
    s.fget .LAE_XSTAT_BUSY + 2 * s.fget .CUP_STAT_ENFCLK + 4 * s.fget .CUP_STAT_ENFCUR] ++
  (if s.img.applied then s.img.digest.take 8 else List.replicate 8 0) ++
  (List.range 22).flatMap (fun k => leBytes 2 (s.fget .CUP_SNS_TEMP_TEMP k)) ++
  leBytes 4 ((List.range 22).foldl (fun m k => m + s.fget .CUP_SNS_TEMP_BROKEN k * 2 ^ k) 0) ++ List.replicate 48 0

/-- The shut-down state is entered for sensor `i` (R444). -/
def shutEntry (s : State) (i : Nat) : State :=
  let t := { (s.fset .CUP_STAT_SHUT 1) with cupRec := some (recordBytes s i) }
  let t := releaseCause (settleAll t true)
  let t := (throtUpdate (t.ring 115)).ringIf (s.flag .CUP_STAT_THROT) 113
  t.notice 1 6 (leBytes 4 (t.fget .CUP_RECSEQ_SEQ + 1))

/-- The device level after sensor `i` changed (R437, R439, R444). -/
def levelUpdate (s : State) (i old : Nat) : State :=
  let was := s.fget .CUP_STAT_LEVEL
  let now := deviceLevel s
  let t := s.fset .CUP_STAT_LEVEL now
  let t := t.ringIf (was == 0 && decide (1 ≤ now)) 112
  let t := if now ≠ was then t.notice 1 now [] else t
  let t := if now = 2 ∧ was ≠ 2 then t.fcount .CUP_CNT_THROTCNT else t
  let t := throtUpdate t
  let t := kindUpdate t (cupKind i) (decide (old < 2) && decide (2 ≤ cupLevel t i))
  if now = 3 && was != 3 && !t.flag .CUP_STAT_SHUT then shutEntry t i else t

/-- A reading of a sensor is taken (R435, R437, R438). What TEMP shows of one that its 16 bits cannot hold is free (log entry 102). -/
def takeReading (s : State) (i : Nat) (v : Int) : State :=
  let x := s.cupAt i
  let odd := if implausible s i v then x.odd + 1 else 0
  let t := s.setCup i { x with prev := x.last, last := some v, odd := odd }
  let word := if -32768 ≤ v ∧ v ≤ 32767 then twos 16 v else t.draw
  let t := (t.drawn.fset .CUP_SNS_TEMP_TEMP word i).fput .CUP_SNS_TEMP_NEAR (nearReading t (cupClass i) v) i
  if 16 ≤ odd then breakSensor t i 3
  else if cupBroken t i then t
  else match x.last with
    | some p => t.fset .CUP_SNS_TEMP_LEVEL (levelAfter t (cupClass i) (cupLevel t i) p v) i
    | none => t

/-- SENSOR_SAMPLE: the bursts of a sample are over (R437, R438). -/
def execSensorSample (i : Fin 22) (uv low : Nat) (s : State) : Host.Outcome State Fault Refusal :=
  let x := s.cupAt i
  if !cupEn s i || !x.ready then .next s
  else
    let old := cupLevel s i
    let t := s.setCup i { x with ready := false, doneAt := s.now }
    let t := match readSample t i uv low with
      | .inl r => breakSensor t i r
      | .inr v => takeReading t.drawn i v
    .next (levelUpdate t i old)

/-- SENSOR_STALE: no sample has completed for 8 ms (R438). -/
def execSensorStale (i : Fin 22) (s : State) : Host.Outcome State Fault Refusal :=
  if cupEn s i && !cupBroken s i && decide ((s.cupAt i).doneAt + 8 * msTicks ≤ s.now) then
    .next (levelUpdate (breakSensor s i 4) i (cupLevel s i))
  else .next s

/-- GRACE_EXPIRY (R440, R443). -/
def execGraceExpiry (limit : Bool) (s : State) : Host.Outcome State Fault Refusal :=
  match vget s.cupGrace (b2n limit) with
  | some a => .next (if a + s.fget .CUP_CFG_GRACE * msTicks ≤ s.now then enforce s (b2n limit) else s)
  | none => .next s

/-- ENFORCEMENT_END: every sensor of the kind has been below level 2 for 1 ms; limits begin to ramp back (R441, R442). -/
def execEnforcementEnd (limit : Bool) (s : State) : Host.Outcome State Fault Refusal :=
  let k := b2n limit
  if s.flag (enfFlag k) && !kindHot s k && (vget s.cupBelow k).any (fun a => decide (a + msTicks ≤ s.now)) then
    let t := ((s.fset (enfFlag k) 0).ring 118).notice 1 7 []
    .next (if limit then limitRamp t else t)
  else .next s

/-- LIMIT_RAMP_WRITE (R442). -/
def execLimitRampWrite (s : State) : Host.Outcome State Fault Refusal :=
  .next (if s.limNext.any (fun a => decide (a ≤ s.now)) then limitRamp s else s)

/-- The address of a shutdown record (R445). -/
def recordAddr (n : Nat) : Nat := 0x30780000 + 128 * n

/-- SHUTDOWN_RECORD (R445). -/
def execShutdownRecord (s : State) : Host.Outcome State Fault Refusal :=
  match s.cupRec with
  | none => .next s
  | some b =>
    let q := s.fget .CUP_RECSEQ_SEQ + 1
    let r := [0x43, 0x55, 0x50, 0x31] ++ leBytes 4 q ++ b
    let t := s.mramStore (recordAddr (s.fget .CUP_REC_NEXT)) (r ++ leBytes 4 (crc32c r))
    .next ((((t.fset .CUP_RECSEQ_SEQ q).fset .CUP_REC_NEXT (s.fget .CUP_REC_NEXT + 1)).ring 117) |> fun u => { u with cupRec := none })

/-- A write of CUP_CTRL: EXIT, by the management core, leaves the shut-down state (R446). -/
def cupCtrlWrite (s : State) (m v : Nat) : State :=
  if m = 4 ∧ bit v 0 ∧ s.flag .CUP_STAT_SHUT then roleCheck (settleAll (throtUpdate (s.fset .CUP_STAT_SHUT 0)))
  else s

/-- A class of thresholds is in order: strictly ascending, and the die's SHUT within the grade's limit (R436). -/
def classOk (s : State) (c : Nat) : Bool :=
  decide (cupThreshold s c 1 < cupThreshold s c 2) && decide (cupThreshold s c 2 < cupThreshold s c 3) &&
    (c != 0 || decide (cupThreshold s c 3 ≤ (if Config.gradeE then 0x8C0 else 0x820)))

/-- The nearness of a class's sensors follows a change of its levels (R435). -/
def nearUpdate (s : State) (c : Nat) : State :=
  (List.range 22).foldl (fun t i => match (t.cupAt i).last with
    | some v => if cupClass i = c then t.fput .CUP_SNS_TEMP_NEAR (nearReading t c v) i else t
    | none => t) s

/-- A write of a class's registers: only the sequencer and the management core, and only when it leaves the class in order (R436). -/
def classWrite (s : State) (m : Nat) (n : RegName) (c v : Nat) : State :=
  let t := s.writeNamed n v c
  if m = 7 ∨ (m = 4 ∧ classOk t c) then nearUpdate t c else s

/-- EN of a sensor has changed: the device level follows, and the 8 ms of R438 count from an enabling (R437; log entry 102). -/
def sensorSwitched (s : State) (i : Nat) : State :=
  levelUpdate (if cupEn s i then s.setCup i { s.cupAt i with doneAt := s.now } else s) i (cupLevel s i)

/-- A write of CUP_SNS[i]_CFG: only the sequencer writes EN (R429). -/
def snsCfgWrite (s : State) (m i v : Nat) : State :=
  let t := s.writeNamed .CUP_SNS_CFG v i
  if m = 7 then (if cupEn t i = cupEn s i then t else sensorSwitched t i)
  else t.fset .CUP_SNS_CFG_EN (s.fget .CUP_SNS_CFG_EN i) i

/-- Cupola after a reset of its block: its sensors begin again but for what is broken, and the levels follow (R438, R446). -/
def cupRestart (s : State) : State :=
  let t := { s with
    cupS := Vector.replicate 22 { doneAt := s.now }, cupGrace := Vector.replicate 2 none, cupDefer := Vector.replicate 2 false
    cupBelow := Vector.replicate 2 none, limLast := Vector.replicate 8 none, limNext := none }
  let t := t.fset .CUP_STAT_LEVEL (deviceLevel t)
  t.fput .CUP_STAT_THROT (decide (2 ≤ t.fget .CUP_STAT_LEVEL) || t.flag .CUP_STAT_SHUT)

/-- The level of the THROT ball; `none`, high-impedance with the pull-down, while a device reset is asserted (R439). -/
def throtPin (s : State) : Option Bool := if s.pw.rst.isSome then none else some (s.flag .CUP_STAT_THROT)

end Sys2Proof.Machine
end

