-- ==== Sys2Proof/Machine/DmaBase.lean ====
section
/-! DEFINITION. The DMA engines: start, the requests of a burst, and the end of a transfer (R53, R54, R505). -/

namespace Sys2Proof.Machine

/-- The words of a run of `n` slots from address `a` that lie in the Saddle store: the index of the first and how many; none
when the first slot lies elsewhere. -/
def saddleRun (a n : Nat) : Option (Nat × Nat) :=
  if 0x20000000 ≤ a ∧ a < 0x20080000 then
    let w := (a - 0x20000000) / 8
    some (w, min n (65536 - w))
  else none

/-- The engine stops: BUSY clears, and DMA_DONE_n rings when the transfer is over or met an error (R53, R54). -/
def dmaStop (s : State) (n : Nat) (done err : Bool) : State :=
  let t := (s.setDma n {}).fset .FAB_DMA_CTRL_BUSY 0 n
  let t := if done then t.hset .FAB_DMA_CTRL_DONE 1 n else t
  let t := if err then t.hset .FAB_DMA_CTRL_ERR 1 n else t
  t.ringIf (done || err) (99 + n)

/-- The engine's next access is begun: a Saddle run is requested at its bank, with requester index 13 or 14; an access
elsewhere is the engine's own fabric access (R42, R505). -/
def dmaAsk (s : State) (n : Nat) : State :=
  let d := s.dmaAt n
  if d.toRead ≠ 0 then
    match saddleRun d.src d.toRead with
    | some (w, k) =>
      sdlRequest (s.setDma n { d with
        parts := sdlParts w k, size := k, arrived := false, buf := d.buf ++ List.replicate k 0 }) (13 + n) w k false []
        (.dmaRead n d.buf.length)
    | none => s
  else
    match saddleRun d.dst d.buf.length with
    | some (w, k) =>
      if k = 0 then s
      else sdlRequest (s.setDma n { d with parts := sdlParts w k, size := k, arrived := false }) (13 + n) w k true
        (d.buf.take k) (.dmaWrite n)
    | none => s

/-- The next burst begins (R53). -/
def dmaBurst (s : State) (n : Nat) : State :=
  let d := s.dmaAt n
  let k := min d.burst d.left
  dmaAsk (s.setDma n { d with toRead := k, left := d.left - k }) n

/-- The engine goes on after an access: to the next one of the burst, to the next burst, or to its end (R53, R54). -/
def dmaGo (s : State) (n : Nat) : State :=
  let d := s.dmaAt n
  if d.toRead ≠ 0 ∨ d.buf ≠ [] then dmaAsk s n
  else if d.left = 0 ∧ !d.stopping then dmaStop s n true false
  else if d.stopping then dmaStop s n false false
  else dmaBurst s n

/-- A write of FAB_DMA[n]_CTRL (R53, R54). An EN that is cleared while the engine is busy stops it after the burst, also when EN is
set again before that (log entry 86). -/
def dmaCtrlWrite (s : State) (n v : Nat) : State :=
  let busy := s.flag .FAB_DMA_CTRL_BUSY n
  let t := (((s.fset .FAB_DMA_CTRL_CNT v n).fset .FAB_DMA_CTRL_BURST (bits v 16 3) n).fput .FAB_DMA_CTRL_EN (bit v 24) n)
  let t := if bit v 22 then t.clearBits .FAB_DMA_CTRL_DONE 1 n else t
  let t := if bit v 23 then t.clearBits .FAB_DMA_CTRL_ERR 1 n else t
  if busy then
    if bit v 24 then t else t.setDma n { t.dmaAt n with stopping := true }
  else if bit v 20 ∧ bit v 24 ∧ v % 65536 ≠ 0 then
    let u := t.setDma n {
      src := 8 * t.fget .FAB_DMA_SRC_ADDR n, dst := 8 * t.fget .FAB_DMA_DST_ADDR n, left := v % 65536,
      burst := bits v 16 3 + 1 }
    dmaBurst (u.fset .FAB_DMA_CTRL_BUSY 1 n) n
  else t

end Sys2Proof.Machine
end

