-- ==== Sys2Proof/Machine/Harness.lean ====
section
/-! DEFINITION. The Harness: arrival of events, channels, task inputs, the route table and its next routes
(spec/09_timers_harness.md, R314 to R323). -/

namespace Sys2Proof.Machine

/-- The producers with an event in a list that feed channel `c` (R316). -/
def channelFeeds (s : State) (es : List HrnEvent) (c : Nat) : List HrnEvent :=
  es.filter fun e => s.fbit .HRN_CH_MASK_MASK (e.prod % 32) c (e.prod / 32)

/-- Every pending next route becomes the active route, and PEND clears (R320). -/
def applyRoutes (s : State) : State :=
  let t := (List.range 256).foldl (fun u i =>
    if u.flag .HRN_ROUTENX_PEND i then
      ((u.fset .HRN_ROUTE_CH (u.fget .HRN_ROUTENX_CH i) i).fset .HRN_ROUTE_EN (u.fget .HRN_ROUTENX_EN i) i).fset
        .HRN_ROUTENX_PEND 0 i
    else u) s
  { (t.fset .HRN_RTCTRL_APPLY 0) with routeAt := some s.laneEdge }

/-- Task input `i` delivers an activation for the events of its channel at arrival edge `e`: usable one lane cycle later, with the
input's TAG and the highest generation; events of two producers or more are counted (R318, R321, R322). -/
def deliverTask (s : State) (e i : Nat) (evs : List HrnEvent) : State :=
  let gen := evs.foldl (fun g x => max g x.gen) 0
  let tag := bits (s.fget .LANE_TASKTAG_TAG (i / 8)) (4 * (i % 8)) 4
  let t := if 2 ≤ evs.length then (s.fcount .HRN_COINCIDE_COUNT).fset .HRN_COINCIDE_LAST i else s
  t.arrive (i / 8) (e + 2) ⟨0, false, tag, gen, 32 + i % 8⟩

/-- A channel carries events: it is remembered and rings its doorbell when enabled (R317). -/
def channelCarries (s : State) (c : Nat) : State :=
  let t := if c < 32 then s.hbit .HRN_CHSEENLO_SEEN c else s.hbit .HRN_CHSEENHI_SEEN (c - 32)
  t.ringIf (t.flag .HRN_CH_CFG_DBELL c) c

/-- The routing of the events of one arrival edge: the apply first when its boundary channel carries an event, then the channels,
the task inputs in order, and the frame event (R316 to R321, R362). -/
def routeEvents (s : State) (e : Nat) (es : List HrnEvent) : State :=
  let t := if s.flag .HRN_RTCTRL_APPLY && !(channelFeeds s es (s.fget .HRN_RTCTRL_BCH)).isEmpty then applyRoutes s else s
  let live := (List.range 64).filter fun c => !(channelFeeds t es c).isEmpty
  let t := live.foldl channelCarries t
  let t := (List.range 256).foldl (fun u i =>
    let c := u.fget .HRN_ROUTE_CH i
    if u.flag .HRN_ROUTE_EN i && live.contains c then deliverTask u e i (channelFeeds u es c) else u) t
  if live.contains (t.fget .TTH_CFG_FRAMECH) then frameEvent t else t

/-- The earliest arrival edge under way. -/
def firstArrival (s : State) : Option Nat :=
  s.hrn.foldl (fun m e => match m with | some x => some (min x e.edge) | none => some e.edge) none

/-- HARNESS_ARRIVAL: the events of the earliest arrival edge that has come (R315, R316). -/
def execHarnessArrival (s : State) : Host.Outcome State Fault Refusal :=
  match firstArrival s with
  | some e =>
    if e ≤ s.ltc then
      .next (routeEvents { s with hrn := s.hrn.filter (fun x => x.edge != e) } e (s.hrn.filter (fun x => x.edge == e)))
    else .next s
  | none => .next s

/-- A write of HRN_SWEV (R314). -/
def swevOp (s : State) (v : Nat) : State := (setBits 4 v).foldl (fun t i => t.raiseLane (122 + i) 0) s

/-- A write of HRN_ROUTENX[i]: with CANCEL it clears PEND alone, else it sets the next route and PEND (R320). -/
def routeNextOp (s : State) (i v : Nat) : State :=
  if bit v 8 then s.fset .HRN_ROUTENX_PEND 0 i
  else ((s.fset .HRN_ROUTENX_CH v i).fput .HRN_ROUTENX_EN (bit v 6) i).fset .HRN_ROUTENX_PEND 1 i

/-- An apply is requested with the BEN and BCH of the write; without BEN it takes place at this edge (R320). -/
def applyRequest (s : State) : State :=
  let t := s.fset .HRN_RTCTRL_APPLY 1
  if t.flag .HRN_RTCTRL_BEN then t else applyRoutes t

/-- The boundary event of the waiting apply falls on the present lane edge. -/
def boundaryNow (s : State) : Bool :=
  !(channelFeeds s (s.hrn.filter fun e => decide (e.edge ≤ s.laneEdge)) (s.fget .HRN_RTCTRL_BCH)).isEmpty

/-- A write of HRN_RTCTRL: while an apply waits only CANCEL acts, and not at the edge of its boundary event; CANCEL and APPLY
together replace the waiting apply (R320). -/
def rtctrlWrite (s : State) (v : Nat) : State :=
  let set := fun (t : State) => (t.fput .HRN_RTCTRL_BEN (bit v 1)).fset .HRN_RTCTRL_BCH (bits v 2 6)
  if s.flag .HRN_RTCTRL_APPLY then
    if bit v 8 && !boundaryNow s then
      let t := s.fset .HRN_RTCTRL_APPLY 0
      if bit v 0 then applyRequest (set t) else set t
    else s
  else if bit v 8 && bit v 0 && s.routeAt == some s.laneEdge && s.flag .HRN_RTCTRL_BEN then s
  else if bit v 0 then applyRequest (set s) else set s

end Sys2Proof.Machine
end

