-- ==== Sys2Proof/Machine/FyzBase.lean ====
section
/-! DEFINITION. Fyzal: ports, sessions, error counters, and what the reset and the start of the management core do to them
(spec/14_fyzal_host.md). -/

namespace Sys2Proof.Machine

def State.fport (s : State) (p : Nat) : FyzPort := vget s.fyz.port p
def State.setFport (s : State) (p : Nat) (x : FyzPort) : State := { s with fyz := { s.fyz with port := vput s.fyz.port p x } }

/-- Port `p` is enabled (R452). -/
def portEn (s : State) (p : Nat) : Bool := s.flag .FYZ_PORT_CFG_EN p

/-- An enabled port that is clocked (R397, R403). -/
def portLive (s : State) (p : Nat) : Bool := s.clockOn 17 && portEn s p

/-- The PMBus responder is enabled and clocked. -/
def pmbLive (s : State) : Bool := s.clockOn 17 && s.flag .FYZ_PMB_CFG_EN

/-- The ROM interpreter takes requests: the management core is out of reset (FYZ_STAT.MGMTUP). -/
def mgmtUp (s : State) : Bool := !s.flag .FAB_CORE_CTRL_RST 4

/-- The ports with a session (FYZ_STAT.SESS). -/
def sessionMask (s : State) : Nat := (List.range 5).foldl (fun m p => m + b2n (s.fport p).session.isSome * 2 ^ p) 0

/-- An error counter of port `p` counts; FYZ_PORTERR rings when it leaves 0 (R485). -/
def portError (s : State) (p : Nat) (f : Fld) : State := (s.ringIf (s.fget f p == 0) 153).fcount f p

/-- The classes of the event log that no notice has (R480). -/
def logSession : Nat := 9
def logKey : Nat := 10
def logImage : Nat := 11

/-- The session of port `p` ends: it is logged, and its upload ends (R468, R473, R480). -/
def endSession (s : State) (p code : Nat) : State :=
  match (s.fport p).session with
  | none => s
  | some x =>
    let t := s.setFport p { s.fport p with session := none }
    let t := if t.fyz.upload.any (fun u => u.2.2 == x.sid) then { t with fyz := { t.fyz with upload := none } } else t
    t.logAppend logSession code p (leBytes 4 x.sid)

/-- Every session ends (R468). -/
def endSessions (s : State) : State := (List.range 5).foldl (fun t p => endSession t p 2) s

/-- The management core enters reset: its locks are freed (R353), the sessions end (R468), the request being executed gets no reply
(R460), and what the ROM kept of executed requests is lost (R461). -/
def mgmtReset (s : State) : State :=
  let t := endSessions (coreResetOp s 4)
  let t := { t with fyz := { t.fyz with reqs := t.fyz.reqs.drop (b2n t.fyz.job.isSome), job := none, store := none, pmb := { t.fyz.pmb with asked := false } } }
  (List.range 5).foldl (fun u p => u.setFport p { u.fport p with dup := none }) t

/-- The management core starts from the ROM (R332); the watchdog counts from here (R402). -/
def mgmtStart (s : State) : State :=
  let t := coreReleaseOp s 4
  { t with pw := { t.pw with kickAt := t.now } }

/-- A write of FAB_CORE[n]_CTRL (R332). -/
def coreCtrlOp (s : State) (n v : Nat) : State :=
  if n = 4 then
    if bit v 0 then (if mgmtUp s then mgmtReset s else s) else (if mgmtUp s then s else mgmtStart s)
  else coreCtrlWrite s n v

/-- Master 8 writes a register of domain `d`, which becomes DIRTY while an image is applied (R404). -/
def safetyWrite (s : State) (d : Nat) : State := if s.img.applied then s.hset .PMG_DOMSTAT_DIRTY 1 d else s

/-- The safety state machine sets the DRV bits that `scope` names and clears their ESTOP bits, with a SAFETY notice (R476,
R479). -/
def resumeOp (s : State) (port scope : Nat) : State :=
  let t := if bit scope 0 then driveWrite (safetyWrite (s.fset .FYZ_STAT_ESTOPPWM 0) 10) 1 else s
  let t := if bit scope 1 then (safetyWrite (t.fset .FYZ_STAT_ESTOPLAE 0) 15).fset .LAE_DRIVE_DRV 1 else t
  if bits scope 0 2 = 0 then t else t.notice 8 2 [port, bits scope 0 2]

/-- A port goes off: it drops its queued packets and closes its session (R452). -/
def portOff (s : State) (p : Nat) : State :=
  let t := endSession s p 1
  let x := t.fport p
  let t := t.setFport p { x with rx := [], frag := none, arrived := [], tx := none, txPos := 0, replies := [], miso := [] }
  { t with
    fyz := { t.fyz with job := if (t.fyz.reqs.head?).any (·.port == p) then none else t.fyz.job, reqs := t.fyz.reqs.filter (·.port != p), safe := t.fyz.safe.filter (·.port != p) }
    notices := vput t.notices p [] }

/-- A write of FYZ_PORT[p]_CFG (R452). -/
def portCfgWrite (s : State) (p v : Nat) : State :=
  let t := s.writeNamed .FYZ_PORT_CFG v p
  if bit v 0 then t else portOff t p

/-- The header of a packet the device sends, and the packet (R448). -/
def packetOf (opcode seq flags : Nat) (payload : List Nat) : List Nat :=
  let h := [0xC5, 0x01, opcode % 256, seq % 256, payload.length % 256, payload.length / 256, flags]
  let b := h ++ [crc8 0x07 0x00 h] ++ payload
  b ++ leBytes 4 (crc32c b)

/-- A notice as a packet (R479). -/
def noticePacket (n : Notice) : List Nat :=
  packetOf 0x4F n.seq 0x02 ([n.cls, n.code] ++ leBytes 8 n.ltv ++ n.data)

/-- The port starts its next waiting packet when it sends none: a reply before a notice, notices oldest first (R451). -/
def sendNext (s : State) (p : Nat) : State :=
  let x := s.fport p
  match x.tx, x.replies, vget s.notices p with
  | none, r :: rest, _ => s.setFport p { x with tx := some r, txPos := 0, replies := rest }
  | none, [], n :: rest =>
    { (s.setFport p { x with tx := some (noticePacket n), txPos := 0 }) with notices := vput s.notices p rest }
  | _, _, _ => s

/-- The packet under way is over. -/
def sendDone (s : State) (p : Nat) : State := sendNext (s.setFport p { s.fport p with tx := none, txPos := 0 }) p

/-- A reply queued at a port; UART and CAN send whenever a packet waits (R459). -/
def queueReply (s : State) (p : Nat) (pkt : List Nat) : State :=
  let t := s.setFport p { s.fport p with replies := (s.fport p).replies ++ [pkt] }
  if 2 ≤ p then sendNext t p else t

/-- In a tick, UART and CAN start a packet that waits. -/
def fyzTick (s : State) : State := [2, 3, 4].foldl (fun t p => sendNext t p) s

end Sys2Proof.Machine
end

