-- ==== Sys2Proof/Machine/Spire.lean ====
section
/-! DEFINITION. Calibration of the Spire lines (spec/05_spire_edges.md). -/

namespace Sys2Proof.Machine

/-- Line `i` has a fault (R184). -/
def lineFault (s : State) (i : Nat) : Bool :=
  if i < 32 then s.fbit .SPR_FAULTLO_FAULT i else s.fbit .SPR_FAULTHI_FAULT (i - 32)

def lockPut (s : State) (i : Nat) (b : Bool) : State :=
  if i < 32 then s.fbitSet .SPR_LOCKLO_LOCK i b else s.fbitSet .SPR_LOCKHI_LOCK (i - 32) b

def faultPut (s : State) (i : Nat) (b : Bool) : State :=
  if b then (if i < 32 then s.hbit .SPR_FAULTLO_FAULT i else s.hbit .SPR_FAULTHI_FAULT (i - 32))
  else if i < 32 then s.clearBits .SPR_FAULTLO_FAULT (2 ^ i) else s.clearBits .SPR_FAULTHI_FAULT (2 ^ (i - 32))

/-- All 48 lines are locked (R183). -/
def allLocked (s : State) : Bool := (List.range 48).all (lineLocked s)

/-- No edge of line `i` is placed in a tick (R178). -/
def lineIdle (s : State) (i tick : Nat) : Bool := !(outAt s (i / 2) (i % 2 == 1)).edges.contains tick

/-- The tables and locks that the edges of the tick that begins are placed with (R177). -/
def spireTick (s : State) : State :=
  { s with spr := Vector.ofFn fun (i : Fin 48) =>
      { s.sprAt i with tab := s.fget .SPR_LINE_S i, lock0 := lineLocked s i } }

/-- A mean of measurements with 4 fraction bits; which way a fraction rounds is open (log entry 26). -/
def meanStages (s : State) (sum n : Nat) : Nat := (16 * sum + s.draw % n) / n

/-- The stage range of R184. -/
def stageBad (stage : Nat) : Bool := stage < 100 || 287 < stage

/-- SPIRE_MEASUREMENT: in an idle tick, of a locked line at most one in 8 ticks (R178, R183). -/
def execSpireMeasurement (i : Fin 48) (stage : Nat) (s : State) : Host.Outcome State Fault Refusal :=
  let x := s.sprAt i
  let free := match x.lastMeas with
    | some t => if lineLocked s i then decide (t + 8 ≤ s.now) else decide (t < s.now)
    | none => true
  let full := x.count == if lineLocked s i then 256 else 2048
  if s.clockOn 11 && lineIdle s i s.now && free && !lineFault s i && !full then
    .next (s.setSpr i { x with
      back := (x.count, x.sum, x.bad, x.lastMeas), count := x.count + 1, sum := x.sum + stage, bad := if stageBad stage then x.bad + 1 else 0, lastMeas := some s.now })
  else .next s

/-- The last measurement of a line stands: the tick it was made in is over (R178). -/
def measured (s : State) (x : SprLine) : Bool := s.clockOn 11 && x.lastMeas.all (fun t => decide (t < s.now))

/-- CALIBRATION_GROUP_DONE: the clamped new S goes into the inactive copy, or is discarded under CALHOLD (R179, R182). -/
def execCalibrationGroupDone (i : Fin 48) (s : State) : Host.Outcome State Fault Refusal :=
  let x := s.sprAt i
  if measured s x && lineLocked s i && x.count == 256 then
    let old : Int := (s.fget .SPR_LINE_S i : Nat)
    let new : Int := (meanStages s x.sum 256 : Nat)
    let v := (old + clampI (-4) 4 (new - old)).toNat
    .next (s.drawn.setSpr i { x with count := 0, sum := 0, next := if s.flag .SPR_CTRL_CALHOLD then none else some v })
  else .next s

/-- A table installed: an update (R181). -/
def installTable (s : State) (i v : Nat) : State :=
  let t := (s.fset .SPR_LINE_S v i).fset .SPR_LINE_UPDCNT (s.fget .SPR_LINE_UPDCNT i + 1) i
  (starvedPut t i false).setSpr i { t.sprAt i with next := none, lastUpd := t.now }

/-- TABLE_INSTALL: at the first idle tick after an idle tick (R179). -/
def execTableInstall (i : Fin 48) (s : State) : Host.Outcome State Fault Refusal :=
  match (s.sprAt i).next with
  | some v =>
    if s.clockOn 11 && lineIdle s i s.now && lineIdle s i (s.now - 1) && !s.flag .SPR_CTRL_CALHOLD then
      let t := installTable s i v
      .next (t.setSpr i { t.sprAt i with inst := some (s.now, starvedQ s i, (s.sprAt i).lastUpd) })
    else .next s
  | none => .next s

/-- SPIRE_LOCK: after 2,048 measurements a table from their mean, with no clamp (R183). -/
def execSpireLock (i : Fin 48) (s : State) : Host.Outcome State Fault Refusal :=
  let x := s.sprAt i
  if measured s x && !lineLocked s i && !lineFault s i && x.count == 2048 then
    let t := installTable (s.drawn.setSpr i { x with count := 0, sum := 0 }) i (meanStages s x.sum 2048)
    .next (lockPut t i true)
  else .next s

/-- SPIRE_FAULT: sixteen consecutive measurements out of range (R184). -/
def execSpireFault (i : Fin 48) (s : State) : Host.Outcome State Fault Refusal :=
  if measured s (s.sprAt i) && decide (16 ≤ (s.sprAt i).bad) && !lineFault s i then
    let t := lockPut (faultPut s i true) i false
    .next ((t.setSpr i { t.sprAt i with count := 0, sum := 0, bad := 0, next := none }).ring 103)
  else .next s

/-- A write of SPR_FAULTLO or SPR_FAULTHI: each fault cleared starts a new lock (R184). -/
def spireFaultClearOp (s : State) (base v : Nat) : State :=
  (setBits (min 32 (48 - base)) v).foldl (fun t b =>
    let u := faultPut t (base + b) false
    if lineFault t (base + b) && !lineFault u (base + b) then
      u.setSpr (base + b) { t.sprAt (base + b) with count := 0, sum := 0, bad := 0 }
    else u) s

/-- STARVED_TIMEOUT: no update for 80,000 ticks (R181). -/
def execStarvedTimeout (i : Fin 48) (s : State) : Host.Outcome State Fault Refusal :=
  if s.clockOn 11 && decide ((s.sprAt i).lastUpd + 80000 ≤ s.now) then .next (starvedPut s i true) else .next s

/-- CALHOLD set or cleared, in a debug session or at its end (R182): a copy that waits is discarded when it sets. -/
def calhold (s : State) (b : Bool) : State :=
  let t := s.fput .SPR_CTRL_CALHOLD b
  if b then (List.range 48).foldl (fun u i => u.setSpr i { u.sprAt i with next := none }) t else t

/-- The Spire block's lines after its reset or a power-on of its domain: all unlocked (R183). -/
def spireUnlock (s : State) : State :=
  let t := ((s.fset .SPR_LOCKLO_LOCK 0).fset .SPR_LOCKHI_LOCK 0)
  { t with spr := Vector.replicate 48 { lastUpd := s.now } }

end Sys2Proof.Machine
end

