-- ==== Sys2Proof/Machine/PowerBase.lean ====
section
/-! DEFINITION. Power domains: what lies in each, their reports, the state the power manager chooses, the loss of a domain
(spec/12_power_startup.md, R403 to R412). -/

namespace Sys2Proof.Machine

/-- The domain an address belongs to (R405; 0 is AON). -/
def addrDomain (a : Nat) : Nat :=
  if 0x10300000 ≤ a ∧ a < 0x10400000 then 19
  else if 0x30000000 ≤ a ∧ a < 0x30800000 then 18
  else if 0x40000000 ≤ a ∧ a < 0x40020000 then 10
  else if 0x40020000 ≤ a ∧ a < 0x40040000 then 11
  else if 0x40040000 ≤ a ∧ a < 0x40100000 then
    match regAt a with
    | some (_, k, _, _) => 6 + k / 8
    | none => 0
  else if 0x40100000 ≤ a ∧ a < 0x40110000 then 12
  else if 0x40110000 ≤ a ∧ a < 0x40120000 then 13
  else if 0x40120000 ≤ a ∧ a < 0x40140000 then 14
  else if 0x40140000 ≤ a ∧ a < 0x40160000 then 15
  else if 0x40200000 ≤ a ∧ a < 0x40220000 then 16
  else if 0x40220000 ≤ a ∧ a < 0x40240000 then 17
  else 0

/-- The address of the register a field key belongs to. -/
def keyAddr (k : FKey) : Nat :=
  match regTable.find? (fun d => d.fields.any (fun f => f.fld = k.f)) with
  | some d => d.base + k.i * d.s1 + k.j * d.s2
  | none => 0

/-- The exit latency from GATED or RETAIN in hundredths of a microsecond, and the OFF base in microseconds (R405). -/
def exitTable (d : Nat) : Nat × Option Nat × Option Nat :=
  match d with
  | 1 | 2 | 3 | 4 => (2, some 150, some 15)
  | 5 => (5, some 200, none)
  | 6 | 7 | 8 | 9 => (1, some 100, some 20)
  | 10 => (1, some 100, some 10)
  | 11 => (1, none, some 5)
  | 12 => (2, some 200, some 10)
  | 13 => (10, some 200, some 20)
  | 14 => (5, some 200, some 5)
  | 15 => (1, some 100, some 10)
  | 16 => (5, some 300, some 30)
  | 17 => (2, some 100, some 5)
  | 18 => (10, none, some 8)
  | 19 => (2, some 50, some 1)
  | _ => (0, none, none)

/-- The exit latency of domain `d` from a state, in hundredths of a microsecond (R405, R406). -/
def exitLatency (s : State) (d st : Nat) : Option Nat :=
  let (g, r, o) := exitTable d
  match st with
  | 0 => some 0
  | 1 => some g
  | 2 => r
  | _ => o.map fun _ => 100 * s.fget .PMG_DOMSTAT_OFFEXIT d

/-- The domains a service uses (R410). -/
def serviceDomains (v : Nat) : List Nat :=
  match v with
  | 0 => [6, 7, 8, 9, 10, 11, 12, 14]
  | 1 => [15, 13, 14]
  | 2 => [13]
  | 3 => [17, 5]
  | 4 => [16]
  | 5 => [1, 2, 3, 4, 19]
  | 6 => [18, 19]
  | _ => [12, 5]

/-- The services that use domain `d`. -/
def servicesOf (d : Nat) : List Nat := (List.range 8).filter fun v => (serviceDomains v).contains d

/-- The tightest budget of a domain in microseconds; none when no bound applies (R410, R411). -/
def tightest (s : State) (d : Nat) : Option Nat :=
  let b := ((servicesOf d).map fun v => s.fget .PMG_BUDGET_US v).filter (· != 0xFFFFFFFF)
  b.foldl (fun m x => some (min x (m.getD x))) none

/-- A HOLD bit is set for a service that uses the domain (R411). -/
def domHeld (s : State) (d : Nat) : Bool := (servicesOf d).any fun v => s.fbit .PMG_HOLD_HOLD v

/-- Any lane of group `g` is enabled (R195, R405). -/
def groupActive (s : State) (g : Nat) : Bool := (List.range 8).any fun k => s.flag .LANE_CTRL_EN (8 * g + k)

/-- Any channel is enabled. -/
def anyChannel (s : State) : Bool := (List.range 24).any (chEn s)

/-- Active: 0; retained: 1; idle: 2. -/
def reportOf (active : Bool) (rest : Nat := 2) : Nat := if active then 0 else rest

/-- What the blocks of a domain report: 0 ACTIVE, 1 RETAINED, 2 IDLE (R404, R405). An access in progress, held or made in this tick,
is active, and so is a conversion burst of the Cupola, an access of the SAR domain (R408, R431). -/
def domReport (s : State) (d : Nat) : Nat :=
  if s.pw.held.any (fun h => addrDomain h.addr == d) || vget s.pw.accAt d == some s.now then 0 else
  match d with
  | 1 | 2 | 3 | 4 =>
    if s.flag .FAB_CORE_CTRL_RST (d - 1) then 2 else reportOf (!(s.coreAt (d - 1)).wfi) 1
  | 5 => reportOf (!(s.coreAt 4).wfi) 1
  | 6 | 7 | 8 | 9 => reportOf (groupActive s (d - 6))
  | 10 => reportOf (s.flag .PWM_DRIVE_DRV || s.fget .PWM_TEAMRUN_RUN != 0 || (List.range 8).any (teamRuns s) || anyChannel s)
  | 11 => reportOf (s.flag .PWM_DRIVE_DRV && anyChannel s)
  | 12 => reportOf (s.fget .ADC_CTRL_EN != 0 || (List.range 16).any fun c => (s.sarAt c).burst.isSome)
  | 13 => reportOf (s.fget .SDM_CTRL_EN != 0 || s.flag .SDM_CTRL_MET_EN)
  | 14 => reportOf ((List.range 48).any (fun k => s.flag .CMP_CFG_EN k) || (List.range 8).any (fun j => s.flag .CMP_MIR_EN j) ||
      latches s != 0 || s.fget .REIN_SWTRIP_FORCE != 0)
  | 15 => reportOf (s.flag .LAE_CTRL_ENA || s.flag .LAE_CTRL_ENB || s.flag .LAE_DRIVE_DRV)
  | 16 => reportOf (s.flag .TTH_CFG_PAIRED)
  | 17 => reportOf ((List.range 5).any (portEn s) || s.flag .FYZ_PMB_CFG_EN)
  | 18 => reportOf (!s.pw.mramBuf.isEmpty)
  | 19 => reportOf false (if s.flag .PMG_DOMSTAT_DIRTY 19 then 1 else 2)
  | _ => 0

/-- A state that the reports allow (R404); OFF needs an image to restore the domain from. -/
def stateAllowed (s : State) (d st : Nat) : Bool :=
  match domReport s d with
  | 0 => st == 0
  | 1 => st ≤ 2
  | _ => st ≤ 2 || (s.img.applied && !s.flag .PMG_DOMSTAT_DIRTY d)

/-- A state whose exit latency meets the tightest budget (R411). -/
def stateMeets (s : State) (d st : Nat) : Bool :=
  match exitLatency s d st with
  | none => false
  | some l => match tightest s d with
    | none => true
    | some b => decide (l ≤ 100 * b)

/-- The deepest state that the power manager may choose (R411). -/
def domTarget (s : State) (d : Nat) : Nat :=
  if domHeld s d || d == 0 then 0
  else ([3, 2, 1].find? fun st => stateAllowed s d st && stateMeets s d st).getD 0

/-- Every domain of a service is ON. -/
def serviceOn (s : State) (v : Nat) : Bool := (serviceDomains v).all (domOn s)

/-- PMG_READY rings when every domain of a service newly held is ON, with its POWER notice (R412, R470). -/
def readyRing (s : State) : State :=
  let done := (List.range 8).filter fun v => bit s.pw.holdWait v && serviceOn s v
  if done = [] then s
  else
    let w := done.foldl (fun m v => setBit m v false) s.pw.holdWait
    let t := { s with pw := { s.pw with holdWait := w } }
    (t.ring 160).notice 7 0 (leBytes 4 (t.fget .PMG_HOLD_HOLD))

/-- A write of PMG_HOLD lands (R412). -/
def holdOp (s : State) (v : Nat) : State :=
  let old := s.fget .PMG_HOLD_HOLD
  let w := (List.range 8).foldl (fun m i => setBit m i (bit v i && (!bit old i || bit s.pw.holdWait i))) 0
  readyRing { s.fset .PMG_HOLD_HOLD v with pw := { s.pw with holdWait := w } }

/-- A write of PMG_WDT lands; a new PERIOD counts from here (R402). -/
def wdtOp (s : State) (v : Nat) : State :=
  { s.writeNamed .PMG_WDT v with pw := { s.pw with kickAt := s.now } }

/-- A write of PMG_WDTKICK: 0xA5 kicks the watchdog (R402). -/
def kickOp (s : State) (v : Nat) : State :=
  if v % 256 = 0xA5 then { s with pw := { s.pw with kickAt := s.now } } else s

/-- What the seat strap chooses among the reset values of the host ports (R356, spec/14). -/
def seatFields (s : State) : State :=
  if s.pw.seat then
    let t := (List.range 2).foldl (fun u n => (u.fset .FYZ_CAN_ID_RXID 0x682 n).fset .FYZ_CAN_ID_TXID 0x683 n) s
    t.fset .FYZ_PMB_CFG_ADDR 0x59
  else s

/-- What a domain holds beside its registers goes back to its state after reset. -/
def resetHidden (s : State) (d : Nat) : State :=
  match d with
  | 1 | 2 | 3 | 4 => s.setCore (d - 1) {}
  | 6 | 7 | 8 | 9 =>
    let t := (List.range 8).foldl (fun u k => u.setLane (8 * (d - 6) + k) {}) s
    t.setDuty (d - 6) []
  | 10 => { (List.range 24).foldl (fun t n => t.fset .SPR_DITH_IDX 0 n) s with
      chan := Vector.replicate 24 {}, pw := { s.pw with drvWait := none } }
  | 11 => spireUnlock s
  | 12 => { s with
      sar := Vector.replicate 16 {}, armed := Vector.replicate 96 false, occ := Vector.replicate 96 0, copyEnd := 0,
      slotHeld := [] }
  | 13 => { s with
      sdmOver := Vector.replicate 12 false, meter := Vector.replicate 12 [], meterWin := Vector.replicate 2 { start := s.now }
      energyRem := Vector.replicate 12 0 }
  | 14 => { s with
      cmp := s.cmp.map (fun c => { ballUv := c.ballUv }), trip := s.trip.map (fun p => { ball := p.ball }), reinTick := 0,
      reinPrev := 0, rawPast := [0, 0], pinPast := [0, 0], reinPast := [0, 0] }
  | 15 => meterRestart (meterRestart { s with
      feed := Vector.replicate 2 {}, pair := Vector.replicate 12 {}, xfer := {}, energised := false,
      angHist := Vector.replicate 2 [0, 0, 0, 0, 0, 0] } 0) 1
  | 16 => settleAll { s with
      twin := { aloneFrom := s.now, keepFrom := s.now }, snap := none, shadowIn := [], syncIn := [], monEdge := false
      monArmed := false, monQuiet := 0 } true
  | 17 => breakLocksOf { s with fyz := { jtag := s.fyz.jtag }, notices := Vector.replicate 5 [] } 8
  | 19 => s.freeMem 0x10300000 0x10400000
  | _ => s

/-- A field that a domain's loss of power takes back to its reset value. -/
def lostField (d : Nat) (k : FKey) : Bool := addrDomain (keyAddr k) == d

/-- A domain goes OFF: what it held is lost (R403); with HOSTIO the safety state machine is reset, which frees its locks (R353). -/
def domainLost (s : State) (d : Nat) : State := resetHidden (s.resetFields (lostField d)) d

end Sys2Proof.Machine
end

