-- ==== Sys2Proof/Machine/Timers.lean ====
section
/-! DEFINITION. The general timers, the chained pairs and the wide reads (spec/09_timers_harness.md, R301 to R313). -/

namespace Sys2Proof.Machine

def State.tmrAt (s : State) (t : Nat) : Tmr := vget s.tmr t
def State.setTmr (s : State) (t : Nat) (x : Tmr) : State := { s with tmr := vput s.tmr t x }

/-- Timer `t` leads a chained pair; timer `t` is the odd timer of one (R308). -/
def tmrLeads (s : State) (t : Nat) : Bool := t % 2 == 0 && s.flag .TMR_CFG_CHAIN t
def tmrFollows (s : State) (t : Nat) : Bool := t % 2 == 1 && s.flag .TMR_CFG_CHAIN (t - 1)

/-- The field of a timer, with that of its partner as the upper half when it leads a pair (R308). -/
def tmrWide (s : State) (f : Fld) (t j : Nat) : Nat :=
  s.fget f t j + (if tmrLeads s t then s.fget f (t + 1) j * 2 ^ 32 else 0)

/-- A field of a timer, and of its partner when it leads a pair, set to a value. -/
def setTmrWide (s : State) (f : Fld) (t j v : Nat) : State :=
  let u := s.fset f v t j
  if tmrLeads s t then u.fset f (v / 2 ^ 32) (t + 1) j else u

/-- The count's modulus. -/
def tmrMod (s : State) (t : Nat) : Nat := if tmrLeads s t then 2 ^ 64 else 2 ^ 32

/-- Timer `t` executes the present tick (R301, R306). -/
def tmrExecutes (s : State) (t : Nat) : Bool :=
  s.flag .TMR_CFG_EN t && decide ((s.tmrAt t).enAt < s.now) && !tmrFollows s t

/-- The action of a match of compare `j` on the level (R304). -/
def tmrAction (s : State) (t j : Nat) : State :=
  let code := bits (s.regWord (regDesc .TMR_ACT) t 0) (2 * j) 2
  match code with
  | 1 => s.fset .TMR_PIN_LEVEL 0 t
  | 2 => s.fset .TMR_PIN_LEVEL 1 t
  | 3 => s.fput .TMR_PIN_LEVEL (!s.flag .TMR_PIN_LEVEL t) t
  | _ => s

/-- A match of compare `j`: its flag, its slot trigger, its Harness event when enabled, its action (R303, R304). -/
def tmrMatch (t : Nat) (s : State) (j : Nat) : State :=
  if tmrWide s .TMR_ACMP_CMP t j = tmrWide s .TMR_CNT_COUNT t 0 then
    let u := slotEvent (s.hbit .TMR_STAT_CSEEN j t) (144 + 4 * t + j)
    tmrAction (if u.fbit .TMR_EVCFG_CEN j t then u.raise (88 + t) else u) t j
  else s

/-- The arrival edge of an event raised in the present tick (R315). -/
def eventEdge (s : State) : Nat := s.ltc + (if s.ltc % 2 = 0 then 4 else 3)

/-- A producer has an event on its way to that edge. -/
def eventSent (s : State) (prod : Nat) : Bool := s.hrn.any fun x => decide (x.prod = prod ∧ x.edge = eventEdge s)

/-- What timer `t` stands at. -/
def tmrStands (s : State) (t : Nat) : TmrStep :=
  ⟨s.now, tmrWide s .TMR_CNT_COUNT t 0, (s.tmrAt t).fresh, s.fget .TMR_STAT_ZSEEN t, s.fget .TMR_STAT_CSEEN t,
    s.fget .TMR_PIN_LEVEL t, eventSent s (72 + t), eventSent s (88 + t)⟩

/-- The first tick of a step: the count decrements unless it was just set; a zero step raises the zero event; the matches
act in the order of the compares (R301 to R304). -/
def tmrFirst (s : State) (t : Nat) : State :=
  let x := s.tmrAt t
  let c := tmrWide s .TMR_CNT_COUNT t 0
  let n := if x.fresh then c else (c + tmrMod s t - 1) % tmrMod s t
  let u := (setTmrWide s .TMR_CNT_COUNT t 0 n).setTmr t { x with fresh := false, taken := true, before := some (tmrStands s t) }
  let u := if n = 0 then
      let w := u.hset .TMR_STAT_ZSEEN 1 t
      if w.flag .TMR_EVCFG_ZEN t then w.raise (72 + t) else w
    else u
  (List.range 4).foldl (tmrMatch t) u

/-- Timer `t` is in a first tick that has not acted. -/
def tmrDue (s : State) (t : Nat) : Bool :=
  tmrExecutes s t && (s.tmrAt t).place == 0 && !(s.tmrAt t).taken

/-- The first tick of a step acts when it has not: what it does is part of the tick, also for an access that comes before TIMER_STEP
(R506). -/
def tmrSettle (s : State) (t : Nat) : State := if tmrDue s t then tmrFirst s t else s

/-- The timer that timer `t`'s registers belong to: of a chained pair, the even one (R308). -/
def tmrOf (s : State) (t : Nat) : Nat := if tmrFollows s t then t - 1 else t

/-- A first tick that has acted in this very tick is taken back (R306, R506). -/
def tmrBack (s : State) (t : Nat) : State :=
  match (s.tmrAt t).before with
  | none => s
  | some b =>
    if b.tick ≠ s.now ∨ !(s.tmrAt t).taken then s
    else
      let u := setTmrWide s .TMR_CNT_COUNT t 0 b.count
      let u := ((u.fset .TMR_STAT_ZSEEN b.zseen t).fset .TMR_STAT_CSEEN b.cseen t).fset .TMR_PIN_LEVEL b.level t
      let u := u.setTmr t { u.tmrAt t with fresh := b.fresh, taken := false, before := none }
      let sent (x : HrnEvent) : Bool :=
        x.edge == eventEdge s && ((x.prod == 72 + t && !b.zev) || (x.prod == 88 + t && !b.cev))
      { u with
        hrn := u.hrn.filter fun x => !sent x
        trigs := u.trigs.filter fun c => !(decide (144 + 4 * t ≤ c) && decide (c < 148 + 4 * t)) }

/-- A write of a register of timer `t` is in force for all that its tick does (R304, R306, R506). -/
def tmrWith (s : State) (t : Nat) (op : State → State) : State :=
  let g := tmrOf s t
  tmrSettle (op (tmrBack s g)) g

/-- TIMER_STEP: the first tick of a step acts, once (R301). -/
def execTimerStep (t : Fin 16) (s : State) : Host.Outcome State Fault Refusal :=
  .next (tmrSettle s t)

/-- The end of the last tick of a zero step: the reload and the compare preloads are taken as they stand (R302). -/
def tmrReload (s : State) (t : Nat) : State :=
  let u := setTmrWide s .TMR_CNT_COUNT t 0 (tmrWide s .TMR_RELOAD_RELOAD t 0)
  let u := (List.range 4).foldl (fun w j => setTmrWide w .TMR_ACMP_CMP t j (tmrWide w .TMR_CMP_CMP t j)) u
  u.setTmr t { u.tmrAt t with fresh := true }

/-- The end of a tick of timer `t`: a first tick that has not acted acts, the place in the step moves on, a zero step ends
in the reload; the ball takes the level at the start of the next tick (R301 to R304). -/
def tmrTick (s : State) (t : Nat) : State :=
  let u := tmrSettle s t
  let u := if tmrExecutes u t then
      let x := u.tmrAt t
      if x.place < u.fget .TMR_CFG_PSC t then u.setTmr t { x with place := x.place + 1 }
      else
        let w := if tmrWide u .TMR_CNT_COUNT t 0 = 0 then tmrReload u t else u
        w.setTmr t { w.tmrAt t with place := 0, taken := false }
    else u
  u.setTmr t { u.tmrAt t with ball := u.flag .TMR_PIN_LEVEL t }

/-- Timer `t` counts: its EN, or for the odd timer of a chained pair that of the even one (R306, R308). -/
def tmrRunning (s : State) (t : Nat) : Bool := s.flag .TMR_CFG_EN (if tmrFollows s t then t - 1 else t)

/-- RUN of timer `t`, and of the odd timer beside an even one, shown as it is (R308). -/
def tmrShow (s : State) (t : Nat) : State :=
  let u := s.fput .TMR_STAT_RUN (tmrRunning s t) t
  if t % 2 = 0 then u.fput .TMR_STAT_RUN (tmrRunning u (t + 1)) (t + 1) else u

/-- EN of timer `t` set or cleared in this tick (R301, R306, R307). A tick it is cleared in is not executed. -/
def tmrEnable (s : State) (t : Nat) (b : Bool) : State :=
  if s.flag .TMR_CFG_EN t = b then s
  else
    let s := if b then s else tmrBack s t
    let u := tmrShow (s.fput .TMR_CFG_EN b t) t
    if b then u.setTmr t { u.tmrAt t with enAt := u.now } else u

/-- A write of TMR[t]_CFG: the fields other than EN only while EN is 0; CHAIN reads 0 on odd timers (R306, R308). -/
def tmrCfgWrite (s : State) (t v : Nat) : State :=
  let u := if s.flag .TMR_CFG_EN t then s
    else tmrShow ((s.fset .TMR_CFG_PSC (bits v 1 8) t).fset .TMR_CFG_CHAIN (if t % 2 = 0 then bits v 9 1 else 0) t) t
  tmrEnable u t (bit v 0)

/-- TMR_GO and TMR_HALT: EN of every timer named (R307). -/
def tmrGoOp (s : State) (v : Nat) : State := (setBits 16 v).foldl (fun u t => tmrEnable u t true) s
def tmrHaltOp (s : State) (v : Nat) : State := (setBits 16 v).foldl (fun u t => tmrEnable u t false) s

/-- A write of TMR[t]_CNT: only while the timer, or the pair it is of, has EN = 0; the step restarts (R306). -/
def tmrCntWrite (s : State) (t v : Nat) : State :=
  let g := if tmrFollows s t then t - 1 else t
  if s.flag .TMR_CFG_EN g then s
  else
    let u := s.fset .TMR_CNT_COUNT v t
    u.setTmr g { u.tmrAt g with place := 0, fresh := true, taken := false }

/-- A write of TMR[t]_RELOAD, or of TMR[t]_CMP[j], at address `a` by master `m`. In a chained pair the low half is staged
for its master and takes effect with that master's write of the high half (R309). -/
def tmrPreWrite (s : State) (m : Nat) (f : Fld) (t j a v : Nat) : State :=
  if tmrLeads s t then s.setPort m { s.portAt m with chain := some (a, v % 2 ^ 32) }
  else if tmrFollows s t then
    let p := s.portAt m
    match p.chain with
    | some (b, w) =>
      if b + 0x40 = a then ((s.fset f w (t - 1) j).fset f v t j).setPort m { p with chain := none }
      else s.fset f v t j
    | none => s.fset f v t j
  else s.fset f v t j

/-- A read of the low half of a wide counter: both halves are sampled, and the high one is held for the master (R310). -/
def wideLow (s : State) (m a lo hi : Nat) : Nat × State :=
  (lo, s.setPort m { s.portAt m with wide := some (a, hi, s.now) })

/-- A read of the high half of the wide counter whose low half lies at `a`: the held value within 64 fabric cycles
(3 × ticks ≤ 512), else the live one, with STALEHI and the master (R311). -/
def wideHigh (s : State) (m a hi : Nat) : Nat × State :=
  let live := (hi, (s.hset .TMR_WIDESTAT_STALEHI 1).fset .TMR_WIDESTAT_MASTER m)
  match (s.portAt m).wide with
  | some (b, v, at_) => if b = a ∧ 3 * (s.now - at_) ≤ 512 then (v, s) else live
  | none => live

/-- A read of TMR[t]_CNT under the wide-read rules (R310, R311), as the count stands in its tick (R506). -/
def tmrCntRead (s : State) (m t : Nat) : Nat × State :=
  let s := tmrSettle s (tmrOf s t)
  if tmrLeads s t then
    wideLow s m (regAddr .TMR_CNT t) (s.fget .TMR_CNT_COUNT t) (s.fget .TMR_CNT_COUNT (t + 1))
  else if tmrFollows s t then wideHigh s m (regAddr .TMR_CNT (t - 1)) (s.fget .TMR_CNT_COUNT t)
  else (s.fget .TMR_CNT_COUNT t, s)

/-- Reads of the line-time counter (R310, R311, R313). -/
def ltcLowRead (s : State) (m : Nat) : Nat × State :=
  wideLow s m (regAddr .TMR_LTC_LO) (s.ltc % 2 ^ 32) (s.ltc / 2 ^ 32 % 2 ^ 32)
def ltcHighRead (s : State) (m : Nat) : Nat × State :=
  wideHigh s m (regAddr .TMR_LTC_LO) (s.ltc / 2 ^ 32 % 2 ^ 32)

/-- The level of TMRm_OUT; `none` is high-impedance with the pull-down, and so it is before an image is applied (R305, R489). -/
def tmrPin (s : State) (t : Nat) : Option Bool :=
  if !s.img.applied || !s.flag .TMR_PIN_OE t then none
  else if s.flag .CUP_STAT_SHUT then some (s.flag .TMR_PIN_SAFE t)
  else some (s.tmrAt t).ball

end Sys2Proof.Machine
end

