-- ==== Sys2Proof/Machine/RegWrite.lean ====
section
/-! DEFINITION. What a write of a register does when it lands, by the name of the register (R14, R506). -/

namespace Sys2Proof.Machine

/-- A write whose lines may have become inactive (R125). -/
def thenRelax (s : State) (n : RegName) (v : Nat) (i : Nat := 0) : State := reinRelax (s.writeNamed n v i)

/-- Registers of the Saddle store, the fabric, the converters and the comparators. -/
def landSense (s : State) (m : Nat) (d : RegDesc) (i j v : Nat) : State :=
  match d.name with
  | .SDL_BANK_AGE => sdlThreshWritten (s.writeReg d i j v) i
  | .FAB_DMA_CTRL => dmaCtrlWrite s i v
  | .ADC_CTRL => adcCtrlWrite s v
  | .ADC_BANK => adcBankWrite s v
  | .ADC_FRAME => adcFrameWrite s v
  | .ADC_SLOT_W0 => slotWrite s m i false v
  | .ADC_SLOT_W1 => slotWrite s m i true v
  | .ADC_SLOTACT_W0 => slotActWrite s m i false v
  | .ADC_SLOTACT_W1 => slotActWrite s m i true v
  | .ADC_SCALE_GAIN => { s.writeReg d i j v with scaleDecl := setBit s.scaleDecl i true }
  | .SDM_CTRL => sdmCtrlWrite s v
  | .CMP_CFG => cmpCfgOp s i v
  | .CMP_THR => thrWrite s i v
  | .CMP_LATCHLO => softClear s 0 v
  | .CMP_LATCHHI => softClear s 32 v
  | .REIN_CMPLO | .REIN_CMPHI | .REIN_PIN => thenRelax s d.name v i
  | .REIN_PINCFG => pincfgOp s i v
  | .REIN_SWTRIP => thenRelax s .REIN_SWTRIP v
  | _ => s.writeReg d i j v

/-- The preload a register of a channel is (R139). -/
def preloadIndex : RegName → Option Nat
  | .PWM_CH_PRD => some 0
  | .PWM_CH_PHS => some 1
  | .PWM_CH_CMPA => some 2
  | .PWM_CH_CMPB => some 3
  | .PWM_CH_CMPC => some 4
  | .PWM_CH_CMPD => some 5
  | .PWM_CH_DTR => some 6
  | .PWM_CH_DTF => some 7
  | _ => none

/-- Registers of the PWM generator and of Spire. -/
def landPwm (s : State) (m : Nat) (d : RegDesc) (i j v : Nat) : State :=
  match d.name with
  | .PWM_CH_CFG => chCfgOp s i v
  | .PWM_CH_ACT => chActOp s i v
  | .PWM_CH_REFR => if m = 7 then s.writeReg d i j v else refrWrite s i v
  | .PWM_CH_TRIPMASK => tripmaskWrite s i v
  | .PWM_CH_FORCE => forceOp s i v
  | .PWM_CH_EVCFG => evcfgOp s i v
  | .PWM_CH_STAT => chStatOp s i v
  | .PWM_TEAMLOAD => loadAllOp s (v % 256)
  | .PWM_TEAMRUN => teamRunOp s v
  | .PWM_DRIVE => driveWrite s v
  | .SPR_CTRL => if s.fyz.jtag.debug then calhold s (bit v 0) else s
  | .SPR_FAULTLO => spireFaultClearOp s 0 v
  | .SPR_FAULTHI => spireFaultClearOp s 32 v
  | _ => match preloadIndex d.name with
    | some r => preloadOp s i r v 4
    | none => s.writeReg d i j v

/-- Registers of the lanes and of the Line Angle Engine. What a fabric write would leave out as invalid, the sequencer writes, and
the image check judges it (R154, R254, R277, R284). -/
def landLoops (s : State) (m : Nat) (d : RegDesc) (i j v : Nat) : State :=
  match d.name with
  | .LANE_CTRL => laneCtrlWrite s i v
  | .LANE_STAT => laneStatWrite s i v
  | .LANE_LREG => lregWrite s i j v
  | .LANE_PMEM => pmemWriteOp s i j v
  | .LANE_POSTOP => postopOp s i v
  | .LANE_POST => postOp s m i v
  | .LAE_CTRL => laeCtrlWrite s v
  | .LAE_REM | .LAE_REMV => fluxMoved (s.writeReg d i j v)
  | .LAE_XCTRL => xctrlWrite s v
  | .LAE_NET => if m = 7 then s.writeReg d i j v else netWrite s i v
  | .LAE_FEED_XF => if m = 7 then s.writeReg d i j v else xfWrite s i v
  | .LAE_FEED_PREVC => prevcWrite s i v
  | .LAE_FEED_VMIN => vminWrite s i v
  | .LAE_PAIR_CFG | .LAE_PAIR_ANG | .LAE_PAIR_PULSE =>
    if m = 7 then pairChanged s (s.writeReg d i j v) i else pairWrite s d.name i v
  | _ => s.writeReg d i j v

/-- Registers of the timers, the Harness, Belfry, the locks and the cores. -/
def landEvents (s : State) (m : Nat) (d : RegDesc) (i j v : Nat) : State :=
  match d.name with
  | .TMR_CFG => tmrWith s i fun u => tmrCfgWrite u i v
  | .TMR_CNT => tmrCntWrite s i v
  | .TMR_ACT | .TMR_EVCFG | .TMR_PIN | .TMR_STAT => tmrWith s i fun u => u.writeReg d i j v
  | .TMR_RELOAD => tmrPreWrite s m .TMR_RELOAD_RELOAD i 0 (regAddr .TMR_RELOAD i) v
  | .TMR_CMP => tmrPreWrite s m .TMR_CMP_CMP i j (regAddr .TMR_CMP i j) v
  | .TMR_GO => tmrGoOp s v
  | .TMR_HALT => tmrHaltOp s v
  | .HRN_SWEV => swevOp s v
  | .HRN_ROUTENX => routeNextOp s i v
  | .HRN_RTCTRL => rtctrlWrite s v
  | .BFY_DOORBELL => localRing s v
  | .BFY_COMPLETE => completeOp s m v
  | .BFY_PENDSET => pendSetOp s i v
  | .BFY_PENDCLR => pendClrOp s i v
  | .BFY_MASKSET => maskSetOp s i v
  | .BFY_MASKCLR => maskClrOp s i v
  | .LCK_REL => releaseOp s m i
  | .LCK_BREAK => lockBreakOp s m v
  | .FAB_CORE_CTRL => coreCtrlOp s i v
  | .FAB_CORECFG => coreCfgWrite s m v
  | _ => s.writeReg d i j v

/-- A write of TTH_CFG: the sequencer's alone changes PAIRED and PREFSEAT (R425); DIVTAKE can make a standby eligible (R384). -/
def tthCfgWrite (s : State) (m v : Nat) : State :=
  let t := s.writeNamed .TTH_CFG v
  if m = 7 then t
  else roleCheck ((t.fset .TTH_CFG_PAIRED (s.fget .TTH_CFG_PAIRED)).fset .TTH_CFG_PREFSEAT (s.fget .TTH_CFG_PREFSEAT))

/-- Registers of twin pairing, power, Cupola and Fyzal. -/
def landHost (s : State) (m : Nat) (d : RegDesc) (i j v : Nat) : State :=
  let mine := m = 4 ∨ m = 7
  match d.name with
  | .TTH_CTRL => tthCtrlWrite s v
  | .TTH_CFG => tthCfgWrite s m v
  | .TTH_STAT => roleCheck (s.writeReg d i j v)
  | .PMG_HOLD => holdOp s v
  | .PMG_WDT => wdtOp s v
  | .PMG_WDTKICK => kickOp s v
  | .FAB_MRAMCTL => if m = 4 then s.writeReg d i j v else s
  | .CUP_CTRL => cupCtrlWrite s m v
  | .CUP_CLASS_THRA | .CUP_CLASS_THRB | .CUP_CLASS_HYST => classWrite s m d.name i v
  | .CUP_SNS_CFG => snsCfgWrite s m i v
  | .FYZ_CFG | .FYZ_PMB_CFG | .FYZ_PMB_SRC | .FYZ_SP_TGT | .FYZ_SP_MIN | .FYZ_SP_MAX =>
    if mine then s.writeReg d i j v else s
  | .FYZ_DBG => if mine then (s.writeReg d i j v).fput .FYZ_STAT_DBG (bit v 0) else s
  | .FYZ_RESUME => if m = 4 then resumeOp s 0xFF (v % 4) else s
  | .FYZ_PORT_CFG => portCfgWrite s i v
  | _ => s.writeReg d i j v

/-- The effect of master `m` writing `v` to the register `d` with indices `i`, `j` (R506). -/
def regLand (s : State) (m : Nat) (d : RegDesc) (i j v : Nat) : State :=
  let a := d.base
  if a < 0x40000000 ∨ (0x40100000 ≤ a ∧ a < 0x40140000) ∨ d.name = .FAB_DMA_CTRL then landSense s m d i j v
  else if a < 0x40040000 then landPwm s m d i j v
  else if a < 0x40100000 ∨ (0x40140000 ≤ a ∧ a < 0x40160000) then landLoops s m d i j v
  else if a < 0x401E0000 ∨ d.name = .FAB_CORE_CTRL ∨ d.name = .FAB_CORECFG then landEvents s m d i j v
  else landHost s m d i j v

end Sys2Proof.Machine
end

