-- ==== Sys2Proof/Machine/RegRead.lean ====
section
/-! DEFINITION. What a read of a register returns and what it changes (R14, R506): views of state held elsewhere, acquire
attempts, wide reads and energy reads. -/

namespace Sys2Proof.Machine

/-- A field's bits in a word. -/
def putBitsAt (w lo v : Nat) : Nat := w + v * 2 ^ lo

/-- The locks held, from lock `base` (LCK_HELDLO, LCK_HELDHI). -/
def heldMask (s : State) (base : Nat) : Nat :=
  (List.range 32).foldl (fun m l => m + b2n (s.flag .LCK_STAT_HELD (base + l)) * 2 ^ l) 0

/-- BFY_CORE[n]_STAT. -/
def coreStatWord (s : State) (c : Nat) : Nat :=
  let x := s.coreAt c
  let ph := if isChecker s c then 3 else match x.phase with
    | .running => 0
    | .entry => 1
    | .exit => 2
    | .reset => 3
  runPrio s c + 32 * x.level + 512 * ph + 2048 * (vget x.srcid x.level).getD 0

/-- The count of channel `n` in this tick: 0 in a wrap tick, also before PWM_WRAP (R129, R506). -/
def countNow (s : State) (n : Nat) : Nat :=
  let c := s.chanAt n
  if chRun s n ∧ c.len ≤ c.cnt then 0 else c.cnt % 2 ^ 24

/-- Words whose fields are views of state held elsewhere. -/
def viewWord (s : State) (d : RegDesc) (i j : Nat) : Nat :=
  let w := s.regWord d i j
  match d.name with
  | .ADC_SLOT_W0 => slotW0 s i (inactiveBank s)
  | .ADC_SLOT_W1 => slotW1 s i (inactiveBank s)
  | .ADC_SLOTACT_W0 => slotW0 s i (activeBank s)
  | .ADC_SLOTACT_W1 => slotW1 s i (activeBank s)
  | .CMP_STAT => w - w % 2 + b2n (bit (s.rawPast.getD 1 0) i)
  | .REIN_PINSTAT => s.pinPast.getD 1 0
  | .REIN_STAT => s.reinPast.getD 1 0
  | .PWM_CH_CNT => countNow s i
  | .PWM_CH_STAT => w + b2n (ballActive s i false) * 2 ^ 11 + b2n (ballActive s i true) * 2 ^ 12
  | .PWM_TEAMLOAD => teamLoadRead s
  | .SPR_STAT =>
    b2n (allLocked s) + 2 * b2n (s.fget .SPR_FAULTLO_FAULT != 0 || s.fget .SPR_FAULTHI_FAULT != 0) +
      4 * b2n (s.fget .SPR_STARVEDLO_STARVED != 0 || s.fget .SPR_STARVEDHI_STARVED != 0)
  | .BFY_CORE_STAT => coreStatWord s i
  | .LCK_HELDLO => heldMask s 0
  | .LCK_HELDHI => heldMask s 32
  | .PMG_DOMSTAT => w + 4 * domTarget s i + 16 * domReport s i
  | .FAB_MRAMSTAT => w + b2n (!s.pw.mramBuf.isEmpty) + 2 * min 15 s.pw.mramBuf.length
  | .FYZ_STAT => w + 4 * b2n (mgmtUp s) + 8 * sessionMask s
  | _ => w

/-- A read of a 32-bit register by master `m`: the value, and the state after it (R14). -/
def regRead (s : State) (m : Nat) (d : RegDesc) (i j : Nat) : Nat × State :=
  match d.name with
  | .LCK_ACQ => acquireOp s m i
  | .TMR_CNT => tmrCntRead s m i
  | .TMR_STAT | .TMR_PIN =>
    let t := tmrSettle s i
    (viewWord t d i j, t)
  | .TMR_LTC_LO => ltcLowRead s m
  | .TMR_LTC_HI => ltcHighRead s m
  | _ => (viewWord s d i j, s.clearRc d i j)

end Sys2Proof.Machine
end

