-- ==== Sys2Proof/Machine/Access.lean ====
section
/-! DEFINITION. Fabric accesses: the memory map, widths and errors (R23 to R25), halves of slots (R31 to R34), MRAM's write
rules (R421), reads and writes of every target, the order of a
master's accesses to one block (R26, R27). -/

namespace Sys2Proof.Machine

/-- What the fabric decodes at an address (R23). -/
inductive Region where
  | rom | sram | saddle | sdl | mram | regs | partner | none
  deriving DecidableEq, Repr

/-- The region of an address (R23). -/
def regionOf (a : Nat) : Region :=
  if a < 0x10000 then .rom
  else if 0x10000000 ≤ a ∧ a < 0x10400000 then .sram
  else if 0x20000000 ≤ a ∧ a < 0x20080000 then .saddle
  else if 0x20080000 ≤ a ∧ a < 0x20081000 then .sdl
  else if 0x30000000 ≤ a ∧ a < 0x30800000 then .mram
  else if 0x40000000 ≤ a ∧ a < 0x40280000 then .regs
  else if 0x80000000 ≤ a ∧ a < 0x100000000 then .partner
  else .none

/-- A whole 48-bit or 64-bit slot of a register range at an address. -/
def slotAt (a : Nat) : Option (RegDesc × Nat × Nat) :=
  match regAt a with
  | some (d, i, j, 0) => if 32 < d.width then some (d, i, j) else none
  | _ => none

/-- An address aligned to an access width. -/
def aligned (a width : Nat) : Bool := [1, 2, 4, 8].contains width && a % width == 0

/-- The widths that a local range admits from master `m` (R23, R24). -/
def widthOk (m a width : Nat) : Bool :=
  aligned a width && match regionOf a with
    | .rom | .sram | .mram => true
    | .saddle => if m = 5 ∨ m = 6 then width == 8 else width == 4 || (width == 8 && m == 7)
    | .sdl => width == 4
    | .regs => width == 4 || (width == 8 && (m == 5 || m == 6 || m == 7) && (slotAt a).isSome)
    | .partner | .none => false

/-- The error of a read, if any (R24). A read through the partner window takes the widths of the local range. -/
def readError (m a width : Nat) : Option ErrKind :=
  match regionOf a with
  | .none => some .unmapped
  | .partner =>
    match regionOf (a - 0x80000000) with
    | .none | .partner => some .unmapped
    | _ => if widthOk m (a - 0x80000000) width then none else some .width
  | _ => if widthOk m a width then none else some .width

/-- The error of a write, if any (R24, R29). -/
def writeError (m a width : Nat) : Option ErrKind :=
  match regionOf a with
  | .none | .rom => some .unmapped
  | .partner => if a = 0xC01A0000 ∧ width = 4 then none else some .partner
  | _ => if widthOk m a width then none else some .width

/-! ### MRAM (R421) -/

/-- Whether master `m` may write MRAM address `a` (R421). -/
def mramWritable (s : State) (m a : Nat) : Bool :=
  let slot (n : Nat) (we : Fld) : Bool := m == 4 && s.flag we && !(s.img.applied && s.img.slot == n)
  if a < 0x30001000 then false
  else if a < 0x30002000 then m == 7
  else if 0x30100000 ≤ a ∧ a < 0x30300000 then slot 0 .FAB_MRAMCTL_SLOTWE0
  else if 0x30300000 ≤ a ∧ a < 0x30500000 then slot 1 .FAB_MRAMCTL_SLOTWE1
  else if 0x30500000 ≤ a ∧ a < 0x30700000 then m ≤ 6
  else if 0x30700000 ≤ a ∧ a < 0x30800000 then m == 4 || m == 7
  else false

/-- The address lies in the host-key area, which reads 0 to every master (R464). -/
def hostKeyArea (a : Nat) : Bool := decide (0x30001800 ≤ a) && decide (a < 0x30001890)

/-- A byte as the fabric reads it: the ROM, the device record and the host keys apart from the memory. -/
def fabricByte (s : State) (a : Nat) : Nat :=
  if a < 0x10000 then Config.romByte a % 256
  else if hostKeyArea a then 0
  else if 0x30000000 ≤ a ∧ a < 0x30001000 then Config.deviceByte a % 256
  else s.byteAt a

/-- `n` bytes as the fabric reads them (R19). -/
def fabricBytes (s : State) (a n : Nat) : Nat := leNat ((List.range n).map fun i => fabricByte s (a + i))

/-- The refusal of an MRAM write: FAB_MRAMSTAT.PROT, whose rise rings MRAM_ERR (R421, R427), and FAB_ERRSTAT. -/
def mramRefuse (s : State) (m a : Nat) : State :=
  let t := s.recordError .unmapped m a
  (t.ringIf (!t.flag .FAB_MRAMSTAT_PROT) 164).hset .FAB_MRAMSTAT_PROT 1

/-! ### Halves of slots (R31 to R33, R237) -/

/-- The low half staged for a slot by master `m` (R32). -/
def stagedLow (s : State) (m slot : Nat) : Option Nat :=
  match (s.portAt m).wstage with
  | some (a, v) => if a = slot then some v else none
  | none => none

/-- A low half staged; one staged for another slot is discarded (R31, R32). -/
def stageLow (s : State) (m slot v : Nat) : State := s.setPort m { s.portAt m with wstage := some (slot, v % 2 ^ 32) }

/-- The staged low half consumed. -/
def unstage (s : State) (m : Nat) : State := s.setPort m { s.portAt m with wstage := none }

/-- The read-holding register set or emptied (R33). -/
def holdUpper (s : State) (m : Nat) (h : Option (Nat × Nat)) : State := s.setPort m { s.portAt m with rhold := h }

/-- The upper bits held for a slot (R33). -/
def heldUpper (s : State) (m slot : Nat) : Option Nat :=
  match (s.portAt m).rhold with
  | some (a, v) => if a = slot then some v else none
  | none => none

/-- A high half as it reads: bits [63:32], or for a 48-bit slot bits [47:32] with copies of bit 47 (R33, R237). -/
def upperRead (width u : Nat) : Nat := if width = 64 then u % 2 ^ 32 else twos 32 (sext 16 u)

/-- A slot's value from a low half and the data of a high-half write (R31, R237). -/
def joinHalves (width lo hi : Nat) : Nat := lo % 2 ^ 32 + hi % 2 ^ (width - 32) * 2 ^ 32

/-- The address of the low word of a slot. -/
def slotBaseOf (a : Nat) : Nat := a - a % 8

/-- The bits [31:0] that a high-half write keeps (R31); those of an uncorrectable instruction word are a free value (log entry 85). -/
def keptHalf (s : State) (d : RegDesc) (i j : Nat) : Nat × State :=
  if d.name = .LANE_PMEM ∧ s.upsetAt (pmemSlot i j) = some true then (s.draw, s.drawn) else (s.regWord d i j, s)

/-- A 32-bit write to half `o` of a slot register (R31, R32). -/
def slotRegWrite (s : State) (m : Nat) (d : RegDesc) (i j o a v : Nat) : State :=
  if o = 0 then stageLow s m a v
  else
    let slot := a - 4
    match stagedLow s m slot with
    | some lo => regLand (unstage s m) m d i j (joinHalves d.width lo v)
    | none =>
      let (lo, t) := keptHalf s d i j
      regLand t m d i j (joinHalves d.width lo v)

/-- A 32-bit read of half `o` of a slot register (R33, R88). -/
def slotRegRead (s : State) (m : Nat) (d : RegDesc) (i j o a : Nat) : Nat × State :=
  let w := s.regWord d i j
  let energy := d.name = .SDM_RES_EIMP ∨ d.name = .SDM_RES_EEXP
  if energy then (if o = 0 then energyLow s m a w else energyHigh s m (a - 4) w)
  else if o = 0 then (w % 2 ^ 32, holdUpper s m (some (a, w / 2 ^ 32)))
  else
    let t := holdUpper s m none
    match heldUpper s m (a - 4) with
    | some u => (upperRead d.width u, t)
    | none => (upperRead d.width (w / 2 ^ 32), t)

/-! ### Reads and writes of local targets -/

/-- A write of a register range (R23: an address no register has ignores the write). -/
def regsWrite (s : State) (m a width v : Nat) : State :=
  match regAt a with
  | none => s
  | some (d, i, j, o) =>
    if width = 8 then regLand s m d i j (v % 2 ^ d.width)
    else if 32 < d.width then slotRegWrite s m d i j o a v
    else regLand s m d i j (v % 2 ^ 32)

/-- A read of a register range (R23: an address no register has reads 0). -/
def regsRead (s : State) (m a width : Nat) : Nat × State :=
  match regAt a with
  | none => (0, s)
  | some (d, i, j, o) =>
    let w := s.regWord d i j
    if width = 8 then ((if d.width = 48 then twos 64 (sext 48 w) else w), holdUpper s m none)
    else if 32 < d.width then slotRegRead s m d i j o a
    else regRead s m d i j

/-- A write of SRAM: other masters' reservations on the granule are lost (R327), a bit error of the word goes (R25). -/
def sramWrite (s : State) (m a width v : Nat) : State :=
  ((s.storeMem a v width).mramClean a width).breakReservations m a

/-- A direct write of a Saddle word, or of a half of it, by a master with no requester index of its own. -/
def saddleWrite (s : State) (m a width v : Nat) : State :=
  let slot := slotBaseOf a
  let w := (slot - 0x20000000) / 8
  if width = 8 then sdlWriteBeat s w (v % 2 ^ 48)
  else if a % 8 = 0 then stageLow s m a v
  else match stagedLow s m slot with
    | some lo => sdlWriteBeat (unstage s m) w (joinHalves 48 lo v)
    | none =>
      let (x, bad, t) := sdlReadBeat s w
      if bad then t else sdlWriteBeat t w (joinHalves 48 x v)

/-- A direct read of a Saddle word, or of a half of it. -/
def saddleRead (s : State) (m a width : Nat) : Nat × Bool × State :=
  let slot := slotBaseOf a
  let w := (slot - 0x20000000) / 8
  match (if width = 4 ∧ a % 8 = 4 then heldUpper s m slot else none) with
  | some u => (upperRead 48 u, false, holdUpper s m none)
  | none =>
    let (x, bad, t) := sdlReadBeat s w
    if bad then (0, true, holdUpper t m none)
    else if width = 8 then (twos 64 (sext 48 x), false, holdUpper t m none)
    else if a % 8 = 0 then (x % 2 ^ 32, false, holdUpper t m (some (slot, x / 2 ^ 32)))
    else (upperRead 48 (x / 2 ^ 32), false, holdUpper t m none)

/-- A domain becomes DIRTY when a master other than the sequencer writes it while an image is applied (R404). -/
def markDirty (s : State) (m a : Nat) : State :=
  if s.img.applied ∧ m ≠ 7 then s.hset .PMG_DOMSTAT_DIRTY 1 (addrDomain a) else s

/-- MRAM and the SRAMHI range are active while an access is in progress (R405). -/
def noteAccess (s : State) (a : Nat) : State :=
  let d := addrDomain a
  if d = 18 ∨ d = 19 then
    { s with pw := { s.pw with accAt := vput s.pw.accAt d (some s.now), domAct := vput s.pw.domAct d s.now } }
  else s

/-- A write of a local target whose range, width and domain admit it. -/
def targetWrite (s : State) (m a width v : Nat) : State :=
  let s := noteAccess (markDirty s m a) a
  match regionOf a with
  | .sram => sramWrite s m a width v
  | .saddle => saddleWrite s m a width v
  | .sdl | .regs => regsWrite s m a width v
  | .mram => s.mramStore a (leBytes width v)
  | .rom | .partner | .none => s

/-- A read of a local target whose range, width and domain admit it: the data, an error response, the state after it. -/
def targetRead (s : State) (m a width : Nat) : Nat × Bool × State :=
  match regionOf a with
  | .sdl | .regs =>
    let (v, t) := regsRead s m a width
    (v, false, t)
  | .saddle => saddleRead s m a width
  | .rom => (fabricBytes s a width, false, s)
  | .sram | .mram =>
    let t := noteAccess s a
    if s.upsetAt (slotBaseOf a) = some true then (0, true, t) else (fabricBytes s a width, false, t)
  | .partner | .none => (0, true, s)

/-! ### Order of a master's accesses (R26, R27), and its accesses to the Saddle store -/

/-- The node of the fabric an address belongs to (the block map of spec/00_scope.md). -/
def nodeOf (a : Nat) : Nat :=
  if a < 0x10000000 then 0
  else if a < 0x20000000 then 1
  else if a < 0x30000000 then 2
  else if a < 0x40000000 then 3
  else if a < 0x40020000 then 4
  else if a < 0x40040000 then 5
  else if a < 0x40100000 then 6
  else if a < 0x40110000 then 7
  else if a < 0x40120000 then 8
  else 9 + (a - 0x40120000) / 0x20000

/-- An access to MRAM waits: a write for a place in the buffer of 16 words, a read of a bank of 64 KB that is programming for the end of
the word in progress (R421). -/
def mramWaits (s : State) (a : Nat) (write : Bool) : Bool :=
  regionOf a == .mram && (if write then decide (16 ≤ s.pw.mramBuf.length)
    else (s.pw.mramBuf.head?).any fun w => w.1 / 65536 == a / 65536)

/-- An access of master `m` at an address waits for an earlier one of the same master to the same block: one that is held, or for the
registers of the Saddle store one at a bank (R26, R27). -/
def mustWait (s : State) (m a : Nat) : Bool :=
  s.pw.held.any (fun h => h.m == m && nodeOf h.addr == nodeOf a) || (regionOf a == .sdl && decide (m < 5) && sdlBusy s (8 + m))

/-- An access held until its domain is ON (R408). -/
def holdAccess (s : State) (h : HeldAccess) : State := { s with pw := { s.pw with held := s.pw.held ++ [h] } }

/-- The SRAMHI range while its domain is OFF (R25, R408). -/
def sramhiOff (s : State) (a : Nat) : Bool := addrDomain a == 19 && domState s 19 == 3

/-- The Saddle word an address lies in. -/
def saddleWord (a : Nat) : Nat := (slotBaseOf a - 0x20000000) / 8

/-- A core's 32-bit write in the Saddle store, through its own port of the bank; with no low half staged, a locked
read-modify-write of two beats (R31, R32, R41). -/
def coreSaddleWrite (s : State) (m a v : Nat) : State :=
  let w := saddleWord a
  if a % 8 = 0 then stageLow s m a v
  else match stagedLow s m (slotBaseOf a) with
    | some lo => sdlRequest (unstage s m) (8 + m) w 1 true [joinHalves 48 lo v] (.coreWrite m)
    | none => sdlPost s (8 + m) w 2 true [v % 2 ^ 32] (.coreRmw m)

/-- A core's 32-bit read in the Saddle store: answered from the read-holding register, or by a request (R33). -/
def coreSaddleRead (s : State) (m a : Nat) : Option (Nat × Bool) × State :=
  match (if a % 8 = 4 then heldUpper s m (slotBaseOf a) else none) with
  | some u => (some (upperRead 48 u, false), holdUpper s m none)
  | none => (none, sdlRequest s (8 + m) (saddleWord a) 1 false [] (.coreRead m (a % 8 == 4)))

end Sys2Proof.Machine
end

