-- ==== Sys2Proof/Machine/Crypto.lean ====
section
/-! DEFINITION. SHA-256, HMAC-SHA-256 and ECDSA verification on P-256, as the standards named by R416, R465 and R466 define
them (log entry 32). -/

namespace Sys2Proof.Machine

/-! ### SHA-256 (FIPS 180-4) -/

/-- The primes below 312, the first 64: those that no other prime up to 17 divides. -/
def shaPrimes : List Nat :=
  (List.range 312).filter fun n => decide (2 ≤ n) && [2, 3, 5, 7, 11, 13, 17].all fun d => n == d || n % d != 0

/-- The largest number above `r` by less than `2 ^ k` whose power `e` does not exceed `x`: an integer root, bit by bit. -/
def rootFrom (e x : Nat) : Nat → Nat → Nat
  | 0, r => r
  | k + 1, r => rootFrom e x k (if (r + 2 ^ k) ^ e ≤ x then r + 2 ^ k else r)

/-- The first 32 bits of the fraction of the root of degree `e` of a prime. -/
def rootFraction (e p : Nat) : Nat := rootFrom e (p * 2 ^ (32 * e)) 40 0 % 2 ^ 32

/-- The constants of the 64 rounds, from the cube roots of the primes, and the initial value, from the square roots of the first
eight. -/
def shaK : List Nat := shaPrimes.map (rootFraction 3)
def shaInit : List Nat := (shaPrimes.take 8).map (rootFraction 2)

/-- Rotation of a 32-bit word to the right. -/
def rotr32 (n x : Nat) : Nat := (x / 2 ^ n ||| x * 2 ^ (32 - n)) % 2 ^ 32

/-- The words of a block extended, newest first, with `n` still to make. -/
def shaSchedule : Nat → List Nat → List Nat
  | 0, w => w
  | n + 1, w =>
    let a := w.getD 1 0
    let b := w.getD 14 0
    let s1 := rotr32 17 a ^^^ rotr32 19 a ^^^ a / 2 ^ 10
    let s0 := rotr32 7 b ^^^ rotr32 18 b ^^^ b / 2 ^ 3
    shaSchedule n ((s1 + w.getD 6 0 + s0 + w.getD 15 0) % 2 ^ 32 :: w)

/-- One round: the eight working words with a constant and a message word. -/
def shaRound (v : List Nat) (kw : Nat × Nat) : List Nat :=
  match v with
  | [a, b, c, d, e, f, g, h] =>
    let s1 := rotr32 6 e ^^^ rotr32 11 e ^^^ rotr32 25 e
    let ch := (e &&& f) ^^^ ((2 ^ 32 - 1 - e) &&& g)
    let t1 := h + s1 + ch + kw.1 + kw.2
    let s0 := rotr32 2 a ^^^ rotr32 13 a ^^^ rotr32 22 a
    let mj := (a &&& b) ^^^ (a &&& c) ^^^ (b &&& c)
    [(t1 + s0 + mj) % 2 ^ 32, a, b, c, (d + t1) % 2 ^ 32, e, f, g]
  | _ => v

/-- One block of 64 bytes. -/
def shaBlock (h b : List Nat) : List Nat :=
  let w := (List.range 16).map fun i => beNat ((b.drop (4 * i)).take 4)
  let ws := (shaSchedule 48 w.reverse).reverse
  (h.zip ((shaK.zip ws).foldl shaRound h)).map fun p => (p.1 + p.2) % 2 ^ 32

/-- `n` blocks. -/
def shaBlocks : Nat → List Nat → List Nat → List Nat
  | 0, h, _ => h
  | n + 1, h, m => shaBlocks n (shaBlock h (m.take 64)) (m.drop 64)

/-- The SHA-256 digest of a message, as 32 bytes. -/
def sha256 (m : List Nat) : List Nat :=
  let pad := m ++ [0x80] ++ List.replicate ((119 - m.length % 64) % 64) 0 ++ beBytes 8 (8 * m.length)
  (shaBlocks (pad.length / 64) shaInit pad).flatMap (beBytes 4)

/-- HMAC-SHA-256 of a message under a key (RFC 2104). -/
def hmac256 (key msg : List Nat) : List Nat :=
  let k := (if 64 < key.length then sha256 key else key)
  let k := k ++ List.replicate (64 - k.length) 0
  sha256 (k.map (· ^^^ 0x5c) ++ sha256 (k.map (· ^^^ 0x36) ++ msg))

/-! ### P-256 (FIPS 186-5, SP 800-186) -/

def p256P : Nat := 0xffffffff00000001000000000000000000000000ffffffffffffffffffffffff
def p256N : Nat := 0xffffffff00000000ffffffffffffffffbce6faada7179e84f3b9cac2fc632551
def p256B : Nat := 0x5ac635d8aa3a93e7b3ebbd55769886bc651d06b0cc53b0f63bce3c3e27d2604b
def p256Gx : Nat := 0x6b17d1f2e12c4247f8bce6e563a440f277037d812deb33a0f4a13945d898c296
def p256Gy : Nat := 0x4fe342e2fe1a7f9b8ee7eb4a7c0f9e162bce33576b315ececbb6406837bf51f5

/-- `b ^ e` modulo `m`, over the lowest `k` bits of `e`. -/
def powMod (m : Nat) : Nat → Nat → Nat → Nat
  | 0, _, _ => 1 % m
  | k + 1, b, e => (if e % 2 = 1 then b else 1) * powMod m k (b * b % m) (e / 2) % m

/-- The inverse modulo a prime of 256 bits. -/
def invMod (m x : Nat) : Nat := powMod m 256 (x % m) (m - 2)

/-- `a - b` modulo P. -/
def subP (a b : Nat) : Nat := (a + p256P - b % p256P) % p256P

/-- A point in Jacobian coordinates: (X / Z², Y / Z³); at infinity when Z is 0. -/
structure EcPoint where
  x : Nat
  y : Nat
  z : Nat
  deriving DecidableEq, Repr

/-- Twice a point. -/
def ecDouble (p : EcPoint) : EcPoint :=
  let yy := p.y * p.y % p256P
  let zz := p.z * p.z % p256P
  let s := 4 * p.x * yy % p256P
  let m := 3 * subP p.x zz * (p.x + zz) % p256P
  let x3 := subP (m * m) (2 * s)
  ⟨x3, subP (m * subP s x3) (8 * yy * yy), 2 * p.y * p.z % p256P⟩

/-- The sum of two points. -/
def ecAdd (p q : EcPoint) : EcPoint :=
  if p.z = 0 then q
  else if q.z = 0 then p
  else
    let pz := p.z * p.z % p256P
    let qz := q.z * q.z % p256P
    let u := p.x * qz % p256P
    let s := p.y * qz * q.z % p256P
    let h := subP (q.x * pz % p256P) u
    let r := subP (q.y * pz * p.z % p256P) s
    if h = 0 then (if r = 0 then ecDouble p else ⟨1, 1, 0⟩)
    else
      let hh := h * h % p256P
      let uh := u * hh % p256P
      let x3 := subP (r * r) (hh * h + 2 * uh)
      ⟨x3, subP (r * subP uh x3) (s * hh * h), h * p.z * q.z % p256P⟩

/-- A multiple of a point, over `k` bits of the factor. -/
def ecMul : Nat → Nat → EcPoint → EcPoint
  | 0, _, _ => ⟨1, 1, 0⟩
  | k + 1, e, p => ecAdd (if e % 2 = 1 then p else ⟨1, 1, 0⟩) (ecMul k (e / 2) (ecDouble p))

/-- A point of the curve, not at infinity, with coordinates in range. -/
def onCurve (x y : Nat) : Bool :=
  decide (x < p256P) && decide (y < p256P) && y * y % p256P == (x * x * x + (p256P - 3) * x + p256B) % p256P

/-- ECDSA verification on P-256 with SHA-256 of a message under a public point, octet strings as R423 stores them. -/
def ecdsaVerify (pub sig msg : List Nat) : Bool :=
  let x := beNat (pub.take 32)
  let y := beNat (pub.drop 32)
  let r := beNat (sig.take 32)
  let t := beNat (sig.drop 32)
  let e := beNat (sha256 msg)
  if !onCurve x y ∨ r = 0 ∨ p256N ≤ r ∨ t = 0 ∨ p256N ≤ t then false
  else
    let w := invMod p256N t
    let q := ecAdd (ecMul 256 (e * w % p256N) ⟨p256Gx, p256Gy, 1⟩) (ecMul 256 (r * w % p256N) ⟨x, y, 1⟩)
    if q.z = 0 then false
    else
      let v := invMod p256P q.z
      q.x * v * v % p256P % p256N == r

end Sys2Proof.Machine
end

