-- ==== Sys2Proof/Machine/Image.lean ====
section
/-! DEFINITION. The Tlazan image in its slot (R419, R423, R424), its records and blocks (R425), and their replay when a domain
leaves OFF (R407). -/

namespace Sys2Proof.Machine

/-- Where the image of slot `n` begins (R419). -/
def imgBase (n : Nat) : Nat := slotBase n + 0x40

/-- `k` bytes of the image of slot `n` from offset `o`. -/
def imgBytes (s : State) (n o k : Nat) : List Nat := s.loadBytes (imgBase n + o) k

/-- A little-endian field of the image of slot `n`. -/
def imgNat (s : State) (n o k : Nat) : Nat := leNat (imgBytes s n o k)

/-- Header fields (R423). -/
def imgLen (s : State) (n : Nat) : Nat := imgNat s n 8 4
def imgSeq (s : State) (n : Nat) : Nat := imgNat s n 12 4
def imgSecver (s : State) (n : Nat) : Nat := imgNat s n 16 2
def imgNsect (s : State) (n : Nat) : Nat := imgNat s n 18 2
def imgPubkey (s : State) (n : Nat) : List Nat := imgBytes s n 64 64
def imgSig (s : State) (n : Nat) : List Nat := imgBytes s n 128 64

/-- The signed message: header bytes 0 to 127 and the section table (R423). -/
def imgMessage (s : State) (n : Nat) : List Nat := imgBytes s n 0 128 ++ imgBytes s n 192 (48 * min 64 (imgNsect s n))

/-- The image digest (R423). -/
def imgDigest (s : State) (n : Nat) : List Nat := sha256 (imgMessage s n)

/-- A section-table entry (R424). -/
structure Section where
  typ : Nat
  flags : Nat
  zero : Nat
  off : Nat
  len : Nat
  dest : Nat
  digest : List Nat
  deriving DecidableEq, Repr

/-- The sections of an image, in table order (R424); at most 64 are read. -/
def sections (s : State) (n : Nat) : List Section :=
  (List.range (min 64 (imgNsect s n))).map fun i =>
    let o := 192 + 48 * i
    ⟨imgNat s n o 1, imgNat s n (o + 1) 1, imgNat s n (o + 2) 2, imgNat s n (o + 4) 4, imgNat s n (o + 8) 4,
      imgNat s n (o + 12) 4, imgBytes s n (o + 16) 32⟩

/-- The section is LIVE. -/
def Section.live (x : Section) : Bool := x.flags % 2 == 1

/-- The bytes of a section. -/
def sectionBytes (s : State) (n : Nat) (x : Section) : List Nat := imgBytes s n x.off x.len

/-- The section's bytes match its digest; a NOTE's digest is not checked (R424, R425). -/
def digestOk (s : State) (n : Nat) (x : Section) : Bool := x.typ == 5 || sha256 (sectionBytes s n x) == x.digest

/-- A section-table entry is well formed (R424). -/
def sectionOk (s : State) (n : Nat) (x : Section) : Bool :=
  decide (1 ≤ x.typ) && decide (x.typ ≤ 5) && x.flags ≤ 1 && x.zero == 0 && x.off % 8 == 0 && x.len % 8 == 0 &&
    decide (x.off + x.len ≤ imgLen s n) && (if x.typ = 2 then x.dest % 8 == 0 else x.dest == 0)

/-- MAGIC, FORMAT, lengths, the zero bytes and the section table are as R423 and R424 say. -/
def headerOk (s : State) (n : Nat) : Bool :=
  imgBytes s n 0 4 == [0x54, 0x4C, 0x5A, 0x4E] && imgNat s n 4 2 == 1 && decide (imgLen s n ≤ 0x200000 - 64) &&
    decide (1 ≤ imgNsect s n) && decide (imgNsect s n ≤ 64) && decide (192 + 48 * imgNsect s n ≤ imgLen s n) &&
    (imgBytes s n 24 40).all (· == 0) && (sections s n).all (sectionOk s n)

/-- Key record `i` of the security record: a digest and a state (R422). -/
def keyRecord (i : Nat) : Nat := 0x30001000 + 36 * i
def keyState (s : State) (i : Nat) : Nat := s.loadMem (keyRecord i + 32) 4

/-- MINSECVER (R422). -/
def minSecverAddr : Nat := 0x30001090
def minSecver (s : State) : Nat := s.loadMem minSecverAddr 2

/-- PUBKEY's digest is an enabled key record (R416). -/
def keyAccepted (s : State) (n : Nat) : Bool :=
  let h := sha256 (imgPubkey s n)
  (List.range 4).any fun i => keyState s i == 1 && s.loadBytes (keyRecord i) 32 == h

/-- The first check of R416 that the image fails, as a reason of PMG_BOOTSTAT; 0 when it passes them all. -/
def headerReason (s : State) (n : Nat) : Nat :=
  if !headerOk s n then 2
  else if imgNat s n 6 2 ≠ 0x0960 then 10
  else if !keyAccepted s n then 3
  else if imgSecver s n < minSecver s then 5
  else if !ecdsaVerify (imgPubkey s n) (imgSig s n) (imgMessage s n) then 4
  else 0

/-- The records of a REG, START or CORES section (R425). -/
def recordsOf : Nat → List Nat → List (Nat × Nat)
  | 0, _ => []
  | k + 1, b => if b = [] then [] else (leNat (b.take 4), leNat ((b.drop 4).take 4)) :: recordsOf k (b.drop 8)

/-- The records of a section. -/
def sectionRecords (s : State) (n : Nat) (x : Section) : List (Nat × Nat) := recordsOf (x.len / 8) (sectionBytes s n x)

/-- The 64-bit beats of a BLOCK section: address and value (R425). -/
def sectionBeats (s : State) (n : Nat) (x : Section) : List (Nat × Nat) :=
  (List.range (x.len / 8)).map fun i => (x.dest + 8 * i, imgNat s n (x.off + 8 * i) 8)

/-- Where a record may write (R425). -/
def recordAllowed (a : Nat) : Bool :=
  a % 4 == 0 && match regionOf a with
    | .sram | .saddle | .sdl | .regs => true
    | .rom | .mram | .partner | .none => false

/-- Where a beat of a BLOCK may write (R425). -/
def beatAllowed (a : Nat) : Bool :=
  match regionOf a with
  | .sram | .saddle => true
  | .regs => decide (0x40080000 ≤ a) && decide (a < 0x400A0000)
  | .rom | .sdl | .mram | .partner | .none => false

/-- A write of the sequencer to a domain that is ON: whether it drew an error response, and the state after it. -/
def seqWriteOn (s : State) (a width v : Nat) : Bool × State :=
  match writeError 7 a width with
  | some k => (true, s.recordError k 7 a)
  | none => (false, targetWrite s 7 a width v)

/-- A record whose write sets PWM_DRIVE.DRV while a Spire line is not locked: the sequencer holds it (R186, R415). -/
def drvEarly (s : State) (r : Nat × Nat) : Bool := r.1 == regAddr .PWM_DRIVE && bit r.2 0 && !allLocked s

/-- One write of a replay. -/
def replayWrite (w : Nat) (s : State) (r : Nat × Nat) : State :=
  if drvEarly s r then { s with pw := { s.pw with drvWait := some r.2 } } else (seqWriteOn s r.1 w r.2).2

/-- In a tick, a PWM_DRIVE record that waited is written once every line is locked (R186). -/
def drvTick (s : State) : State :=
  match s.pw.drvWait with
  | some v => if allLocked s then (seqWriteOn { s with pw := { s.pw with drvWait := none } } (regAddr .PWM_DRIVE) 4 v).2 else s
  | none => s

/-- A section's writes that address domain `d` (R407). -/
def replaySection (d : Nat) (s : State) (n : Nat) (x : Section) : State :=
  let put (w : Nat) (t : State) (r : Nat × Nat) : State := if addrDomain r.1 == d then replayWrite w t r else t
  if x.typ = 1 ∨ x.typ = 3 then (sectionRecords s n x).foldl (put 4) s
  else if x.typ = 2 then (sectionBeats s n x).foldl (put 8) s
  else s

/-- The replay of the applied image for a domain that leaves OFF (R407). -/
def replay (s : State) (d : Nat) : State :=
  if s.img.applied then (sections s s.img.slot).foldl (fun t x => replaySection d t s.img.slot x) s else s

/-- A calibration whose conversions are not given as operands: any codes (R77). -/
def recalibrate (s : State) : State :=
  (List.range 16).foldl (fun t c =>
    let z := t.draw % (64 * 65535 + 1)
    let t := t.drawn
    let g := t.draw % (64 * 65535 + 1)
    sarCalibrate t.drawn c z g) s

/-- A held write has landed: a DMA engine waits for that (R505), to another master it was posted (R26). -/
def heldLanded (s : State) (m : Nat) (err : Bool) : State := if m = 5 ∨ m = 6 then s.respond m 0 err else s.wrote m err

/-- A held access made, now that its domain is ON and it is its turn (R27, R408). -/
def makeHeld (s : State) (h : HeldAccess) : State :=
  if sramhiOff s h.addr then (if h.value.isSome then heldLanded s h.m true else s.answer h.m 0 true)
  else match h.value with
  | some v =>
    if regionOf h.addr = .saddle ∧ h.m < 5 then coreSaddleWrite (markDirty s h.m h.addr) h.m h.addr v
    else heldLanded (targetWrite s h.m h.addr h.width v) h.m false
  | none =>
    if regionOf h.addr = .saddle ∧ h.m < 5 then
      match coreSaddleRead s h.m h.addr with
      | (some (v, e), t) => t.answer h.m v e
      | (none, t) => t
    else
      let (v, e, t) := targetRead s h.m h.addr h.width
      t.answer h.m v e

/-- A held access need wait no more: its domain is ON, MRAM can take it, no earlier one of its master to its block is still held, and for a register of
the Saddle store no access of the master is at a bank. -/
def heldReady (s : State) (kept : List HeldAccess) (h : HeldAccess) : Bool :=
  (domOn s (addrDomain h.addr) || sramhiOff s h.addr) && !mramWaits s h.addr h.value.isSome && kept.all (fun k => k.m != h.m || nodeOf k.addr != nodeOf h.addr) &&
    !(regionOf h.addr == .sdl && decide (h.m < 5) && sdlBusy s (8 + h.m))

/-- The held accesses that need wait no more, made in their order; the others stay held. -/
def releaseHeld (s : State) : State :=
  let (kept, t) := s.pw.held.foldl (fun (x : List HeldAccess × State) h =>
    if heldReady x.2 x.1 h then (x.1, makeHeld x.2 h) else (x.1 ++ [h], x.2)) ([], s)
  { t with pw := { t.pw with held := kept } }

/-- What a domain that leaves OFF holds before the replay: the seat's values, and Spire's lines unlocked (R183, R356). -/
def domainFresh (s : State) (d : Nat) : State :=
  match d with
  | 11 => spireUnlock s
  | 16 => s.fput .TTH_STAT_SEAT s.pw.seat
  | 17 => seatFields s
  | _ => s

/-- Domain `d` is ON again: after OFF its contents come back from the image, and the converters are calibrated; held accesses
complete (R407, R408). -/
def domainUp (s : State) (d : Nat) : State :=
  let was := domState s d
  let t := { s.fset .PMG_DOMSTAT_STATE 0 d with pw := { s.pw with waking := setBit s.pw.waking d false } }
  let t := if was = 3 then replay (domainFresh t d) d else t
  let t := if was = 3 ∧ d = 12 then recalibrate t else t
  let t := if was = 3 ∧ d = 16 then roleCheck t else t
  let t := if d = 14 then pinsFollow t else t
  readyRing (releaseHeld t)

/-- A domain made ON at once, the wait of its exit latency left out: for the sequencer's and the safety state machine's own
accesses. -/
def wakeNow (s : State) (d : Nat) : State := if domOn s d then s else domainUp s d

/-- A write of the sequencer, with its error response (R25, R408, R425). -/
def seqWrite (s : State) (a width v : Nat) : Bool × State :=
  if sramhiOff s a then (true, s) else seqWriteOn (wakeNow s (addrDomain a)) a width v

end Sys2Proof.Machine
end

