-- ==== Sys2Proof/Machine/Fabric.lean ====
section
/-! DEFINITION. Fabric transactions of a master (R23 to R34, R408): errors, accesses held for a domain, Saddle requests of the
cores, the partner window. -/

namespace Sys2Proof.Machine

/-- A write of a local target, held while its domain is not ON or an earlier access of the master to its block is not done. -/
def localWrite (s : State) (m a width v : Nat) : Bool × State :=
  if mustWait s m a || mramWaits s a true then (false, holdAccess s ⟨m, a, width, some v⟩)
  else if regionOf a = .saddle ∧ m < 5 then (false, coreSaddleWrite (markDirty s m a) m a v)
  else if sramhiOff s a then (true, s)
  else if domOn s (addrDomain a) then (false, targetWrite s m a width v)
  else (false, holdAccess s ⟨m, a, width, some v⟩)

/-- A read of a local target: its answer, unless it is held or waits at a Saddle bank. -/
def localRead (s : State) (m a width : Nat) : Option (Nat × Bool) × State :=
  if mustWait s m a || mramWaits s a false then (none, holdAccess s ⟨m, a, width, none⟩)
  else if regionOf a = .saddle ∧ m < 5 then coreSaddleRead s m a
  else if sramhiOff s a then (some (0, true), s)
  else if domOn s (addrDomain a) then
    let (v, e, t) := targetRead s m a width
    (some (v, e), t)
  else (none, holdAccess s ⟨m, a, width, none⟩)

/-- The register FYZ_RESUME; its write acts on two other domains. -/
def resumeAddr : Nat := 0x40220008

/-- A write of master `m`: whether it drew an error response, and the state after it (R24 to R32, R421). -/
def accessWrite (s : State) (m a width v : Nat) : Bool × State :=
  match writeError m a width with
  | some k => (true, s.recordError k m a)
  | none =>
    match regionOf a with
    | .partner =>
      if linkUp s then (false, sendFrame s tyBell (leBytes 4 v)) else (true, s.recordError .partner m a)
    | .mram => if mramWritable s m a then localWrite s m a width v else (true, mramRefuse s m a)
    | _ =>
      if a = resumeAddr ∧ m = 4 then localWrite (wakeNow (wakeNow s 10) 15) m a width v else localWrite s m a width v

/-- The slot that a 32-bit access at `x` is a half of, with its width: a Saddle word, or a slot register (R31, R237). -/
def slotOf (x width : Nat) : Option (Nat × Nat) :=
  if width ≠ 4 then none
  else if regionOf x = .saddle then some (slotBaseOf x, 48)
  else match regAt x with
    | some (d, _, _, o) => if 32 < d.width then some (x - o, d.width) else none
    | none => none

/-- A partner-window read sent, or kept for its error response (R28, R30): the request names the master and the width. -/
def partnerAsk (s : State) (m x a width : Nat) (asked : Nat) : State :=
  let t := { s with partnerRd := vput s.partnerRd m (some (x, width)) }
  if linkUp s then sendFrame t tyRdreq (leBytes 4 (m + 256 * asked) ++ leBytes 4 a) else t

/-- A read at X of the partner. A half of a slot asks for the whole slot, unless it is a high half that the asking port holds (R33). -/
def partnerRead (s : State) (m x width : Nat) : Option (Nat × Bool) × State :=
  match slotOf x width with
  | none => (none, partnerAsk s m x x width width)
  | some (b, n) =>
    match (if x = b + 4 then heldUpper s m (0x80000000 + b) else none) with
    | some u => (some (upperRead n u, false), holdUpper s m none)
    | none => (none, partnerAsk s m x b width 8)

/-- What the partner answered to a read at X, as the asking port gives it: of a slot, the half read, the upper bits held after a low
half (R33). -/
def partnerGives (s : State) (m x width v : Nat) (err : Bool) : Nat × State :=
  match slotOf x width with
  | none => (if err then 0 else v % 2 ^ (8 * width), s)
  | some (b, n) =>
    if err then (0, holdUpper s m none)
    else if x = b then (v % 2 ^ 32, holdUpper s m (some (0x80000000 + b, v / 2 ^ 32 % 2 ^ (n - 32))))
    else (upperRead n (v / 2 ^ 32), holdUpper s m none)

/-- A read of master `m`: its answer if there is one at once (data, error response), and the state after it. A read through the window
while the link is not trained waits for its error response, whatever X is (R30). -/
def accessRead (s : State) (m a width : Nat) : Option (Nat × Bool) × State :=
  if regionOf a = .partner ∧ !linkUp s then (none, partnerAsk s m (a - 0x80000000) (a - 0x80000000) width width)
  else match readError m a width with
  | some k => (some (0, true), s.recordError k m a)
  | none => if regionOf a = .partner then partnerRead s m (a - 0x80000000) width else localRead s m a width

/-- Master `m` can issue accesses: the device is out of reset, a core is running and no checker (R329, R332), and JTAG has an open debug
session while debug is enabled (R484). -/
def masterActs (s : State) (m : Nat) : Bool :=
  s.pw.rst.isNone && s.pw.powered &&
    (if m < 5 then !isChecker s m && (s.coreAt m).phase != .reset else m != 9 || (s.fyz.jtag.debug && s.flag .FYZ_DBG_EN))

/-- An error response to core `m` for an access of the instruction it executes raises an access fault (R24). -/
def accessFault (s : State) (m cause a : Nat) : State :=
  let x := s.coreAt m
  if m < 5 ∧ x.phase = .running then s.takeException m x.pc cause a else s

/-- A fabric write as a master sees it. -/
def fabricWrite (s : State) (m a width v : Nat) : State :=
  if masterActs s m then
    let (e, t) := accessWrite s m a width v
    let u := t.respond m 0 e
    if e then accessFault u m causeStoreFault a else u
  else s

/-- The port of master `m` waits for the answer of a read. -/
def awaitRead (s : State) (m : Nat) : State := s.setPort m { s.portAt m with resp := none, reading := true }

/-- A fabric read as a master sees it. -/
def fabricRead (s : State) (m a width : Nat) : State :=
  if masterActs s m then
    match accessRead s m a width with
    | (none, t) => awaitRead t m
    | (some (v, e), t) =>
      if e ∧ m < 5 ∧ (t.coreAt m).wait.isNone then accessFault (t.respond m 0 true) m causeLoadFault a
      else t.answer m v e
  else s

/-- A read of an engine or of the ROM as master `m`: the answer is left at the master's port. -/
def portRead (s : State) (m a width : Nat) : State :=
  match accessRead s m a width with
  | (none, t) => awaitRead t m
  | (some (v, e), t) => t.respond m v e

/-- A write of a DMA engine as master `m`: one that is held leaves its answer when it lands (R53, R505). -/
def portWrite (s : State) (m a width v : Nat) : State :=
  let (e, t) := accessWrite s m a width v
  if t.pw.held.length = s.pw.held.length then t.respond m 0 e else awaitRead t m

end Sys2Proof.Machine
end

