-- ==== Sys2Proof/Machine/ImageCheck.lean ====
section
/-! DEFINITION. The consistency checks of the hardware sequencer on an image (R324, R417, R425). -/

namespace Sys2Proof.Machine

/-- The records of every REG and START section of an image, each with whether its section is START, in image order. -/
def imageRecords (s : State) (n : Nat) : List (Bool × Nat × Nat) :=
  (sections s n).flatMap fun x =>
    if x.typ = 1 ∨ x.typ = 3 then (sectionRecords s n x).map fun r => (x.typ == 3, r.1, r.2) else []

/-- The values that the image's records write to a register, whatever its indices: START or not, the address, the value. -/
def recordsTo (rs : List (Bool × Nat × Nat)) (r : RegName) : List (Bool × Nat × Nat) :=
  let d := regDesc r
  rs.filter fun x => (regLocate d x.2.1).isSome

/-- An image record writes an instance of a register whole: of a slot, its high half (R417). -/
def declared (rs : List (Bool × Nat × Nat)) (r : RegName) (i : Nat) : Bool :=
  let a := regAddr r i + (if 32 < (regDesc r).width then 4 else 0)
  rs.any fun x => x.2.1 == a

/-- The value of a field in a register's word. -/
def fieldIn (r : RegName) (f : Fld) (v : Nat) : Nat :=
  match (regDesc r).fields.find? (·.fld = f) with
  | some x => bits v x.lo x.len
  | none => 0

/-- Form (R425): one START section, LIVE; CORES not LIVE; what must lie in START lies there; PAIRED, PREFSEAT and FAB_CORECFG in
REG only. -/
def wellFormed (s : State) (n : Nat) (rs : List (Bool × Nat × Nat)) : Bool :=
  let xs := sections s n
  let starts := xs.filter (·.typ == 3)
  let inStart (r : RegName) (p : Nat → Bool) : Bool := (recordsTo rs r).all fun x => x.1 || !p x.2.2
  let always : Nat → Bool := fun _ => true
  starts.length == 1 && starts.all (·.live) && xs.all (fun x => x.typ != 4 || !x.live) &&
    inStart .PWM_DRIVE always && inStart .LAE_DRIVE always && inStart .PWM_TEAMRUN always &&
    inStart .LANE_CTRL (fun v => bit v 0) && inStart .ADC_FRAME (fun v => bit v 9) && inStart .ADC_CTRL always &&
    inStart .SDM_CTRL always && inStart .LAE_CTRL always &&
    (recordsTo rs .TTH_CFG).all (fun x => !x.1) && (recordsTo rs .FAB_CORECFG).all (fun x => !x.1)

/-- The records in the order they land: those of LIVE REG sections, those of START, those of REG sections that are not LIVE (R414,
R416). -/
def landOrder (s : State) (n : Nat) : List (Bool × Nat × Nat) :=
  let of (start live : Bool) : List (Bool × Nat × Nat) := (sections s n).flatMap fun x =>
    if x.typ = (if start then 3 else 1) ∧ x.live = live then (sectionRecords s n x).map fun r => (start, r.1, r.2) else []
  of false true ++ of true true ++ of false false

/-- The polarity fields are written before a DRV record: some record of a channel's or a pair's CFG goes before one that sets DRV, and
none follows it (R165, R290, R415; log entry 92). -/
def polarityFirst (rs : List (Bool × Nat × Nat)) (drive cfg : RegName) : Bool :=
  let sets (x : Bool × Nat × Nat) : Bool := x.2.1 == regAddr drive && bit x.2.2 0
  !rs.any sets || (!(recordsTo (rs.takeWhile (!sets ·)) cfg).isEmpty && (recordsTo (rs.dropWhile (!sets ·)) cfg).isEmpty)

/-- R149: no record writes a reserved MODE. -/
def modesOk (rs : List (Bool × Nat × Nat)) : Bool :=
  (recordsTo rs .PWM_CH_CFG).all fun x => decide (fieldIn .PWM_CH_CFG .PWM_CH_CFG_MODE x.2.2 < 2)

/-- What the image's records make of the state once those of START and of the REG sections that are not LIVE have landed too, and a copy
of the slot banks is over: what the checks are made on (R417). -/
def wholeImage (s : State) (n : Nat) : State :=
  let later := (landOrder s n).drop (((sections s n).filter fun x => x.typ == 1 && x.live).flatMap (sectionRecords s n)).length
  copyFinish (later.foldl (fun u r => (seqWrite u r.2.1 4 r.2.2).2) s)

/-- R67, R74: the slot entries of the image, in both banks, and the frame event. -/
def slotsOk (s : State) (rs : List (Bool × Nat × Nat)) : Bool :=
  let decl := (List.range 32).foldl (fun m i => m + b2n (declared rs .ADC_SCALE_GAIN i) * 2 ^ i) 0
  (List.range 96).all (fun e => (List.range 2).all fun b =>
      !w0En (slotW0 s e b) || !slotInvalid decl (slotW0 s e b) (slotW1 s e b)) &&
    (recordsTo rs .ADC_FRAME).all fun x => !(bit x.2.2 9 && decide (208 ≤ x.2.2 % 512))

/-- R105, R129, R154: filters, periods and refresh, which a channel with REFN 0 does not use (log entry 97). -/
def powerStageOk (s : State) (rs : List (Bool × Nat × Nat)) : Bool :=
  (recordsTo rs .CMP_CFG).all (fun x => filterValid x.2.2) &&
    (recordsTo rs .PWM_CH_PRD).all (fun x => decide (8 ≤ x.2.2 % 2 ^ 24)) &&
    (List.range 24).all fun n => s.fget .PWM_CH_REFR_REFN n == 0 ||
      refreshValid (s.fget .PWM_CH_REFR_REFW n) (preload s n 0) (preload s n 7)

/-- R254, R277, R284 and the declarations of a STRAT = 1 pair (R281). -/
def laeOk (s : State) : Bool :=
  let d (m : Nat) : Rat := angleDelta s m 66
  let l (m : Nat) : Rat := 65536 * 66 * netLag s m 66 / 800000000
  let apart (a b : Rat) : Bool := decide (a - b ≤ 364) && decide (b - a ≤ 364)
  (List.range 2).all (fun f =>
      (List.range 3).all (fun p => decide (d (6 * f + p) ≤ 2048) && apart (l (6 * f + p)) (l (6 * f + (p + 1) % 3))) &&
        s.fget .LAE_FEED_XF_FIRST f != 3) &&
    (List.range 12).all fun j =>
      pairValid s j && (pairStrat s j != 1 ||
        (s.fget .LAE_FEED_PRECAP_PRECAP (pairFeed s j) != 0 && s.fget .LAE_FEED_PREIND_PREIND (pairFeed s j) != 0 &&
          s.fget .LAE_FEED_PRELIM_PRELIM (pairFeed s j) != 0))

/-- Bytes of an entry's data in a STATE frame (R376). -/
def streamData (s : State) (e : Nat) : Nat :=
  match entKind s e with
  | 1 | 2 => 6 * entCount s e
  | 3 => 32
  | _ => 128

/-- An entry's KIND, MODE and COUNT are among those of R376. -/
def streamEntryOk (s : State) (e : Nat) : Bool :=
  match entKind s e with
  | 1 => entMode s e ≤ 2 && decide (1 ≤ entCount s e) && entCount s e ≤ 16
  | 2 => entMode s e ≤ 2 && decide (1 ≤ entCount s e) && entCount s e ≤ 64
  | 3 => entMode s e == 1
  | 4 => entMode s e == 2
  | _ => false

/-- A local register lies in an overwrite entry of the stream list. -/
def overwritten (s : State) (k r : Nat) : Bool :=
  (streamEntries s).any fun e => entKind s e == 1 && entOverwrites s e && entLane s e == k &&
    decide (s.fget .TTH_STREAM_W0_FIRST e ≤ r) && decide (r < s.fget .TTH_STREAM_W0_FIRST e + entCount s e)

/-- The stream list (R376). -/
def streamOk (s : State) : Bool :=
  let es := streamEntries s
  es.all (streamEntryOk s) && decide (es.foldl (fun n e => n + 4 + streamData s e) 16 ≤ 4096) &&
    (List.range 32).all fun k => decide (((List.range 64).filter (overwritten s k)).length ≤ 16)

/-- R429, R436, R442: sensors, classes and limit targets. -/
def cupolaOk (s : State) (rs : List (Bool × Nat × Nat)) : Bool :=
  (List.range 22).all (fun i => !s.flag .CUP_SNS_CFG_EN i || i < 10 ||
      (declared rs .CUP_SNS_P0 i && declared rs .CUP_SNS_P1 i && (i < 14 || declared rs .CUP_SNS_P2 i))) &&
    [10, 11, 12, 13].all (fun i => !s.flag .CUP_SNS_CFG_EN i || (List.range 96).all fun e => (List.range 2).all fun b =>
      let w := slotW0 s e b
      !(w0En w && w0Conv w == i + 2 && w0Input w == 3)) &&
    (List.range 3).all (classOk s) &&
    (List.range 8).all fun n => !s.flag .CUP_LIM_TGT_EN n ||
      (decide (limFloor s n ≤ limNom s n) && decide (0 < limStep s n) &&
        !overwritten s (s.fget .CUP_LIM_TGT_LANE n) (s.fget .CUP_LIM_TGT_REG n))

/-- R472 and FYZ_SP: setpoints. -/
def setpointsOk (s : State) : Bool :=
  (List.range 64).all fun n => !s.flag .FYZ_SP_TGT_EN n ||
    (decide (sext 48 (s.fget .FYZ_SP_MIN_V n) ≤ sext 48 (s.fget .FYZ_SP_MAX_V n)) &&
      (!s.flag .TTH_CFG_PAIRED || overwritten s (s.fget .FYZ_SP_TGT_LANE n) (s.fget .FYZ_SP_TGT_REG n)))

/-- R4, R5, R90: every modulator that the image enables has its scaling declared, and every feed that it enables the networks of its
three voltage modulators. -/
def scalesOk (rs : List (Bool × Nat × Nat)) : Bool :=
  (recordsTo rs .SDM_CTRL).all (fun x => (setBits 12 x.2.2).all fun m => declared rs .SDM_SCALE m) &&
    (recordsTo rs .LAE_CTRL).all fun x =>
      [(0, Fld.LAE_CTRL_ENA), (1, .LAE_CTRL_ENB)].all fun e =>
        fieldIn .LAE_CTRL e.2 x.2.2 == 0 || (List.range 3).all fun p => declared rs .LAE_NET (6 * e.1 + p)

/-- The checks of R417. -/
def imageConsistent (s0 : State) (n : Nat) : Bool :=
  let rs := imageRecords s0 n
  let order := landOrder s0 n
  let s := wholeImage s0 n
  wellFormed s n rs && polarityFirst order .PWM_DRIVE .PWM_CH_CFG && polarityFirst order .LAE_DRIVE .LAE_PAIR_CFG && modesOk rs &&
    slotsOk s rs && powerStageOk s rs && laeOk s && streamOk s && cupolaOk s rs && setpointsOk s && scalesOk rs

/-! ### The loop graph (R324) -/

/-- The lanes the image enables: those a START record sets EN of. -/
def imageLanes (rs : List (Bool × Nat × Nat)) : List Nat :=
  (List.range 32).filter fun k => rs.any fun x => x.2.1 == regAddr .LANE_CTRL k && bit x.2.2 0

/-- The instruction words of lane `k`. -/
def laneWords (s : State) (k : Nat) : List LaneWord := (List.range 512).map fun a => laneFields (s.pmem k a)

/-- A producer feeds the channel a task input of lane `j` selects, by its active or its next route (R324). -/
def producerFeeds (s : State) (prod j : Nat) : Bool :=
  let inMask (c : Nat) : Bool := bit (s.fget .HRN_CH_MASK_MASK c (prod / 32)) (prod % 32)
  (List.range 8).any fun t =>
    let i := 8 * j + t
    (s.flag .HRN_ROUTE_EN i && inMask (s.fget .HRN_ROUTE_CH i)) ||
      (s.flag .HRN_ROUTENX_EN i && inMask (s.fget .HRN_ROUTENX_CH i))

/-- An edge of the loop graph from lane `k` to lane `j` (R324). -/
def loopEdge (s : State) (k j : Nat) : Bool :=
  (laneWords s k).any fun f =>
    (f.op == 0x59 && f.imm % 32 == j) || (f.op == 0x58 && producerFeeds s (128 + 2 * k + f.imm % 2) j)

/-- The lanes of `ks` that still have an edge to another of them; repeated, this empties a graph without a cycle. -/
def prune (edges : List (Nat × Nat)) : Nat → List Nat → List Nat
  | 0, ks => ks
  | n + 1, ks => prune edges n (ks.filter fun k => edges.any fun e => e.1 == k && ks.contains e.2)

/-- The loop graph of the image has no cycle (R324). -/
def loopFree (s : State) (n : Nat) : Bool :=
  let ks := imageLanes (imageRecords s n)
  let edges := ks.flatMap fun k => (ks.filter (loopEdge s k)).map fun j => (k, j)
  (prune edges 32 ks).isEmpty

end Sys2Proof.Machine
end

