-- ==== Sys2Proof/Machine/Boot.lean ====
section
/-! DEFINITION. Image application: an attempt on a slot, its failure, the applied state (spec/12_power_startup.md, R413 to R420,
R426). -/

namespace Sys2Proof.Machine

/-! ### Blocks the sequencer has written (R418, R420) -/

/-- The block an address lies in, by the windows of R23; 17 for a memory. -/
def blockOf (a : Nat) : Nat :=
  if a < 0x20080000 then 17
  else if a < 0x40000000 then 0
  else if a < 0x40020000 then 1
  else if a < 0x40040000 then 2
  else if a < 0x40100000 then 3
  else if a < 0x40110000 then 4
  else if a < 0x40120000 then 5
  else if a < 0x40140000 then 6
  else 7 + (a - 0x40140000) / 0x20000

/-- The status and counter registers of Tether, whose link, Bridle and role keep running (R420). -/
def tetherStatus (a : Nat) : Bool := a == 0x40200008 || (decide (0x40200018 ≤ a) && decide (a < 0x40200040))

/-- What a block's reset by the sequencer leaves: PLL status (R418), Tether's status (R420; log entry 90), the shut-down state and its
record (R446), the PMG_ registers (R400). -/
def keptByBlock (k : FKey) : Bool :=
  let a := keyAddr k
  k.f == .CUP_STAT_SHUT || k.f == .CUP_REC_NEXT || k.f == .CUP_RECSEQ_SEQ ||
    (decide (0x40240000 ≤ a) && decide (a < 0x40260000)) || a == 0x40260010 || tetherStatus a

/-- What a block holds beside its registers goes back to its state after reset. -/
def blockHidden (s : State) (b : Nat) : State :=
  match b with
  | 1 => resetHidden s 10
  | 2 => spireUnlock s
  | 3 => { (List.range 4).foldl (fun t g => resetHidden t (6 + g)) s with portRank := Vector.replicate 8 [0, 1, 2, 3] }
  | 4 => resetHidden s 12
  | 5 => resetHidden s 13
  | 6 => pinsFollow (resetHidden s 14)
  | 7 => resetHidden s 15
  | 8 => { s with tmr := Vector.replicate 16 {} }
  | 9 => { s with hrn := [], routeAt := none }
  | 12 => cupRestart s
  | 14 => seatFields s
  | 16 => { s with dma := Vector.replicate 2 {} }
  | _ => s

/-- A broken sensor stays broken until a device reset (R438): BROKEN, REASON and its level stay. -/
def staysBroken (s : State) (k : FKey) : Bool :=
  (k.f == .CUP_SNS_TEMP_BROKEN || k.f == .CUP_SNS_TEMP_REASON || k.f == .CUP_SNS_TEMP_LEVEL) && cupBroken s k.i

/-- Every block of a mask reset (R418, R420). -/
def resetBlocks (s : State) (mask : Nat) : State :=
  let t := s.resetFields fun k => bit mask (blockOf (keyAddr k)) && !keptByBlock k && !staysBroken s k
  { (setBits 17 mask).foldl blockHidden t with pw := { t.pw with wrote := 0 } }

/-! ### An attempt (R416 to R418) -/

/-- An attempt on a slot so far: the first fault as a reason of PMG_BOOTSTAT (0: none), and the state. -/
structure Attempt where
  reason : Nat
  st : State

/-- The block of an address noted as written. -/
def noteWrite (s : State) (a : Nat) : State := { s with pw := { s.pw with wrote := setBit s.pw.wrote (blockOf a) true } }

/-- One write of the image: outside R425, or with an error response, it ends the attempt (R418). -/
def imageWrite (allowed : Nat → Bool) (width : Nat) (x : Attempt) (r : Nat × Nat) : Attempt :=
  if x.reason ≠ 0 then x
  else if !allowed r.1 then { x with reason := 7 }
  else
    let (e, t) := seqWrite (noteWrite x.st r.1) r.1 width r.2
    ⟨if e then 7 else 0, t⟩

/-- A record whose write would set DRV while digests are still to be matched is left for the image check to reject (R416). -/
def driveRecord (r : Nat × Nat) : Bool := r.1 == regAddr .PWM_DRIVE || r.1 == regAddr .LAE_DRIVE

/-- A section hashed, and unless it is START or a NOTE its writes made (R416). -/
def takeSection (n : Nat) (x : Attempt) (c : Section) : Attempt :=
  if x.reason ≠ 0 then x
  else
    let y :=
      if c.typ = 1 then ((sectionRecords x.st n c).filter (!driveRecord ·)).foldl (imageWrite recordAllowed 4) x
      else if c.typ = 2 then (sectionBeats x.st n c).foldl (imageWrite beatAllowed 8) x
      else x
    if y.reason ≠ 0 then y else if digestOk x.st n c then y else { y with reason := 6 }

/-- The START records in their order (R414, R418). -/
def takeStart (n : Nat) (x : Attempt) : Attempt :=
  ((sections x.st n).filter (·.typ == 3)).foldl (fun y c => (sectionRecords x.st n c).foldl (imageWrite recordAllowed 4) y) x

/-- An attempt on slot `n`: header and signature, LIVE sections, checks, loop graph, START (R416 to R418). -/
def tryImage (s : State) (n : Nat) : Attempt :=
  let h := headerReason s n
  if h ≠ 0 then ⟨h, s⟩
  else
    let live := (sections s n).filter (·.live)
    let x := live.foldl (takeSection n) ⟨0, s⟩
    if x.reason ≠ 0 then x
    else if !imageConsistent x.st n then { x with reason := 8 }
    else if !loopFree x.st n then { x with reason := 9 }
    else takeStart n x

/-- The attempt sets PWM_DRIVE.DRV while a Spire line is not locked: the sequencer holds that write (R186, R415). -/
def driveHeld (s : State) (n : Nat) : Bool :=
  !allLocked s && (sections s n).any fun c => c.typ == 3 &&
    (sectionRecords s n c).any fun r => r.1 == regAddr .PWM_DRIVE && bit r.2 0

/-- An attempt with its failure's effects: the blocks written are reset, the slot is BAD, the reason is recorded (R418). -/
def attempt (s : State) (n : Nat) : Bool × State :=
  let x := tryImage s n
  if x.reason = 0 then (true, x.st)
  else
    let t := setSlotState (resetBlocks x.st x.st.pw.wrote) n 5
    (false, if n = 0 then t.fset .PMG_BOOTSTAT_FAIL0 x.reason else t.fset .PMG_BOOTSTAT_FAIL1 x.reason)

/-! ### The applied state (R406, R414, R426) -/

/-- Bytes of the image addressed to domain `d` (R406): 8 for each record and each beat. -/
def domainBytes (s : State) (n d : Nat) : Nat :=
  (sections s n).foldl (fun k x =>
    if x.typ = 1 ∨ x.typ = 3 then k + 8 * ((sectionRecords s n x).filter fun r => addrDomain r.1 == d).length
    else if x.typ = 2 then k + 8 * ((sectionBeats s n x).filter fun r => addrDomain r.1 == d).length
    else k) 0

/-- OFFEXIT of domain `d`, in microseconds rounded up (R406); 0 for a domain that has no OFF state. -/
def offExit (s : State) (n d : Nat) : Nat :=
  match (exitTable d).2.2 with
  | none => 0
  | some base => (base * 100000 + domainBytes s n d * 125 + (if d = 18 then 0 else 800000) + 99999) / 100000

/-- PMG_BOOTSTAT as notice data. -/
def bootBytes (s : State) : List Nat := leBytes 4 (s.regWord (regDesc .PMG_BOOTSTAT) 0 0)

/-- The image of slot `n` is in force: OFFEXIT and DIRTY of every domain, the management core's start, and the sections that are not
LIVE still to be done (R404, R406, R414). -/
def inForce (s : State) (n : Nat) (fresh : Bool) : State :=
  let t := ((s.fset .PMG_BOOTSTAT_SLOT n).fset .PMG_BOOTSTAT_APPLIED 1).fset .PMG_BOOTSTAT_NOIMG 0
  let t := t.fset .PMG_BOOTSTAT_CODEFAIL 0
  let t := (List.range 20).foldl (fun u d => (u.fset .PMG_DOMSTAT_OFFEXIT (offExit s n d) d).fset .PMG_DOMSTAT_DIRTY 0 d) t
  let t := { t with
    img := ⟨true, fresh, n, imgLen s n, imgDigest s n⟩
    pw := { t.pw with nonlive := true } }
  mgmtStart t

/-- A reason of PMG_BOOTSTAT for a slot that was not chosen: 1 unless it is GOOD (R419). -/
def idleReason (s : State) (n : Nat) : Nat := if slotState s n = 4 ∨ slotState s n = 2 then 0 else 1

/-- The slots the sequencer tries, in order: a TRIAL slot, then the GOOD slots by descending SEQ (R419). -/
def slotOrder (s : State) : List Nat :=
  let trial := ([0, 1].filter fun n => slotState s n == 2).take 1
  let good := [0, 1].filter fun n => slotState s n == 4
  let good := if imgSeq s 0 < imgSeq s 1 then good.reverse else good
  trial ++ good

/-- What the trial of the slots has come to: one is applied (and whether it was the first), the rest wait for Spire's lock, or none is
left. -/
inductive BootResult where
  | applied (n : Nat) (first : Bool)
  | waits (first : Bool) (rest : List Nat)
  | none
  deriving DecidableEq, Repr

/-- The slots tried in turn until one is applied; before one whose START sets DRV the sequencer waits for Spire (R186, R419). -/
def trySlots : Bool → List Nat → State → BootResult × State
  | _, [], s => (.none, s)
  | first, n :: rest, s =>
    if driveHeld s n then (.waits first (n :: rest), s)
    else
      let t := if slotState s n = 2 then setSlotState s n 3 else s
      match attempt t n with
      | (true, u) => (.applied n first, u)
      | (false, u) => trySlots false rest u

/-- The boot begins: PMG_BOOTSTAT is cleared, and says of each slot whether it is tried (R419). -/
def bootCleared (s : State) : State :=
  let t := { s with pw := { s.pw with bootDue := false } }
  let t := [Fld.PMG_BOOTSTAT_SLOT, .PMG_BOOTSTAT_APPLIED, .PMG_BOOTSTAT_FALLBACK, .PMG_BOOTSTAT_CODEFAIL, .PMG_BOOTSTAT_NOIMG,
    .PMG_BOOTSTAT_LIVEUS].foldl (fun u f => u.fset f 0) t
  (t.fset .PMG_BOOTSTAT_FAIL0 (idleReason s 0)).fset .PMG_BOOTSTAT_FAIL1 (idleReason s 1)

/-- The boot over a list of slots: a slot applied, or the state with no valid image, or the rest later (R413, R419, R426). -/
def bootGo (s : State) (first : Bool) (order : List Nat) : State :=
  match trySlots first order { s with pw := { s.pw with slotsLeft := none } } with
  | (.waits first rest, u) => { u with pw := { u.pw with slotsLeft := some (first, rest) } }
  | (.none, u) => mgmtStart ((u.fset .PMG_BOOTSTAT_NOIMG 1).fput .PMG_BOOTSTAT_FALLBACK (!(first && order.isEmpty)))
  | (.applied n first, u) =>
    let u := (inForce u n false).fset .PMG_BOOTSTAT_LIVEUS ((s.now + 4000) / 800)
    let u := u.fput .PMG_BOOTSTAT_FALLBACK (!first)
    let u := u.notice 6 0 (bootBytes u)
    let u := if first then u else (u.ring 162).notice 6 1 (bootBytes u)
    roleCheck u

/-- IMAGE_BOOT: the boot begins, or goes on with the slots it has left (R413). -/
def bootOp (s : State) : State :=
  if s.pw.bootDue then bootGo (bootCleared s) true (slotOrder s)
  else match s.pw.slotsLeft with
  | some (first, rest) => bootGo s first rest
  | none => s
def execImageBoot (s : State) : Host.Outcome State Fault Refusal := .next (bootOp s)

/-! ### The background pass (R414, R418) -/

/-- A CORES record: the core's BOOT and its release (R414, R425). -/
def releaseRecord (s : State) (r : Nat × Nat) : State :=
  if r.1 < 4 then coreCtrlWrite s r.1 (4 * (r.2 / 4)) else s

/-- A section that is not LIVE copied (R414). -/
def copySection (n : Nat) (s : State) (c : Section) : State :=
  let put (w : Nat) (ok : Nat → Bool) (t : State) (r : Nat × Nat) : State :=
    if ok r.1 then (seqWrite (noteWrite t r.1) r.1 w r.2).2 else t
  if c.typ = 1 then (sectionRecords s n c).foldl (put 4 recordAllowed) s
  else if c.typ = 2 then (sectionBeats s n c).foldl (put 8 beatAllowed) s
  else s

/-- The background pass: every section that is not LIVE is hashed and copied; when all match, the CORES records are written; else
CODEFAIL sets (R414, R418). -/
def nonliveOp (s : State) : State :=
  let n := s.img.slot
  let rest := (sections s n).filter (!·.live)
  let t := rest.foldl (copySection n) { s with pw := { s.pw with nonlive := false } }
  if rest.all (digestOk s n) then
    (rest.filter (·.typ == 4)).foldl (fun u c => (sectionRecords u n c).foldl releaseRecord u) t
  else
    let u := (t.fset .PMG_BOOTSTAT_CODEFAIL 1).ring 163
    u.notice 6 2 (bootBytes u)

/-- NONLIVE_SECTIONS_DONE (R414). -/
def execNonliveSectionsDone (s : State) : Host.Outcome State Fault Refusal :=
  .next (if s.pw.nonlive && s.img.applied then nonliveOp s else s)

/-! ### An image applied in place (R420) -/

/-- The image a joining partner sends is complete in the slot that is not applied (R390, R420). -/
def imageReceived (s : State) : Bool :=
  let n := spareSlot s
  s.role == roleJoining && s.twin.join == 1 && !s.twin.imgGot.isEmpty && slotState s n == 1 &&
    (s.twin.imgGot.foldl (fun k g => k + g.2) 0) == imgLen s n

/-- The cores held in reset and the blocks of the previous image reset (R420). -/
def clearImage (s : State) : State :=
  let t := (List.range 4).foldl coreResetOp (mgmtReset s)
  let t := resetBlocks t t.pw.wrote
  { (t.fset .PMG_BOOTSTAT_APPLIED 0) with img := { t.img with applied := false }, pw := { t.pw with nonlive := false, wrote := 0 } }

/-- An application in place begins: the slot goes by TRIAL to TRIED, the cores and blocks are reset; the previous image is attempted
after it should it fail (R419, R420). -/
def applyStart (s : State) : State :=
  let n := spareSlot s
  let prev := if s.img.applied then [s.img.slot] else []
  let t := { s with twin := { s.twin with imgGot := [] } }
  let t := clearImage (setSlotState (setSlotState t n 2) n 3)
  { t with pw := { t.pw with inPlace := n :: prev, prevSlot := prev.head? } }

/-- The image of slot `n` is in force again or anew: the role stays for the new one, and goes to DETACHED for the previous one (R420). -/
def applyDone (s : State) (n : Nat) : State :=
  let t := { s with pw := { s.pw with inPlace := [], prevSlot := none } }
  if s.pw.prevSlot = some n then setRole (inForce t n false) roleDetached
  else
    let u := inForce (if n = 0 then t.fset .PMG_BOOTSTAT_FAIL0 0 else t.fset .PMG_BOOTSTAT_FAIL1 0) n true
    u.notice 6 0 (bootBytes u)

/-- The slots of an application in place attempted in turn, each once Spire's lines are locked if its START sets DRV; when none
succeeds the device stays without an image, in DETACHED (R186, R420). -/
def applyGo : List Nat → State → State
  | [], s =>
    setRole (mgmtStart ({ s with pw := { s.pw with inPlace := [], prevSlot := none } }.fset .PMG_BOOTSTAT_NOIMG 1)) roleDetached
  | n :: rest, s =>
    if driveHeld s n then { s with pw := { s.pw with inPlace := n :: rest } }
    else match attempt s n with
    | (true, u) => applyDone u n
    | (false, u) => applyGo rest u

/-- IMAGE_APPLY_IN_PLACE: the image in the slot that is not applied is applied in place (R420). -/
def applyInPlace (s : State) : State :=
  if s.pw.inPlace ≠ [] then applyGo s.pw.inPlace s
  else if imageReceived s then
    let t := applyStart s
    applyGo t.pw.inPlace t
  else s
def execImageApplyInPlace (s : State) : Host.Outcome State Fault Refusal := .next (applyInPlace s)

end Sys2Proof.Machine
end

