-- ==== Sys2Proof/Machine/CoreAlu.lean ====
section
/-! DEFINITION. The integer arithmetic of a core (I, M, Zba, Zbb) and the expansion of compressed instructions (C), as the
ratified standards encode them (R325). -/

namespace Sys2Proof.Machine

/-! ### Arithmetic -/

/-- The number of leading zeros of a 32-bit value. -/
def clz32 (v : Nat) : Nat := if v = 0 then 32 else 31 - v.log2

/-- The number of trailing zeros. -/
def ctz32 (v : Nat) : Nat := ((List.range 32).find? (bit v)).getD 32

/-- The number of bits set. -/
def cpop32 (v : Nat) : Nat := (setBits 32 v).length

/-- A rotation to the right. -/
def ror32 (v n : Nat) : Nat := (v / 2 ^ (n % 32) + v * 2 ^ (32 - n % 32)) % 2 ^ 32

/-- Each byte that is not 0 becomes 0xFF. -/
def orcb (v : Nat) : Nat := leNat ((leBytes 4 v).map fun b => if b = 0 then 0 else 0xFF)

/-- A signed right shift. -/
def sra32 (v n : Nat) : Nat := twos 32 (sext 32 v / 2 ^ (n % 32))

/-- Signed division: by 0 it gives -1, the overflow the dividend. -/
def div32 (a b : Nat) : Nat := if b = 0 then 2 ^ 32 - 1 else twos 32 ((sext 32 a).tdiv (sext 32 b))

/-- Signed remainder: by 0 it gives the dividend. -/
def rem32 (a b : Nat) : Nat := if b = 0 then a else twos 32 ((sext 32 a).tmod (sext 32 b))

/-- The operation of an OP word, by funct7 and funct3; none is illegal. `rs2` is the field's number. -/
def aluOp (f7 f3 rs2 a b : Nat) : Option Nat :=
  let lts (x y : Nat) : Bool := decide (sext 32 x < sext 32 y)
  match f7, f3 with
  | 0x00, 0 => some ((a + b) % 2 ^ 32)
  | 0x00, 1 => some (a * 2 ^ (b % 32) % 2 ^ 32)
  | 0x00, 2 => some (b2n (lts a b))
  | 0x00, 3 => some (b2n (decide (a < b)))
  | 0x00, 4 => some (a ^^^ b)
  | 0x00, 5 => some (a / 2 ^ (b % 32))
  | 0x00, 6 => some (a ||| b)
  | 0x00, 7 => some (a &&& b)
  | 0x20, 0 => some ((a + 2 ^ 32 - b) % 2 ^ 32)
  | 0x20, 4 => some (2 ^ 32 - 1 - (a ^^^ b))
  | 0x20, 5 => some (sra32 a b)
  | 0x20, 6 => some (a ||| (2 ^ 32 - 1 - b))
  | 0x20, 7 => some (a &&& (2 ^ 32 - 1 - b))
  | 0x01, 0 => some (a * b % 2 ^ 32)
  | 0x01, 1 => some (twos 32 (sext 32 a * sext 32 b / 2 ^ 32))
  | 0x01, 2 => some (twos 32 (sext 32 a * b / 2 ^ 32))
  | 0x01, 3 => some (a * b / 2 ^ 32)
  | 0x01, 4 => some (div32 a b)
  | 0x01, 5 => some (if b = 0 then 2 ^ 32 - 1 else a / b)
  | 0x01, 6 => some (rem32 a b)
  | 0x01, 7 => some (a % b)
  | 0x10, 2 => some ((2 * a + b) % 2 ^ 32)
  | 0x10, 4 => some ((4 * a + b) % 2 ^ 32)
  | 0x10, 6 => some ((8 * a + b) % 2 ^ 32)
  | 0x05, 4 => some (if lts b a then b else a)
  | 0x05, 5 => some (min a b)
  | 0x05, 6 => some (if lts a b then b else a)
  | 0x05, 7 => some (max a b)
  | 0x30, 1 => some (ror32 a (32 - b % 32))
  | 0x30, 5 => some (ror32 a b)
  | 0x04, 4 => if rs2 = 0 then some (a % 2 ^ 16) else none
  | _, _ => none

/-- The operation of an OP-IMM word: its funct3, its 12-bit immediate field and the operand. -/
def aluImm (f3 imm a : Nat) : Option Nat :=
  let i := twos 32 (sext 12 imm)
  match f3, imm / 32 with
  | 1, 0x00 => some (a * 2 ^ (imm % 32) % 2 ^ 32)
  | 1, 0x30 =>
    match imm % 32 with
    | 0 => some (clz32 a)
    | 1 => some (ctz32 a)
    | 2 => some (cpop32 a)
    | 4 => some (twos 32 (sext 8 a))
    | 5 => some (twos 32 (sext 16 a))
    | _ => none
  | 1, _ => none
  | 5, 0x00 => some (a / 2 ^ (imm % 32))
  | 5, 0x20 => some (sra32 a imm)
  | 5, 0x30 => some (ror32 a imm)
  | 5, _ =>
    if imm = 0x287 then some (orcb a) else if imm = 0x698 then some (beNat (leBytes 4 a)) else none
  | f, _ => aluOp 0 f 0 a i

/-- Whether a branch is taken, by its funct3; none is illegal. -/
def branchOp (f3 a b : Nat) : Option Bool :=
  match f3 with
  | 0 => some (a == b)
  | 1 => some (a != b)
  | 4 => some (decide (sext 32 a < sext 32 b))
  | 5 => some (decide (sext 32 b ≤ sext 32 a))
  | 6 => some (decide (a < b))
  | 7 => some (decide (b ≤ a))
  | _ => none

/-! ### Words built from fields -/

def mkI (op rd f3 rs1 imm : Nat) : Nat := op + rd * 2 ^ 7 + f3 * 2 ^ 12 + rs1 * 2 ^ 15 + imm % 4096 * 2 ^ 20
def mkR (op rd f3 rs1 rs2 f7 : Nat) : Nat := op + rd * 2 ^ 7 + f3 * 2 ^ 12 + rs1 * 2 ^ 15 + rs2 * 2 ^ 20 + f7 * 2 ^ 25
def mkS (op f3 rs1 rs2 imm : Nat) : Nat :=
  op + imm % 32 * 2 ^ 7 + f3 * 2 ^ 12 + rs1 * 2 ^ 15 + rs2 * 2 ^ 20 + imm / 32 % 128 * 2 ^ 25
def mkB (f3 rs1 rs2 off : Nat) : Nat :=
  0x63 + bits off 11 1 * 2 ^ 7 + bits off 1 4 * 2 ^ 8 + f3 * 2 ^ 12 + rs1 * 2 ^ 15 + rs2 * 2 ^ 20 + bits off 5 6 * 2 ^ 25 +
    bits off 12 1 * 2 ^ 31
def mkJ (rd off : Nat) : Nat :=
  0x6F + rd * 2 ^ 7 + bits off 12 8 * 2 ^ 12 + bits off 11 1 * 2 ^ 20 + bits off 1 10 * 2 ^ 21 + bits off 20 1 * 2 ^ 31

/-! ### Compressed instructions -/

/-- Quadrant 0. -/
def expand0 (w : Nat) : Option Nat :=
  let rd := 8 + bits w 2 3
  let rs := 8 + bits w 7 3
  let off := bits w 10 3 * 8 + bits w 6 1 * 4 + bits w 5 1 * 64
  match bits w 13 3 with
  | 0 =>
    let imm := bits w 11 2 * 16 + bits w 7 4 * 64 + bits w 6 1 * 4 + bits w 5 1 * 8
    if imm = 0 then none else some (mkI 0x13 rd 0 2 imm)
  | 2 => some (mkI 0x03 rd 2 rs off)
  | 3 => some (mkI 0x07 rd 2 rs off)
  | 6 => some (mkS 0x23 2 rs rd off)
  | 7 => some (mkS 0x27 2 rs rd off)
  | _ => none

/-- The jump offset of C.J and C.JAL. -/
def cjOff (w : Nat) : Nat :=
  twos 21 (sext 12 (bits w 3 3 * 2 + bits w 11 1 * 16 + bits w 2 1 * 32 + bits w 7 1 * 64 + bits w 6 1 * 128 + bits w 9 2 * 256 +
    bits w 8 1 * 1024 + bits w 12 1 * 2048))

/-- The branch offset of C.BEQZ and C.BNEZ. -/
def cbOff (w : Nat) : Nat :=
  twos 13 (sext 9 (bits w 3 2 * 2 + bits w 10 2 * 8 + bits w 2 1 * 32 + bits w 5 2 * 64 + bits w 12 1 * 256))

/-- The arithmetic of quadrant 1. -/
def expandAlu (w : Nat) : Option Nat :=
  let rd := 8 + bits w 7 3
  let rs := 8 + bits w 2 3
  let imm := twos 12 (sext 6 (bits w 2 5 + bits w 12 1 * 32))
  match bits w 10 2 with
  | 0 => if bit w 12 then none else some (mkR 0x13 rd 5 rd (bits w 2 5) 0)
  | 1 => if bit w 12 then none else some (mkR 0x13 rd 5 rd (bits w 2 5) 0x20)
  | 2 => some (mkI 0x13 rd 7 rd imm)
  | _ =>
    if bit w 12 then none
    else match bits w 5 2 with
      | 0 => some (mkR 0x33 rd 0 rd rs 0x20)
      | 1 => some (mkR 0x33 rd 4 rd rs 0)
      | 2 => some (mkR 0x33 rd 6 rd rs 0)
      | _ => some (mkR 0x33 rd 7 rd rs 0)

/-- Quadrant 1. -/
def expand1 (w : Nat) : Option Nat :=
  let rd := bits w 7 5
  let imm6 := bits w 2 5 + bits w 12 1 * 32
  let imm := twos 12 (sext 6 imm6)
  match bits w 13 3 with
  | 0 => some (mkI 0x13 rd 0 rd imm)
  | 1 => some (mkJ 1 (cjOff w))
  | 2 => some (mkI 0x13 rd 0 0 imm)
  | 3 =>
    if imm6 = 0 then none
    else if rd = 2 then
      some (mkI 0x13 2 0 2 (twos 12 (sext 10 (bits w 6 1 * 16 + bits w 2 1 * 32 + bits w 5 1 * 64 + bits w 3 2 * 128 + bits w 12 1 * 512))))
    else some (0x37 + rd * 2 ^ 7 + twos 20 (sext 6 imm6) * 2 ^ 12)
  | 4 => expandAlu w
  | 5 => some (mkJ 0 (cjOff w))
  | 6 => some (mkB 0 (8 + bits w 7 3) 0 (cbOff w))
  | _ => some (mkB 1 (8 + bits w 7 3) 0 (cbOff w))

/-- Quadrant 2. -/
def expand2 (w : Nat) : Option Nat :=
  let rd := bits w 7 5
  let rs2 := bits w 2 5
  let off := bits w 4 3 * 4 + bits w 12 1 * 32 + bits w 2 2 * 64
  let soff := bits w 9 4 * 4 + bits w 7 2 * 64
  match bits w 13 3 with
  | 0 => if bit w 12 then none else some (mkR 0x13 rd 1 rd rs2 0)
  | 2 => if rd = 0 then none else some (mkI 0x03 rd 2 2 off)
  | 3 => some (mkI 0x07 rd 2 2 off)
  | 4 =>
    if !bit w 12 then
      if rs2 = 0 then (if rd = 0 then none else some (mkI 0x67 0 0 rd 0)) else some (mkR 0x33 rd 0 0 rs2 0)
    else if rs2 = 0 then (if rd = 0 then some 0x00100073 else some (mkI 0x67 1 0 rd 0))
    else some (mkR 0x33 rd 0 rd rs2 0)
  | 6 => some (mkS 0x23 2 2 rs2 soff)
  | 7 => some (mkS 0x27 2 2 rs2 soff)
  | _ => none

/-- The 32-bit instruction that a word spells, and its length in bytes; none is an illegal word. -/
def expandWord (w : Nat) : Option (Nat × Nat) :=
  match w % 4 with
  | 0 => (expand0 w).map (·, 2)
  | 1 => (expand1 w).map (·, 2)
  | 2 => (expand2 w).map (·, 2)
  | _ => some (w % 2 ^ 32, 4)

end Sys2Proof.Machine
end

