-- ==== Sys2Proof/Machine/CoreFp.lean ====
section
/-! DEFINITION. Single-precision arithmetic of the F extension (R325), as the ratified standard and IEEE 754 define it: exact
integers, rounded once. A value is a word of 32 bits; flags are those of fflags (NV 16, DZ 8, OF 4, UF 2, NX 1). -/

namespace Sys2Proof.Machine

def fSign (v : Nat) : Bool := bit v 31
def fExp (v : Nat) : Nat := bits v 23 8
def fFrac (v : Nat) : Nat := v % 2 ^ 23
def fNan (v : Nat) : Bool := fExp v == 255 && fFrac v != 0
def fSnan (v : Nat) : Bool := fNan v && !bit v 22
def fInf (v : Nat) : Bool := fExp v == 255 && fFrac v == 0
def fZero (v : Nat) : Bool := v % 2 ^ 31 == 0
def canonNan : Nat := 0x7FC00000
def infOf (sg : Bool) : Nat := b2n sg * 2 ^ 31 + 0x7F800000
def zeroOf (sg : Bool) : Nat := b2n sg * 2 ^ 31

/-- The significand and the exponent of a finite value: it is `fMan v * 2 ^ fE v` in size. -/
def fMan (v : Nat) : Nat := if fExp v = 0 then fFrac v else fFrac v + 2 ^ 23
def fE (v : Nat) : Int := max (fExp v) 1 - 150

/-- `m * 2 ^ e` as a multiple of `2 ^ q`, rounded by mode `rm` (RNE, RTZ, RDN, RUP, RMM) for the sign, and whether it was inexact. -/
def roundAt (rm : Nat) (sg : Bool) (m : Nat) (e q : Int) : Nat × Bool :=
  if q ≤ e then (m * 2 ^ (e - q).toNat, false)
  else
    let d := (q - e).toNat
    let hi := m / 2 ^ d
    let lo := m % 2 ^ d
    let half := 2 ^ (d - 1)
    let up := match rm with
      | 0 => decide (half < lo) || (lo == half && hi % 2 == 1)
      | 1 => false
      | 2 => sg && lo != 0
      | 3 => !sg && lo != 0
      | _ => decide (half ≤ lo)
    (hi + b2n up, lo != 0)

/-- The value `m * 2 ^ e` rounded to single precision, with its flags; tininess is detected after rounding. -/
def fRound (rm : Nat) (sg : Bool) (m : Nat) (e : Int) : Nat × Nat :=
  if m = 0 then (zeroOf sg, 0)
  else
    let q0 := e + (m.log2 + 1 : Nat) - 24
    let h0 := (roundAt rm sg m e q0).1
    let tiny := decide (q0 + (if h0 = 2 ^ 24 then 24 else 23) < -126)
    let q := max q0 (-149)
    let r := roundAt rm sg m e q
    let hi := if r.1 = 2 ^ 24 then 2 ^ 23 else r.1
    let q := if r.1 = 2 ^ 24 then q + 1 else q
    let nx := b2n r.2
    if hi < 2 ^ 23 then (zeroOf sg + hi, nx + 2 * b2n (tiny && r.2))
    else if 255 ≤ q + 150 then
      let toInf := rm == 0 || rm == 4 || (rm == 2 && sg) || (rm == 3 && !sg)
      (if toInf then infOf sg else infOf sg - 1, 5)
    else (zeroOf sg + (q + 150).toNat * 2 ^ 23 + (hi - 2 ^ 23), nx + 2 * b2n (tiny && r.2))

/-- The result when an operand is a NaN: NV when one signals. -/
def nanOut (l : List Nat) : Nat × Nat := (canonNan, if l.any fSnan then 16 else 0)

/-- An invalid operation. -/
def fInvalid : Nat × Nat := (canonNan, 16)

/-- The value of a finite number as a multiple of `2 ^ e`, with its sign. -/
def fScaled (v : Nat) (e : Int) : Int :=
  let x : Int := (fMan v * 2 ^ (fE v - e).toNat : Nat)
  if fSign v then -x else x

/-- An exact sum rounded: an exact zero is positive but in RDN. -/
def roundSum (rm : Nat) (x : Int) (e : Int) : Nat × Nat :=
  if x = 0 then (zeroOf (rm == 2), 0) else fRound rm (decide (x < 0)) x.natAbs e

/-- FADD.S. -/
def fAdd (rm a b : Nat) : Nat × Nat :=
  if fNan a ∨ fNan b then nanOut [a, b]
  else if fInf a then (if fInf b ∧ fSign a ≠ fSign b then fInvalid else (a, 0))
  else if fInf b then (b, 0)
  else if fZero a ∧ fZero b ∧ fSign a = fSign b then (a, 0)
  else
    let e := min (fE a) (fE b)
    roundSum rm (fScaled a e + fScaled b e) e

/-- The sign turned. -/
def fNeg (v : Nat) : Nat := (v + 2 ^ 31) % 2 ^ 32

/-- FSUB.S. -/
def fSub (rm a b : Nat) : Nat × Nat := if fNan b then nanOut [a, b] else fAdd rm a (fNeg b)

/-- FMUL.S. -/
def fMul (rm a b : Nat) : Nat × Nat :=
  let sg := fSign a != fSign b
  if fNan a ∨ fNan b then nanOut [a, b]
  else if (fInf a ∧ fZero b) ∨ (fZero a ∧ fInf b) then fInvalid
  else if fInf a ∨ fInf b then (infOf sg, 0)
  else fRound rm sg (fMan a * fMan b) (fE a + fE b)

/-- `a * b + c` with one rounding. -/
def fFma (rm a b c : Nat) : Nat × Nat :=
  let sg := fSign a != fSign b
  if (fInf a ∧ fZero b) ∨ (fZero a ∧ fInf b) then fInvalid
  else if fNan a ∨ fNan b ∨ fNan c then nanOut [a, b, c]
  else if fInf a ∨ fInf b then (if fInf c ∧ fSign c ≠ sg then fInvalid else (infOf sg, 0))
  else if fInf c then (c, 0)
  else if (fZero a ∨ fZero b) ∧ fZero c ∧ fSign c = sg then (c, 0)
  else
    let ep := fE a + fE b
    let e := min ep (fE c)
    let p : Int := (fMan a * fMan b * 2 ^ (ep - e).toNat : Nat)
    roundSum rm ((if sg then -p else p) + fScaled c e) e

/-- FDIV.S. -/
def fDiv (rm a b : Nat) : Nat × Nat :=
  let sg := fSign a != fSign b
  if fNan a ∨ fNan b then nanOut [a, b]
  else if (fInf a ∧ fInf b) ∨ (fZero a ∧ fZero b) then fInvalid
  else if fInf a then (infOf sg, 0)
  else if fInf b then (zeroOf sg, 0)
  else if fZero b then (infOf sg, 8)
  else
    let n := fMan a * 2 ^ 50
    fRound rm sg (n / fMan b * 2 + b2n (n % fMan b != 0)) (fE a - fE b - 51)

/-- FSQRT.S. -/
def fSqrt (rm a : Nat) : Nat × Nat :=
  if fNan a then nanOut [a]
  else if fZero a then (a, 0)
  else if fSign a then fInvalid
  else if fInf a then (a, 0)
  else
    let k : Nat := if fE a % 2 = 0 then 50 else 51
    let n := fMan a * 2 ^ k
    let r := isqrt 40 n
    fRound rm false (r * 2 + b2n (r * r != n)) ((fE a - k) / 2 - 1)

/-- A key that orders the values that are no NaN; the two zeros are equal. -/
def fKeyOf (v : Nat) : Int := if fSign v then -((v % 2 ^ 31 : Nat) : Int) else ((v % 2 ^ 31 : Nat) : Int)

/-- FMIN.S and FMAX.S. -/
def fMinMax (isMax : Bool) (a b : Nat) : Nat × Nat :=
  let nv := if fSnan a || fSnan b then 16 else 0
  if fNan a then (if fNan b then canonNan else b, nv)
  else if fNan b then (a, nv)
  else
    let less := decide (fKeyOf a < fKeyOf b) || (fKeyOf a == fKeyOf b && fSign a)
    (if less != isMax then a else b, nv)

/-- FEQ.S (2), FLT.S (1), FLE.S (0): the signalling comparisons raise NV for any NaN. -/
def fCompare (f3 a b : Nat) : Nat × Nat :=
  if fNan a ∨ fNan b then (0, if f3 = 2 then (nanOut [a, b]).2 else 16)
  else (b2n (match f3 with
    | 2 => fKeyOf a == fKeyOf b
    | 1 => decide (fKeyOf a < fKeyOf b)
    | _ => decide (fKeyOf a ≤ fKeyOf b)), 0)

/-- FCVT.W.S and FCVT.WU.S. -/
def fToInt (rm : Nat) (unsigned : Bool) (a : Nat) : Nat × Nat :=
  let lo : Int := if unsigned then 0 else -(2 ^ 31)
  let hi : Int := if unsigned then 2 ^ 32 - 1 else 2 ^ 31 - 1
  if fNan a then (twos 32 hi, 16)
  else if fInf a then (twos 32 (if fSign a then lo else hi), 16)
  else
    let r := roundAt rm (fSign a) (fMan a) (fE a) 0
    let x : Int := if fSign a then -(r.1 : Int) else r.1
    if x < lo then (twos 32 lo, 16) else if hi < x then (twos 32 hi, 16) else (twos 32 x, b2n r.2)

/-- FCVT.S.W and FCVT.S.WU. -/
def fOfInt (rm : Nat) (unsigned : Bool) (v : Nat) : Nat × Nat :=
  let x : Int := if unsigned then v else sext 32 v
  fRound rm (decide (x < 0)) x.natAbs 0

/-- FCLASS.S. -/
def fClass (v : Nat) : Nat :=
  if fNan v then (if fSnan v then 2 ^ 8 else 2 ^ 9)
  else if fInf v then (if fSign v then 1 else 2 ^ 7)
  else if fZero v then (if fSign v then 2 ^ 3 else 2 ^ 4)
  else if fExp v = 0 then (if fSign v then 2 ^ 2 else 2 ^ 5)
  else if fSign v then 2 else 2 ^ 6

end Sys2Proof.Machine
end

