-- ==== Sys2Proof/Machine/Cores.lean ====
section
/-! DEFINITION. The cores: instructions of RV32IMAFC with Zicsr, Zifencei, Zba and Zbb (R325 to R328, R341 to R348; log entry 34
for the standards). -/

namespace Sys2Proof.Machine

/-- Core `c` executes instructions of its own: it runs and is no lockstep checker (R329). -/
def coreActs (s : State) (c : Nat) : Bool := coreRuns s c && !isChecker s c

/-- The core after an instruction of `len` bytes that goes on with the next one. -/
def Core.next (x : Core) (len : Nat) : Core := { x.retired with pc := (x.pc + len) % 2 ^ 32, wfi := false }

/-- The core after an instruction that goes on at `a`. -/
def Core.goto (x : Core) (a : Nat) : Core := { x.retired with pc := a / 2 * 2 % 2 ^ 32, wfi := false }

/-- An illegal-instruction exception for the bits `w` (R325). -/
def illegal (s : State) (c w : Nat) : State := s.takeException c (s.coreAt c).pc causeIllegal w

/-- Register `i` as a number, and register `rd` written. -/
def Core.reg (x : Core) (i : Nat) : Nat := (x.x i).toNat
def Core.put (x : Core) (rd v : Nat) : Core := x.setX rd (BitVec.ofNat 32 v)

/-- Floating-point registers. -/
def Core.fr (x : Core) (i : Nat) : Nat := (vget x.freg i).toNat
def Core.putF (x : Core) (rd v : Nat) : Core := { x with freg := vput x.freg rd (BitVec.ofNat 32 v), fs := 3 }

/-- Flags accrued in fflags. -/
def Core.accrue (x : Core) (fl : Nat) : Core := if fl = 0 then x else { x with fflags := x.fflags ||| fl, fs := 3 }

/-! ### CSRs -/

/-- mip.MEIP: Belfry holds a source that the core could take with MIE and MEIE at 1 (R339). -/
def meip (s : State) (c : Nat) : Bool :=
  let t := s.setCore c { s.coreAt c with mie := true, meie := true }
  (readySources t).any fun n => mayTake t n c

/-- mstatus: MIE, MPIE, MPP always machine mode, FS and SD. -/
def mstatusOf (x : Core) : Nat :=
  8 * b2n x.mie + 128 * b2n x.mpie + 3 * 2 ^ 11 + x.fs * 2 ^ 13 + b2n (x.fs == 3) * 2 ^ 31

/-- The word of BFY_SRCID. -/
def srcidOf (x : Core) : Nat :=
  if x.level = 0 then 0 else (vget x.srcid x.level).elim 0 fun n => n % 512 + 2 ^ 31

/-- A CSR of the event counters and selectors that the standard asks for and that may be hard-wired to 0. -/
def zeroCsr (n : Nat) : Bool :=
  (decide (0xB03 ≤ n) && decide (n ≤ 0xB1F)) || (decide (0xB83 ≤ n) && decide (n ≤ 0xB9F)) ||
    (decide (0x323 ≤ n) && decide (n ≤ 0x33F)) || n == 0x310

/-- The value of a CSR; none when the core has no such CSR (R325; R342 for BANKDATA). -/
def csrRead (s : State) (c n : Nat) : Option Nat :=
  let x := s.coreAt c
  if n = 0x001 ∨ n = 0x002 ∨ n = 0x003 then
    if x.fs = 0 then none
    else some (if n = 0x001 then x.fflags else if n = 0x002 then x.frm else x.fflags + 32 * x.frm)
  else if zeroCsr n then some 0
  else match n with
    | 0x300 => some (mstatusOf x)
    | 0x304 => some (b2n x.meie * 2 ^ 11)
    | 0x305 => some x.mtvec
    | 0x320 => some x.mcountinhibit
    | 0x340 => some x.mscratch
    | 0x341 => some x.mepc
    | 0x342 => some x.mcause
    | 0x343 => some x.mtval
    | 0x344 => some (b2n (meip s c) * 2 ^ 11)
    | 0xB00 => some (x.mcycle % 2 ^ 32)
    | 0xB80 => some (x.mcycle / 2 ^ 32)
    | 0xB02 => some (x.minstret % 2 ^ 32)
    | 0xB82 => some (x.minstret / 2 ^ 32)
    | 0x7C0 => some x.thresh
    | 0x7C1 => some x.banksel
    | 0x7C2 => some (bankData x).toNat
    | 0x7C3 => some (vget x.linkRet x.level / 2 * 2)
    | 0x7C4 => some (vget x.linkLvl x.level)
    | 0xFC0 => some x.level
    | 0xFC1 => some (srcidOf x)
    | 0x301 | 0xF11 | 0xF12 | 0xF13 | 0xF14 | 0xF15 => some (Config.idCsr n c % 2 ^ 32)
    | _ => none

/-- A CSR written; bits that a CSR does not have are not kept. -/
def csrWrite (x : Core) (n v : Nat) : Core :=
  match n with
  | 0x001 => { x with fflags := v % 32, fs := 3 }
  | 0x002 => { x with frm := v % 8, fs := 3 }
  | 0x003 => { x with fflags := v % 32, frm := bits v 5 3, fs := 3 }
  | 0x300 => { x with mie := bit v 3, mpie := bit v 7, fs := bits v 13 2 }
  | 0x304 => { x with meie := bit v 11 }
  | 0x305 => { x with mtvec := v / 4 * 4 }
  | 0x320 => { x with mcountinhibit := b2n (bit v 0) + 4 * b2n (bit v 2) }
  | 0x340 => { x with mscratch := v }
  | 0x341 => { x with mepc := v / 2 * 2 }
  | 0x342 => { x with mcause := v }
  | 0x343 => { x with mtval := v }
  | 0xB00 => { x with mcycle := x.mcycle / 2 ^ 32 * 2 ^ 32 + v }
  | 0xB80 => { x with mcycle := x.mcycle % 2 ^ 32 + v * 2 ^ 32 }
  | 0xB02 => { x with minstret := x.minstret / 2 ^ 32 * 2 ^ 32 + v }
  | 0xB82 => { x with minstret := x.minstret % 2 ^ 32 + v * 2 ^ 32 }
  | 0x7C0 => { x with thresh := v % 16 }
  | 0x7C1 => { x with banksel := v % 512 }
  | 0x7C2 => x.setBankReg (bits x.banksel 5 4) (x.banksel % 32) (BitVec.ofNat 32 v)
  | 0x7C3 => { x with linkRet := vput x.linkRet x.level (v / 2 * 2) }
  | 0x7C4 => { x with linkLvl := vput x.linkLvl x.level (v % 16) }
  | _ => x

/-- The CSR instructions: `f3` 1 to 3, with the register or immediate value `v`; `rs` is the field's number. -/
def csrOp (s : State) (c w n f3 rs v rd : Nat) : State :=
  let x := s.coreAt c
  let writes := f3 % 4 == 1 || rs != 0
  match csrRead s c n with
  | none => illegal s c w
  | some old =>
    if writes && n / 1024 == 3 then illegal s c w
    else
      let new := match f3 % 4 with
        | 1 => v
        | 2 => old ||| v
        | _ => old &&& (2 ^ 32 - 1 - v)
      let y := if writes then csrWrite x.retired n new else x.retired
      s.setCore c { y.put rd old with pc := (x.pc + 4) % 2 ^ 32, wfi := false }

/-! ### Loads, stores and atomics (R24 to R27, R326, R327) -/

/-- A load: the core waits until its data return, and goes on then; an error response raises a load access fault at the load. -/
def loadOp (s : State) (c len rd a bytes : Nat) (signed fp : Bool) : State :=
  let x := s.coreAt c
  let y := { x with
    pc := (x.pc + len) % 2 ^ 32, wfi := false, wait := some ⟨x.pc, rd, fp, bytes, signed, a⟩
    fs := if fp then 3 else x.fs }
  fabricRead (s.setCore c y) c a bytes

/-- A store: posted; an error response raises a store access fault at the store. -/
def storeOp (s : State) (c len a bytes v : Nat) : State :=
  let t := fabricWrite s c a bytes v
  let x := t.coreAt c
  let failed := (t.portAt c).resp.any (·.err)
  if failed || x.phase != .running then t else t.setCore c (x.next len)

/-- The SRAM range of LR, SC and AMO. -/
def atomicOk (s : State) (a : Nat) : Bool := regionOf a == .sram && a % 4 == 0 && !sramhiOff s a

/-- The word at an SRAM address for an atomic access: its domain wakes first; an uncorrectable error is an error response. -/
def atomicRead (s : State) (c a : Nat) : Option (Nat × State) :=
  if atomicOk s a then
    match targetRead (wakeNow s (addrDomain a)) c a 4 with
    | (v, false, t) => some (v, t)
    | (_, true, _) => none
  else none

/-- An atomic access refused: an access-fault exception, and no access; one that is not aligned is a width error (R326, R327). -/
def atomicFault (s : State) (c cause a : Nat) : State :=
  let t := if a % 4 = 0 then s else s.recordError .width c a
  t.takeException c (t.coreAt c).pc cause a

/-- Ticks in 256 core cycles (R327). -/
def resvTicks (s : State) (c : Nat) : Nat := coreTicks s c 256

/-- LR.W (R327); like SC.W and AMO it waits while an earlier access of the core to its block is held (R27). -/
def lrOp (s : State) (c len rd a : Nat) : State :=
  if mustWait s c a then s else match atomicRead s c a with
  | none => atomicFault s c causeLoadFault a
  | some (v, t) =>
    let y := ((t.coreAt c).put rd v).next len
    t.setCore c { y with resv := some (a - a % 8, t.now + resvTicks t c) }

/-- SC.W: it stores when the reservation covers the granule, and gives 0; else 1. The reservation is gone (R327). -/
def scOp (s : State) (c len rd a v : Nat) : State :=
  if mustWait s c a then s
  else if !atomicOk s a then atomicFault s c causeStoreFault a
  else
    let x := s.coreAt c
    let ok := x.resv.any fun r => r.1 == a - a % 8 && decide (s.now < r.2)
    let t := if ok then targetWrite (wakeNow s (addrDomain a)) c a 4 v else s
    t.setCore c { ((t.coreAt c).put rd (b2n (!ok))).next len with resv := none }

/-- The value an AMO stores. -/
def amoValue (op : AmoOp) (m v : Nat) : Nat :=
  match op with
  | .swap => v
  | .add => (m + v) % 2 ^ 32
  | .xor => m ^^^ v
  | .and => m &&& v
  | .or => m ||| v
  | .min => if sext 32 m ≤ sext 32 v then m else v
  | .max => if sext 32 m ≤ sext 32 v then v else m
  | .minu => min m v
  | .maxu => max m v

/-- An AMO: the word as it was goes to `rd`, and the new word is stored (R327). -/
def amoOp (s : State) (c len : Nat) (op : AmoOp) (rd a v : Nat) : State :=
  if mustWait s c a then s else match atomicRead s c a with
  | none => atomicFault s c causeStoreFault a
  | some (m, t) =>
    let u := targetWrite t c a 4 (amoValue op m v)
    u.setCore c (((u.coreAt c).put rd m).next len)

/-- The AMO of a funct5. -/
def amoOf : Nat → Option AmoOp
  | 0x01 => some .swap
  | 0x00 => some .add
  | 0x04 => some .xor
  | 0x0C => some .and
  | 0x08 => some .or
  | 0x10 => some .min
  | 0x14 => some .max
  | 0x18 => some .minu
  | 0x1C => some .maxu
  | _ => none

/-! ### Floating point -/

/-- The rounding mode of a word's rm field: 7 names frm; none is reserved. -/
def rmOf (x : Core) (rm : Nat) : Option Nat :=
  let r := if rm = 7 then x.frm else rm
  if r ≤ 4 then some r else none

/-- What an OP-FP word gives: into a floating-point register (`true`) or an integer one, the value and the flags. -/
def fpOp (x : Core) (f7 f3 rs1 rs2 : Nat) : Option (Bool × Nat × Nat) :=
  let a := x.fr rs1
  let b := x.fr rs2
  let ra := x.reg rs1
  let rounded (f : Nat → Nat × Nat) : Option (Bool × Nat × Nat) := (rmOf x f3).map fun r => (true, f r)
  match f7 with
  | 0x00 => rounded fun r => fAdd r a b
  | 0x04 => rounded fun r => fSub r a b
  | 0x08 => rounded fun r => fMul r a b
  | 0x0C => rounded fun r => fDiv r a b
  | 0x2C => if rs2 = 0 then rounded fun r => fSqrt r a else none
  | 0x10 =>
    let sg := bits b 31 1
    match f3 with
    | 0 => some (true, a % 2 ^ 31 + sg * 2 ^ 31, 0)
    | 1 => some (true, a % 2 ^ 31 + (1 - sg) * 2 ^ 31, 0)
    | 2 => some (true, a % 2 ^ 31 + (bits a 31 1 + sg) % 2 * 2 ^ 31, 0)
    | _ => none
  | 0x14 => if f3 = 0 then some (true, fMinMax false a b) else if f3 = 1 then some (true, fMinMax true a b) else none
  | 0x50 => if f3 ≤ 2 then some (false, fCompare f3 a b) else none
  | 0x60 => if rs2 ≤ 1 then (rmOf x f3).map fun r => (false, fToInt r (rs2 == 1) a) else none
  | 0x68 => if rs2 ≤ 1 then rounded fun r => fOfInt r (rs2 == 1) ra else none
  | 0x70 =>
    if rs2 ≠ 0 then none
    else if f3 = 0 then some (false, a, 0) else if f3 = 1 then some (false, fClass a, 0) else none
  | 0x78 => if rs2 = 0 ∧ f3 = 0 then some (true, ra, 0) else none
  | _ => none

/-- A floating-point result written. -/
def fpDone (s : State) (c w rd : Nat) (r : Option (Bool × Nat × Nat)) : State :=
  let x := s.coreAt c
  if x.fs = 0 then illegal s c w
  else match r with
    | none => illegal s c w
    | some (toF, v, fl) =>
      let y := x.accrue fl
      s.setCore c ((if toF then y.putF rd v else y.put rd v).next 4)

/-- The fused operations, by opcode. -/
def fusedOp (x : Core) (op rm a b d : Nat) : Option (Bool × Nat × Nat) :=
  (rmOf x rm).map fun r => (true, match op with
    | 0x43 => fFma r a b d
    | 0x47 => fFma r a b (if fNan d then d else fNeg d)
    | 0x4B => fFma r (if fNan a then a else fNeg a) b d
    | _ => fFma r (if fNan a then a else fNeg a) b (if fNan d then d else fNeg d))

/-! ### System instructions -/

/-- MRET: back to mepc, MIE from MPIE (R348). -/
def mretOp (s : State) (c : Nat) : State :=
  let x := s.coreAt c
  s.setCore c { x.goto x.mepc with mie := x.mpie, mpie := true }

/-- ECALL, EBREAK, MRET, WFI; any other such word is illegal. -/
def systemOp (s : State) (c w len : Nat) : State :=
  let x := s.coreAt c
  match w with
  | 0x00000073 => s.takeException c x.pc causeEcallM 0
  | 0x00100073 => s.takeException c x.pc causeBreak x.pc
  | 0x30200073 => mretOp s c
  | 0x10500073 => s.setCore c { x.next len with wfi := true }
  | _ => illegal s c w

/-! ### One instruction -/

/-- The instruction of 32 bits `w` executed; `bitsIn` are the bits as fetched, and `len` their length in bytes. -/
def coreExec (s : State) (c w bitsIn len : Nat) : State :=
  let x := s.coreAt c
  let rd := bits w 7 5
  let f3 := bits w 12 3
  let rs1 := bits w 15 5
  let rs2 := bits w 20 5
  let f7 := bits w 25 7
  let a := x.reg rs1
  let b := x.reg rs2
  let immI := bits w 20 12
  let ea := (a + twos 32 (sext 12 immI)) % 2 ^ 32
  let es := (a + twos 32 (sext 12 (bits w 7 5 + 32 * f7))) % 2 ^ 32
  let write (r : Option Nat) : State := match r with
    | some v => s.setCore c ((x.put rd v).next len)
    | none => illegal s c bitsIn
  let jump (t : Nat) : State := s.setCore c ((x.put rd ((x.pc + len) % 2 ^ 32)).goto t)
  match w % 128 with
  | 0x37 => write (some (w / 4096 * 4096))
  | 0x17 => write (some ((x.pc + w / 4096 * 4096) % 2 ^ 32))
  | 0x6F =>
    jump (x.pc + twos 32 (sext 21 (bits w 21 10 * 2 + bits w 20 1 * 2 ^ 11 + bits w 12 8 * 2 ^ 12 + bits w 31 1 * 2 ^ 20)))
  | 0x67 => if f3 = 0 then jump ea else illegal s c bitsIn
  | 0x63 =>
    match branchOp f3 a b with
    | none => illegal s c bitsIn
    | some true =>
      s.setCore c (x.goto (x.pc + twos 32 (sext 13 (bits w 8 4 * 2 + bits w 25 6 * 32 + bits w 7 1 * 2 ^ 11 + bits w 31 1 * 2 ^ 12))))
    | some false => s.setCore c (x.next len)
  | 0x03 =>
    match f3 with
    | 0 => loadOp s c len rd ea 1 true false
    | 1 => loadOp s c len rd ea 2 true false
    | 2 => loadOp s c len rd ea 4 false false
    | 4 => loadOp s c len rd ea 1 false false
    | 5 => loadOp s c len rd ea 2 false false
    | _ => illegal s c bitsIn
  | 0x23 => if f3 ≤ 2 then storeOp s c len es (2 ^ f3) (b % 2 ^ (8 * 2 ^ f3)) else illegal s c bitsIn
  | 0x13 => write (aluImm f3 immI a)
  | 0x33 => write (aluOp f7 f3 rs2 a b)
  | 0x0F => if f3 ≤ 1 then s.setCore c (x.next len) else illegal s c bitsIn
  | 0x2F =>
    if f3 ≠ 2 then illegal s c bitsIn
    else if f7 / 4 = 0x02 then (if rs2 = 0 then lrOp s c len rd a else illegal s c bitsIn)
    else if f7 / 4 = 0x03 then scOp s c len rd a b
    else match amoOf (f7 / 4) with
      | some op => amoOp s c len op rd a b
      | none => illegal s c bitsIn
  | 0x07 => if f3 = 2 ∧ x.fs ≠ 0 then loadOp s c len rd ea 4 false true else illegal s c bitsIn
  | 0x27 => if f3 = 2 ∧ x.fs ≠ 0 then storeOp s c len es 4 (x.fr rs2) else illegal s c bitsIn
  | 0x53 => fpDone s c bitsIn rd (fpOp x f7 f3 rs1 rs2)
  | 0x43 | 0x47 | 0x4B | 0x4F =>
    if bits w 25 2 = 0 then fpDone s c bitsIn rd (fusedOp x (w % 128) f3 (x.fr rs1) (x.fr rs2) (x.fr (bits w 27 5)))
    else illegal s c bitsIn
  | 0x73 =>
    if f3 = 0 then systemOp s c w len
    else if f3 = 4 then illegal s c bitsIn
    else csrOp s c bitsIn immI f3 rs1 (if f3 < 4 then a else rs1) rd
  | 0x0B => if w = 0x0000100B then iretOp s c else illegal s c bitsIn
  | _ => illegal s c bitsIn

/-- CORE_INSTRUCTION. -/
def execCoreInstruction (c : Fin 5) (word : Nat) (s : State) : Host.Outcome State Fault Refusal :=
  if !coreActs s c then .next s
  else match expandWord word with
    | none => .next (illegal s c (word % 2 ^ 16))
    | some (w, len) => .next (coreExec s c w (word % 2 ^ (8 * len)) len)

/-- LR. -/
def execCoreLr (c : Fin 5) (rd rs1 : Fin 32) (s : State) : Host.Outcome State Fault Refusal :=
  .next (if coreActs s c then lrOp s c 4 rd ((s.coreAt c).reg rs1) else s)

/-- SC. -/
def execCoreSc (c : Fin 5) (rd rs1 rs2 : Fin 32) (s : State) : Host.Outcome State Fault Refusal :=
  .next (if coreActs s c then scOp s c 4 rd ((s.coreAt c).reg rs1) ((s.coreAt c).reg rs2) else s)

/-- AMO. -/
def execCoreAmo (c : Fin 5) (op : AmoOp) (rd rs1 rs2 : Fin 32) (s : State) : Host.Outcome State Fault Refusal :=
  .next (if coreActs s c then amoOp s c 4 op rd ((s.coreAt c).reg rs1) ((s.coreAt c).reg rs2) else s)

/-- RESERVATION_EXPIRY (R327). -/
def execReservationExpiry (c : Fin 5) (s : State) : Host.Outcome State Fault Refusal :=
  let x := s.coreAt c
  .next (if x.resv.any (fun r => decide (r.2 ≤ s.now)) then s.setCore c { x with resv := none } else s)

/-- FENCE: every earlier access has been accepted, so the core only goes on (R328). -/
def execCoreFence (c : Fin 5) (s : State) : Host.Outcome State Fault Refusal :=
  .next (if coreActs s c then s.setCore c ((s.coreAt c).next 4) else s)

/-- FENCE.I: what a core fetches next is the command's operand, so the core only goes on (R328). -/
def execCoreFenceI (c : Fin 5) (s : State) : Host.Outcome State Fault Refusal :=
  .next (if coreActs s c then s.setCore c ((s.coreAt c).next 4) else s)

/-- The core cycles of core `c` that begin in the tick after `now`, with clock enforcement (R440). -/
def coreCycles (s : State) (c : Nat) : Nat :=
  if c = 4 then b2n (s.now % 4 == 0)
  else
    let k := if s.flag .CUP_STAT_ENFCLK then 2 ^ (s.fget .CUP_CFG_CLKDIV + 1) else 1
    (s.now + 1) * 3 / (4 * k) - s.now * 3 / (4 * k)

/-- A cycle of a lockstep pair: the checker stands where its lead core stood two cycles ago (R329). -/
def lockTick (s : State) (p : Nat) : State :=
  if isChecker s (2 * p + 1) ∧ coreCycles s (2 * p) ≠ 0 then
    let l := (s.coreAt (2 * p) :: vget s.lockPast p).take 3
    let t := { s with lockPast := vput s.lockPast p l }
    match l[2]? with
    | some x => t.setCore (2 * p + 1) x
    | none => t
  else s

/-- A tick of a core: its entry goes on (R344); mcycle counts its cycles while it is out of reset and its domain ON, unless mcountinhibit.CY stops it. -/
def coreTick (s : State) (c : Nat) : State :=
  let s := entryTwo s c
  let x := s.coreAt c
  if x.phase = .reset ∨ !coreOn s c ∨ bit x.mcountinhibit 0 then s
  else s.setCore c { x with mcycle := (x.mcycle + coreCycles s c) % 2 ^ 64 }

end Sys2Proof.Machine
end

