-- ==== Sys2Proof/Machine/Dma.lean ====
section
/-! DEFINITION. DMA accesses that complete (R53, R505), and what the partner's reads are answered with (R28). -/

namespace Sys2Proof.Machine

/-- The response that an engine's access outside the Saddle store has had, once it is there. -/
def dmaResponse (s : State) (n : Nat) : Option Resp := if (s.portAt (5 + n)).reading then none else (s.portAt (5 + n)).resp

/-- The engine's access outside the Saddle store is begun, as master 5 + n. -/
def dmaIssue (s : State) (n : Nat) : State :=
  let d := s.dmaAt n
  if d.toRead ≠ 0 then portRead s (5 + n) d.src 8
  else match d.buf with
    | [] => s
    | v :: _ => portWrite s (5 + n) d.dst 8 v

/-- The engine goes on with the response of that access (R53). -/
def dmaTake (s : State) (n : Nat) (r : Resp) : State :=
  let d := { s.dmaAt n with asked := false }
  if r.err then dmaStop s n false true
  else if d.toRead ≠ 0 then
    dmaGo (s.setDma n { d with buf := d.buf ++ [r.data], toRead := d.toRead - 1, src := d.src + 8 }) n
  else dmaGo (s.setDma n { d with buf := d.buf.drop 1, dst := d.dst + 8 }) n

/-- The engine's access outside the Saddle store completes; one that waits, for the partner or for a domain, is over when its answer
has come. -/
def dmaAccess (s : State) (n : Nat) : State :=
  let d := s.dmaAt n
  if d.toRead = 0 ∧ d.buf = [] then dmaGo s n
  else
    let t := if d.asked then s else dmaIssue s n
    match dmaResponse t n with
    | some r => dmaTake t n r
    | none => t.setDma n { d with asked := true }

/-- DMA_ACCESS_DONE: a Saddle access is over when its banks have served it; an error response stops the engine (R53). -/
def execDmaAccessDone (n : Fin 2) (s : State) : Host.Outcome State Fault Refusal :=
  let d := s.dmaAt n
  if !s.flag .FAB_DMA_CTRL_BUSY n then .next s
  else if d.arrived then
    .next (if d.err then dmaStop s n false true else dmaGo (s.setDma n { d with arrived := false }) n)
  else if d.parts ≠ 0 then .next s
  else .next (dmaAccess s n)

/-- DMA_START and DMA_DISABLE: a write of FAB_DMA[n]_CTRL (R53, R54). -/
def execDmaStart (m : Fin 10) (n : Fin 2) (value : Nat) (s : State) : Host.Outcome State Fault Refusal :=
  .next (if bit value 20 then fabricWrite s m (regAddr .FAB_DMA_CTRL n) 4 value else s)
def execDmaDisable (m : Fin 10) (n : Fin 2) (value : Nat) (s : State) : Host.Outcome State Fault Refusal :=
  .next (if bit value 24 then s else fabricWrite s m (regAddr .FAB_DMA_CTRL n) 4 value)

/-! ### The partner window (R28, R30) -/

/-- PARTNER_READ: a read at 0x8000_0000 + `x`. -/
def execPartnerRead (m : Fin 10) (x width : Nat) (s : State) : Host.Outcome State Fault Refusal :=
  .next (if x < 0x80000000 then fabricRead s m (0x80000000 + x) (width / 8) else s)

/-- PARTNER_ACCESS_TIMEOUT: with the link not trained the access draws an error (R30). -/
def execPartnerAccessTimeout (m : Fin 10) (s : State) : Host.Outcome State Fault Refusal :=
  match vget s.partnerRd m with
  | none => .next s
  | some (x, _) =>
    if linkUp s then .next s
    else
      let t := { s with partnerRd := vput s.partnerRd m none }
      .next ((t.recordError .partner m (0x80000000 + x)).answer m 0 true)

/-- The response of a partner-window read sent: the master that asked, whether it is an error, the data (R370). -/
def sendRdrsp (s : State) (m v : Nat) (err : Bool) : State :=
  sendFrame s tyRdrsp (leBytes 4 (m % 16 + 16 * b2n err) ++ leBytes 8 (if err then 0 else v))

/-- A read of the partner's at X: it has no effect on this device's state but those of R43 and R44; a Saddle word is read by the shadow
engine. The port that reads has number 10, and holds nothing. -/
def partnerServe (s : State) (m x width : Nat) : State :=
  if (readError m x width).isSome ∨ regionOf x = .partner ∨ sramhiOff s x then sendRdrsp s m 0 true
  else if regionOf x = .saddle then sdlRequest s 15 (saddleWord x) 1 false [] (.windowRead (m + 16 * width + 256 * (x % 8)))
  else
    let u := wakeNow s (addrDomain x)
    let (v, e, _) := targetRead u 10 x width
    sendRdrsp u m v e

/-- RDREQ_RX: the value at X, answered by an RDRSP (R28). -/
def execRdreqRx (body : List Nat) (s : State) : Host.Outcome State Fault Refusal :=
  .next (rxFrame s tyRdreq body fun _ p t =>
    if linkUp t then partnerServe t (leAt p 0 4 % 16) (leAt p 4 4) (leAt p 0 4 / 256 % 256) else t)

/-- The words the shadow engine has read for the partner's window are sent. -/
def windowTick (s : State) : State :=
  s.windowIn.foldl (fun t r =>
    let half := if r.1 / 16 % 16 = 8 then twos 64 (sext 48 r.2.1) else if r.1 / 256 = 4 then halfOf true r.2.1 else r.2.1 % 2 ^ 32
    if linkUp t then sendRdrsp t (r.1 % 16) half r.2.2 else t) { s with windowIn := [] }

/-- RDRSP_RX: the response of a partner-window read: the master that asked, in the low four bits of the first word, whether it is
an error, in bit 4, and the data (R28, R370). -/
def execRdrspRx (body : List Nat) (s : State) : Host.Outcome State Fault Refusal :=
  .next (rxFrame s tyRdrsp body fun _ p t =>
    let m := leAt p 0 4 % 16
    let err := bit (leAt p 0 4) 4
    match vget t.partnerRd m with
    | some (x, width) =>
      if linkUp t then
        let (v, u) := partnerGives { t with partnerRd := vput t.partnerRd m none } m x width (leAt p 4 8) err
        u.answer m v err
      else t
    | none => t)

end Sys2Proof.Machine
end

