-- ==== Sys2Proof/Machine/Power.lean ====
section
/-! DEFINITION. Supplies, resets, the watchdog, domain transitions, PLL lock and MRAM programming
(spec/12_power_startup.md, R396 to R413, R421). -/

namespace Sys2Proof.Machine

/-! ### Device resets (R396 to R400) -/

/-- The fields a device reset leaves: the PMG_ registers, the shut-down state and its record's place, unless it is a power-on reset
(R400, R446, spec/12 and spec/13 registers). -/
def keptByReset (por : Bool) (k : FKey) : Bool :=
  let a := keyAddr k
  !por && (k.f == .CUP_STAT_SHUT || k.f == .CUP_REC_NEXT || k.f == .CUP_RECSEQ_SEQ ||
    (decide (0x40240000 ≤ a) && decide (a < 0x40260000) && k.f != .PMG_BOOTSTAT_APPLIED))

/-- SRAM and the Saddle store after a reset: neither cleared nor guaranteed (R400). -/
def memoryAfter (s : State) : State := s.freeMem 0x10000000 0x20080000

/-- The machine with a device reset asserted: everything at its reset value but what the reset leaves (R400). Levels that come from
outside stay. -/
def resetState (s : State) (cause : Nat) : State :=
  let por := cause == 0
  let m := memoryAfter s
  { (State.reset) with
    free := m.free, mem := m.mem, memFree := m.memFree, pending := s.pending, logSeq := s.logSeq, logFrom := s.logFrom
    regs := s.regs.filter (fun e => keptByReset por e.1)
    upsets := s.upsets.filter (fun e => decide (0x30000000 ≤ e.1) && decide (e.1 < 0x30800000))
    pairUv := s.pairUv, cmp := s.cmp.map (fun c => { ballUv := c.ballUv }), trip := s.trip.map (fun p => { ball := p.ball })
    cupRec := if por then none else s.cupRec
    pw := { mramBuf := s.pw.mramBuf, rst := some cause } }

/-- A device reset begins; while one is under way a further cause starts it again, a power-on reset staying one (R400). -/
def deviceReset (s : State) (cause : Nat) : State :=
  resetState s (if s.pw.rst = some 0 then 0 else cause)

/-- A word that was being programmed when power failed holds its old or its new value; the words that waited hold their old ones
(R421). -/
def mramLost (s : State) : State :=
  let back (t : State) (w : Nat × Nat) : State := t.storeBytes w.1 (leBytes 8 w.2)
  match s.pw.mramBuf with
  | [] => s
  | w :: rest =>
    let t := (rest.reverse).foldl back s
    let t := if s.draw % 2 = 0 then back t w else t
    { t.drawn with pw := { t.pw with mramBuf := [] } }

/-- SUPPLY_DROP: a rail below its trip level for 1 µs (R398). -/
def execSupplyDrop (_rail : Fin 3) (ticks : Nat) (s : State) : Host.Outcome State Fault Refusal :=
  if s.pw.powered ∧ usTicks ≤ ticks then
    let t := resetState (mramLost s) 0
    .next { t with pw := { t.pw with powered := false } }
  else .next s

/-- SUPPLIES_VALID: a power-on reset begins (R396, R400). -/
def execSuppliesValid (s : State) : Host.Outcome State Fault Refusal :=
  .next (if s.pw.powered then s else resetState s 0)

/-- PIN_RESET: RSTN low for at least 1 µs (R400). -/
def execPinReset (ticks : Nat) (s : State) : Host.Outcome State Fault Refusal :=
  .next (if s.pw.powered ∧ usTicks ≤ ticks then deviceReset s 1 else s)

/-- A valid shutdown record: its index and SEQ (R445). -/
def recordValid (s : State) (i : Nat) : Option (Nat × Nat) :=
  let b := s.loadBytes (recordAddr i) 128
  if b.take 4 = [0x43, 0x55, 0x50, 0x31] ∧ crc32c (b.take 124) = leNat (b.drop 124) then some (i, leNat ((b.drop 4).take 4)) else none

/-- After a power-on reset NEXT is the index after the newest valid record (R445). -/
def findRecord (s : State) : State :=
  let rs := (List.range 4096).filterMap (recordValid s)
  let best := rs.foldl (fun (b : Option (Nat × Nat)) r => match b with
    | some x => if x.2 < r.2 then some r else b
    | none => some r) none
  match best with
  | some x => s.fset .CUP_REC_NEXT (x.1 + 1)
  | none => s

/-- PMG_RSTCAUSE after a reset (R400). -/
def causeFields (s : State) (cause : Nat) : State :=
  (((s.fput .PMG_RSTCAUSE_POR (cause == 0)).fput .PMG_RSTCAUSE_PIN (cause == 1)).fput .PMG_RSTCAUSE_JTAG (cause == 2)).fput
    .PMG_RSTCAUSE_HOST (cause == 3)

/-- The device reset releases: SEAT is sampled, the reset cause is recorded and logged, a shut-down state that survives drives THROT
(R356, R400, R446, R480). -/
def releaseReset (s : State) (cause : Nat) (seat : Bool) : State :=
  let t := resetState s cause
  let t := pinsFollow { t with pw := { t.pw with rst := none, seat := seat } }
  let t := causeFields (seatFields (t.fput .TTH_STAT_SEAT seat)) cause
  let t := if cause = 0 then findRecord t else t
  let t := t.logAppend 6 (16 + cause) 0xFF (leBytes 4 (t.regWord (regDesc .PMG_RSTCAUSE) 0 0))
  if t.flag .CUP_STAT_SHUT then throtUpdate t else t

/-- DEVICE_RESET_RELEASE: 5 µs after the reset's cause ended (R400). -/
def execDeviceResetRelease (seat : Bool) (s : State) : Host.Outcome State Fault Refusal :=
  match s.pw.rst with
  | some cause => .next (if s.pw.powered ∧ 5 * usTicks ≤ s.now then releaseReset s cause seat else s)
  | none => .next s

/-- PLL_LOCK: the line-time counter starts at 0, the converters are calibrated, the sequencer is to boot (R77, R313, R413). -/
def execPllLock (cal : List (Nat × Nat)) (s : State) : Host.Outcome State Fault Refusal :=
  if s.pw.rst = none ∧ s.flag .FAB_CLKSTAT_PLLT_LOCK = false then
    let t := ((s.fset .FAB_CLKSTAT_PLLT_LOCK 1).fset .FAB_CLKSTAT_PLLP_LOCK 1).fset .FAB_CLKSTAT_PLLL_LOCK 1
    let t := (cal.zipIdx.take 16).foldl (fun u c => sarCalibrate u c.2 c.1.1 c.1.2) t
    .next { t with ltc := 0, pw := { t.pw with bootDue := true } }
  else .next s

/-! ### The watchdog (R402) -/

/-- WATCHDOG_EXPIRY: the management core alone is reset and starts again from the ROM (R402). -/
def execWatchdogExpiry (s : State) : Host.Outcome State Fault Refusal :=
  let p := s.fget .PMG_WDT_PERIOD
  if s.pw.rst = none ∧ p ≠ 0 ∧ s.pw.kickAt + p * msTicks ≤ s.now then
    .next (((mgmtStart (mgmtReset s)).fcount .PMG_RSTCAUSE_WDTCNT).ring 161)
  else .next s

/-! ### Domains (R408, R409) -/

/-- A domain marked as waking. -/
def startWake (s : State) (d : Nat) : State := { s with pw := { s.pw with waking := setBit s.pw.waking d true } }

/-- A Belfry delivery targets a core of the domain (R408). -/
def deliveryWaits (s : State) (d : Nat) : Bool := decide (1 ≤ d) && decide (d ≤ 5) && (s.coreAt (d - 1)).phase == .entry

/-- A cause of R408 for domain `d` to leave its state. -/
def wakeCause (s : State) (d : Nat) : Bool :=
  domReport s d == 0 || deliveryWaits s d || domHeld s d || decide (domTarget s d < domState s d)

/-- DOMAIN_WAKE (R408). -/
def execDomainWake (d : Fin 20) (s : State) : Host.Outcome State Fault Refusal :=
  .next (if s.pw.rst = none ∧ domState s d ≠ 0 ∧ wakeCause s d then startWake s d else s)

/-- DOMAIN_ON: a waking domain is ON (R407, R408). -/
def execDomainOn (d : Fin 20) (s : State) : Host.Outcome State Fault Refusal :=
  .next (if s.pw.rst = none ∧ bit s.pw.waking d then domainUp s d else s)

/-- DOMAIN_ENTRY: 10 µs without ACTIVE (R409). -/
def execDomainEntry (d : Fin 20) (s : State) : Host.Outcome State Fault Refusal :=
  let g := domTarget s d
  if s.pw.rst = none ∧ domState s d < g ∧ !bit s.pw.waking d ∧ domReport s d ≠ 0 ∧ vget s.pw.domAct d + 10 * usTicks ≤ s.now then
    let t := if g = 3 then domainLost s d else s
    .next (t.fset .PMG_DOMSTAT_STATE g d)
  else .next s

/-- In a tick, the domains that report ACTIVE are noted (R409). -/
def powerTick (s : State) : State :=
  { s with pw := { s.pw with domAct := (List.range 20).foldl (fun v d =>
      if domReport s d = 0 then vput v d s.now else v) s.pw.domAct } }

/-- MRAM_WORD_PROGRAMMED: the oldest word of the buffer; one that fails its verify holds any value, sets PGMERR and rings MRAM_ERR when
that rises (R421, R427). -/
def execMramWordProgrammed (ok : Bool) (s : State) : Host.Outcome State Fault Refusal :=
  match s.pw.mramBuf with
  | [] => .next s
  | w :: rest =>
    let t := { s with pw := { s.pw with mramBuf := rest } }
    if ok then .next t
    else
      let u := (t.storeBytes w.1 (leBytes 8 t.draw)).drawn
      let u := { u with fyz := { u.fyz with store := u.fyz.store.map fun (x : MramReply) => ⟨x.req, x.st, x.data, true⟩ } }
      .next ((u.ringIf (!u.flag .FAB_MRAMSTAT_PGMERR) 164).hset .FAB_MRAMSTAT_PGMERR 1)

end Sys2Proof.Machine
end

