-- ==== Sys2Proof/Machine/FyzPort.lean ====
section
/-! DEFINITION. Fyzal: packets in and out of the ports, replies, authentication, sessions' ends (spec/14_fyzal_host.md, R448 to R468). -/

namespace Sys2Proof.Machine

/-! ### Packets (R448 to R450) -/

/-- Fields of a packet: OPCODE, SEQ, LEN, FLAGS, the payload, the trailer. -/
def pktOp (k : List Nat) : Nat := k.getD 2 0
def pktSeq (k : List Nat) : Nat := k.getD 3 0
def pktLen (k : List Nat) : Nat := k.getD 4 0 + 256 * k.getD 5 0
def pktFlags (k : List Nat) : Nat := k.getD 6 0
def pktPayload (k : List Nat) : List Nat := (k.drop 8).take (pktLen k)
def pktMac (k : List Nat) : Bool := bit (pktFlags k) 2

/-- The header of 8 bytes is good: SYNC, HCHK, LEN and FLAGS (R450). -/
def headerGood (h : List Nat) : Bool :=
  h.getD 0 0 == 0xC5 && crc8 0x07 0x00 (h.take 7) == h.getD 7 0 && decide (pktLen h ≤ 1024) && decide (pktFlags h < 8)

/-- The trailer is right (R448). -/
def trailerGood (k : List Nat) : Bool := crc32c (k.take (8 + pktLen k)) == leNat (k.drop (8 + pktLen k))

/-- The bytes from the next SYNC on (R450). -/
def huntSync (l : List Nat) : List Nat := l.dropWhile (· != 0xC5)

/-- A byte received by port `p`: a bad header is discarded and the next SYNC sought among the bytes after it; a whole packet has
arrived when its trailer is in (R450). -/
def rxByte (p : Nat) (s : State) (b : Nat) : State :=
  let x := s.fport p
  let l := huntSync (x.rx ++ [b % 256])
  let t := s.setFport p { x with rx := l, rxAt := s.now }
  if l.length < 8 then t
  else if !headerGood l then
    let u := t.setFport p { t.fport p with rx := huntSync (l.drop 1) }
    portError u p .FYZ_PORT_ERR_HDRERR
  else if l.length < 12 + pktLen l then t
  else t.setFport p { t.fport p with rx := [], arrived := x.arrived ++ [l] }

/-! ### Ports (R453 to R459) -/

/-- A request buffer of port `p` is free (R451). -/
def bufferFree (s : State) (p : Nat) : Bool := decide ((s.fyz.reqs.filter (·.port == p)).length < 2)

/-- A packet waits at port `p`. -/
def outReady (s : State) (p : Nat) : Bool :=
  (s.fport p).tx.isSome || !(s.fport p).replies.isEmpty || !(vget s.notices p).isEmpty

/-- The level of SPIn_IRQN (R455); `none`, high-impedance with the pull-up, while a device reset is asserted (R490). -/
def irqPin (s : State) (p : Nat) : Option Bool := if s.pw.rst.isSome then none else some (!outReady s p)

/-- The status byte of an SPI transaction (R454). -/
def spiStatus (s : State) (p : Nat) : Nat :=
  0xA0 + 8 * b2n (s.flag .FYZ_STAT_ESTOPPWM || s.flag .FYZ_STAT_ESTOPLAE) + 4 * b2n (s.flag .CUP_STAT_THROT) +
    2 * b2n (bufferFree s p) + b2n (outReady s p)

/-- SPI_TRANSACTION: MISO carries the status byte, the waiting packet and fill; MOSI's bytes are received; a request cut by the end is
discarded and counted; a packet cut by the end is sent again (R454, R455). -/
def execSpiTransaction (p : Fin 2) (mosi : List Nat) (s : State) : Host.Outcome State Fault Refusal :=
  if !portLive s p then .next s else
  let t := sendNext s p
  let pkt := (t.fport p).tx.getD []
  let n := mosi.length
  let out := (spiStatus s p :: (pkt ++ List.replicate (n - 1 - pkt.length) 0xFF)).take n
  let t := if pkt ≠ [] ∧ pkt.length < n then
      t.setFport p { t.fport p with tx := none, txPos := 0 } else t
  let t := t.setFport p { t.fport p with miso := out, rx := [] }
  let u := mosi.foldl (rxByte p) t
  let cut := (u.fport p).rx ≠ []
  let u := u.setFport p { u.fport p with rx := [] }
  .next (if cut then portError u p .FYZ_PORT_ERR_FRAMING else u)

/-- A reassembly abandoned and counted (R458). -/
def fragError (s : State) (p : Nat) : State := portError (s.setFport p { s.fport p with frag := none }) p .FYZ_PORT_ERR_FRAMING

/-- A reassembled packet of a CAN port: its header is judged, and its end is taken from LEN (R450, R457). -/
def fragPacket (s : State) (p : Nat) (l : List Nat) : State :=
  let t := s.setFport p { s.fport p with frag := none }
  if l.length < 8 ∨ !headerGood l then portError t p .FYZ_PORT_ERR_HDRERR
  else if l.length < 12 + pktLen l then fragError t p
  else t.setFport p { t.fport p with arrived := (t.fport p).arrived ++ [l.take (12 + pktLen l)] }

/-- Port `p` is a controller that takes part in its bus: it is not in bus-off (R456). -/
def canLive (s : State) (n : Nat) : Bool := portLive s (2 + n) && s.fget .FYZ_CAN_ECNT_STATE n != 2

/-- 10 ms have passed since the last fragment of an open reassembly, which abandons it (R458). -/
def fragExpire (s : State) (p : Nat) : State :=
  match (s.fport p).frag with
  | some (_, _, at_) => if at_ + 10 * msTicks ≤ s.now then fragError s p else s
  | none => s

/-- A gap of more than 2 ms inside a UART packet discards it (R459). -/
def uartExpire (s : State) : State :=
  let x := s.fport 4
  if x.rx ≠ [] ∧ x.rxAt + 2 * msTicks < s.now then
    portError (s.setFport 4 { x with rx := [] }) 4 .FYZ_PORT_ERR_FRAMING
  else s

/-- CAN_FRAGMENT: a frame with another identifier is ignored; FIRST starts a reassembly; another FCNT than the one expected, a fragment
with no reassembly open, and more than 1,036 bytes abandon it (R456 to R458). -/
def execCanFragment (n : Fin 2) (id : Nat) (data : List Nat) (s : State) : Host.Outcome State Fault Refusal :=
  let p := 2 + n.val
  if !canLive s n ∨ id ≠ s.fget .FYZ_CAN_ID_RXID n ∨ data = [] then .next s else
  let s := fragExpire s p
  let h := data.headD 0
  let body := (data.drop 1).take 63
  let open_ : Option (Nat × List Nat) :=
    if bit h 7 then some (0, []) else (s.fport p).frag.map fun f => (f.1, f.2.1)
  match open_ with
  | none => .next (fragError s p)
  | some (want, got) =>
    let l := got ++ body.map (· % 256)
    let size := if headerGood l then 12 + pktLen l else l.length
    if h % 16 ≠ want then .next (fragError s p)
    else if bit h 6 then
      if 1036 < min l.length size then .next (fragError s p) else .next (fragPacket s p l)
    else if 1036 < l.length then .next (fragError s p)
    else .next (s.setFport p { s.fport p with frag := some ((want + 1) % 16, l, s.now) })

/-- FRAGMENT_TIMEOUT: 10 ms between two fragments (R458). -/
def execFragmentTimeout (n : Fin 2) (s : State) : Host.Outcome State Fault Refusal :=
  .next (fragExpire s (2 + n.val))

/-- UART_BYTE: with a framing error the packet is discarded and counted (R459). -/
def execUartByte (byte : Nat) (framing : Bool) (s : State) : Host.Outcome State Fault Refusal :=
  if !portLive s 4 then .next s
  else if framing then .next (portError (s.setFport 4 { s.fport 4 with rx := [] }) 4 .FYZ_PORT_ERR_FRAMING)
  else .next (rxByte 4 (uartExpire s) byte)

/-- UART_GAP_TIMEOUT: a gap of more than 2 ms inside a packet (R459). -/
def execUartGapTimeout (s : State) : Host.Outcome State Fault Refusal :=
  .next (uartExpire s)

/-- PACKET_TRANSMITTED: the UART or CAN port has sent its packet, or on CAN a fragment of 63 bytes of it, and goes on (R451, R457). -/
def execPacketTransmitted (p : Fin 5) (s : State) : Host.Outcome State Fault Refusal :=
  if p.val < 2 || (p.val < 4 && !canLive s (p.val - 2)) then .next s else
  let x := s.fport p
  match x.tx with
  | none => .next (sendNext s p)
  | some k =>
    if (p.val = 2 ∨ p.val = 3) ∧ 63 * (x.txPos + 1) < k.length then .next (s.setFport p { x with txPos := x.txPos + 1 })
    else .next (sendDone s p)

/-- The data length of a CAN FD frame that holds `k` bytes (R456, R457). -/
def canSize (k : Nat) : Nat := if k ≤ 8 then k else ([12, 16, 20, 24, 32, 48].find? fun n => decide (k ≤ n)).getD 64

/-- Frame `i` of a packet: the fragment header, up to 63 bytes of the packet, and 0x00 up to the next data length (R457). -/
def canFrame (k : List Nat) (i : Nat) : List Nat :=
  let body := (k.drop (63 * i)).take 63
  let l := (128 * b2n (i == 0) + 64 * b2n (decide (k.length ≤ 63 * (i + 1))) + i % 16) :: body
  l ++ List.replicate (canSize l.length - l.length) 0

/-- The frame that CAN port `n` sends: its identifier and its bytes (R457). -/
def canOut (s : State) (n : Nat) : Option (Nat × List Nat) :=
  (s.fport (2 + n)).tx.map fun k => (s.fget .FYZ_CAN_ID_TXID n, canFrame k (s.fport (2 + n)).txPos)

/-- CAN_BUS_ERROR: TEC and REC as ISO 11898-1 leaves them; 128 makes the controller error-passive, a TEC of 256 bus-off (R456). -/
def execCanBusError (n : Fin 2) (tec rec : Nat) (s : State) : Host.Outcome State Fault Refusal :=
  if !canLive s n then .next s else
  let t := (s.fset .FYZ_CAN_ECNT_TEC (min 255 tec) n).fset .FYZ_CAN_ECNT_REC (min 255 rec) n
  if 256 ≤ tec then .next ((t.fset .FYZ_CAN_ECNT_STATE 2 n).fcount .FYZ_CAN_ECNT_BUSOFF n)
  else .next (t.fset .FYZ_CAN_ECNT_STATE (if 128 ≤ tec ∨ 128 ≤ rec then 1 else 0) n)

/-- BUS_OFF_RECOVERY: the controller is error-active again, its counters 0 (R456). -/
def execBusOffRecovery (n : Fin 2) (s : State) : Host.Outcome State Fault Refusal :=
  .next (if portLive s (2 + n) ∧ s.fget .FYZ_CAN_ECNT_STATE n = 2 then
    ((s.fset .FYZ_CAN_ECNT_TEC 0 n).fset .FYZ_CAN_ECNT_REC 0 n).fset .FYZ_CAN_ECNT_STATE 0 n else s)

/-! ### Status codes (R463) and replies (R460, R466) -/

def stOk : Nat := 0x00
def stBadCrc : Nat := 0x01
def stBadVer : Nat := 0x02
def stBadOpcode : Nat := 0x03
def stBadLen : Nat := 0x04
def stBadParam : Nat := 0x05
def stBadState : Nat := 0x06
def stBusy : Nat := 0x07
def stMgmtDown : Nat := 0x08
def stAuthRequired : Nat := 0x10
def stAuthFailed : Nat := 0x11
def stReplay : Nat := 0x12
def stNoSession : Nat := 0x13
def stKeyState : Nat := 0x14
def stPortDenied : Nat := 0x15
def stLockout : Nat := 0x16
def stImgHeader : Nat := 0x20
def stImgKey : Nat := 0x21
def stImgSig : Nat := 0x22
def stImgSecver : Nat := 0x23
def stImgDigest : Nat := 0x24
def stImgSlot : Nat := 0x25
def stImgRange : Nat := 0x26
def stPairRefused : Nat := 0x30
def stThermNotClear : Nat := 0x31

/-- A tag: the first 16 bytes of the HMAC over CTR, header bytes 0 to 6 and the payload bytes before CTR (R466). -/
def tagOf (key : List Nat) (ctr : Nat) (head7 body : List Nat) : List Nat :=
  (hmac256 key (leBytes 4 ctr ++ head7 ++ body)).take 16

/-- The reply to a request: the status, and the data when it is OK; with CTR and a tag when the request was accepted (R460, R466). -/
def replyPacket (r : FyzReq) (status : Nat) (data : List Nat) : List Nat :=
  let body := status :: (if status = stOk then data else [])
  match r.mac with
  | none => packetOf (pktOp r.pkt) (pktSeq r.pkt) 0x01 body
  | some (key, ctr) =>
    let len := body.length + 20
    let h := [0xC5, 0x01, pktOp r.pkt, pktSeq r.pkt, len % 256, len / 256, 0x05]
    packetOf (pktOp r.pkt) (pktSeq r.pkt) 0x05 (body ++ leBytes 4 ctr ++ tagOf key ctr h body)

/-- A reply sent. -/
def reply (s : State) (r : FyzReq) (status : Nat) (data : List Nat := []) : State :=
  queueReply s r.port (replyPacket r status data)

/-- The request's payload without CTR and TAG (R469); none when FLAGS.MAC is set and they do not fit. -/
def reqBody (k : List Nat) : Option (List Nat) :=
  let l := pktPayload k
  if pktMac k then (if l.length < 20 then none else some (l.take (l.length - 20))) else some l

/-- CTR and TAG of a packet with FLAGS.MAC (R466). -/
def reqCtr (k : List Nat) : Nat := leNat (((pktPayload k).drop (pktLen k - 20)).take 4)
def reqTag (k : List Nat) : List Nat := (pktPayload k).drop (pktLen k - 16)

/-- The opcodes the ROM executes, and those of the safety subset (R469). -/
def romOpcodes : List Nat :=
  [0x00, 0x01, 0x02, 0x03, 0x04, 0x05, 0x06, 0x07, 0x10, 0x11, 0x12, 0x13, 0x14, 0x15, 0x20, 0x21, 0x30, 0x31, 0x32, 0x33,
    0x41, 0x42, 0x44, 0x50, 0x51, 0x52, 0x60, 0x61, 0x62, 0x71, 0x72, 0x73, 0x74, 0x80, 0x81, 0x82, 0xF1, 0xF2, 0xF3, 0xF4,
    0xF5, 0xF6]
def safetyOpcodes : List Nat := [0x40, 0x70, 0xF0]

/-- The commands marked "Open" (R469). -/
def openOpcodes : List Nat :=
  [0x00, 0x01, 0x10, 0x21, 0x30, 0x41, 0x42, 0x44, 0x51, 0x62, 0x71, 0x80, 0x81, 0xF5]

/-- Key records that hold no key: of the host keys (R464) and of the image keys (R422). -/
def hostKeyAddr (i : Nat) : Nat := 0x30001800 + 36 * i
def hostKeyState (s : State) (i : Nat) : Nat := s.loadMem (hostKeyAddr i + 32) 4
def hostKeysEmpty (s : State) : Bool := (List.range 4).all fun i => hostKeyState s i == 0
def imageKeysEmpty (s : State) : Bool := (List.range 4).all fun i => keyState s i == 0

/-- A command that needs an accepted MAC (R467); the first HKEYSET and IMGKEYSET do not (R422, R464). -/
def needsSession (s : State) (op : Nat) : Bool :=
  !openOpcodes.contains op && !(op == 0x03 && hostKeysEmpty s) && !(op == 0x05 && imageKeysEmpty s)

/-! ### Authentication (R466 to R468) -/

/-- A packet's MAC judged: 0 accepted, else the status of R467. -/
def macStatus (s : State) (p : Nat) (k : List Nat) : Nat :=
  if !pktMac k then stAuthRequired
  else match (s.fport p).session with
    | none => stNoSession
    | some x =>
      if pktLen k < 20 then stBadLen
      else if tagOf x.key (reqCtr k) (k.take 7) ((pktPayload k).take (pktLen k - 20)) ≠ reqTag k then stAuthFailed
      else if reqCtr k ≤ x.ctr then stReplay
      else 0

/-- An accepted packet: CTR, the idle time and the failures of its session; a CTR of 0xFFFF_FFFF ends the session (R466, R468). -/
def acceptMac (s : State) (p ctr : Nat) : State :=
  match (s.fport p).session with
  | none => s
  | some x =>
    let t := s.setFport p { s.fport p with session := some { x with ctr := ctr, at_ := s.now, fails := 0 } }
    if ctr = 0xFFFFFFFF then endSession t p 2 else t

/-- A wrong tag: it rings and is logged; the fifth in a row ends the session and locks OPEN out for a second (R468, R480). -/
def authFailed (s : State) (p : Nat) : State :=
  let t := (s.ring 149).logAppend logSession 3 p []
  match (t.fport p).session with
  | none => t
  | some x =>
    if 4 ≤ x.fails then
      let u := endSession t p 2
      u.setFport p { u.fport p with lockUntil := some (u.now + 1000 * msTicks) }
    else t.setFport p { t.fport p with session := some { x with fails := x.fails + 1 } }

/-! ### Reception (R450, R451, R461, R467, R474) -/

/-- Two requests are the same under R461: OPCODE, SEQ, LEN, payload and trailer. -/
def sameRequest (a b : List Nat) : Bool := (a.drop 2).take 4 == (b.drop 2).take 4 && a.drop 8 == b.drop 8

/-- A request joins those that wait for the ROM: after those complete before it, and of those complete in one fabric cycle, of
8/3 ticks, after those of lower ports; the one the ROM is at stays first (R451). -/
def buffered (s : State) (r : FyzReq) : State :=
  let l := s.fyz.reqs
  let k := if s.fyz.job.isSome then 1 else 0
  let after (x : FyzReq) : Bool := decide (x.at_ * 3 / 8 = r.at_ * 3 / 8) && decide (r.port < x.port)
  let n := max k (l.length - (l.reverse.takeWhile after).length)
  { s with fyz := { s.fyz with reqs := l.take n ++ r :: l.drop n } }

/-- Port `p`'s session has been idle for FYZ_CFG.IDLE seconds, which ends it (R468); an IDLE of 0 counts as 0 s (log entry 106). -/
def idleExpire (s : State) (p : Nat) : State :=
  match (s.fport p).session with
  | some x => if x.at_ + s.fget .FYZ_CFG_IDLE * 1000 * msTicks ≤ s.now then endSession s p 2 else s
  | none => s

/-- A request of the ROM's that is good, no duplicate and known: refused for its MAC, or buffered (R451, R467). -/
def takeIn (s : State) (p : Nat) (k : List Nat) : State :=
  let r : FyzReq := ⟨p, k, s.now, none⟩
  let st := macStatus s p k
  if st = 0 then
    let key := ((s.fport p).session.map (·.key)).getD []
    buffered (acceptMac s p (reqCtr k)) { r with mac := some (key, reqCtr k) }
  else if needsSession s (pktOp k) then
    let t := if st = stAuthFailed then authFailed s p else s
    reply t r st
  else buffered s r

/-- A packet taken in by port `p` (R450, R451, R461, R462, R474). -/
def takePacket (s : State) (p : Nat) (k : List Nat) : State :=
  let r : FyzReq := ⟨p, k, s.now, none⟩
  let safe := safetyOpcodes.contains (pktOp k)
  if !safe && !bufferFree s p then portError s p .FYZ_PORT_ERR_OVERRUN
  else if !trailerGood k then reply (portError s p .FYZ_PORT_ERR_CRCERR) r stBadCrc
  else if k.getD 1 0 ≠ 1 then reply s r stBadVer
  else if safe then
    match (s.fport p).safeDup with
    | some (q, a) => if sameRequest q k then queueReply s p a
        else { s with fyz := { s.fyz with safe := s.fyz.safe ++ [r] } }
    | none => { s with fyz := { s.fyz with safe := s.fyz.safe ++ [r] } }
  else if !mgmtUp s then reply (s.ring (144 + p)) r stMgmtDown
  else
    let s := idleExpire (s.ring (144 + p)) p
    let again := match (s.fport p).dup with
      | some (q, a) => if sameRequest q k then some a else none
      | none => none
    match again with
    | some a => queueReply s p a
    | none => if romOpcodes.contains (pktOp k) then takeIn s p k else reply s r stBadOpcode

/-- PACKET_RECEIVED. -/
def execPacketReceived (p : Fin 5) (s : State) : Host.Outcome State Fault Refusal :=
  match (s.fport p).arrived with
  | [] => .next s
  | k :: rest => .next (takePacket (s.setFport p { s.fport p with arrived := rest }) p k)

/-- The first request of port `p` that the ROM has not taken. -/
def firstOf (s : State) (p : Nat) : Option FyzReq :=
  (if s.fyz.job.isSome then s.fyz.reqs.drop 1 else s.fyz.reqs).find? (·.port == p)

/-- A request leaves those that wait for the ROM. -/
def dropRequest (s : State) (r : FyzReq) : State := { s with fyz := { s.fyz with reqs := s.fyz.reqs.erase r } }

/-- MGMT_DOWN_TIMEOUT: the request is answered MGMT_DOWN while the management core is in reset, and when the ROM has not taken it
within 10 ms (R462). -/
def execMgmtDownTimeout (p : Fin 5) (s : State) : Host.Outcome State Fault Refusal :=
  match firstOf s p with
  | none => .next s
  | some r =>
    if !mgmtUp s ∨ r.at_ + 10 * msTicks ≤ s.now then
      .next (reply (dropRequest s r) r stMgmtDown)
    else .next s

/-- SESSION_IDLE_EXPIRY (R468). -/
def execSessionIdleExpiry (p : Fin 5) (s : State) : Host.Outcome State Fault Refusal :=
  .next (idleExpire s p)

/-- LOCKOUT_EXPIRY (R468). -/
def execLockoutExpiry (p : Fin 5) (s : State) : Host.Outcome State Fault Refusal :=
  match (s.fport p).lockUntil with
  | some t => .next (if t ≤ s.now then s.setFport p { s.fport p with lockUntil := none } else s)
  | none => .next s

end Sys2Proof.Machine
end

