-- ==== Sys2Proof/Machine/FyzCmd.lean ====
section
/-! DEFINITION. Fyzal: how the ROM executes a request, and the commands on sessions, keys, the stage, metering, budgets, thermal
limits, pairing, the log and debugging (spec/14_fyzal_host.md, R460 to R472). -/

namespace Sys2Proof.Machine

/-! ### Executing a request -/

def stMramFail : Nat := 0x32

/-- What a command makes: a status, the data of the reply, the state. -/
abbrev Answer := Nat × List Nat × State

/-- A command that is done. -/
def done (s : State) (data : List Nat := []) : Answer := (stOk, data, s)

/-- A command refused: it has changed nothing (R460). -/
def deny (s : State) (st : Nat) : Answer := (st, [], s)

/-- The reply sent, and kept with its request against duplicates (R460, R461); none is sent when the command has reset the
management core or disabled the port (R452, R460). -/
def answerWith (s : State) (r : FyzReq) (st : Nat) (data : List Nat) : State :=
  let pkt := replyPacket r st data
  if mgmtUp s && portEn s r.port then
    let t := s.setFport r.port { s.fport r.port with dup := some (r.pkt, pkt) }
    queueReply t r.port pkt
  else s

/-- The commands that program MRAM words for the host: keys, versions, image slots, the log's clear (R469). -/
def mramOpcodes : List Nat := [0x03, 0x04, 0x05, 0x06, 0x07, 0x11, 0x12, 0x13, 0x14, 0x15, 0x82]

/-- The reply of a command: of one that programs MRAM words, once they are programmed (R462, R463). -/
def romAnswer (s : State) (r : FyzReq) (st : Nat) (data : List Nat) : State :=
  if st = stOk ∧ mramOpcodes.contains (pktOp r.pkt) ∧ s.pw.mramBuf ≠ [] then
    { s with fyz := { s.fyz with store := some ⟨r, st, data, false⟩ } }
  else answerWith s r st data

/-- In a tick, a reply that waited for MRAM is sent once every word is programmed: MRAM_FAIL when one failed (R463; log entry 103). -/
def storeTick (s : State) : State :=
  match s.fyz.store with
  | none => s
  | some x =>
    if s.pw.mramBuf ≠ [] then s
    else
      let t := { s with fyz := { s.fyz with store := none } }
      if x.failed then answerWith t x.req stMramFail [] else answerWith t x.req x.st x.data

/-- The ROM is at a request: at the accesses of one, or waiting for MRAM. -/
def romBusy (s : State) : Bool := s.fyz.job.isSome || s.fyz.store.isSome

/-- The ROM executes its oldest request when that is the command `op`: a payload of another size than those listed is BAD_LEN
(R469). -/
def romExec (op : Nat) (size : Nat → Bool) (f : State → FyzReq → List Nat → Answer) (s : State) :
    Host.Outcome State Fault Refusal :=
  match s.fyz.reqs with
  | [] => .next s
  | r :: rest =>
    if !mgmtUp s || romBusy s || pktOp r.pkt != op then .next s
    else
      let t := { s with fyz := { s.fyz with reqs := rest } }
      let a := match reqBody r.pkt with
        | some b =>
          if !size b.length then deny t stBadLen
          else if r.mac.isNone && needsSession t op then deny t stAuthRequired
          else f t r b
        | none => deny t stBadLen
      .next (romAnswer a.2.2 r a.1 a.2.1)

/-- A payload of exactly `n` bytes. -/
def exactly (n k : Nat) : Bool := k == n

/-- A payload of 1 to `most` groups of `n` bytes. -/
def groups (n most k : Nat) : Bool := k % n == 0 && decide (1 ≤ k / n) && decide (k / n ≤ most)

/-- A little-endian field of a payload. -/
def fieldAt (b : List Nat) (o n : Nat) : Nat := leNat ((b.drop o).take n)

/-- The groups of `n` bytes of a payload. -/
def groupsOf (n : Nat) (b : List Nat) : List (List Nat) := (List.range (b.length / n)).map fun i => (b.drop (n * i)).take n

/-- A register of the device written by the ROM, as master 4; its domain wakes first (R408, R470). -/
def romWrite (s : State) (n : RegName) (i v : Nat) : State :=
  let a := regAddr n i
  regLand (markDirty (wakeNow s (addrDomain a)) 4 a) 4 (regDesc n) i 0 v

/-- Bytes of MRAM written for a host's command: by the ROM, as master 4 (R404, R421), or passed to the sequencer (R422). -/
def romStore (s : State) (a : Nat) (l : List Nat) : State := ((wakeNow s 18).romDirty 18).mramStore a l
def seqStore (s : State) (a : Nat) (l : List Nat) : State := (wakeNow s 18).mramStore a l

/-- The STATE word of an image slot written by the ROM (R419, R473). -/
def romSlotState (s : State) (n v : Nat) : State := romStore s (slotBase n) (leBytes 4 v)

/-- The ROM reads registers of domain `d`, which wakes first (R408). -/
def romSees (s : State) (d : Nat) : State := wakeNow s d

/-- The ROM writes a register of domain `d` by an operation of its own; the domain wakes first and is DIRTY (R404, R408). -/
def romTouches (s : State) (d : Nat) : State := (wakeNow s d).romDirty d

/-- A register's word as a reply carries it. -/
def regBytes (s : State) (n : RegName) (i : Nat := 0) : List Nat := leBytes 4 (viewWord s (regDesc n) i 0)

/-! ### HELLO, OPEN, CLOSE (R464, R465, R469) -/

/-- HELLO. -/
def execHello : State → Host.Outcome State Fault Refusal :=
  romExec 0x00 (exactly 0) fun s _ _ =>
    done s ([0x01] ++ leBytes 2 0x0960 ++ [b2n Config.gradeE, s.fget .TTH_STAT_SEAT, s.role] ++ leBytes 2 Config.romVersion ++
      [s.fget .PMG_BOOTSTAT_SLOT, s.fget .PMG_BOOTSTAT_APPLIED] ++
      (if s.img.applied then s.img.digest.take 8 else List.replicate 8 0) ++
      [(List.range 4).foldl (fun m i => m + b2n (hostKeyState s i == 1) * 2 ^ i) 0])

/-- The session key of R465. -/
def sessionKey (hk nh nd sid : List Nat) : List Nat :=
  hmac256 hk ([0x46, 0x59, 0x5A, 0x41, 0x4C, 0x2D, 0x53, 0x31] ++ nh ++ nd ++ sid)

/-- A session opened on port `p` with host key `i` and nonce `nh`: the nonce and the identifier of the device are free values. -/
def openOp (s : State) (p i : Nat) (nh : List Nat) : Answer :=
  let nd := (List.range 16).map fun k => Config.freeValue (s.free + k) % 256
  let sid := Config.freeValue (s.free + 16) % 2 ^ 32
  let key := sessionKey (s.loadBytes (hostKeyAddr i) 32) nh nd (leBytes 4 sid)
  let t := endSession { s with free := s.free + 17 } p 2
  let t := t.setFport p { t.fport p with session := some ⟨key, sid, 0, t.now, 0⟩ }
  done (t.logAppend logSession 0 p (leBytes 4 sid)) (leBytes 4 sid ++ nd)

/-- OPEN (R465, R468). -/
def execOpenSession : State → Host.Outcome State Fault Refusal :=
  romExec 0x01 (exactly 17) fun s r b =>
    let i := b.headD 0
    if (s.fport r.port).lockUntil.any (fun t => decide (s.now < t)) then deny s stLockout
    else if 4 ≤ i then deny s stBadParam
    else if hostKeyState s i ≠ 1 then deny s stKeyState
    else openOp s r.port i (b.drop 1)

/-- CLOSE (R468). -/
def execCloseSession : State → Host.Outcome State Fault Refusal :=
  romExec 0x02 (exactly 0) fun s r _ => done (endSession s r.port 1)

/-! ### Keys and versions (R422, R464, R470) -/

/-- A key event logged. -/
def logKeyEvent (s : State) (op port : Nat) (data : List Nat) : State := s.logAppend logKey op port data

/-- A key of 32 bytes put in an empty record at `base`, enabled. -/
def keySet (op : Nat) (base : Nat → Nat) (state : State → Nat → Nat) : State → Host.Outcome State Fault Refusal :=
  romExec op (exactly 33) fun s r b =>
    let i := b.headD 0
    if 4 ≤ i then deny s stBadParam
    else if state s i ≠ 0 then deny s stKeyState
    else done (logKeyEvent (seqStore s (base i) ((b.drop 1).map (· % 256) ++ leBytes 4 1)) op r.port [i])

/-- An enabled key revoked, for good. -/
def keyRevoke (op : Nat) (base : Nat → Nat) (state : State → Nat → Nat) : State → Host.Outcome State Fault Refusal :=
  romExec op (exactly 1) fun s r b =>
    let i := b.headD 0
    if 4 ≤ i then deny s stBadParam
    else if state s i ≠ 1 then deny s stKeyState
    else done (logKeyEvent (seqStore s (base i + 32) (leBytes 4 2)) op r.port [i])

/-- HKEYSET (R464). -/
def execHkeySet : State → Host.Outcome State Fault Refusal := keySet 0x03 hostKeyAddr hostKeyState

/-- HKEYREVOKE (R464). -/
def execHkeyRevoke : State → Host.Outcome State Fault Refusal := keyRevoke 0x04 hostKeyAddr hostKeyState

/-- IMGKEYSET (R422). -/
def execImgKeySet : State → Host.Outcome State Fault Refusal := keySet 0x05 keyRecord keyState

/-- IMGKEYREVOKE (R422). -/
def execImgKeyRevoke : State → Host.Outcome State Fault Refusal := keyRevoke 0x06 keyRecord keyState

/-- SECVERSET: MINSECVER never decreases (R422). -/
def execSecverSet : State → Host.Outcome State Fault Refusal :=
  romExec 0x07 (exactly 2) fun s r b =>
    if fieldAt b 0 2 < minSecver s then deny s stBadParam
    else done (logKeyEvent (seqStore s minSecverAddr (leBytes 2 (fieldAt b 0 2))) 0x07 r.port (b.take 2))

/-! ### Setpoints (R471) -/

/-- Setpoint `n` names lane and register. -/
def spLane (s : State) (n : Nat) : Nat := s.fget .FYZ_SP_TGT_LANE n
def spReg (s : State) (n : Nat) : Nat := s.fget .FYZ_SP_TGT_REG n

/-- INDEX names an enabled setpoint. -/
def spEnabled (s : State) (n : Nat) : Bool := decide (n < 64) && s.flag .FYZ_SP_TGT_EN n

/-- A VALUE lies in its setpoint's range. -/
def spInRange (s : State) (n v : Nat) : Bool :=
  decide (sext 48 (s.fget .FYZ_SP_MIN_V n) ≤ sext 48 v) && decide (sext 48 v ≤ sext 48 (s.fget .FYZ_SP_MAX_V n))

/-- The values of a packet staged in order, then one APPLY for each lane named (R234, R235). -/
def spSetOp (s : State) (l : List (Nat × Nat)) : State :=
  let dom (k : Nat) : Nat := addrDomain (regAddr .LANE_CTRL k)
  let t := l.foldl (fun t e => lregWrite ((wakeNow t (dom (spLane s e.1))).romDirty (dom (spLane s e.1))) (spLane s e.1) (spReg s e.1) e.2) s
  (l.map fun e => spLane s e.1).eraseDups.foldl laneApplyReq t

/-- SPSET. -/
def execSpSet : State → Host.Outcome State Fault Refusal :=
  romExec 0x20 (groups 7 64) fun s _ b =>
    let l := (groupsOf 7 b).map fun g => (g.headD 0, fieldAt g 1 6)
    let lanes := l.map fun e => spLane s e.1
    if !(l.all fun e => spEnabled s e.1 && spInRange s e.1 e.2) then deny s stBadParam
    else if lanes.any (fun k => decide (16 < lanes.count k)) then deny s stBadParam
    else if s.role = roleStandby ∨ s.role = roleJoining then deny s stBadState
    else done (spSetOp s l)

/-- SPGET: the live register values. -/
def execSpGet : State → Host.Outcome State Fault Refusal :=
  romExec 0x21 (groups 1 64) fun s _ b =>
    if !(b.all (spEnabled s)) then deny s stBadParam
    else
      let t := b.foldl (fun u n => romSees u (addrDomain (regAddr .LANE_CTRL (spLane u n)))) s
      done t (b.flatMap fun n => leBytes 6 (t.lreg (spLane t n) (spReg t n)))

/-! ### The line-angle engine (R469, R470) -/

/-- LAESTAT. -/
def execLaeStat : State → Host.Outcome State Fault Refusal :=
  romExec 0x30 (exactly 0) fun s _ _ =>
    let s := romSees s 15
    let feed (f : Nat) : List Nat := leBytes 1 (viewWord s (regDesc .LAE_FEED_STAT) f 0) ++ leBytes 6 (s.fget .LAE_FEED_FREQ_FREQ f) ++
      leBytes 6 (s.fget .LAE_FEED_AMPP_AMPP f) ++ leBytes 4 (feedAngle s f)
    done s (feed 0 ++ feed 1 ++ regBytes s .LAE_XSTAT)

/-- XFER. -/
def execXferCmd : State → Host.Outcome State Fault Refusal :=
  romExec 0x31 (exactly 0) fun s _ _ =>
    if s.flag .LAE_XSTAT_BUSY then deny s stBadState else done (romWrite (romSees s 15) .LAE_XCTRL 0 1)

/-- PAIRANG. -/
def execPairAng : State → Host.Outcome State Fault Refusal :=
  romExec 0x32 (exactly 5) fun s _ b =>
    if 12 ≤ b.headD 0 then deny s stBadParam else done (romWrite s .LAE_PAIR_ANG (b.headD 0) (fieldAt b 1 4))

/-- PAIREN. -/
def execPairEnCmd : State → Host.Outcome State Fault Refusal :=
  romExec 0x33 (exactly 2) fun s _ b =>
    let j := b.headD 0
    let en := fieldAt b 1 1
    if 12 ≤ j ∨ 2 ≤ en then deny s stBadParam
    else
      let t := romSees s 15
      done (romWrite t .LAE_PAIR_CFG j (setBit (viewWord t (regDesc .LAE_PAIR_CFG) j 0) 0 (en == 1)))

/-! ### Metering, temperatures, notices (R469, R470) -/

/-- METER: one publish window's results. -/
def execMeterCmd : State → Host.Outcome State Fault Refusal :=
  romExec 0x41 (exactly 1) fun s _ b =>
    let f := b.headD 0
    if 2 ≤ f then deny s stBadParam
    else
      let s := romSees s 13
      done s (leBytes 2 (s.fget .SDM_STAT_SEQ) ++
      (List.range 6).flatMap (fun i => leBytes 6 (s.fget .SDM_RES_RMS_V (6 * f + i))) ++
      (List.range 3).flatMap (fun p => [Fld.SDM_RES_P_V, .SDM_RES_Q_V, .SDM_RES_S_V, .SDM_RES_PF_V].flatMap fun x =>
        leBytes 6 (s.fget x f p)) ++
      (List.range 3).flatMap (fun p => leBytes 8 (s.fget .SDM_RES_EIMP_V f p) ++ leBytes 8 (s.fget .SDM_RES_EEXP_V f p)))

/-- The mask of broken sensors. -/
def brokenMask (s : State) : Nat := (List.range 22).foldl (fun m i => m + s.fget .CUP_SNS_TEMP_BROKEN i * 2 ^ i) 0

/-- THERM. -/
def execThermCmd : State → Host.Outcome State Fault Refusal :=
  romExec 0x42 (exactly 0) fun s _ _ =>
    done s (regBytes s .CUP_STAT ++ (List.range 22).flatMap (fun i => leBytes 2 (s.fget .CUP_SNS_TEMP_TEMP i)) ++
      leBytes 4 (brokenMask s))

/-- NOTICECFG: NOTMASK of the receiving port. -/
def execNoticeCfg : State → Host.Outcome State Fault Refusal :=
  romExec 0x44 (exactly 1) fun s r b => done ((s.romDirty 17).fset .FYZ_PORT_CFG_NOTMASK (b.headD 0) r.port)

/-! ### Budgets (R410 to R412, R470) -/

/-- BUDGETSET. -/
def execBudgetSet : State → Host.Outcome State Fault Refusal :=
  romExec 0x50 (groups 5 8) fun s _ b =>
    let l := groupsOf 5 b
    if !(l.all fun g => decide (g.headD 0 < 8)) then deny s stBadParam
    else done (l.foldl (fun t g => romWrite t .PMG_BUDGET (g.headD 0) (fieldAt g 1 4)) s)

/-- BUDGETGET. -/
def execBudgetGet : State → Host.Outcome State Fault Refusal :=
  romExec 0x51 (exactly 0) fun s _ _ =>
    done s ((List.range 8).flatMap (fun i => regBytes s .PMG_BUDGET i) ++ (List.range 20).flatMap (fun i => regBytes s .PMG_DOMSTAT i))

/-- HOLD: the services of SET are held and those of CLR released. -/
def execHoldCmd : State → Host.Outcome State Fault Refusal :=
  romExec 0x52 (exactly 2) fun s _ b =>
    let set := b.headD 0
    let clr := fieldAt b 1 1
    let v := (List.range 8).foldl (fun m i => setBit m i ((s.fbit .PMG_HOLD_HOLD i || bit set i) && !bit clr i)) 0
    done (holdOp (romTouches s 0) v)

/-! ### Cupola (R436, R445, R446, R470) -/

/-- A class's thresholds and hysteresis as THERMCFG gives them, and GRACE. -/
def thermCfgOp (s : State) (c : Nat) (b : List Nat) : State :=
  let t := (s.fset .CUP_CLASS_THRA_WARN (fieldAt b 1 2) c).fset .CUP_CLASS_THRA_THROT (fieldAt b 3 2) c
  let t := t.fset .CUP_CLASS_THRB_SHUT (fieldAt b 5 2) c
  let t := (t.fset .CUP_CLASS_HYST_HW (fieldAt b 7 1) c).fset .CUP_CLASS_HYST_HT (fieldAt b 8 1) c
  (t.fset .CUP_CLASS_HYST_HS (fieldAt b 9 1) c).fset .CUP_CFG_GRACE (fieldAt b 10 2)

/-- THERMCFG: whole or not at all (R436). -/
def execThermCfg : State → Host.Outcome State Fault Refusal :=
  romExec 0x60 (exactly 12) fun s _ b =>
    let c := b.headD 0
    let t := thermCfgOp (romTouches s 0) c b
    if 3 ≤ c ∨ 1024 ≤ fieldAt b 10 2 then deny s stBadParam
    else if !classOk t c then deny s stBadParam
    else done (nearUpdate t c)

/-- Every enabled sensor is not broken and reads below its WARN threshold (R446). -/
def thermClear (s : State) : Bool :=
  (List.range 22).all fun i => !cupEn s i ||
    (!s.flag .CUP_SNS_TEMP_BROKEN i &&
      decide (sext 16 (s.fget .CUP_SNS_TEMP_TEMP i) < cupThreshold s (cupClass i) 1))

/-- THERMEXIT (R446, R470). -/
def execThermExit : State → Host.Outcome State Fault Refusal :=
  romExec 0x61 (exactly 0) fun s _ _ =>
    if thermClear s then done (cupCtrlWrite (romTouches s 0) 4 1) else deny s stThermNotClear

/-- SHUTREC: the `AGE`-th record before the newest. -/
def execShutRec : State → Host.Outcome State Fault Refusal :=
  romExec 0x62 (exactly 2) fun s _ b =>
    let age := fieldAt b 0 2
    let i := (s.fget .CUP_REC_NEXT + 2 * 4096 - 1 - age % 4096) % 4096
    if 4096 ≤ age then deny s stBadParam
    else match recordValid s i with
      | none => deny s stBadParam
      | some _ => done s (s.loadBytes (recordAddr i) 128)

/-! ### Pairing (R370, R383, R392, R470) -/

/-- PAIRSTAT. -/
def execPairStat : State → Host.Outcome State Fault Refusal :=
  romExec 0x71 (exactly 0) fun s _ _ =>
    let s := romSees s 16
    done s ([RegName.TTH_STAT, .TTH_PARTNER, .TTH_LAT, .TTH_DISC].flatMap fun n => regBytes s n)

/-- HANDOVER (R392). -/
def execHandoverCmd : State → Host.Outcome State Fault Refusal :=
  romExec 0x72 (exactly 0) fun s _ _ =>
    let s := romTouches s 16
    if handoverOk s then done (handoverOp s) else deny (handoverOp s) stPairRefused

/-- DETACH (R383). -/
def execDetachCmd : State → Host.Outcome State Fault Refusal :=
  romExec 0x73 (exactly 0) fun s _ _ => done (detachOp (romTouches s 16))

/-- ATTACH (R383). -/
def execAttachCmd : State → Host.Outcome State Fault Refusal :=
  romExec 0x74 (exactly 0) fun s _ _ => done (attachOp (romTouches s 16))

/-! ### The event log (R480) -/

/-- The oldest record that LOGREAD returns. -/
def logOldest (s : State) : Nat := max s.logFrom (s.logSeq - 16384)

/-- LOGINFO; with no record at all the two values are free. -/
def execLogInfo : State → Host.Outcome State Fault Refusal :=
  romExec 0x80 (exactly 0) fun s _ _ =>
    if s.logSeq = 0 then
      done { s with free := s.free + 2 } (leBytes 4 s.draw ++ leBytes 4 (Config.freeValue (s.free + 1)))
    else done s (leBytes 4 (logOldest s) ++ leBytes 4 (s.logSeq - 1))

/-- LOGREAD: a record whose CRC fails is skipped. -/
def execLogRead : State → Host.Outcome State Fault Refusal :=
  romExec 0x81 (exactly 5) fun s _ b =>
    let q := fieldAt b 0 4
    let n := fieldAt b 4 1
    if n = 0 ∨ 30 < n ∨ q < logOldest s ∨ s.logSeq ≤ q then deny s stBadParam
    else
      let seqs := (List.range n).map (q + ·) |>.filter fun k => decide (k < s.logSeq)
      let recs := seqs.map fun k => s.loadBytes (logAddr k) 32
      done s ((recs.filter fun x => crc32c (x.take 28) == leNat (x.drop 28)).flatten)

/-- LOGCLEAR: one record marks the clear. -/
def execLogClear : State → Host.Outcome State Fault Refusal :=
  romExec 0x82 (exactly 0) fun s r _ =>
    done ({ s with logFrom := s.logSeq }.logAppend logSession 0x82 r.port [])

/-! ### RESUME, RESET (R470, R476) -/

/-- RESUME: through FYZ_RESUME, executed by the safety state machine. -/
def execResumeCmd : State → Host.Outcome State Fault Refusal :=
  romExec 0xF1 (exactly 1) fun s r b =>
    let scope := b.headD 0
    if 4 ≤ scope then deny s stBadParam
    else if !s.img.applied then deny s stBadState
    else done (resumeOp (wakeNow (wakeNow (romTouches s 17) 10) 15) r.port scope)

/-- RESUME_WRITE: a write of FYZ_RESUME (R476). -/
def execResumeWrite (m : Fin 10) (value : Nat) (s : State) : Host.Outcome State Fault Refusal :=
  .next (fabricWrite s m resumeAddr 4 value)

/-- RESET: the reply, then a host device reset 1 ms later. -/
def execResetCmd : State → Host.Outcome State Fault Refusal :=
  romExec 0xF2 (exactly 0) fun s r _ =>
    let t := s.logAppend 6 0xF2 r.port []
    done { t with fyz := { t.fyz with resetAt := some t.now } }

/-- HOST_RESET: 1 ms after the reply (R400, R470). -/
def execHostResetDue (s : State) : Host.Outcome State Fault Refusal :=
  match s.fyz.resetAt with
  | some t => .next (if t + msTicks ≤ s.now then deviceReset s 3 else s)
  | none => .next s

/-! ### PEEK, POKE, ECHO, DEBUGEN (R470) -/

/-- The oldest request is done: it leaves the queue, and its reply is sent. -/
def jobAnswer (s : State) (st : Nat) (data : List Nat) : State :=
  match s.fyz.reqs with
  | [] => { s with fyz := { s.fyz with job := none } }
  | r :: rest => answerWith { s with fyz := { s.fyz with reqs := rest, job := none } } r st data

/-- The next access of a PEEK or POKE issued, a 32-bit fabric access of master 4 (R470); a write is posted (R26). -/
def jobIssue (s : State) (e : Nat × Option Nat) : State :=
  match e.2 with
  | none => portRead s 4 e.1 4
  | some v =>
    let (err, t) := accessWrite s 4 e.1 4 v
    t.respond 4 0 err

/-- A PEEK or POKE goes on, through at most `n` accesses, until one has to wait for its response: at a Saddle bank, in the partner
window, or for its domain. An error response ends it (R470). -/
def jobRun : Nat → State → State
  | 0, s => s
  | n + 1, s =>
    match s.fyz.job with
    | none => s
    | some j =>
      match j.left with
      | [] => jobAnswer s stOk j.data
      | e :: rest =>
        let t := if j.asked then s else jobIssue s e
        if (t.portAt 4).reading then { t with fyz := { t.fyz with job := some { j with asked := true } } }
        else match (t.portAt 4).resp with
          | none => t
          | some r =>
            if r.err then jobAnswer t stBadParam []
            else
              let d := if e.2.isNone then j.data ++ leBytes 4 r.data else j.data
              jobRun n { t with fyz := { t.fyz with job := some ⟨rest, d, false⟩ } }

/-- A PEEK or POKE refused, or begun with the accesses `f` makes of its payload: it stays in the queue until they are over. -/
def jobStart (op : Nat) (size : Nat → Bool) (ready : Bool) (f : List Nat → List (Nat × Option Nat)) (s : State) (r : FyzReq) :
    State :=
  match reqBody r.pkt with
  | none => jobAnswer s stBadLen []
  | some b =>
    if !size b.length then jobAnswer s stBadLen []
    else if r.mac.isNone && needsSession s op then jobAnswer s stAuthRequired []
    else if !ready then jobAnswer s stBadState []
    else jobRun 33 { s with fyz := { s.fyz with job := some ⟨f b, [], false⟩ } }

/-- The ROM takes its oldest request up when it is the PEEK or POKE. -/
def romJob (op : Nat) (size : Nat → Bool) (ready : State → Bool) (f : List Nat → List (Nat × Option Nat)) (s : State) :
    Host.Outcome State Fault Refusal :=
  match s.fyz.reqs with
  | [] => .next s
  | r :: _ =>
    if !mgmtUp s || romBusy s || pktOp r.pkt != op then .next s else .next (jobStart op size (ready s) f s r)

/-- PEEK: the words of the addresses, in order; an error response ends it with BAD_PARAM (R470). -/
def execPeekCmd : State → Host.Outcome State Fault Refusal :=
  romJob 0xF3 (groups 4 32) (fun _ => true) fun b => (groupsOf 4 b).map fun g => (leNat g, none)

/-- POKE: the writes in order; those before one that draws an error response have landed (R470). -/
def execPokeCmd : State → Host.Outcome State Fault Refusal :=
  romJob 0xF4 (groups 8 32) (fun s => s.flag .FYZ_CFG_POKEEN) fun b =>
    (groupsOf 8 b).map fun g => (fieldAt g 0 4, some (fieldAt g 4 4))

/-- The ROM's part of a tick: a PEEK or POKE goes on when its response is there, and a reply when MRAM is done. -/
def jobTick (s : State) : State :=
  let t := storeTick s
  if t.fyz.job.isSome then jobRun 33 t else t

/-- ECHO. -/
def execEchoCmd : State → Host.Outcome State Fault Refusal :=
  romExec 0xF5 (fun n => decide (n ≤ 1000)) fun s _ b => done s b

/-- DEBUGEN. -/
def execDebugEn : State → Host.Outcome State Fault Refusal :=
  romExec 0xF6 (exactly 1) fun s _ b =>
    if 2 ≤ b.headD 0 then deny s stBadParam else done (romWrite s .FYZ_DBG 0 (b.headD 0))

end Sys2Proof.Machine
end

