-- ==== Sys2Proof/Machine/FyzImg.lean ====
section
/-! DEFINITION. Fyzal: image upload and slots (R473), and the safety subset (R474 to R477). -/

namespace Sys2Proof.Machine

/-! ### Image upload and slots (R469, R473) -/

/-- The session's SID, of the port a request came from; none when the session that sent it is over. -/
def sidOf (s : State) (r : FyzReq) : Option Nat :=
  match (s.fport r.port).session, r.mac with
  | some x, some (key, _) => if x.key = key then some x.sid else none
  | _, _ => none

/-- The upload that belongs to the session of a request: its slot and its LENGTH. -/
def uploadOf (s : State) (r : FyzReq) : Option (Nat × Nat) :=
  match s.fyz.upload with
  | some (n, len, sid) => if sidOf s r = some sid then some (n, len) else none
  | none => none

/-- A slot that may be written or erased: it exists and is not applied. -/
def slotFree (s : State) (n : Nat) : Bool := decide (n < 2) && !(s.img.applied && s.img.slot == n)

/-- A partner is writing an image into slot `n` (R390). -/
def partnerWrites (s : State) (n : Nat) : Bool :=
  s.role == roleJoining && s.twin.join == 1 && !s.twin.imgGot.isEmpty && spareSlot s == n

/-- An image event logged. -/
def logImageEvent (s : State) (op port : Nat) (data : List Nat) : State := s.logAppend logImage op port data

def slotWe (n : Nat) : Fld := if n = 0 then .FAB_MRAMCTL_SLOTWE0 else .FAB_MRAMCTL_SLOTWE1

/-- What IMGINFO says of a slot. -/
def slotInfo (s : State) (n : Nat) : List Nat :=
  [slotState s n % 256] ++ leBytes 4 (imgSeq s n) ++ leBytes 2 (imgSecver s n) ++ leBytes 4 (imgLen s n) ++ (imgDigest s n).take 8

/-- IMGINFO. -/
def execImgInfo : State → Host.Outcome State Fault Refusal :=
  romExec 0x10 (exactly 0) fun s _ _ =>
    done s (slotInfo s 0 ++ slotInfo s 1 ++ leBytes 2 (minSecver s) ++
      (List.range 4).map (fun i => keyState s i % 256) ++ (List.range 4).map (fun i => hostKeyState s i % 256))

/-- IMGBEGIN. -/
def execImgBegin : State → Host.Outcome State Fault Refusal :=
  romExec 0x11 (exactly 5) fun s r b =>
    let n := b.headD 0
    let len := fieldAt b 1 4
    match sidOf s r with
    | none => deny s stNoSession
    | some sid =>
      if s.fyz.upload.any (fun u => u.2.2 != sid) then deny s stBusy
      else if !slotFree s n then deny s stImgSlot
      else if partnerWrites s n then deny s stBusy
      else if 0x200000 - 64 < len then deny s stImgRange
      else
        let t := (romTouches (romSlotState s n 1) 0).fset (slotWe n) 1
        done (logImageEvent { t with fyz := { t.fyz with upload := some (n, len, sid) } } 0x11 r.port b)

/-- IMGWRITE. -/
def execImgWrite : State → Host.Outcome State Fault Refusal :=
  romExec 0x12 (fun k => k % 8 == 4 && decide (12 ≤ k) && decide (k ≤ 1004)) fun s r b =>
    let off := fieldAt b 0 4
    match uploadOf s r with
    | none => deny s stBadState
    | some (n, len) =>
      if off % 8 ≠ 0 ∨ len < off + (b.length - 4) then deny s stImgRange
      else if !s.flag (slotWe n) then deny s stMramFail
      else done (romStore s (imgBase n + off) (b.drop 4))

/-- The status of the first check of R416 that an image fails, in the order of `headerReason`; the digests last. -/
def endStatus (s : State) (n : Nat) : Nat :=
  match headerReason s n with
  | 2 | 10 => stImgHeader
  | 3 => stImgKey
  | 4 => stImgSig
  | 5 => stImgSecver
  | _ => if (sections s n).all (digestOk s n) then stOk else stImgDigest

/-- IMGEND: the image is TRIAL with its length recorded, or the slot EMPTY. -/
def execImgEnd : State → Host.Outcome State Fault Refusal :=
  romExec 0x13 (exactly 1) fun s r b =>
    match uploadOf s r with
    | none => deny s stBadState
    | some (n, _) =>
      if b.headD 0 ≠ n then deny s stImgSlot
      else
        let st := endStatus s n
        let t := { s with fyz := { s.fyz with upload := none } }
        if st = stOk then
          let dg := (imgDigest s n).take 8
          let u := romSlotState (romStore t (slotBase n + 4) (leBytes 4 (imgLen s n))) n 2
          done (logImageEvent u 0x13 r.port ([n, st] ++ dg)) dg
        else deny (logImageEvent (romSlotState t n 0) 0x13 r.port [n, st]) st

/-- IMGCONFIRM: the applied slot, TRIED, is GOOD. -/
def execImgConfirm : State → Host.Outcome State Fault Refusal :=
  romExec 0x14 (exactly 0) fun s r _ =>
    let n := s.img.slot
    if s.img.applied && slotState s n == 3 then done (logImageEvent (romSlotState s n 4) 0x14 r.port [n]) [n]
    else deny s stImgSlot

/-- IMGERASE: a slot that is not applied is EMPTY, and its upload ends. -/
def execImgErase : State → Host.Outcome State Fault Refusal :=
  romExec 0x15 (exactly 1) fun s r b =>
    let n := b.headD 0
    if !slotFree s n then deny s stImgSlot
    else if partnerWrites s n then deny s stBusy
    else
      let t := if s.fyz.upload.any (fun u => u.1 == n) then { s with fyz := { s.fyz with upload := none } } else s
      done (logImageEvent (romSlotState t n 0) 0x15 r.port [n])

/-! ### The safety subset (R474 to R477) -/

/-- The safety state machine executes its oldest request when that is `op`; replies carry no MAC, and it keeps its own record of
duplicates. CTR and TAG are no part of the payload (R466, R469), and nothing is asked of them. -/
def safeExec (op : Nat) (f : State → Nat → List Nat → Answer) (s : State) : Host.Outcome State Fault Refusal :=
  match s.fyz.safe with
  | [] => .next s
  | r :: rest =>
    if pktOp r.pkt != op then .next s
    else
      let t := { s with fyz := { s.fyz with safe := rest } }
      let a := f t r.port ((reqBody r.pkt).getD [])
      let pkt := replyPacket r a.1 a.2.1
      let u := a.2.2.setFport r.port { a.2.2.fport r.port with safeDup := some (r.pkt, pkt) }
      .next (queueReply u r.port pkt)

/-- Port `p` takes ESTOP and RELEASE. -/
def safePort (s : State) (p : Nat) : Bool := s.fbit .FYZ_CFG_SAFEPORTS p

/-- STATUS (R477). -/
def execStatusCmd : State → Host.Outcome State Fault Refusal :=
  safeExec 0x40 fun s _ b =>
    if b ≠ [] then deny s stBadLen
    else done s ([RegName.TTH_STAT, .CUP_STAT, .PMG_BOOTSTAT, .LAE_XSTAT, .FYZ_STAT].flatMap (fun n => regBytes s n) ++
      leBytes 8 s.ltc ++ [s.fget .PWM_DRIVE_DRV + 2 * s.fget .LAE_DRIVE_DRV, 0, 0, 0])

/-- RELEASE: TTH_CTRL.DETACH, by the role table (R383, R476). -/
def execReleaseCmd : State → Host.Outcome State Fault Refusal :=
  safeExec 0x70 fun s p b =>
    if !safePort s p then deny s stPortDenied
    else if b ≠ [] then deny s stBadLen
    else if s.role = roleSolo ∨ s.role = roleInit then deny s stBadState
    else
      let t := ((detachOp (safetyWrite (wakeNow s 16) 16)).ring 151).notice 8 1 [p, 0]
      done t [t.role]

/-- ESTOP of the scopes in `scope` (R475). -/
def estopOp (s : State) (p scope : Nat) : State :=
  let t := if bit scope 0 then driveWrite (safetyWrite ((wakeNow s 10).fset .FYZ_STAT_ESTOPPWM 1) 10) 0 else s
  let t := if bit scope 1 then (safetyWrite ((wakeNow t 15).fset .FYZ_STAT_ESTOPLAE 1) 15).fset .LAE_DRIVE_DRV 0 else t
  (t.ring 150).notice 8 0 [p, scope]

/-- ESTOP. -/
def execEstopCmd : State → Host.Outcome State Fault Refusal :=
  safeExec 0xF0 fun s p b =>
    if !safePort s p then deny s stPortDenied
    else match b with
      | [0x5A, 0xA5, scope, inv] =>
        if scope % 256 ^^^ 0xFF = inv ∧ scope < 4 then done (estopOp s p scope) else deny s stBadParam
      | _ => deny s stBadParam

end Sys2Proof.Machine
end

