-- ==== Sys2Proof/Machine/Jtag.lean ====
section
/-! DEFINITION. The JTAG port (spec/14_fyzal_host.md, R484). -/

namespace Sys2Proof.Machine

def State.jtag (s : State) : Jtag := s.fyz.jtag
def State.setJtag (s : State) (j : Jtag) : State := { s with fyz := { s.fyz with jtag := j } }

/-- A debug session ends: the locks of master 9 are broken (R353), the active bank's writes are off again (R75), and CALHOLD
clears (R182). -/
def endDebug (s : State) : State :=
  if s.jtag.debug then
    calhold ((breakLocksOf (s.setJtag { s.jtag with debug := false }) 9).fset .ADC_BANK_ACTWR 0) false
  else s

/-- Instruction `code` is loaded, and a debug session ends. -/
def loadIr (s : State) (code : Nat) : State :=
  let t := endDebug s
  t.setJtag { t.jtag with ir := code }

/-- BYPASS is loaded: its register captures 0. -/
def loadBypass (s : State) : State :=
  let t := loadIr s 0x1F
  t.setJtag { t.jtag with dr := 0 }

/-- The port acts; not while a device reset is asserted (R397, R400). -/
def jtagActs (f : State → State) (s : State) : Host.Outcome State Fault Refusal :=
  .next (if s.pw.rst.isNone then f s else s)

/-- A debug and test instruction: while FYZ_DBG.EN is 0 it acts as BYPASS. -/
def testInstr (f : State → State) : State → Host.Outcome State Fault Refusal :=
  jtagActs fun s => if s.flag .FYZ_DBG_EN then f s else loadBypass s

/-- EXTEST. -/
def execJtagExtest (value : Nat) : State → Host.Outcome State Fault Refusal :=
  testInstr fun s =>
    let t := loadIr s 0x00
    t.setJtag { t.jtag with boundary := value }

/-- SAMPLE/PRELOAD: what it captures of the balls is a free value. -/
def execJtagSample (value : Nat) : State → Host.Outcome State Fault Refusal :=
  testInstr fun s =>
    let t := loadIr s 0x01
    t.drawn.setJtag { t.jtag with boundary := value, dr := t.draw }

/-- IDCODE. -/
def execJtagIdcode : State → Host.Outcome State Fault Refusal :=
  jtagActs fun s =>
    let t := loadIr s 0x02
    t.setJtag { t.jtag with dr := 0x1096054D }

/-- DEBUG: a debug session opens as master 9. -/
def execJtagDebug : State → Host.Outcome State Fault Refusal :=
  testInstr fun s =>
    let t := { s.jtag with ir := 0x08, debug := true }
    s.setJtag t

/-- SYSRESET (R400). -/
def execJtagSysreset : State → Host.Outcome State Fault Refusal := testInstr fun s => deviceReset (loadIr s 0x09) 2

/-- BYPASS, or a code that no instruction has. -/
def execJtagBypass (code : Nat) : State → Host.Outcome State Fault Refusal :=
  jtagActs fun s => if [0x00, 0x01, 0x02, 0x08, 0x09].contains (code % 32) then s else loadBypass s

/-- DEBUG_SESSION_END: at TRSTN, which leaves IDCODE loaded (IEEE 1149.1), or when another instruction is loaded. -/
def execDebugSessionEnd (trst : Bool) : State → Host.Outcome State Fault Refusal :=
  jtagActs fun s =>
    if trst then
      let t := loadIr s 0x02
      t.setJtag { t.jtag with dr := 0x1096054D }
    else if s.jtag.debug then loadBypass s else s

end Sys2Proof.Machine
end

