-- ==== Sys2Proof/Machine/Pmbus.lean ====
section
/-! DEFINITION. The PMBus port (spec/14_fyzal_host.md, R481 to R483). -/

namespace Sys2Proof.Machine

def State.pmb (s : State) : Pmbus := s.fyz.pmb
def State.setPmb (s : State) (p : Pmbus) : State := { s with fyz := { s.fyz with pmb := p } }

/-! ### Number formats -/

/-- A quotient not exact, as one of its two whole neighbours; which one the spec leaves open. -/
def nearOne (s : State) (x : Rat) : Nat :=
  let n := x.floor.toNat
  if (n : Rat) = x then n else n + s.draw % 2

/-- The LINEAR11 word of a value: the mantissa of 11 bits at the smallest exponent of -16 to 15 that holds it. -/
def linear11 (s : State) (x : Rat) : Nat :=
  let a := if x < 0 then -x else x
  let scale (k : Nat) : Rat := if k < 16 then a * (2 ^ (16 - k) : Nat) else a / (2 ^ (k - 16) : Nat)
  let k := ((List.range 32).find? fun k => decide (scale k < 1023)).getD 31
  let m := min 1023 (nearOne s (scale k))
  let y := if x < 0 then twos 11 (-(m : Int)) else m
  twos 5 ((k : Int) - 16) * 2048 + y

/-- The LINEAR16 word of a value at exponent `-e`. -/
def linear16 (s : State) (e : Nat) (x : Rat) : Nat := min 65535 (nearOne s (x * (2 ^ e : Nat)))

/-! ### Status bits (R483) -/

/-- A status bit of page `p` sets; a bit that was 0 drives PMB_ALERTN low. -/
def pmbBit (get : Pmbus → Vector Nat 4) (put : Pmbus → Vector Nat 4 → Pmbus) (p k : Nat) (x : Pmbus) : Pmbus :=
  let w := vget (get x) p
  if bit w k then x else { (put x (vput (get x) p (setBit w k true))) with alert := setBit x.alert p true }

def pmbWordBit : Nat → Nat → Pmbus → Pmbus := pmbBit (·.word) fun x v => { x with word := v }
def pmbIoutBit : Nat → Nat → Pmbus → Pmbus := pmbBit (·.iout) fun x v => { x with iout := v }
def pmbInputBit : Nat → Nat → Pmbus → Pmbus := pmbBit (·.input) fun x v => { x with input := v }
def pmbTempBit : Nat → Nat → Pmbus → Pmbus := pmbBit (·.temp) fun x v => { x with temp := v }

/-- A bit of STATUS_CML, with the CML bit of STATUS_WORD. -/
def pmbCmlBit (p k : Nat) (x : Pmbus) : Pmbus :=
  pmbWordBit p 1 (pmbBit (·.cml) (fun y v => { y with cml := v }) p k x)

/-- An effect made when a condition holds. -/
def pmbIf (c : Bool) (f : Pmbus → Pmbus) (x : Pmbus) : Pmbus := if c then f x else x

/-- Feed `f` carries the load (R295). -/
def feedCarries (s : State) (f : Nat) : Bool := !s.flag .LAE_XSTAT_NONE && s.fget .LAE_XSTAT_ACTIVE == f

/-- The status bits whose conditions hold on page `p`, set. -/
def pmbConditions (s : State) (x : Pmbus) (p : Nat) : Pmbus :=
  let lvl := s.fget .CUP_STAT_LEVEL
  let x := pmbIf (lvl == 3) (pmbTempBit p 7) x
  let x := pmbIf (decide (1 ≤ lvl)) (fun y => pmbWordBit p 2 (pmbTempBit p 6 y)) x
  if p < 2 then
    let sick := !s.flag .LAE_FEED_STAT_HEALTHY p
    let idle := !feedCarries s p
    let x := pmbIf sick (fun y => pmbWordBit p 11 (pmbWordBit p 13 (pmbWordBit p 3 (pmbInputBit p 4 y)))) x
    pmbIf idle (fun y => pmbWordBit p 6 (pmbInputBit p 3 y)) x
  else
    let off := !s.flag .TTH_STAT_OWN || !s.flag .PWM_DRIVE_DRV
    let beyond := s.fget .REIN_STICKY_SEEN != 0
    let x := pmbIf off (fun y => pmbWordBit p 11 (pmbWordBit p 6 y)) x
    pmbIf beyond (fun y => pmbWordBit p 14 (pmbWordBit p 4 (pmbIoutBit p 7 y))) x

/-- The level of PMB_ALERTN: low while a page holds it (R483). -/
def alertPin (s : State) : Bool := s.pmb.alert == 0

/-! ### The snapshot (R482) -/

/-- An S48 value as a number. -/
def s48Rat (v : Nat) : Rat := (sext 48 v : Rat) / 4294967296

/-- The mean of the RMS values of three modulators from `m` on. -/
def meanRms (s : State) (m : Nat) : Rat :=
  (s48Rat (s.fget .SDM_RES_RMS_V m) + s48Rat (s.fget .SDM_RES_RMS_V (m + 1)) + s48Rat (s.fget .SDM_RES_RMS_V (m + 2))) / 3

/-- READ_VIN: line-to-line, from line-to-neutral voltages unless the feed measures line-to-line (R86). -/
def vinValue (s : State) (f : Nat) : Rat := if vconn s f then meanRms s (6 * f) else rsqrt 3 * meanRms s (6 * f)

/-- The value of PMBus source `k`, as the word just read from the Saddle store gives it: no source, or no value for a word that was
uncorrectable (R44; log entry 87). -/
def pmbSource (s : State) (k : Nat) : Option (Option Rat) :=
  (s.pmb.srcs.find? fun x => x.1 == k).map fun x => if x.2.2 then none else some (s48Rat x.2.1)

/-- The highest reading of the enabled sensors of class `c`, in °C; none without one. -/
def highest (s : State) (c : Nat) : Option Rat :=
  let l := ((List.range 22).filter fun i => cupClass i == c && cupEn s i).map fun i => sext 16 (s.fget .CUP_SNS_TEMP_TEMP i)
  match l with
  | [] => none
  | x :: t => some ((t.foldl max x : Int) / 16 : Rat)

/-- A reading of a page: its code and word. -/
def reading (s : State) (p code : Nat) (x : Rat) : Nat × Nat × Nat := (p, code, linear11 s x)

/-- The word of a reading, or a free value where the spec gives none. -/
def readingOr (s : State) (x : Option Rat) (f : Rat → Nat) : Nat := (x.map f).getD (s.draw % 65536)

/-- The readings of page `p`; one with no enabled sensor, or of a word that was uncorrectable, is a free value. -/
def pageReadings (s : State) (p : Nat) : List (Nat × Nat × Nat) :=
  let temps := (List.range 3).map fun c => (p, 0x8D + c, readingOr s (highest s c) (linear11 s))
  let own := if p < 2 then
      [reading s p 0x88 (vinValue s p), reading s p 0x89 (meanRms s (6 * p + 3)),
        reading s p 0x95 ((s.fget .LAE_FEED_FREQ_FREQ p : Rat) / 4294967296),
        reading s p 0x97 (s48Rat (s.fget .SDM_RES_P_V p 0) + s48Rat (s.fget .SDM_RES_P_V p 1) + s48Rat (s.fget .SDM_RES_P_V p 2))]
    else
      let v := pmbSource s (2 * (p - 2))
      let i := pmbSource s (2 * (p - 2) + 1)
      let pout : Option (Option Rat) := v.bind fun x => i.map fun y => x.bind fun a => y.map fun b => a * b
      (v.toList.map fun x => (p, 0x8B, readingOr s x (linear16 s (if p = 2 then 6 else 9)))) ++
        (i.toList.map fun x => (p, 0x8C, readingOr s x (linear11 s))) ++
        (pout.toList.map fun x => (p, 0x96, readingOr s x (linear11 s)))
  temps ++ own

/-- The snapshot taken. -/
def snapshotOp (s : State) : State :=
  let r := (List.range 4).flatMap (pageReadings s)
  let x := { s.pmb with readings := r, snapAt := some s.now, stale := false, asked := false, srcs := [] }
  s.drawn.setPmb ((List.range 4).foldl (pmbConditions s) x)

/-- The enabled sources. -/
def pmbEnabled (s : State) : List Nat := (List.range 4).filter fun k => s.flag .FYZ_PMB_SRC_EN k

/-- The ROM begins a snapshot: the Saddle words of the enabled sources are read by the management core (R41, R482). -/
def snapshotAsk (s : State) : State :=
  (pmbEnabled s).foldl (fun t k => sdlRequest t 12 (t.fget .FYZ_PMB_SRC_INDEX k) 1 false [] (.pmbRead k))
    (s.setPmb { s.pmb with asked := true, srcs := [] })

/-- A word of a source is still to be read. -/
def srcsDue (s : State) : Bool := (allReqs s ++ allOwners s).any fun r =>
  match r.use with
  | .pmbRead _ => true
  | _ => false

/-- PMBUS_SNAPSHOT: every millisecond, while the ROM runs. -/
def execPmbusSnapshot (s : State) : Host.Outcome State Fault Refusal :=
  .next (if mgmtUp s && s.clockOn 17 && !s.pmb.asked && !srcsDue s && s.pmb.snapAt.all (fun t => decide (t + msTicks ≤ s.now)) then
    (if pmbEnabled s = [] then snapshotOp s else snapshotAsk s) else s)

/-- The snapshot is taken once the sources' words are there. -/
def pmbTick (s : State) : State := if s.pmb.asked && !srcsDue s then snapshotOp s else s

/-- A snapshot more than 10 ms old, or none in the first 10 ms, is found stale once: UNKNOWN and STATUS_CML bit 1 set on every page
(R482). -/
def staleOp (s : State) : State :=
  if !s.pmb.stale && decide (s.pmb.snapAt.getD 0 + 10 * msTicks < s.now) then
    let x := { s.pmb with stale := true }
    s.setPmb ((List.range 4).foldl (fun y p => pmbWordBit p 8 (pmbCmlBit p 1 y)) x)
  else s

/-- SNAPSHOT_STALE: more than 10 ms old. -/
def execSnapshotStale (s : State) : Host.Outcome State Fault Refusal := .next (if s.clockOn 17 then staleOp s else s)

/-! ### Transactions (R481, R482) -/

/-- The bytes of a read that the responder does not serve. -/
def noBytes : List Nat := List.replicate 32 0xFF

/-- The bytes of a read. -/
def pmbOut (s : State) (l : List Nat) : State := s.setPmb { s.pmb with out := l }

/-- An unsupported command: STATUS_CML bit 7, 0xFF on a read, else ignored. -/
def pmbInvalid (s : State) (x : PmbXfer) : State :=
  let t := s.setPmb (pmbCmlBit s.pmb.page 7 s.pmb)
  if x.write.isNone then pmbOut t noBytes else t

/-- A transaction that passes the checks of PEC runs `f`: a wrong PEC sets STATUS_CML bit 5; with PECREQ one without PEC is refused. -/
def pmbExec (x : PmbXfer) (f : State → State) (s : State) : Host.Outcome State Fault Refusal :=
  if !pmbLive s then .next s else
  let s := staleOp s
  if x.pec = some false then
    .next (pmbOut (s.setPmb (pmbCmlBit s.pmb.page 5 s.pmb)) (if x.write.isNone then noBytes else s.pmb.out))
  else if x.pec = none ∧ s.flag .FYZ_PMB_CFG_PECREQ then .next (if x.write.isNone then pmbOut s noBytes else s)
  else .next (f s)

/-- A command that is only read, on some pages. -/
def pmbRead (pages : Nat → Bool) (out : State → Option (List Nat)) (x : PmbXfer) : State → Host.Outcome State Fault Refusal :=
  pmbExec x fun s =>
    match out s with
    | some l => if x.write.isNone && pages s.pmb.page then pmbOut s l else pmbInvalid s x
    | none => pmbInvalid s x

def allPages (_ : Nat) : Bool := true
def feedPages (p : Nat) : Bool := decide (p < 2)
def busPages (p : Nat) : Bool := decide (2 ≤ p)

/-- The sources a reading of page `p` comes from (R482). -/
def sourcesOf (p code : Nat) : List Nat :=
  match code with
  | 0x8B => [2 * (p - 2)]
  | 0x8C => [2 * (p - 2) + 1]
  | 0x96 => [2 * (p - 2), 2 * (p - 2) + 1]
  | _ => []

/-- A reading of the snapshot by its code; one with a source that is not valid reads as unsupported; one the snapshot does not hold is
a free value (R482). -/
def pmbReading (pages : Nat → Bool) (code : Nat) : PmbXfer → State → Host.Outcome State Fault Refusal :=
  pmbRead pages fun s =>
    if !(sourcesOf s.pmb.page code).all (s.flag .FYZ_PMB_SRC_EN ·) then none
    else match s.pmb.readings.find? fun r => r.1 == s.pmb.page && r.2.1 == code with
      | some r => some (leBytes 2 r.2.2)
      | none => some (leBytes 2 s.draw)

/-- PAGE: above 3 sets STATUS_CML bit 6. -/
def execPmbPage (x : PmbXfer) : State → Host.Outcome State Fault Refusal :=
  pmbExec x fun s =>
    match x.write with
    | none => pmbOut s [s.pmb.page]
    | some [v] => if v < 4 then s.setPmb { s.pmb with page := v } else s.setPmb (pmbCmlBit s.pmb.page 6 s.pmb)
    | some _ => s.setPmb (pmbCmlBit s.pmb.page 6 s.pmb)

/-- Every status bit of the selected page cleared; it releases PMB_ALERTN (R482, R483, R485). -/
def clearFaultsOp (s : State) : State :=
  let p := s.pmb.page
  let x := s.pmb
  (s.setPmb { x with
    word := vput x.word p 0, cml := vput x.cml p 0, iout := vput x.iout p 0, input := vput x.input p 0
    temp := vput x.temp p 0, alert := setBit x.alert p false }).ring 152

/-- CLEAR_FAULTS. -/
def execPmbClearFaults (x : PmbXfer) : State → Host.Outcome State Fault Refusal :=
  pmbExec x fun s => if x.write = some [] then clearFaultsOp s else pmbInvalid s x

/-- CAPABILITY. -/
def execPmbCapability : PmbXfer → State → Host.Outcome State Fault Refusal := pmbRead allPages fun _ => some [0xD0]

/-- VOUT_MODE. -/
def execPmbVoutMode : PmbXfer → State → Host.Outcome State Fault Refusal :=
  pmbRead busPages fun s => some [if s.pmb.page = 2 then 0x1A else 0x17]

/-- STATUS_BYTE. -/
def execPmbStatusByte : PmbXfer → State → Host.Outcome State Fault Refusal :=
  pmbRead allPages fun s => some [vget s.pmb.word s.pmb.page % 256]

/-- STATUS_WORD. -/
def execPmbStatusWord : PmbXfer → State → Host.Outcome State Fault Refusal :=
  pmbRead allPages fun s => some (leBytes 2 (vget s.pmb.word s.pmb.page))

/-- STATUS_IOUT. -/
def execPmbStatusIout : PmbXfer → State → Host.Outcome State Fault Refusal :=
  pmbRead busPages fun s => some [vget s.pmb.iout s.pmb.page]

/-- STATUS_INPUT. -/
def execPmbStatusInput : PmbXfer → State → Host.Outcome State Fault Refusal :=
  pmbRead feedPages fun s => some [vget s.pmb.input s.pmb.page]

/-- STATUS_TEMPERATURE. -/
def execPmbStatusTemperature : PmbXfer → State → Host.Outcome State Fault Refusal :=
  pmbRead allPages fun s => some [vget s.pmb.temp s.pmb.page]

/-- STATUS_CML. -/
def execPmbStatusCml : PmbXfer → State → Host.Outcome State Fault Refusal :=
  pmbRead allPages fun s => some [vget s.pmb.cml s.pmb.page]

/-- READ_VIN. -/
def execPmbReadVin : PmbXfer → State → Host.Outcome State Fault Refusal := pmbReading feedPages 0x88

/-- READ_IIN. -/
def execPmbReadIin : PmbXfer → State → Host.Outcome State Fault Refusal := pmbReading feedPages 0x89

/-- READ_VOUT. -/
def execPmbReadVout : PmbXfer → State → Host.Outcome State Fault Refusal := pmbReading busPages 0x8B

/-- READ_IOUT. -/
def execPmbReadIout : PmbXfer → State → Host.Outcome State Fault Refusal := pmbReading busPages 0x8C

/-- READ_TEMPERATURE_1 to 3. -/
def execPmbReadTemperature (n : Fin 3) : PmbXfer → State → Host.Outcome State Fault Refusal := pmbReading allPages (0x8D + n)

/-- READ_FREQUENCY. -/
def execPmbReadFrequency : PmbXfer → State → Host.Outcome State Fault Refusal := pmbReading feedPages 0x95

/-- READ_POUT. -/
def execPmbReadPout : PmbXfer → State → Host.Outcome State Fault Refusal := pmbReading busPages 0x96

/-- READ_PIN. -/
def execPmbReadPin : PmbXfer → State → Host.Outcome State Fault Refusal := pmbReading feedPages 0x97

/-- PMBUS_REVISION. -/
def execPmbRevision : PmbXfer → State → Host.Outcome State Fault Refusal := pmbRead allPages fun _ => some [0x44]

/-- A block: its length and its bytes. -/
def block (l : List Nat) : Option (List Nat) := some (l.length :: l)

/-- MFR_ID: "LUATI". -/
def execPmbMfrId : PmbXfer → State → Host.Outcome State Fault Refusal :=
  pmbRead allPages fun _ => block [0x4C, 0x55, 0x41, 0x54, 0x49]

/-- MFR_MODEL: "CX960" or "CX960-E". -/
def execPmbMfrModel : PmbXfer → State → Host.Outcome State Fault Refusal :=
  pmbRead allPages fun _ => block ([0x43, 0x58, 0x39, 0x36, 0x30] ++ (if Config.gradeE then [0x2D, 0x45] else []))

/-- MFR_REVISION: the ROM's version as four digits. -/
def execPmbMfrRevision : PmbXfer → State → Host.Outcome State Fault Refusal :=
  pmbRead allPages fun _ => block ((List.range 4).map fun i => 0x30 + Config.romDigit i % 10)

/-- The command codes the table of R482 lists. -/
def pmbCodes : List Nat :=
  [0x00, 0x03, 0x19, 0x20, 0x78, 0x79, 0x7B, 0x7C, 0x7D, 0x7E, 0x88, 0x89, 0x8B, 0x8C, 0x8D, 0x8E, 0x8F, 0x95, 0x96, 0x97, 0x98,
    0x99, 0x9A, 0x9B]

/-- PMBUS_UNSUPPORTED. -/
def execPmbUnsupported (code : Nat) (x : PmbXfer) : State → Host.Outcome State Fault Refusal :=
  pmbExec x fun s => if pmbCodes.contains code then s else pmbInvalid s x

/-- ALERT_RESPONSE: the device answers with its address while it holds PMB_ALERTN, and releases it. -/
def execAlertResponse (s : State) : Host.Outcome State Fault Refusal :=
  if !pmbLive s ∨ s.pmb.alert = 0 then .next s
  else .next (s.setPmb { s.pmb with alert := 0, out := [2 * s.fget .FYZ_PMB_CFG_ADDR] })

/-- SMBUS_TIMEOUT: the interface is reset. -/
def execSmbusTimeout (s : State) : Host.Outcome State Fault Refusal := .next (pmbOut s [])

end Sys2Proof.Machine
end

