-- ==== Sys2Proof/Machine/RegRows.lean ====
section
/-! DEFINITION. The commands that are a fabric access of one register: each makes that access when it is the access the row
names, and has no effect otherwise (log entry 7). What a write does in its register is `regLand`. -/

namespace Sys2Proof.Machine

/-- The access of a row, made when the row's condition holds. -/
def rowWrite (c : Bool) (s : State) (m a v : Nat) : Host.Outcome State Fault Refusal :=
  .next (if c then fabricWrite s m a 4 v else s)

/-- A register's word as it stands. -/
def wordOf (s : State) (n : RegName) (i : Nat := 0) : Nat := s.regWord (regDesc n) i 0

/-- A whole slot written: in one beat by a master that may, else in two halves (R24, R31). -/
def wholeSlot (s : State) (m a v : Nat) : State :=
  if 5 ≤ m ∧ m ≤ 7 then fabricWrite s m a 8 v else fabricWrite (fabricWrite s m a 4 (v % 2 ^ 32)) m (a + 4) 4 (v / 2 ^ 32 % 2 ^ 32)

/-- A width in bits as one in bytes; 0 is no width. -/
def inBytes (width : Nat) : Nat := if width % 8 = 0 then width / 8 else 0

/-! ### Fabric (R14, R31 to R34, R506) -/

/-- REGISTER_WRITE. -/
def execRegisterWrite (m : Fin 10) (addr width value : Nat) (s : State) : Host.Outcome State Fault Refusal :=
  .next (fabricWrite s m addr (inBytes width) value)

/-- READ_CLEAR. -/
def execReadClear (m : Fin 10) (addr width : Nat) (s : State) : Host.Outcome State Fault Refusal :=
  .next (fabricRead s m addr (inBytes width))

/-- SLOT_LOW_WRITE, SLOT_HIGH_WRITE, SLOT_LOW_READ, SLOT_HIGH_READ: `addr` is the slot's. -/
def execSlotLowWrite (m : Fin 10) (addr value : Nat) (s : State) : Host.Outcome State Fault Refusal :=
  rowWrite (addr % 8 == 0) s m addr value
def execSlotHighWrite (m : Fin 10) (addr value : Nat) (s : State) : Host.Outcome State Fault Refusal :=
  rowWrite (addr % 8 == 0) s m (addr + 4) value
def execSlotLowRead (m : Fin 10) (addr : Nat) (s : State) : Host.Outcome State Fault Refusal :=
  .next (if addr % 8 = 0 then fabricRead s m addr 4 else s)
def execSlotHighRead (m : Fin 10) (addr : Nat) (s : State) : Host.Outcome State Fault Refusal :=
  .next (if addr % 8 = 0 then fabricRead s m (addr + 4) 4 else s)

/-! ### Converters, modulators, comparators, trips -/

/-- ADC_SLOT_W0_WRITE, ADC_SLOT_W1_WRITE (R71). -/
def execAdcSlotW0Write (m : Fin 10) (e : Fin 96) (value : Nat) (s : State) : Host.Outcome State Fault Refusal :=
  rowWrite true s m (regAddr .ADC_SLOT_W0 e) value
def execAdcSlotW1Write (m : Fin 10) (e : Fin 96) (value : Nat) (s : State) : Host.Outcome State Fault Refusal :=
  rowWrite true s m (regAddr .ADC_SLOT_W1 e) value

/-- ADC_SLOTACT_WRITE (R75). -/
def execAdcSlotactWrite (m : Fin 10) (e : Fin 96) (w1 : Bool) (value : Nat) (s : State) : Host.Outcome State Fault Refusal :=
  rowWrite true s m (regAddr (if w1 then .ADC_SLOTACT_W1 else .ADC_SLOTACT_W0) e) value

/-- SWAPREQ (R72). -/
def execSwapReq (m : Fin 10) (s : State) : Host.Outcome State Fault Refusal := rowWrite true s m (regAddr .ADC_BANK) 2

/-- BANK_COPY (R74). -/
def execBankCopy (m : Fin 10) (s : State) : Host.Outcome State Fault Refusal := rowWrite true s m (regAddr .ADC_BANK) 4

/-- CONVERTER_DISABLE (R76). -/
def execConverterDisable (m : Fin 10) (c : Fin 16) (s : State) : Host.Outcome State Fault Refusal :=
  rowWrite true s m (regAddr .ADC_CTRL) (setBit (wordOf s .ADC_CTRL) c false)

/-- ENERGY_LOW_READ (R88). -/
def execEnergyLowRead (m : Fin 10) (f : Fin 2) (p : Fin 3) (exported : Bool) (s : State) : Host.Outcome State Fault Refusal :=
  .next (fabricRead s m (regAddr (if exported then .SDM_RES_EEXP else .SDM_RES_EIMP) f p) 4)

/-- SDM_DISABLE (R89). -/
def execSdmDisable (m : Fin 10) (n : Fin 12) (s : State) : Host.Outcome State Fault Refusal :=
  rowWrite true s m (regAddr .SDM_CTRL) (setBit (wordOf s .SDM_CTRL) n false)

/-- CMP_CFG_WRITE (R101) and COMPARATOR_DISABLE (R114). -/
def execCmpCfgWrite (m : Fin 10) (k : Fin 48) (value : Nat) (s : State) : Host.Outcome State Fault Refusal :=
  rowWrite true s m (regAddr .CMP_CFG k) value
def execComparatorDisable (m : Fin 10) (k : Fin 48) (value : Nat) (s : State) : Host.Outcome State Fault Refusal :=
  rowWrite (!bit value 0) s m (regAddr .CMP_CFG k) value

/-- CMP_THR_WRITE (R103). -/
def execCmpThrWrite (m : Fin 10) (k : Fin 48) (value : Nat) (s : State) : Host.Outcome State Fault Refusal :=
  rowWrite true s m (regAddr .CMP_THR k) value

/-- LATCH_SOFT_CLEAR (R109). -/
def execLatchSoftClear (m : Fin 10) (hi : Bool) (value : Nat) (s : State) : Host.Outcome State Fault Refusal :=
  rowWrite true s m (regAddr (if hi then .CMP_LATCHHI else .CMP_LATCHLO)) value

/-- PINCFG_WRITE (R507). -/
def execPincfgWrite (m : Fin 10) (p : Fin 16) (value : Nat) (s : State) : Host.Outcome State Fault Refusal :=
  rowWrite true s m (regAddr .REIN_PINCFG p) value

/-- SWTRIP_WRITE (R125). -/
def execSwtripWrite (m : Fin 10) (value : Nat) (s : State) : Host.Outcome State Fault Refusal :=
  rowWrite true s m (regAddr .REIN_SWTRIP) value

/-! ### PWM and Spire -/

/-- TEAM_START (R133). -/
def execTeamStart (m : Fin 10) (t : Fin 8) (value : Nat) (s : State) : Host.Outcome State Fault Refusal :=
  rowWrite (bit value t && !teamOn s t && !teamRuns s t) s m (regAddr .PWM_TEAMRUN) value

/-- TEAM_STOP (R134). -/
def execTeamStop (m : Fin 10) (t : Fin 8) (value : Nat) (s : State) : Host.Outcome State Fault Refusal :=
  rowWrite (!bit value t && teamOn s t) s m (regAddr .PWM_TEAMRUN) value

/-- TEAM_RESTART (R135). -/
def execTeamRestart (m : Fin 10) (t : Fin 8) (value : Nat) (s : State) : Host.Outcome State Fault Refusal :=
  rowWrite (bit value t && !teamOn s t && teamRuns s t) s m (regAddr .PWM_TEAMRUN) value

/-- CHANNEL_ENABLE (R136). -/
def execChannelEnable (m : Fin 10) (n : Fin 24) (value : Nat) (s : State) : Host.Outcome State Fault Refusal :=
  rowWrite (bit value 0) s m (regAddr .PWM_CH_CFG n) value

/-- CHANNEL_DISABLE (R170). -/
def execChannelDisable (m : Fin 10) (n : Fin 24) (value : Nat) (s : State) : Host.Outcome State Fault Refusal :=
  rowWrite (!bit value 0) s m (regAddr .PWM_CH_CFG n) value

/-- The preload registers, in the order of R139. -/
def preloadReg (r : Nat) : RegName :=
  [RegName.PWM_CH_PRD, .PWM_CH_PHS, .PWM_CH_CMPA, .PWM_CH_CMPB, .PWM_CH_CMPC, .PWM_CH_CMPD, .PWM_CH_DTR, .PWM_CH_DTF].getD r .PWM_CH_PRD

/-- PRELOAD_WRITE (R139). -/
def execPreloadWrite (m : Fin 10) (n : Fin 24) (r : Fin 8) (value : Nat) (s : State) : Host.Outcome State Fault Refusal :=
  rowWrite true s m (regAddr (preloadReg r) n) value

/-- LOAD_ALL (R140). -/
def execLoadAll (m : Fin 10) (value : Nat) (s : State) : Host.Outcome State Fault Refusal :=
  rowWrite true s m (regAddr .PWM_TEAMLOAD) value

/-- FORCE_WRITE (R161). -/
def execForceWrite (m : Fin 10) (n : Fin 24) (value : Nat) (s : State) : Host.Outcome State Fault Refusal :=
  rowWrite true s m (regAddr .PWM_CH_FORCE n) value

/-- ESCL_CLEAR (R160). -/
def execEsclClear (m : Fin 10) (n : Fin 24) (value : Nat) (s : State) : Host.Outcome State Fault Refusal :=
  rowWrite (bit value 4) s m (regAddr .PWM_CH_STAT n) value

/-- SPIRE_FAULT_CLEAR (R184). -/
def execSpireFaultClear (m : Fin 10) (hi : Bool) (value : Nat) (s : State) : Host.Outcome State Fault Refusal :=
  rowWrite true s m (regAddr (if hi then .SPR_FAULTHI else .SPR_FAULTLO)) value

/-! ### Lanes -/

/-- LREG_WRITE (R234). -/
def execLregWrite (m : Fin 10) (k : Fin 32) (i : Fin 64) (value : Nat) (s : State) : Host.Outcome State Fault Refusal :=
  .next (wholeSlot s m (regAddr .LANE_LREG k i) (value % 2 ^ 48))

/-- LANE_APPLY (R235). -/
def execLaneApply (m : Fin 10) (k : Fin 32) (s : State) : Host.Outcome State Fault Refusal :=
  rowWrite true s m (regAddr .LANE_CTRL k) (s.fget .LANE_CTRL_EN k + 2)

/-- PMEM_WRITE (R237). -/
def execPmemWrite (m : Fin 10) (k : Fin 32) (i : Fin 512) (hi : Bool) (value : Nat) (s : State) :
    Host.Outcome State Fault Refusal :=
  rowWrite true s m (pmemSlot k i + 4 * b2n hi) value

/-- POST (R239). -/
def execPost (m : Fin 10) (k : Fin 32) (value : Nat) (s : State) : Host.Outcome State Fault Refusal :=
  rowWrite true s m (regAddr .LANE_POST k) value

/-- LANE_ENABLE (R240, R241). -/
def execLaneEnable (m : Fin 10) (k : Fin 32) (s : State) : Host.Outcome State Fault Refusal :=
  rowWrite true s m (regAddr .LANE_CTRL k) 1

/-- LANE_DISABLE (R241). -/
def execLaneDisable (m : Fin 10) (k : Fin 32) (s : State) : Host.Outcome State Fault Refusal :=
  rowWrite true s m (regAddr .LANE_CTRL k) 0

/-- LANE_FAULT_CLEAR (R240). -/
def execLaneFaultClear (m : Fin 10) (k : Fin 32) (s : State) : Host.Outcome State Fault Refusal :=
  rowWrite true s m (regAddr .LANE_STAT k) 4

/-! ### The line-angle engine, timers, Harness -/

/-- PAIR_DISABLE (R288). -/
def execPairDisable (m : Fin 10) (j : Fin 12) (value : Nat) (s : State) : Host.Outcome State Fault Refusal :=
  rowWrite (!bit value 0) s m (regAddr .LAE_PAIR_CFG j) value

/-- TRANSFER_REQUEST (R296). -/
def execTransferRequest (m : Fin 10) (value : Nat) (s : State) : Host.Outcome State Fault Refusal :=
  rowWrite true s m (regAddr .LAE_XCTRL) value

/-- TIMER_ENABLE, TIMER_DISABLE (R306). -/
def execTimerEnable (m : Fin 10) (t : Fin 16) (value : Nat) (s : State) : Host.Outcome State Fault Refusal :=
  rowWrite (bit value 0) s m (regAddr .TMR_CFG t) value
def execTimerDisable (m : Fin 10) (t : Fin 16) (value : Nat) (s : State) : Host.Outcome State Fault Refusal :=
  rowWrite (!bit value 0) s m (regAddr .TMR_CFG t) value

/-- TIMER_GO, TIMER_HALT (R307). -/
def execTimerGo (m : Fin 10) (value : Nat) (s : State) : Host.Outcome State Fault Refusal :=
  rowWrite true s m (regAddr .TMR_GO) value
def execTimerHalt (m : Fin 10) (value : Nat) (s : State) : Host.Outcome State Fault Refusal :=
  rowWrite true s m (regAddr .TMR_HALT) value

/-- TIMER_CNT_WRITE (R306). -/
def execTimerCntWrite (m : Fin 10) (t : Fin 16) (value : Nat) (s : State) : Host.Outcome State Fault Refusal :=
  rowWrite true s m (regAddr .TMR_CNT t) value

/-- TIMER_PIN_WRITE (R304). -/
def execTimerPinWrite (m : Fin 10) (t : Fin 16) (value : Nat) (s : State) : Host.Outcome State Fault Refusal :=
  rowWrite true s m (regAddr .TMR_PIN t) value

/-- CHAIN_STAGED_WRITE (R309). -/
def execChainStagedWrite (m : Fin 10) (t : Fin 16) (j : Option (Fin 4)) (value : Nat) (s : State) :
    Host.Outcome State Fault Refusal :=
  rowWrite true s m (match j with | some i => regAddr .TMR_CMP t i | none => regAddr .TMR_RELOAD t) value

/-- WIDE_READ_LOW, WIDE_READ_HIGH (R310, R311). -/
def execWideReadLow (m : Fin 10) (pair : Option (Fin 8)) (s : State) : Host.Outcome State Fault Refusal :=
  .next (fabricRead s m (match pair with | some p => regAddr .TMR_CNT (2 * p) | none => regAddr .TMR_LTC_LO) 4)
def execWideReadHigh (m : Fin 10) (pair : Option (Fin 8)) (s : State) : Host.Outcome State Fault Refusal :=
  .next (fabricRead s m (match pair with | some p => regAddr .TMR_CNT (2 * p + 1) | none => regAddr .TMR_LTC_HI) 4)

/-- SOFTWARE_EVENT (R314). -/
def execSoftwareEvent (m : Fin 10) (value : Nat) (s : State) : Host.Outcome State Fault Refusal :=
  rowWrite true s m (regAddr .HRN_SWEV) value

/-- NEXT_ROUTE_WRITE (R320). -/
def execNextRouteWrite (m : Fin 10) (i : Fin 256) (value : Nat) (s : State) : Host.Outcome State Fault Refusal :=
  rowWrite true s m (regAddr .HRN_ROUTENX i) value

/-- ROUTE_APPLY_REQUEST, ROUTE_APPLY_CANCEL (R320). -/
def execRouteApplyRequest (m : Fin 10) (value : Nat) (s : State) : Host.Outcome State Fault Refusal :=
  rowWrite (bit value 0) s m (regAddr .HRN_RTCTRL) value
def execRouteApplyCancel (m : Fin 10) (value : Nat) (s : State) : Host.Outcome State Fault Refusal :=
  rowWrite (bit value 8) s m (regAddr .HRN_RTCTRL) value

/-! ### Cores, Belfry, locks -/

/-- CORE_RELEASE (R332), CORE_RESET (R353). -/
def execCoreRelease (m : Fin 10) (n : Fin 5) (s : State) : Host.Outcome State Fault Refusal :=
  rowWrite true s m (regAddr .FAB_CORE_CTRL n) (setBit (wordOf s .FAB_CORE_CTRL n) 0 false)
def execCoreReset (m : Fin 10) (n : Fin 5) (s : State) : Host.Outcome State Fault Refusal :=
  rowWrite true s m (regAddr .FAB_CORE_CTRL n) (setBit (wordOf s .FAB_CORE_CTRL n) 0 true)

/-- DOORBELL_RING (R334). -/
def execDoorbellRing (m : Fin 10) (value : Nat) (s : State) : Host.Outcome State Fault Refusal :=
  rowWrite true s m (regAddr .BFY_DOORBELL) value

/-- PENDSET, PENDCLR, MASKSET, MASKCLR (R336). -/
def execPendSet (m : Fin 10) (w : Fin 16) (value : Nat) (s : State) : Host.Outcome State Fault Refusal :=
  rowWrite true s m (regAddr .BFY_PENDSET w) value
def execPendClr (m : Fin 10) (w : Fin 16) (value : Nat) (s : State) : Host.Outcome State Fault Refusal :=
  rowWrite true s m (regAddr .BFY_PENDCLR w) value
def execMaskSet (m : Fin 10) (w : Fin 16) (value : Nat) (s : State) : Host.Outcome State Fault Refusal :=
  rowWrite true s m (regAddr .BFY_MASKSET w) value
def execMaskClr (m : Fin 10) (w : Fin 16) (value : Nat) (s : State) : Host.Outcome State Fault Refusal :=
  rowWrite true s m (regAddr .BFY_MASKCLR w) value

/-- COMPLETE (R349). -/
def execComplete (m : Fin 10) (value : Nat) (s : State) : Host.Outcome State Fault Refusal :=
  rowWrite true s m (regAddr .BFY_COMPLETE) value

/-- LOCK_ACQUIRE (R351): a read. -/
def execLockAcquire (m : Fin 10) (l : Fin 64) (s : State) : Host.Outcome State Fault Refusal :=
  .next (fabricRead s m (regAddr .LCK_ACQ l) 4)

/-- LOCK_RELEASE (R352). -/
def execLockRelease (m : Fin 10) (l : Fin 64) (s : State) : Host.Outcome State Fault Refusal :=
  rowWrite true s m (regAddr .LCK_REL l) 0

/-- LOCK_BREAK (R354). -/
def execLockBreak (m : Fin 10) (value : Nat) (s : State) : Host.Outcome State Fault Refusal :=
  rowWrite true s m (regAddr .LCK_BREAK) value

/-! ### Twin pairing -/

/-- LANE_DISABLE_DETACH (R368). -/
def execLaneDisableDetach (m : Fin 10) (value : Nat) (s : State) : Host.Outcome State Fault Refusal :=
  rowWrite (value % 4 != 3) s m (regAddr .TTH_CTRL) value

/-- TETHER_RETRAIN (R366). -/
def execTetherRetrain (m : Fin 10) (value : Nat) (s : State) : Host.Outcome State Fault Refusal :=
  rowWrite (bit value 5) s m (regAddr .TTH_CTRL) value

/-- DETACH_WRITE, ATTACH_WRITE (R383), HANDOVER_WRITE (R392). -/
def execDetachWrite (m : Fin 10) (value : Nat) (s : State) : Host.Outcome State Fault Refusal :=
  rowWrite (bit value 2) s m (regAddr .TTH_CTRL) value
def execAttachWrite (m : Fin 10) (value : Nat) (s : State) : Host.Outcome State Fault Refusal :=
  rowWrite (bit value 3) s m (regAddr .TTH_CTRL) value
def execHandoverWrite (m : Fin 10) (value : Nat) (s : State) : Host.Outcome State Fault Refusal :=
  rowWrite (bit value 4) s m (regAddr .TTH_CTRL) value

/-! ### Power and Cupola -/

/-- WATCHDOG_KICK (R402). -/
def execWatchdogKick (m : Fin 10) (value : Nat) (s : State) : Host.Outcome State Fault Refusal :=
  rowWrite true s m (regAddr .PMG_WDTKICK) value

/-- BUDGET_WRITE (R411). -/
def execBudgetWrite (m : Fin 10) (v : Fin 8) (value : Nat) (s : State) : Host.Outcome State Fault Refusal :=
  rowWrite true s m (regAddr .PMG_BUDGET v) value

/-- HOLD_WRITE (R412). -/
def execHoldWrite (m : Fin 10) (value : Nat) (s : State) : Host.Outcome State Fault Refusal :=
  rowWrite true s m (regAddr .PMG_HOLD) value

/-- DIRTY_CLEAR (R404). -/
def execDirtyClear (m : Fin 10) (d : Fin 20) (value : Nat) (s : State) : Host.Outcome State Fault Refusal :=
  rowWrite true s m (regAddr .PMG_DOMSTAT d) value

/-- THERMAL_EXIT_WRITE (R446). -/
def execThermalExitWrite (m : Fin 10) (value : Nat) (s : State) : Host.Outcome State Fault Refusal :=
  rowWrite true s m (regAddr .CUP_CTRL) value

end Sys2Proof.Machine
end

