-- ==== Sys2Proof/Machine/Dispatch.lean ====
section
/-! DEFINITION. The dispatch: one arm per command, one direct call of its meaning. -/

namespace Sys2Proof.Machine

def exec (i : Instr) (s : State) : Host.Outcome State Fault Refusal :=
  match i with
  | .registerWrite m addr width value => Sys2Proof.Machine.execRegisterWrite m addr width value s
  | .readClear m addr width => Sys2Proof.Machine.execReadClear m addr width s
  | .slotLowWrite m addr value => Sys2Proof.Machine.execSlotLowWrite m addr value s
  | .slotHighWrite m addr value => Sys2Proof.Machine.execSlotHighWrite m addr value s
  | .slotLowRead m addr => Sys2Proof.Machine.execSlotLowRead m addr s
  | .slotHighRead m addr => Sys2Proof.Machine.execSlotHighRead m addr s
  | .partnerRead m x width => Sys2Proof.Machine.execPartnerRead m x width s
  | .partnerAccessTimeout m => Sys2Proof.Machine.execPartnerAccessTimeout m s
  | .dmaStart m n value => Sys2Proof.Machine.execDmaStart m n value s
  | .dmaAccessDone n => Sys2Proof.Machine.execDmaAccessDone n s
  | .dmaDisable m n value => Sys2Proof.Machine.execDmaDisable m n value s
  | .saddleDecision b upsets => Sys2Proof.Machine.execSaddleDecision b upsets s
  | .eccWriteback b => Sys2Proof.Machine.execEccWriteback b s
  | .sarHoldEdge c code clip => Sys2Proof.Machine.execSarHoldEdge c code clip s
  | .resultPresent c => Sys2Proof.Machine.execResultPresent c s
  | .adcSlotW0Write m e value => Sys2Proof.Machine.execAdcSlotW0Write m e value s
  | .adcSlotW1Write m e value => Sys2Proof.Machine.execAdcSlotW1Write m e value s
  | .adcSlotactWrite m e w1 value => Sys2Proof.Machine.execAdcSlotactWrite m e w1 value s
  | .swapReq m => Sys2Proof.Machine.execSwapReq m s
  | .bankCopy m => Sys2Proof.Machine.execBankCopy m s
  | .copyEnd => Sys2Proof.Machine.execCopyEnd s
  | .converterDisable m c => Sys2Proof.Machine.execConverterDisable m c s
  | .fastSample m v => Sys2Proof.Machine.execFastSample m v s
  | .sdmOverrange m on => Sys2Proof.Machine.execSdmOverrange m on s
  | .meterSample m v => Sys2Proof.Machine.execMeterSample m v s
  | .meterPublish f => Sys2Proof.Machine.execMeterPublish f s
  | .energyLowRead m f p exported => Sys2Proof.Machine.execEnergyLowRead m f p exported s
  | .sdmDisable m n => Sys2Proof.Machine.execSdmDisable m n s
  | .comparatorCrossing k x => Sys2Proof.Machine.execComparatorCrossing k x s
  | .filterOutputChange k => Sys2Proof.Machine.execFilterOutputChange k s
  | .cmpCfgWrite m k value => Sys2Proof.Machine.execCmpCfgWrite m k value s
  | .settleEnd k => Sys2Proof.Machine.execSettleEnd k s
  | .cmpThrWrite m k value => Sys2Proof.Machine.execCmpThrWrite m k value s
  | .latchSoftClear m hi value => Sys2Proof.Machine.execLatchSoftClear m hi value s
  | .periodClearAttempt k => Sys2Proof.Machine.execPeriodClearAttempt k s
  | .comparatorDisable m k value => Sys2Proof.Machine.execComparatorDisable m k value s
  | .tripPinEdge p level => Sys2Proof.Machine.execTripPinEdge p level s
  | .tripFilterChange p => Sys2Proof.Machine.execTripFilterChange p s
  | .pincfgWrite m p value => Sys2Proof.Machine.execPincfgWrite m p value s
  | .swtripWrite m value => Sys2Proof.Machine.execSwtripWrite m value s
  | .reinActive r fine => Sys2Proof.Machine.execReinActive r fine s
  | .teamStart m t value => Sys2Proof.Machine.execTeamStart m t value s
  | .teamStop m t value => Sys2Proof.Machine.execTeamStop m t value s
  | .teamRestart m t value => Sys2Proof.Machine.execTeamRestart m t value s
  | .channelEnable m n value => Sys2Proof.Machine.execChannelEnable m n value s
  | .channelDisable m n value => Sys2Proof.Machine.execChannelDisable m n value s
  | .pwmWrap n => Sys2Proof.Machine.execPwmWrap n s
  | .refreshEnd n => Sys2Proof.Machine.execRefreshEnd n s
  | .compareMatch n x => Sys2Proof.Machine.execCompareMatch n x s
  | .periodEvent n => Sys2Proof.Machine.execPeriodEvent n s
  | .deadtimeTurnOn n low => Sys2Proof.Machine.execDeadtimeTurnOn n low s
  | .preloadWrite m n r value => Sys2Proof.Machine.execPreloadWrite m n r value s
  | .loadAll m value => Sys2Proof.Machine.execLoadAll m value s
  | .forceWrite m n value => Sys2Proof.Machine.execForceWrite m n value s
  | .esclClear m n value => Sys2Proof.Machine.execEsclClear m n value s
  | .spireMeasurement n stage => Sys2Proof.Machine.execSpireMeasurement n stage s
  | .calibrationGroupDone n => Sys2Proof.Machine.execCalibrationGroupDone n s
  | .tableInstall n => Sys2Proof.Machine.execTableInstall n s
  | .spireLock n => Sys2Proof.Machine.execSpireLock n s
  | .spireFault n => Sys2Proof.Machine.execSpireFault n s
  | .spireFaultClear m hi value => Sys2Proof.Machine.execSpireFaultClear m hi value s
  | .starvedTimeout n => Sys2Proof.Machine.execStarvedTimeout n s
  | .activationEnqueue k => Sys2Proof.Machine.execActivationEnqueue k s
  | .dispatch k => Sys2Proof.Machine.execDispatch k s
  | .laneNop k => Sys2Proof.Machine.execLaneNop k s
  | .laneEnd k => Sys2Proof.Machine.execLaneEnd k s
  | .laneMov k => Sys2Proof.Machine.execLaneMov k s
  | .laneLdi k => Sys2Proof.Machine.execLaneLdi k s
  | .laneMovs k => Sys2Proof.Machine.execLaneMovs k s
  | .laneAng k => Sys2Proof.Machine.execLaneAng k s
  | .laneAdd k => Sys2Proof.Machine.execLaneAdd k s
  | .laneSub k => Sys2Proof.Machine.execLaneSub k s
  | .laneNeg k => Sys2Proof.Machine.execLaneNeg k s
  | .laneAbs k => Sys2Proof.Machine.execLaneAbs k s
  | .laneMul k => Sys2Proof.Machine.execLaneMul k s
  | .laneMadd k => Sys2Proof.Machine.execLaneMadd k s
  | .laneMsub k => Sys2Proof.Machine.execLaneMsub k s
  | .laneAsh k => Sys2Proof.Machine.execLaneAsh k s
  | .laneMin k => Sys2Proof.Machine.execLaneMin k s
  | .laneMax k => Sys2Proof.Machine.execLaneMax k s
  | .laneClmp k => Sys2Proof.Machine.execLaneClmp k s
  | .laneSlew k => Sys2Proof.Machine.execLaneSlew k s
  | .laneAnd k => Sys2Proof.Machine.execLaneAnd k s
  | .laneOr k => Sys2Proof.Machine.execLaneOr k s
  | .laneXor k => Sys2Proof.Machine.execLaneXor k s
  | .laneCmp k => Sys2Proof.Machine.execLaneCmp k s
  | .laneAclr k => Sys2Proof.Machine.execLaneAclr k s
  | .laneAld k => Sys2Proof.Machine.execLaneAld k s
  | .laneAmac k => Sys2Proof.Machine.execLaneAmac k s
  | .laneAmsu k => Sys2Proof.Machine.execLaneAmsu k s
  | .laneArd k => Sys2Proof.Machine.execLaneArd k s
  | .laneClarke k => Sys2Proof.Machine.execLaneClarke k s
  | .laneIclarke k => Sys2Proof.Machine.execLaneIclarke k s
  | .lanePark k => Sys2Proof.Machine.execLanePark k s
  | .laneIpark k => Sys2Proof.Machine.execLaneIpark k s
  | .laneSincos k => Sys2Proof.Machine.execLaneSincos k s
  | .laneLd k => Sys2Proof.Machine.execLaneLd k s
  | .loadDataReturn k => Sys2Proof.Machine.execLoadDataReturn k s
  | .laneSt k => Sys2Proof.Machine.execLaneSt k s
  | .laneDuty k => Sys2Proof.Machine.execLaneDuty k s
  | .laneCommit k => Sys2Proof.Machine.execLaneCommit k s
  | .dutyLanding g => Sys2Proof.Machine.execDutyLanding g s
  | .laneEvt k => Sys2Proof.Machine.execLaneEvt k s
  | .laneSend k => Sys2Proof.Machine.execLaneSend k s
  | .laneDbl k => Sys2Proof.Machine.execLaneDbl k s
  | .laneBr k => Sys2Proof.Machine.execLaneBr k s
  | .laneCall k => Sys2Proof.Machine.execLaneCall k s
  | .laneRet k => Sys2Proof.Machine.execLaneRet k s
  | .illegalInstruction k => Sys2Proof.Machine.execIllegalInstruction k s
  | .pcOverflow k => Sys2Proof.Machine.execPcOverflow k s
  | .budgetExpiry k => Sys2Proof.Machine.execBudgetExpiry k s
  | .disableBoundExpiry k => Sys2Proof.Machine.execDisableBoundExpiry k s
  | .lregWrite m k n value => Sys2Proof.Machine.execLregWrite m k n value s
  | .laneApply m k => Sys2Proof.Machine.execLaneApply m k s
  | .applyExecute k => Sys2Proof.Machine.execApplyExecute k s
  | .pmemWrite m k n hi value => Sys2Proof.Machine.execPmemWrite m k n hi value s
  | .post m k value => Sys2Proof.Machine.execPost m k value s
  | .laneEnable m k => Sys2Proof.Machine.execLaneEnable m k s
  | .laneDisable m k => Sys2Proof.Machine.execLaneDisable m k s
  | .laneFaultClear m k => Sys2Proof.Machine.execLaneFaultClear m k s
  | .laeSample f => Sys2Proof.Machine.execLaeSample f s
  | .crossingTimeout f => Sys2Proof.Machine.execCrossingTimeout f s
  | .angleEvent f n => Sys2Proof.Machine.execAngleEvent f n s
  | .gateFire j rev => Sys2Proof.Machine.execGateFire j rev s
  | .thirdPhaseFire f => Sys2Proof.Machine.execThirdPhaseFire f s
  | .pulseEnd j rev => Sys2Proof.Machine.execPulseEnd j rev s
  | .picketPulse j rev => Sys2Proof.Machine.execPicketPulse j rev s
  | .misfireTimeout j rev => Sys2Proof.Machine.execMisfireTimeout j rev s
  | .windowClose j rev => Sys2Proof.Machine.execWindowClose j rev s
  | .currentZeroTimeout j => Sys2Proof.Machine.execCurrentZeroTimeout j s
  | .rampUpdate f => Sys2Proof.Machine.execRampUpdate f s
  | .pairDisable m j value => Sys2Proof.Machine.execPairDisable m j value s
  | .sagEntry f => Sys2Proof.Machine.execSagEntry f s
  | .sagExit f => Sys2Proof.Machine.execSagExit f s
  | .feedQualified f => Sys2Proof.Machine.execFeedQualified f s
  | .transferRequest m value => Sys2Proof.Machine.execTransferRequest m value s
  | .autoReturn => Sys2Proof.Machine.execAutoReturn s
  | .transferZeros => Sys2Proof.Machine.execTransferZeros s
  | .transferComplete => Sys2Proof.Machine.execTransferComplete s
  | .transferDeadline => Sys2Proof.Machine.execTransferDeadline s
  | .timerStep t => Sys2Proof.Machine.execTimerStep t s
  | .timerEnable m t value => Sys2Proof.Machine.execTimerEnable m t value s
  | .timerDisable m t value => Sys2Proof.Machine.execTimerDisable m t value s
  | .timerGo m value => Sys2Proof.Machine.execTimerGo m value s
  | .timerHalt m value => Sys2Proof.Machine.execTimerHalt m value s
  | .timerCntWrite m t value => Sys2Proof.Machine.execTimerCntWrite m t value s
  | .timerPinWrite m t value => Sys2Proof.Machine.execTimerPinWrite m t value s
  | .chainStagedWrite m t j value => Sys2Proof.Machine.execChainStagedWrite m t j value s
  | .wideReadLow m pair => Sys2Proof.Machine.execWideReadLow m pair s
  | .wideReadHigh m pair => Sys2Proof.Machine.execWideReadHigh m pair s
  | .harnessArrival => Sys2Proof.Machine.execHarnessArrival s
  | .softwareEvent m value => Sys2Proof.Machine.execSoftwareEvent m value s
  | .nextRouteWrite m n value => Sys2Proof.Machine.execNextRouteWrite m n value s
  | .routeApplyRequest m value => Sys2Proof.Machine.execRouteApplyRequest m value s
  | .routeApplyCancel m value => Sys2Proof.Machine.execRouteApplyCancel m value s
  | .coreInstruction c word => Sys2Proof.Machine.execCoreInstruction c word s
  | .coreLr c rd rs1 => Sys2Proof.Machine.execCoreLr c rd rs1 s
  | .coreSc c rd rs1 rs2 => Sys2Proof.Machine.execCoreSc c rd rs1 rs2 s
  | .coreAmo c op rd rs1 rs2 => Sys2Proof.Machine.execCoreAmo c op rd rs1 rs2 s
  | .reservationExpiry c => Sys2Proof.Machine.execReservationExpiry c s
  | .coreFence c => Sys2Proof.Machine.execCoreFence c s
  | .coreFenceI c => Sys2Proof.Machine.execCoreFenceI c s
  | .coreIret c => Sys2Proof.Machine.execCoreIret c s
  | .exitReturn c => Sys2Proof.Machine.execExitReturn c s
  | .lockstepMismatch p kind => Sys2Proof.Machine.execLockstepMismatch p kind s
  | .coreRelease m n => Sys2Proof.Machine.execCoreRelease m n s
  | .coreReset m n => Sys2Proof.Machine.execCoreReset m n s
  | .doorbellRing m value => Sys2Proof.Machine.execDoorbellRing m value s
  | .partnerRing value => Sys2Proof.Machine.execPartnerRing value s
  | .pendSet m w value => Sys2Proof.Machine.execPendSet m w value s
  | .pendClr m w value => Sys2Proof.Machine.execPendClr m w value s
  | .maskSet m w value => Sys2Proof.Machine.execMaskSet m w value s
  | .maskClr m w value => Sys2Proof.Machine.execMaskClr m w value s
  | .deliveryDecision => Sys2Proof.Machine.execDeliveryDecision s
  | .handlerStart c => Sys2Proof.Machine.execHandlerStart c s
  | .complete m value => Sys2Proof.Machine.execComplete m value s
  | .bankdataAccess c write rd => Sys2Proof.Machine.execBankdataAccess c write rd s
  | .lockAcquire m l => Sys2Proof.Machine.execLockAcquire m l s
  | .lockRelease m l => Sys2Proof.Machine.execLockRelease m l s
  | .lockBreak m value => Sys2Proof.Machine.execLockBreak m value s
  | .ownClaim => Sys2Proof.Machine.execOwnClaim s
  | .ownershipGain => Sys2Proof.Machine.execOwnershipGain s
  | .ownRelease => Sys2Proof.Machine.execOwnRelease s
  | .ownDeassert => Sys2Proof.Machine.execOwnDeassert s
  | .ownInChange level ticks => Sys2Proof.Machine.execOwnInChange level ticks s
  | .keepaliveExpiry => Sys2Proof.Machine.execKeepaliveExpiry s
  | .stateSend => Sys2Proof.Machine.execStateSend s
  | .trainingStart => Sys2Proof.Machine.execTrainingStart s
  | .trainingStepDone skew => Sys2Proof.Machine.execTrainingStepDone skew s
  | .trainingTimeout => Sys2Proof.Machine.execTrainingTimeout s
  | .laneLockLoss lane errors => Sys2Proof.Machine.execLaneLockLoss lane errors s
  | .healthTimeout => Sys2Proof.Machine.execHealthTimeout s
  | .laneDisableDetach m value => Sys2Proof.Machine.execLaneDisableDetach m value s
  | .tetherRetrain m value => Sys2Proof.Machine.execTetherRetrain m value s
  | .healthTx => Sys2Proof.Machine.execHealthTx s
  | .healthRx body ago => Sys2Proof.Machine.execHealthRx body ago s
  | .stateRx body locks => Sys2Proof.Machine.execStateRx body locks s
  | .ctrlDetachRx body => Sys2Proof.Machine.execCtrlDetachRx body s
  | .ctrlAttachRx body => Sys2Proof.Machine.execCtrlAttachRx body s
  | .ctrlHandoverRx body => Sys2Proof.Machine.execCtrlHandoverRx body s
  | .pingRx body => Sys2Proof.Machine.execPingRx body s
  | .pongRx body round => Sys2Proof.Machine.execPongRx body round s
  | .rdreqRx body => Sys2Proof.Machine.execRdreqRx body s
  | .rdrspRx body => Sys2Proof.Machine.execRdrspRx body s
  | .bellRx body => Sys2Proof.Machine.execBellRx body s
  | .bulkRx body => Sys2Proof.Machine.execBulkRx body s
  | .ackRx body => Sys2Proof.Machine.execAckRx body s
  | .bulkRetransmit => Sys2Proof.Machine.execBulkRetransmit s
  | .bridleCellTx => Sys2Proof.Machine.execBridleCellTx s
  | .bridleWordRx highs => Sys2Proof.Machine.execBridleWordRx highs s
  | .bridleEdgeTimeout => Sys2Proof.Machine.execBridleEdgeTimeout s
  | .discWindowEnd => Sys2Proof.Machine.execDiscWindowEnd s
  | .discErrorExpiry => Sys2Proof.Machine.execDiscErrorExpiry s
  | .teamRealign t => Sys2Proof.Machine.execTeamRealign t s
  | .prefseatWaitExpiry => Sys2Proof.Machine.execPrefseatWaitExpiry s
  | .waitbExpiry => Sys2Proof.Machine.execWaitbExpiry s
  | .snsEdge j => Sys2Proof.Machine.execSnsEdge j s
  | .ownConflictTimeout => Sys2Proof.Machine.execOwnConflictTimeout s
  | .detachWrite m value => Sys2Proof.Machine.execDetachWrite m value s
  | .attachWrite m value => Sys2Proof.Machine.execAttachWrite m value s
  | .handoverWrite m value => Sys2Proof.Machine.execHandoverWrite m value s
  | .handoverFilterExpiry => Sys2Proof.Machine.execHandoverFilterExpiry s
  | .suppliesValid => Sys2Proof.Machine.execSuppliesValid s
  | .supplyDrop rail ticks => Sys2Proof.Machine.execSupplyDrop rail ticks s
  | .pinReset ticks => Sys2Proof.Machine.execPinReset ticks s
  | .deviceResetRelease seat => Sys2Proof.Machine.execDeviceResetRelease seat s
  | .watchdogKick m value => Sys2Proof.Machine.execWatchdogKick m value s
  | .watchdogExpiry => Sys2Proof.Machine.execWatchdogExpiry s
  | .budgetWrite m v value => Sys2Proof.Machine.execBudgetWrite m v value s
  | .holdWrite m value => Sys2Proof.Machine.execHoldWrite m value s
  | .dirtyClear m d value => Sys2Proof.Machine.execDirtyClear m d value s
  | .domainEntry d => Sys2Proof.Machine.execDomainEntry d s
  | .domainWake d => Sys2Proof.Machine.execDomainWake d s
  | .domainOn d => Sys2Proof.Machine.execDomainOn d s
  | .pllLock cal => Sys2Proof.Machine.execPllLock cal s
  | .imageBoot => Sys2Proof.Machine.execImageBoot s
  | .nonliveSectionsDone => Sys2Proof.Machine.execNonliveSectionsDone s
  | .imageApplyInPlace => Sys2Proof.Machine.execImageApplyInPlace s
  | .mramWordProgrammed ok => Sys2Proof.Machine.execMramWordProgrammed ok s
  | .cupolaBurstStart n => Sys2Proof.Machine.execCupolaBurstStart n s
  | .sensorSample n uv low => Sys2Proof.Machine.execSensorSample n uv low s
  | .sensorStale n => Sys2Proof.Machine.execSensorStale n s
  | .graceExpiry limit => Sys2Proof.Machine.execGraceExpiry limit s
  | .enforcementEnd limit => Sys2Proof.Machine.execEnforcementEnd limit s
  | .limitRampWrite => Sys2Proof.Machine.execLimitRampWrite s
  | .shutdownRecord => Sys2Proof.Machine.execShutdownRecord s
  | .thermalExitWrite m value => Sys2Proof.Machine.execThermalExitWrite m value s
  | .spiTransaction p mosi => Sys2Proof.Machine.execSpiTransaction p mosi s
  | .canFragment n id data => Sys2Proof.Machine.execCanFragment n id data s
  | .fragmentTimeout n => Sys2Proof.Machine.execFragmentTimeout n s
  | .uartByte byte framing => Sys2Proof.Machine.execUartByte byte framing s
  | .uartGapTimeout => Sys2Proof.Machine.execUartGapTimeout s
  | .packetReceived p => Sys2Proof.Machine.execPacketReceived p s
  | .mgmtDownTimeout p => Sys2Proof.Machine.execMgmtDownTimeout p s
  | .hello => Sys2Proof.Machine.execHello s
  | .openSession => Sys2Proof.Machine.execOpenSession s
  | .closeSession => Sys2Proof.Machine.execCloseSession s
  | .hkeySet => Sys2Proof.Machine.execHkeySet s
  | .hkeyRevoke => Sys2Proof.Machine.execHkeyRevoke s
  | .imgKeySet => Sys2Proof.Machine.execImgKeySet s
  | .imgKeyRevoke => Sys2Proof.Machine.execImgKeyRevoke s
  | .secverSet => Sys2Proof.Machine.execSecverSet s
  | .imgInfo => Sys2Proof.Machine.execImgInfo s
  | .imgBegin => Sys2Proof.Machine.execImgBegin s
  | .imgWrite => Sys2Proof.Machine.execImgWrite s
  | .imgEnd => Sys2Proof.Machine.execImgEnd s
  | .imgConfirm => Sys2Proof.Machine.execImgConfirm s
  | .imgErase => Sys2Proof.Machine.execImgErase s
  | .spSet => Sys2Proof.Machine.execSpSet s
  | .spGet => Sys2Proof.Machine.execSpGet s
  | .laeStat => Sys2Proof.Machine.execLaeStat s
  | .xferCmd => Sys2Proof.Machine.execXferCmd s
  | .pairAng => Sys2Proof.Machine.execPairAng s
  | .pairEnCmd => Sys2Proof.Machine.execPairEnCmd s
  | .statusCmd => Sys2Proof.Machine.execStatusCmd s
  | .meterCmd => Sys2Proof.Machine.execMeterCmd s
  | .thermCmd => Sys2Proof.Machine.execThermCmd s
  | .noticeCfg => Sys2Proof.Machine.execNoticeCfg s
  | .budgetSet => Sys2Proof.Machine.execBudgetSet s
  | .budgetGet => Sys2Proof.Machine.execBudgetGet s
  | .holdCmd => Sys2Proof.Machine.execHoldCmd s
  | .thermCfg => Sys2Proof.Machine.execThermCfg s
  | .thermExit => Sys2Proof.Machine.execThermExit s
  | .shutRec => Sys2Proof.Machine.execShutRec s
  | .releaseCmd => Sys2Proof.Machine.execReleaseCmd s
  | .pairStat => Sys2Proof.Machine.execPairStat s
  | .handoverCmd => Sys2Proof.Machine.execHandoverCmd s
  | .detachCmd => Sys2Proof.Machine.execDetachCmd s
  | .attachCmd => Sys2Proof.Machine.execAttachCmd s
  | .logInfo => Sys2Proof.Machine.execLogInfo s
  | .logRead => Sys2Proof.Machine.execLogRead s
  | .logClear => Sys2Proof.Machine.execLogClear s
  | .estopCmd => Sys2Proof.Machine.execEstopCmd s
  | .resumeCmd => Sys2Proof.Machine.execResumeCmd s
  | .resumeWrite m value => Sys2Proof.Machine.execResumeWrite m value s
  | .resetCmd => Sys2Proof.Machine.execResetCmd s
  | .hostResetDue => Sys2Proof.Machine.execHostResetDue s
  | .peekCmd => Sys2Proof.Machine.execPeekCmd s
  | .pokeCmd => Sys2Proof.Machine.execPokeCmd s
  | .echoCmd => Sys2Proof.Machine.execEchoCmd s
  | .debugEn => Sys2Proof.Machine.execDebugEn s
  | .sessionIdleExpiry p => Sys2Proof.Machine.execSessionIdleExpiry p s
  | .lockoutExpiry p => Sys2Proof.Machine.execLockoutExpiry p s
  | .pmbusSnapshot => Sys2Proof.Machine.execPmbusSnapshot s
  | .pmbPage x => Sys2Proof.Machine.execPmbPage x s
  | .pmbClearFaults x => Sys2Proof.Machine.execPmbClearFaults x s
  | .pmbCapability x => Sys2Proof.Machine.execPmbCapability x s
  | .pmbVoutMode x => Sys2Proof.Machine.execPmbVoutMode x s
  | .pmbStatusByte x => Sys2Proof.Machine.execPmbStatusByte x s
  | .pmbStatusWord x => Sys2Proof.Machine.execPmbStatusWord x s
  | .pmbStatusIout x => Sys2Proof.Machine.execPmbStatusIout x s
  | .pmbStatusInput x => Sys2Proof.Machine.execPmbStatusInput x s
  | .pmbStatusTemperature x => Sys2Proof.Machine.execPmbStatusTemperature x s
  | .pmbStatusCml x => Sys2Proof.Machine.execPmbStatusCml x s
  | .pmbReadVin x => Sys2Proof.Machine.execPmbReadVin x s
  | .pmbReadIin x => Sys2Proof.Machine.execPmbReadIin x s
  | .pmbReadVout x => Sys2Proof.Machine.execPmbReadVout x s
  | .pmbReadIout x => Sys2Proof.Machine.execPmbReadIout x s
  | .pmbReadTemperature n x => Sys2Proof.Machine.execPmbReadTemperature n x s
  | .pmbReadFrequency x => Sys2Proof.Machine.execPmbReadFrequency x s
  | .pmbReadPout x => Sys2Proof.Machine.execPmbReadPout x s
  | .pmbReadPin x => Sys2Proof.Machine.execPmbReadPin x s
  | .pmbRevision x => Sys2Proof.Machine.execPmbRevision x s
  | .pmbMfrId x => Sys2Proof.Machine.execPmbMfrId x s
  | .pmbMfrModel x => Sys2Proof.Machine.execPmbMfrModel x s
  | .pmbMfrRevision x => Sys2Proof.Machine.execPmbMfrRevision x s
  | .pmbUnsupported code x => Sys2Proof.Machine.execPmbUnsupported code x s
  | .alertResponse => Sys2Proof.Machine.execAlertResponse s
  | .smbusTimeout => Sys2Proof.Machine.execSmbusTimeout s
  | .jtagExtest value => Sys2Proof.Machine.execJtagExtest value s
  | .jtagSample value => Sys2Proof.Machine.execJtagSample value s
  | .jtagIdcode => Sys2Proof.Machine.execJtagIdcode s
  | .jtagDebug => Sys2Proof.Machine.execJtagDebug s
  | .jtagSysreset => Sys2Proof.Machine.execJtagSysreset s
  | .jtagBypass code => Sys2Proof.Machine.execJtagBypass code s
  | .debugSessionEnd trst => Sys2Proof.Machine.execDebugSessionEnd trst s
  | .crossingComparatorEdge z rising => Sys2Proof.Machine.execCrossingComparatorEdge z rising s
  | .packetTransmitted p => Sys2Proof.Machine.execPacketTransmitted p s
  | .canBusError n tec rec => Sys2Proof.Machine.execCanBusError n tec rec s
  | .busOffRecovery n => Sys2Proof.Machine.execBusOffRecovery n s
  | .snapshotStale => Sys2Proof.Machine.execSnapshotStale s

end Sys2Proof.Machine
end

