-- ==== Sys2Proof/Machine/Time.lean ====
section
/-! DEFINITION. What one tick of 1.25 ns does by itself (R10, R17; log entry 6). -/

namespace Sys2Proof.Machine

/-- The Rein lines active in the tick that begins, and those of the tick before (R155, R156). -/
def reinStart (s : State) : State := { s with reinPrev := s.reinTick, reinTick := s.fget .REIN_STAT_ACTIVE }

/-- A tick of Spire and of every channel of the PWM, then of the channels that wait for a leading channel (R131, R136, R177). -/
def pwmTick (s : State) : State :=
  let t := (List.range 24).foldl chanTick (spireTick s)
  (List.range 24).foldl waitTick t

/-- A tick of the comparators and of the trip balls' filters (R102, R123). -/
def senseTick (s : State) : State :=
  if s.clockOn 14 then
    let t := (List.range 48).foldl cmpTick s
    { t with trip := t.trip.map pinTick }
  else s

/-- The timers end the tick that passes (R302). -/
def timersTick (s : State) : State := (List.range 16).foldl tmrTick s

/-- A tick of the cores' counters. -/
def coresTick (s : State) : State := lockTick (lockTick ((List.range 5).foldl coreTick s) 0) 1

/-- The model's clock, and the line-time counter while PLL-T is locked (R10, R313); what hardware set in cycles that are over is
forgotten (R17). -/
def clockTick (s : State) : State :=
  State.dropSets { s with now := s.now + 1, ltc := if s.flag .FAB_CLKSTAT_PLLT_LOCK then (s.ltc + 1) % 2 ^ 64 else s.ltc }

/-- The lanes and the Saddle store at each lane edge, then the accesses that were held and need wait no more. -/
def portsTick (s : State) : State :=
  let t := if s.ltc % 2 = 0 ∧ s.flag .FAB_CLKSTAT_PLLT_LOCK then saddleEdge ((List.range 32).foldl laneCycleEnd s) else s
  windowTick (if t.pw.held.isEmpty then t else releaseHeld t)

/-- One tick; while a device reset is asserted only the clock advances. -/
def tick (s : State) : State :=
  if s.pw.rst.isSome then clockTick s
  else
    let t := drvTick (portsTick (clockTick (syncTick (slotTick (timersTick s)))))
    let t := senseTick (pwmTick (reinStart t))
    let t := twinTick (laeTick t)
    pmbTick (jobTick (fyzTick (powerTick (cupTick (coresTick t)))))

end Sys2Proof.Machine
end

