-- ==== Sys2Proof/Safety.lean ====
section
/-! DEFINITION. What counts as a sound state and as safe outputs, in the terms the claims use. -/

namespace Sys2Proof.Machine

/-- A stored register field: the value has the field's length and is not its reset value. -/
def fieldOk (e : FKey × Nat) : Bool := decide (e.2 < 2 ^ e.1.f.len) && e.2 != e.1.f.reset e.1.i e.1.j

/-- The canonical form of the register store: keys rising, every value within its field and not its reset value. -/
def Regs.wf : List (FKey × Nat) → Bool
  | [] => true
  | [e] => fieldOk e
  | e :: d :: t => fieldOk e && e.1.lt d.1 && Regs.wf (d :: t)

/-- A state is sound: its memory and its register store have their canonical forms. -/
def Sound (s : State) : Prop := Memory.wf s.unlisted s.mem = true ∧ Regs.wf s.regs = true

/-- Two states agree on every register field but those of `p`. -/
def SameRegs (p : FKey → Prop) (s t : State) : Prop := ∀ f i j, ¬p ⟨f, i, j⟩ → t.fget f i j = s.fget f i j

/-- Two states hold the same bytes at every address outside `p`. -/
def SameMem (p : Nat → Prop) (s t : State) : Prop := ∀ a, ¬p a → t.byteAt a = s.byteAt a

/-- An access of master `m` at an address reaches it: the master may act, the address's domain is ON, and no earlier access of the
master to the same block waits (R27, R408). -/
def Reaches (s : State) (m a : Nat) : Prop := masterActs s m = true ∧ domOn s (addrDomain a) = true ∧ mustWait s m a = false

/-- The keys of the fields `fs`. -/
def Fields (fs : List Fld) (k : FKey) : Prop := k.f ∈ fs

/-- The keys of the fields `fs` of the instance `i` of their register. -/
def FieldsAt (fs : List Fld) (i : Nat) (k : FKey) : Prop := k.f ∈ fs ∧ k.i = i

/-- What every write of a register leaves as it is: all but the fields of `p` and DIRTY among the registers (R404), the note of what
hardware has set in this cycle (R17), and the response at the port of master `m`. -/
def WroteOnly (p : FKey → Prop) (m : Nat) (s t : State) : Prop :=
  t = { s with
    regs := t.regs
    hwSets := t.hwSets
    port := vput s.port m { s.portAt m with resp := some ⟨0, false⟩, reading := false } } ∧
    SameRegs (fun k => p k ∨ k.f = .PMG_DOMSTAT_DIRTY) s t

/-- What a command that is no fabric access leaves as it is: all but the fields of `p` among the registers, and the note of what
hardware has set in this cycle. -/
def ChangedOnly (p : FKey → Prop) (s t : State) : Prop := t = { s with regs := t.regs, hwSets := t.hwSets } ∧ SameRegs p s t

/-- What an instruction of lane `k` with the sequential next address leaves: it writes the local registers `ds`, and the flags when
`fl` (R205); memory and every other lane stay. -/
def LaneStep (ds : List Nat) (fl : Bool) (k : Nat) (s t : State) : Prop :=
  (t.laneAt k).pc = (s.laneAt k).pc + 1 ∧ t.mem = s.mem ∧ (∀ x, x ≠ k → t.laneAt x = s.laneAt x) ∧
    SameRegs (fun x => x.i = k ∧ (x.f = .LANE_LREG_VALUE ∧ x.j ∈ ds ∨ x.f ∈ [.LANE_PC_PC, .LANE_ECCCNT_PMCOR] ∨
      fl = true ∧ x.f ∈ [.LANE_STAT_Z, .LANE_STAT_N, .LANE_STAT_SAT, .LANE_STAT_LIM, .LANE_STAT_SATSEEN])) s t

/-- An S48 result and its flags (R206): L `rd` holds `x` (in units of 2⁻³²) limited to the S48 range, Z and N describe it, SAT says
whether the limit applied, LIM is `lim`. -/
def Saturated (k rd : Nat) (x : Int) (lim : Bool) (t : State) : Prop :=
  let y := clampI (-(2 ^ 47)) (2 ^ 47 - 1) x
  t.lregI k rd = y ∧ t.flag .LANE_STAT_Z k = decide (y = 0) ∧ t.flag .LANE_STAT_N k = decide (y < 0) ∧
    t.flag .LANE_STAT_SAT k = decide (x ≠ y) ∧ t.flag .LANE_STAT_LIM k = lim

/-- Several S48 results in consecutive registers from L `rd`, each limited to its range: Z and N describe the first, SAT says whether
any limit applied, LIM is clear (R205). -/
def SaturatedMany (k rd : Nat) (xs : List Int) (t : State) : Prop :=
  let y (x : Int) : Int := clampI (-(2 ^ 47)) (2 ^ 47 - 1) x
  (∀ i, i < xs.length → t.lregI k (rd + i) = y (xs.getD i 0)) ∧ t.flag .LANE_STAT_Z k = decide (y (xs.headD 0) = 0) ∧
    t.flag .LANE_STAT_N k = decide (y (xs.headD 0) < 0) ∧ t.flag .LANE_STAT_SAT k = xs.any (fun x => decide (x ≠ y x)) ∧
    t.flag .LANE_STAT_LIM k = false

/-- An accumulator sum (R208): accumulator `n` holds `x` (in units of 2⁻⁶⁴) limited to the Q40.64 range, Z and N describe it, SAT says
whether the limit applied; the other accumulator stays. -/
def Accumulated (k n : Nat) (x : Int) (s t : State) : Prop :=
  let y := clampI (-(2 ^ 103)) (2 ^ 103 - 1) x
  accI (t.laneAt k) n = y ∧ accI (t.laneAt k) (1 - n) = accI (s.laneAt k) (1 - n) ∧
    t.laneFlags k = ⟨decide (y = 0), decide (y < 0), decide (x ≠ y), false⟩

/-- Lane `k` has taken a fault (R242): its activation is over, and the fault is recorded with cause and address, or waits to be while
loads are outstanding. -/
def Faulted (k cause pc : Nat) (t : State) : Prop :=
  (t.laneAt k).active = false ∧
    ((t.laneAt k).loads = [] → t.fget .LANE_STAT_FAULT k = 1 ∧ t.fget .LANE_STAT_CAUSE k = cause ∧ t.fget .LANE_PC_FPC k = pc) ∧
    ((t.laneAt k).loads ≠ [] → (t.laneAt k).faultWait = some (cause, pc))

/-- No stage output is driven active: neither an input of a half-bridge driver nor a gate (R164, R289). -/
def outputsOff (s : State) : Bool :=
  ((List.range 24).all fun n => !ballActive s n false && !ballActive s n true) &&
    ((List.range 12).all fun j => !gateActive s j false && !gateActive s j true)

/-- Every level and priority a core holds is one of 0 to 15 (R339, R341). -/
def levelsOk (s : State) : Prop :=
  ∀ c, (s.coreAt c).level < 16 ∧ (s.coreAt c).entPrio < 16 ∧ (s.coreAt c).ctxLvl < 16 ∧ ∀ l, vget (s.coreAt c).linkLvl l < 16

/-- Core `c` alone has changed, and nothing else of the state: its register `rd` holds `v` unless it is x0, and its other registers of
the present level stay (R342). -/
def CoreWrote (c rd v : Nat) (s t : State) : Prop :=
  t = { s with core := t.core } ∧ (∀ x, x ≠ c → t.coreAt x = s.coreAt x) ∧ (t.coreAt c).level = (s.coreAt c).level ∧
    ((t.coreAt c).x rd).toNat = (if rd = 0 then 0 else v) ∧ ∀ i, i ≠ rd → (t.coreAt c).x i = (s.coreAt c).x i

/-- An exception of core `c`: cause and address are saved, MIE moves to MPIE and clears, the core goes on at the base of mtvec at
the same level (R348); nothing but the core changes. -/
def Excepted (c cause : Nat) (s t : State) : Prop :=
  t = { s with core := t.core } ∧ (∀ x, x ≠ c → t.coreAt x = s.coreAt x) ∧
    let x := s.coreAt c
    let y := t.coreAt c
    y.mcause = cause ∧ y.mepc = x.pc - x.pc % 2 ∧ y.mpie = x.mie ∧ y.mie = false ∧ y.pc = x.mtvec - x.mtvec % 4 ∧
      y.level = x.level ∧ y.bank = x.bank

/-- Core `c` alone has changed as `CoreWrote` says, but for the note of a memory's activity that an access leaves (R405). -/
def CoreLoaded (c rd v : Nat) (s t : State) : Prop := CoreWrote c rd v { s with pw := t.pw } t

/-- The word at an SRAM address that master `c` may use for an atomic access: aligned, its domain ON, without an uncorrectable error. -/
def AtomicAt (s : State) (a : Nat) : Prop :=
  0x10000000 ≤ a ∧ a < 0x10400000 ∧ a % 4 = 0 ∧ domOn s (addrDomain a) = true ∧ s.upsetAt (slotBaseOf a) ≠ some true

/-- Source `n` is pending. -/
def pended (s : State) (n : Nat) : Bool := s.fbit .BFY_PEND_W (n % 32) (n / 32)

/-- A device reset is asserted for `cause`: no output is driven, every register field is at its reset value but those that the reset
keeps (R400), and no byte of MRAM has changed. -/
def ResetHeld (por : Bool) (cause : Nat) (s t : State) : Prop :=
  t.pw.rst = some cause ∧ t.now = 0 ∧ outputsOff t = true ∧ t.pending = s.pending ∧
    (∀ f i j, t.fget f i j = if keptByReset por ⟨f, i, j⟩ then s.fget f i j else f.reset i j) ∧
    ∀ a, 0x30000000 ≤ a → a < 0x30800000 → t.byteAt a = s.byteAt a

/-- A packet is on its way out of port `p`: it is being sent, or waits among the replies. -/
def Outgoing (t : State) (p : Nat) (k : List Nat) : Prop := (t.fport p).tx = some k ∨ k ∈ (t.fport p).replies

/-- The ROM's oldest request is `r`, with the command `op` and the payload `b`: the management core is up and at no other request, the port
of `r` is enabled, and `r` carries an accepted MAC or needs none. -/
def RomAsked (s : State) (op : Nat) (r : FyzReq) (b : List Nat) : Prop :=
  s.fyz.reqs.head? = some r ∧ mgmtUp s = true ∧ romBusy s = false ∧ r.port < 5 ∧ portEn s r.port = true ∧ pktOp r.pkt = op ∧
    reqBody r.pkt = some b ∧ (r.mac.isSome || !needsSession s op) = true

/-- The ROM has answered `r`: the request is gone, the reply is on its way and kept against duplicates (R460, R461). -/
def RomAnswered (r : FyzReq) (st : Nat) (data : List Nat) (s t : State) : Prop :=
  t.fyz.reqs = s.fyz.reqs.tail ∧ (t.fport r.port).dup = some (r.pkt, replyPacket r st data) ∧
    Outgoing t r.port (replyPacket r st data)

/-- The ROM has answered `r`, and nothing but the queue of requests and the port of `r` has changed. -/
def RomReplied (r : FyzReq) (st : Nat) (data : List Nat) (s t : State) : Prop :=
  RomAnswered r st data s t ∧ t = { s with fyz := { s.fyz with reqs := t.fyz.reqs, port := t.fyz.port } } ∧
    ∀ q, q ≠ r.port → t.fport q = s.fport q

/-- The ROM has executed `r`, a command that programs words of MRAM: it is answered OK, or its answer waits until they are programmed
(R462). -/
def RomStored (r : FyzReq) (data : List Nat) (s t : State) : Prop :=
  (t.pw.mramBuf = [] → RomAnswered r stOk data s t) ∧
    (t.pw.mramBuf ≠ [] → t.fyz.reqs = s.fyz.reqs.tail ∧ t.fyz.store = some ⟨r, stOk, data, false⟩)

/-- The safety state machine's oldest request is `r`, with the command `op` and the payload `b`. -/
def SafeAsked (s : State) (op : Nat) (r : FyzReq) (b : List Nat) : Prop :=
  s.fyz.safe.head? = some r ∧ r.port < 5 ∧ pktOp r.pkt = op ∧ (reqBody r.pkt).getD [] = b

/-- The safety state machine has answered `r` (R474). -/
def SafeAnswered (r : FyzReq) (st : Nat) (data : List Nat) (s t : State) : Prop :=
  t.fyz.safe = s.fyz.safe.tail ∧ (t.fport r.port).safeDup = some (r.pkt, replyPacket r st data) ∧
    Outgoing t r.port (replyPacket r st data)

/-- A PMBus transaction that the responder serves: enabled and clocked, with a right PEC, or without one where none is required (R481). -/
def pmbServed (s : State) (x : PmbXfer) : Bool :=
  pmbLive s && (x.pec == some true || (x.pec == none && !s.flag .FYZ_PMB_CFG_PECREQ))

end Sys2Proof.Machine
end

