-- ==== Sys2Proof/Certificates/Slice0/Obligations.lean ====
section
/-! DEFINITION. The statements for the provers: what a step does, what every step keeps, and what each command does. A statement
about a command says that `exec` answers a next state, under conditions on the state and the operands alone, and what that state
holds. -/

open Sys2Proof Sys2Proof.Machine

/-! ### The machine -/

/-- A step executes the command at the front of the queue with the queue's rest. -/
def Obligations.StepRunsFrontCommand : Prop :=
  ∀ (c : Instr) (rest : List Instr) (s : State),
    step { s with pending := c :: rest } = exec c { s with pending := rest }

/-- Reset: every register field reads its reset value (R16), memory lists nothing, no command waits, no output is driven, no
lane runs, no master holds a reservation or a staged half. With no command waiting and a device reset asserted, a step is a tick
of the clock and of nothing else (R10; the idle tick is the model's choice, log entry 6). -/
def Obligations.ResetAndIdle : Prop :=
  (∀ f i j, State.reset.fget f i j = f.reset i j) ∧
  State.reset.mem = [] ∧
  State.reset.pending = [] ∧
  Sound State.reset ∧
  outputsOff State.reset = true ∧
  (∀ k, (State.reset.laneAt k).active = false) ∧
  (∀ c, (State.reset.coreAt c).resv = none) ∧
  (∀ m, (State.reset.portAt m).wstage = none) ∧
  (∀ (s : State), s.pending = [] → s.pw.rst.isSome = true →
     ∃ t, step s = .next t ∧ t.now = s.now + 1 ∧ t = { s with now := t.now, ltc := t.ltc })

/-- Every command answers a next state in every state: none ends in a fault or is refused. -/
def Obligations.EveryCommandAnswers : Prop :=
  ∀ (c : Instr) (s : State), ∃ t, exec c s = .next t

/-- The canonical forms of memory and of the register store hold after every step. -/
def Obligations.StepKeepsSound : Prop :=
  ∀ (s t : State), Sound s → step s = .next t → Sound t

/-- A lane instruction with its fields, encoded and decoded, is itself. A word of program memory that decodes is the encoding of
what it decodes to: no two words are one instruction. -/
def Obligations.LaneCodec : Prop :=
  (∀ (mn : LaneMn) (f : LaneWord), laneLegal mn f = true → laneDecode (laneEncode mn f) = some (mn, f)) ∧
  (∀ (w : Nat) (mn : LaneMn) (f : LaneWord), w < 2 ^ 64 → laneDecode w = some (mn, f) →
     laneLegal mn f = true ∧ laneEncode mn f = w)

/-! ### Fabric, Saddle store and DMA -/

/-- REGISTER_WRITE: a RW field takes the value written, a W1C field is cleared by a 1 and kept by a 0 (R14), except that a bit which
hardware has set in the same cycle stays set (R17); a write to SRAM stores its bytes, the lowest at the lowest address (R19), and no
other byte. A write at an address with nothing behind it, or of a width its register does not take, draws an error response, is counted,
is recorded when no error is held, and lands nowhere; to a running core it is an access fault (R24). READ_CLEAR: a read of a counter with access code RC returns it and clears it
(R14). SLOT_LOW_WRITE: the low half of a 48-bit slot is staged and changes no register or Saddle word. SLOT_HIGH_WRITE: the high
half joins the half staged for the slot with its own 16 bits, and with none staged the low half that the slot holds; at the Saddle store a
core's write is one request of its own port, with none staged a locked read-modify-write (R31, R32). SLOT_LOW_READ returns bits 31 to 0 and
latches the rest; SLOT_HIGH_READ returns what was latched for the slot, with copies of bit 47 above, and with nothing latched what the
slot holds; a core's read at the Saddle store is one request of its own port (R33). -/
def Obligations.RegisterAccesses : Prop :=
  (∀ (m : Fin 10) (n : Fin 2) (v : Nat) (s : State), Reaches s m (regAddr .FAB_DMA_SRC n) →
     ∃ t, exec (.registerWrite m (regAddr .FAB_DMA_SRC n) 32 v) s = .next t ∧
       t.fget .FAB_DMA_SRC_ADDR n = v / 8 % 2 ^ 29 ∧ WroteOnly (FieldsAt [.FAB_DMA_SRC_ADDR] n) m s t) ∧
  (∀ (m : Fin 10) (v : Nat) (s : State), Reaches s m (regAddr .SDL_ECCADDR) → s.fget .SDL_ECCADDR_VALID = 1 →
     s.setNow .SDL_ECCADDR_VALID 0 0 = 0 →
     ∃ t, exec (.registerWrite m (regAddr .SDL_ECCADDR) 32 v) s = .next t ∧
       t.fget .SDL_ECCADDR_VALID = b2n (!bit v 16) ∧ WroteOnly (Fields [.SDL_ECCADDR_VALID]) m s t) ∧
  (∀ (m : Fin 10) (a w v : Nat) (s : State), w ∈ [1, 2, 4, 8] → a % w = 0 → 0x10000000 ≤ a → a + w ≤ 0x10400000 →
     Reaches s m a →
     ∃ t, exec (.registerWrite m a (8 * w) v) s = .next t ∧ (∀ i, i < w → t.byteAt (a + i) = v / 256 ^ i % 256) ∧
       SameMem (fun x => a ≤ x ∧ x < a + w) s t ∧ SameRegs (Fields [.PMG_DOMSTAT_DIRTY]) s t ∧
       (t.portAt m).resp = some ⟨0, false⟩) ∧
  (∀ (m : Fin 10) (a w v : Nat) (s : State), 5 ≤ m.val → masterActs s m = true → a < 2 ^ 32 → regionOf a = .none →
     s.flag .FAB_ERRSTAT_UNMAPPED = false → s.flag .FAB_ERRSTAT_WIDTH = false → s.flag .FAB_ERRSTAT_PARTNER = false →
     ∃ t, exec (.registerWrite m a w v) s = .next t ∧ (t.portAt m).resp = some ⟨0, true⟩ ∧
       t.fget .FAB_ERRSTAT_UNMAPPED = 1 ∧ t.fget .FAB_ERRSTAT_MASTER = m ∧ t.fget .FAB_ERRADDR_ADDR = a ∧
       t.fget .FAB_ERRCNT_COUNT = min 65535 (s.fget .FAB_ERRCNT_COUNT + 1) ∧ t.mem = s.mem ∧
       SameRegs (Fields [.FAB_ERRSTAT_UNMAPPED, .FAB_ERRSTAT_MASTER, .FAB_ERRADDR_ADDR, .FAB_ERRCNT_COUNT]) s t) ∧
  (∀ (m : Fin 10) (s : State), (s.coreAt m).wait = none → Reaches s m (regAddr .SDL_ECCCOR) →
     ∃ t, exec (.readClear m (regAddr .SDL_ECCCOR) 32) s = .next t ∧
       (t.portAt m).resp = some ⟨s.fget .SDL_ECCCOR_COUNT, false⟩ ∧ t.fget .SDL_ECCCOR_COUNT = 0 ∧
       t = { s with regs := t.regs, port := t.port } ∧ SameRegs (Fields [.SDL_ECCCOR_COUNT]) s t) ∧
  (∀ (m : Fin 10) (i : Fin 32) (v : Nat) (s : State), Reaches s m (regAddr .ADC_SCALE_GAIN i) →
     ∃ t, exec (.slotLowWrite m (regAddr .ADC_SCALE_GAIN i) v) s = .next t ∧
       (t.portAt m).wstage = some (regAddr .ADC_SCALE_GAIN i, v % 2 ^ 32) ∧ t.mem = s.mem ∧
       SameRegs (Fields [.PMG_DOMSTAT_DIRTY]) s t) ∧
  (∀ (m : Fin 10) (i : Fin 32) (lo v : Nat) (s : State), Reaches s m (regAddr .ADC_SCALE_GAIN i) →
     (s.portAt m).wstage = some (regAddr .ADC_SCALE_GAIN i, lo) → lo < 2 ^ 32 →
     ∃ t, exec (.slotHighWrite m (regAddr .ADC_SCALE_GAIN i) v) s = .next t ∧
       t.fget .ADC_SCALE_GAIN_GAIN i = lo + v % 2 ^ 16 * 2 ^ 32 ∧ (t.portAt m).wstage = none ∧ t.mem = s.mem ∧
       SameRegs (fun k => FieldsAt [.ADC_SCALE_GAIN_GAIN] i k ∨ k.f = .PMG_DOMSTAT_DIRTY) s t) ∧
  (∀ (m : Fin 10) (i : Fin 32) (s : State), (s.coreAt m).wait = none → Reaches s m (regAddr .ADC_SCALE_GAIN i) →
     ∃ t, exec (.slotLowRead m (regAddr .ADC_SCALE_GAIN i)) s = .next t ∧
       (t.portAt m).resp = some ⟨s.fget .ADC_SCALE_GAIN_GAIN i % 2 ^ 32, false⟩ ∧
       (t.portAt m).rhold = some (regAddr .ADC_SCALE_GAIN i, s.fget .ADC_SCALE_GAIN_GAIN i / 2 ^ 32) ∧
       t = { s with port := t.port }) ∧
  (∀ (m : Fin 10) (i : Fin 32) (u : Nat) (s : State), (s.coreAt m).wait = none → Reaches s m (regAddr .ADC_SCALE_GAIN i) →
     (s.portAt m).rhold = some (regAddr .ADC_SCALE_GAIN i, u) →
     ∃ t, exec (.slotHighRead m (regAddr .ADC_SCALE_GAIN i)) s = .next t ∧
       (t.portAt m).resp = some ⟨twos 32 (sext 16 u), false⟩ ∧ (t.portAt m).rhold = none ∧ t = { s with port := t.port }) ∧
  (∀ (m : Fin 10) (n : Fin 2) (w v : Nat) (s : State), 5 ≤ m.val → masterActs s m = true → w = 8 ∨ w = 16 →
     s.flag .FAB_ERRSTAT_UNMAPPED = false → s.flag .FAB_ERRSTAT_WIDTH = false → s.flag .FAB_ERRSTAT_PARTNER = false →
     ∃ t, exec (.registerWrite m (regAddr .FAB_DMA_SRC n) w v) s = .next t ∧ (t.portAt m).resp = some ⟨0, true⟩ ∧
       t.fget .FAB_ERRSTAT_WIDTH = 1 ∧ t.fget .FAB_ERRSTAT_MASTER = m ∧
       t.fget .FAB_ERRADDR_ADDR = regAddr .FAB_DMA_SRC n ∧
       t.fget .FAB_ERRCNT_COUNT = min 65535 (s.fget .FAB_ERRCNT_COUNT + 1) ∧ t.mem = s.mem ∧
       SameRegs (Fields [.FAB_ERRSTAT_WIDTH, .FAB_ERRSTAT_MASTER, .FAB_ERRADDR_ADDR, .FAB_ERRCNT_COUNT]) s t) ∧
  (∀ (m : Fin 10) (s : State), Reaches s m (regAddr .SDL_ECCADDR) → s.fget .SDL_ECCADDR_VALID = 1 →
     s.setNow .SDL_ECCADDR_VALID 0 0 = 1 →
     ∃ t, exec (.registerWrite m (regAddr .SDL_ECCADDR) 32 (2 ^ 16)) s = .next t ∧ t.fget .SDL_ECCADDR_VALID = 1) ∧
  (∀ (m : Fin 10) (i : Fin 32) (v : Nat) (s : State), Reaches s m (regAddr .ADC_SCALE_GAIN i) → (s.portAt m).wstage = none →
     ∃ t, exec (.slotHighWrite m (regAddr .ADC_SCALE_GAIN i) v) s = .next t ∧
       t.fget .ADC_SCALE_GAIN_GAIN i = s.fget .ADC_SCALE_GAIN_GAIN i % 2 ^ 32 + v % 2 ^ 16 * 2 ^ 32 ∧ t.mem = s.mem) ∧
  (∀ (m : Fin 10) (i : Fin 32) (s : State), (s.coreAt m).wait = none → Reaches s m (regAddr .ADC_SCALE_GAIN i) →
     (s.portAt m).rhold = none →
     ∃ t, exec (.slotHighRead m (regAddr .ADC_SCALE_GAIN i)) s = .next t ∧
       (t.portAt m).resp = some ⟨twos 32 (sext 16 (s.fget .ADC_SCALE_GAIN_GAIN i / 2 ^ 32)), false⟩ ∧
       t = { s with port := t.port }) ∧
  (∀ (m : Fin 5) (w : Fin 65536) (v : Nat) (s : State), Reaches s m (saddleAddr w) →
     ∃ t, exec (.slotLowWrite (m.castLE (by decide)) (saddleAddr w) v) s = .next t ∧
       (t.portAt m).wstage = some (saddleAddr w, v % 2 ^ 32) ∧ t.mem = s.mem ∧ t.bank = s.bank) ∧
  (∀ (m : Fin 5) (w : Fin 65536) (lo v : Nat) (s : State), Reaches s m (saddleAddr w) →
     (s.portAt m).wstage = some (saddleAddr w, lo) →
     ∃ t, exec (.slotHighWrite (m.castLE (by decide)) (saddleAddr w) v) s = .next t ∧ t.mem = s.mem ∧ (t.portAt m).wstage = none ∧
       (t.bankAt (wordBank w)).req = (s.bankAt (wordBank w)).req ++
         [⟨8 + m, s.sdlSeq, w, 1, true, [lo % 2 ^ 32 + v % 2 ^ 16 * 2 ^ 32], .coreWrite m, s.laneEdge, false, false, false⟩]) ∧
  (∀ (m : Fin 5) (w : Fin 65536) (v : Nat) (s : State), Reaches s m (saddleAddr w) → (s.portAt m).wstage = none →
     ∃ t, exec (.slotHighWrite (m.castLE (by decide)) (saddleAddr w) v) s = .next t ∧ t.mem = s.mem ∧
       (t.bankAt (wordBank w)).req = (s.bankAt (wordBank w)).req ++
         [⟨8 + m, s.sdlSeq, w, 2, true, [v % 2 ^ 32], .coreRmw m, s.laneEdge, false, false, false⟩]) ∧
  (∀ (m : Fin 5) (w : Fin 65536) (s : State), Reaches s m (saddleAddr w) →
     ∃ t, exec (.slotLowRead (m.castLE (by decide)) (saddleAddr w)) s = .next t ∧ t.mem = s.mem ∧ (t.portAt m).reading = true ∧
       (t.bankAt (wordBank w)).req = (s.bankAt (wordBank w)).req ++
         [⟨8 + m, s.sdlSeq, w, 1, false, [], .coreRead m false, s.laneEdge, false, false, false⟩]) ∧
  (∀ (m : Fin 5) (w : Fin 65536) (u : Nat) (s : State), (s.coreAt m).wait = none → Reaches s m (saddleAddr w) →
     (s.portAt m).rhold = some (saddleAddr w, u) →
     ∃ t, exec (.slotHighRead (m.castLE (by decide)) (saddleAddr w)) s = .next t ∧
       (t.portAt m).resp = some ⟨twos 32 (sext 16 u), false⟩ ∧ (t.portAt m).rhold = none ∧ t = { s with port := t.port }) ∧
  (∀ (m : Fin 5) (w : Fin 65536) (s : State), Reaches s m (saddleAddr w) → (s.portAt m).rhold = none →
     ∃ t, exec (.slotHighRead (m.castLE (by decide)) (saddleAddr w)) s = .next t ∧ t.mem = s.mem ∧ (t.portAt m).reading = true ∧
       (t.bankAt (wordBank w)).req = (s.bankAt (wordBank w)).req ++
         [⟨8 + m, s.sdlSeq, w, 1, false, [], .coreRead m true, s.laneEdge, false, false, false⟩]) ∧
  (∀ (m : Fin 5) (a w v : Nat) (s : State), masterActs s m = true → (s.coreAt m).phase = .running → regionOf a = .none →
     ∃ t, exec (.registerWrite (m.castLE (by decide)) a w v) s = .next t ∧ (t.coreAt m).mcause = causeStoreFault ∧
       (t.coreAt m).mepc = (s.coreAt m).pc - (s.coreAt m).pc % 2 ∧ (t.portAt m).resp = some ⟨0, true⟩ ∧ t.mem = s.mem ∧
       ∀ x, x ≠ m.val → t.coreAt x = s.coreAt x)

/-- PARTNER_READ: with the link trained, a read of 32 bits in the partner's SRAM is sent, RDREQ with the master, the width and the
address, and the port waits for the answer; a half of a slot asks for the whole slot, a high half that the port holds is answered at once
(R28, R33); with the link down the read waits for its error response, with no other effect. PARTNER_ACCESS_TIMEOUT then answers it with
an error and records it (R30). DMA_START with EN and a count makes the engine busy with the transfer of its registers (R53). DMA_DISABLE
lets no further burst begin (R54). DMA_ACCESS_DONE: the engine takes the slot that a read in SRAM has brought, and goes on, and writes
a slot that it holds to SRAM (R53, R505); after the last access of the transfer it ends with DONE (R53), after EN was cleared without
(R54), at an error response with ERR; DONE and ERR ring DMA_DONE_n. -/
def Obligations.PartnerWindowAndDma : Prop :=
  (∀ (m : Fin 10) (x : Nat) (s : State), masterActs s m = true → linkUp s = false →
     0x10000000 ≤ x → x + 4 ≤ 0x10400000 → x % 4 = 0 →
     ∃ t, exec (.partnerRead m x 32) s = .next t ∧ vget t.partnerRd m = some (x, 4) ∧
       (t.portAt m).resp = none ∧ t = { s with partnerRd := t.partnerRd, port := t.port }) ∧
  (∀ (m : Fin 10) (x w : Nat) (s : State), (s.coreAt m).wait = none → linkUp s = false → vget s.partnerRd m = some (x, w) →
     s.flag .FAB_ERRSTAT_UNMAPPED = false → s.flag .FAB_ERRSTAT_WIDTH = false → s.flag .FAB_ERRSTAT_PARTNER = false →
     ∃ t, exec (.partnerAccessTimeout m) s = .next t ∧ vget t.partnerRd m = none ∧
       (t.portAt m).resp = some ⟨0, true⟩ ∧ t.fget .FAB_ERRSTAT_PARTNER = 1 ∧
       t.fget .FAB_ERRADDR_ADDR = (0x80000000 + x) % 2 ^ 32 ∧
       SameRegs (Fields [.FAB_ERRSTAT_PARTNER, .FAB_ERRSTAT_MASTER, .FAB_ERRADDR_ADDR, .FAB_ERRCNT_COUNT]) s t) ∧
  (∀ (m : Fin 10) (n : Fin 2) (v : Nat) (s : State), Reaches s m (regAddr .FAB_DMA_CTRL n) → v < 2 ^ 32 →
     s.flag .FAB_DMA_CTRL_BUSY n = false → bit v 20 = true → bit v 24 = true → v % 65536 ≠ 0 →
     ∃ t, exec (.dmaStart m n v) s = .next t ∧ t.fget .FAB_DMA_CTRL_BUSY n = 1 ∧
       (t.dmaAt n).src = 8 * s.fget .FAB_DMA_SRC_ADDR n ∧ (t.dmaAt n).dst = 8 * s.fget .FAB_DMA_DST_ADDR n ∧
       (t.dmaAt n).burst = bits v 16 3 + 1 ∧ (t.dmaAt n).toRead = min (bits v 16 3 + 1) (v % 65536) ∧
       (t.dmaAt n).left + (t.dmaAt n).toRead = v % 65536 ∧ t.mem = s.mem) ∧
  (∀ (m : Fin 10) (n : Fin 2) (v : Nat) (s : State), Reaches s m (regAddr .FAB_DMA_CTRL n) → v < 2 ^ 32 →
     s.flag .FAB_DMA_CTRL_BUSY n = true → bit v 24 = false →
     ∃ t, exec (.dmaDisable m n v) s = .next t ∧ (t.dmaAt n).stopping = true ∧
       t.fget .FAB_DMA_CTRL_BUSY n = s.fget .FAB_DMA_CTRL_BUSY n ∧ t.fget .FAB_DMA_CTRL_EN n = 0 ∧ t.mem = s.mem) ∧
  (∀ (n : Fin 2) (s : State), s.flag .FAB_DMA_CTRL_BUSY n = true → (s.dmaAt n).arrived = true → (s.dmaAt n).err = true →
     ∃ t, exec (.dmaAccessDone n) s = .next t ∧ t.fget .FAB_DMA_CTRL_BUSY n = 0 ∧ t.fget .FAB_DMA_CTRL_ERR n = 1 ∧
       t.fbit .BFY_PEND_W (3 + n) 3 = true ∧ t.mem = s.mem) ∧
  (∀ (m : Fin 10) (x : Nat) (s : State), masterActs s m = true → linkUp s = true → 0x10000000 ≤ x → x + 4 ≤ 0x10400000 →
     x % 4 = 0 →
     ∃ t, exec (.partnerRead m x 32) s = .next t ∧ vget t.partnerRd m = some (x, 4) ∧ (t.portAt m).reading = true ∧
       t = { s with
         partnerRd := t.partnerRd,
         port := t.port,
         twin := { s.twin with txq := s.twin.txq ++ [⟨tyRdreq, leBytes 4 (m + 256 * 4) ++ leBytes 4 x, s.now⟩] } }) ∧
  (∀ (m : Fin 10) (x u : Nat) (s : State), masterActs s m = true → linkUp s = true → (s.coreAt m).wait = none →
     m.val ≠ 5 → m.val ≠ 6 → 0x20000000 ≤ x → x < 0x20080000 → x % 8 = 4 → (s.portAt m).rhold = some (0x80000000 + x - 4, u) →
     ∃ t, exec (.partnerRead m x 32) s = .next t ∧ (t.portAt m).resp = some ⟨twos 32 (sext 16 u), false⟩ ∧
       (t.portAt m).rhold = none ∧ t = { s with port := t.port }) ∧
  (∀ (n : Fin 2) (s : State), s.flag .FAB_DMA_CTRL_BUSY n = true → (s.dmaAt n).arrived = true → (s.dmaAt n).err = false →
     (s.dmaAt n).toRead = 0 → (s.dmaAt n).buf = [] → (s.dmaAt n).left = 0 → (s.dmaAt n).stopping = false →
     ∃ t, exec (.dmaAccessDone n) s = .next t ∧ t.fget .FAB_DMA_CTRL_BUSY n = 0 ∧ t.fget .FAB_DMA_CTRL_DONE n = 1 ∧
       t.fget .FAB_DMA_CTRL_ERR n = s.fget .FAB_DMA_CTRL_ERR n ∧ t.fbit .BFY_PEND_W (3 + n) 3 = true ∧ t.mem = s.mem) ∧
  (∀ (n : Fin 2) (s : State), s.flag .FAB_DMA_CTRL_BUSY n = true → (s.dmaAt n).arrived = true → (s.dmaAt n).err = false →
     (s.dmaAt n).toRead = 0 → (s.dmaAt n).buf = [] → (s.dmaAt n).stopping = true →
     ∃ t, exec (.dmaAccessDone n) s = .next t ∧ t.fget .FAB_DMA_CTRL_BUSY n = 0 ∧
       t.fget .FAB_DMA_CTRL_DONE n = s.fget .FAB_DMA_CTRL_DONE n ∧ t.mem = s.mem ∧
       SameRegs (FieldsAt [.FAB_DMA_CTRL_BUSY] n) s t) ∧
  (∀ (n : Fin 2) (s : State), s.flag .FAB_DMA_CTRL_BUSY n = true → (s.dmaAt n).arrived = false → (s.dmaAt n).parts = 0 →
     (s.dmaAt n).asked = false → 2 ≤ (s.dmaAt n).toRead → 0x10000000 ≤ (s.dmaAt n).src → (s.dmaAt n).src + 8 ≤ 0x10400000 →
     (s.dmaAt n).src % 8 = 0 → domOn s (addrDomain (s.dmaAt n).src) = true → s.pw.held = [] →
     s.upsetAt (s.dmaAt n).src ≠ some true →
     ∃ t, exec (.dmaAccessDone n) s = .next t ∧ (t.dmaAt n).toRead + 1 = (s.dmaAt n).toRead ∧
       (t.dmaAt n).src = (s.dmaAt n).src + 8 ∧ (t.dmaAt n).buf = (s.dmaAt n).buf ++ [s.loadMem (s.dmaAt n).src 8] ∧
       t.fget .FAB_DMA_CTRL_BUSY n = s.fget .FAB_DMA_CTRL_BUSY n ∧ t.mem = s.mem) ∧
  (∀ (n : Fin 2) (v : Nat) (rest : List Nat) (s : State), s.flag .FAB_DMA_CTRL_BUSY n = true → (s.dmaAt n).arrived = false →
     (s.dmaAt n).parts = 0 → (s.dmaAt n).asked = false → (s.dmaAt n).toRead = 0 → (s.dmaAt n).buf = v :: rest → rest ≠ [] →
     0x10000000 ≤ (s.dmaAt n).dst → (s.dmaAt n).dst + 8 ≤ 0x10400000 → (s.dmaAt n).dst % 8 = 0 →
     domOn s (addrDomain (s.dmaAt n).dst) = true → s.pw.held = [] →
     ∃ t, exec (.dmaAccessDone n) s = .next t ∧ (t.dmaAt n).buf = rest ∧ (t.dmaAt n).dst = (s.dmaAt n).dst + 8 ∧
       t.loadMem (s.dmaAt n).dst 8 = v % 2 ^ 64 ∧
       SameMem (fun a => (s.dmaAt n).dst ≤ a ∧ a < (s.dmaAt n).dst + 8) s t)

/-- SADDLE_DECISION: a request that is alone at its bank is granted: it leaves those that wait and owns the bank, the next decision comes
with its last beat, and its requester drops to the lowest rank of its class; the other banks and memory stay (R45, R47). A granted
core's whole-word write stores the word at its beat, and nothing beside the word, and its port has its response (R504). At a bank
that is not free no decision is taken (R45). ECC_WRITEBACK: the oldest corrected word of the bank is written back and holds no bit error
any more; in a cycle with a beat of the bank it waits (R43). -/
def Obligations.SaddleStore : Prop :=
  (∀ (b : Fin 4) (r : SdlReq) (s : State), s.pw.rst = none → decisionEdge s b = true → (s.bankAt b).req = [r] → r.asserted = true →
     r.who < 16 → (∀ k : Fin 4, r.who ∈ vget (s.bankAt b).rank k) →
     ∃ t, exec (.saddleDecision b []) s = .next t ∧ (t.bankAt b).req = [] ∧ (t.bankAt b).cur = some r ∧ (t.bankAt b).done = 0 ∧
       (t.bankAt b).nextDec = s.laneEdge + 2 * r.beats ∧ vget (t.bankAt b).loss r.who = 0 ∧
       (vget (t.bankAt b).rank (sdlCompete s b r.who)).getLast? = some r.who ∧
       (∀ x : Fin 4, x ≠ b → t.bankAt x = s.bankAt x) ∧ t = { s with regs := t.regs, bank := t.bank } ∧
       SameRegs (FieldsAt [.SDL_BANK_WAITMAX_CYCLES, .SDL_BANK_WAITMAX_WHO] b) s t) ∧
  (∀ (b : Fin 4) (w : Nat) (rest : List Nat) (s : State), (s.bankAt b).writeback = w :: rest →
     (s.bankAt b).beatAt ≠ some s.laneEdge →
     ∃ t, exec (.eccWriteback b) s = .next t ∧ (t.bankAt b).writeback = rest ∧ t.upsetAt (saddleAddr w) = none ∧
       t = { s with bank := t.bank, upsets := t.upsets }) ∧
  (∀ (b c : Nat) (w v : Nat) (r : SdlReq) (s : State), (s.bankAt b).cur = some r → (s.bankAt b).done = 0 → r.beats = 1 →
     r.word = w → r.data = [v] → r.use = .coreWrite c → b < 4 → w / 16384 = b → v < 2 ^ 48 → c < 10 → (s.portAt c).reading = false →
     (bankBeat s b).saddle w = v ∧ SameMem (fun a => saddleAddr w ≤ a ∧ a < saddleAddr w + 6) s (bankBeat s b) ∧
       ((bankBeat s b).bankAt b).cur = none ∧ ((bankBeat s b).portAt c).resp = some ⟨0, false⟩ ∧ (bankBeat s b).regs = s.regs) ∧
  (∀ (b : Fin 4) (u : List (Nat × Bool)) (s : State), decisionEdge s b = false → exec (.saddleDecision b u) s = .next s) ∧
  (∀ (b : Fin 4) (s : State), (s.bankAt b).beatAt = some s.laneEdge → exec (.eccWriteback b) s = .next s)

/-! ### Converters and sigma-delta inputs -/

/-- SAR_HOLD_EDGE: the last conversion of a visit ends it and makes its result, with the code converted, the end code of an input beyond
full scale, and CLIP when a code of the visit was an end code of its mode, to be presented at the first result-clock edge at least 13 ticks later (R56, R61, R62); one
before the last is followed by a hold edge 20 ticks later (R64). RESULT_PRESENT: the oldest result whose edge has come appears in
ADC_RES, scaled, and in ADC_RESINFO, and SEQ counts (R62, R69); with AUTOCAL a visit of ZERO or CALREF may also move its trim, and no
other field (R78). A result with DELIV 1 is on its way to the lane of its entry, with its operand and the entry's TAG (R69, R197). -/
def Obligations.SarConverters : Prop :=
  (∀ (c : Fin 16) (code : Nat) (clip : Bool) (v : SarVisit) (s : State), (s.sarAt c).visit = some v → v.holdAt ≤ s.now →
     v.left = 1 →
     ∃ t, exec (.sarHoldEdge c code clip) s = .next t ∧ (t.sarAt c).visit = none ∧ (t.sarAt c).freeAt = s.now + 13 ∧
       (t.sarAt c).results.length = (s.sarAt c).results.length + 1 ∧
       (∃ r ∈ (t.sarAt c).results, r.visit.entry = v.entry ∧ 
         r.visit.code = (if clip then endOf (w0Se v.w0) code else code % 65536) ∧
         r.visit.clip = (v.clip || clip || endCode (w0Se v.w0) code) ∧ s.now + 13 ≤ r.readyAt ∧
         r.readyAt < s.now + 18 ∧ (s.ltc + (r.readyAt - s.now)) % 5 = 0) ∧ t = { s with sar := t.sar }) ∧
  (∀ (c : Fin 16) (code : Nat) (clip : Bool) (v : SarVisit) (s : State), (s.sarAt c).visit = some v → v.holdAt ≤ s.now →
     1 < v.left →
     ∃ t w, exec (.sarHoldEdge c code clip) s = .next t ∧ (t.sarAt c).visit = some w ∧ w.left = v.left - 1 ∧
       w.holdAt = s.now + 20 ∧ w.entry = v.entry ∧ (t.sarAt c).results = (s.sarAt c).results ∧ t = { s with sar := t.sar }) ∧
  (∀ (c : Fin 16) (r : SarResult) (rest : List SarResult) (s : State), (s.sarAt c).results = r :: rest → r.readyAt ≤ s.now →
     w1Deliv r.visit.w1 = false → w0Input r.visit.w0 < 5 ∨ s.flag .ADC_CAL_AUTOCAL c = false →
     ∃ t, exec (.resultPresent c) s = .next t ∧ (t.sarAt c).results = rest ∧
       t.fget .ADC_RES_VALUE c = sarOperand s r.visit ∧ t.fget .ADC_RESINFO_ENTRY c = r.visit.entry % 2 ^ 7 ∧
       t.fget .ADC_RESINFO_BANK c = r.visit.bank % 2 ∧
       t.fget .ADC_RESINFO_CODE c = r.visit.code % 2 ^ 16 ∧ t.flag .ADC_RESINFO_CLIP c = r.visit.clip ∧
       t.fget .ADC_RESINFO_SEQ c = (s.fget .ADC_RESINFO_SEQ c + 1) % 2 ^ Fld.len .ADC_RESINFO_SEQ ∧
       t = { s with regs := t.regs, sar := t.sar } ∧
       SameRegs (FieldsAt [.ADC_RES_VALUE, .ADC_RESINFO_ENTRY, .ADC_RESINFO_BANK, .ADC_RESINFO_CODE, .ADC_RESINFO_CLIP,
         .ADC_RESINFO_SEQ] c) s t) ∧
  (∀ (c : Fin 16) (r : SarResult) (rest : List SarResult) (s : State), (s.sarAt c).results = r :: rest → r.readyAt ≤ s.now →
     w1Deliv r.visit.w1 = true →
     ∃ t, exec (.resultPresent c) s = .next t ∧ t.fget .ADC_RES_VALUE c = sarOperand s r.visit ∧
       (t.laneAt (w1Lane r.visit.w1)).arriving = (s.laneAt (w1Lane r.visit.w1)).arriving ++
         [(s.ltc + (if s.ltc % 2 = 0 then 4 else 3), ⟨sarOperand s r.visit, true, w1Tag r.visit.w1, 0, c⟩)] ∧
       ∀ k, k ≠ w1Lane r.visit.w1 → t.laneAt k = s.laneAt k) ∧
  (∀ (c : Fin 16) (r : SarResult) (rest : List SarResult) (s : State), (s.sarAt c).results = r :: rest → r.readyAt ≤ s.now →
     w1Deliv r.visit.w1 = false →
     ∃ t, exec (.resultPresent c) s = .next t ∧ (t.sarAt c).results = rest ∧ t.fget .ADC_RES_VALUE c = sarOperand s r.visit ∧
       t = { s with regs := t.regs, sar := t.sar, free := t.free } ∧
       SameRegs (FieldsAt ([.ADC_RES_VALUE, .ADC_RESINFO_ENTRY, .ADC_RESINFO_BANK, .ADC_RESINFO_CODE, .ADC_RESINFO_CLIP,
         .ADC_RESINFO_SEQ] ++ (if w0Input r.visit.w0 = 6 then [.ADC_CAL_OFFTRIM] else if w0Input r.visit.w0 = 5 then
         [.ADC_CAL_GAINTRIM] else [])) c) s t)

/-- ADC_SLOT_W0_WRITE is staged at the writer's port and changes no entry; ADC_SLOT_W1_WRITE lands both words in the inactive bank, W0
as staged for the entry, else as stored, an invalid entry with EN 0, and leaves the active bank and every other entry (R67, R71, R72);
while a copy runs both are held (R74). ADC_SLOTACT_WRITE does nothing without a debug session and ACTWR; with them W0 is staged
and W1 lands both words in the active bank, with the entry's count of occurrences at 0 (R75). SWAPREQ notes a request, and at a frame
boundary with no copy running the banks swap (R72). BANK_COPY starts a copy of 240 ticks unless a swap is requested or a copy
runs (R74). COPY_END leaves the inactive bank with the entries of the active one, and the writes held land on them (R74). -/
def Obligations.SlotTable : Prop :=
  (∀ (m : Fin 10) (e : Fin 96) (v : Nat) (s : State), Reaches s m (regAddr .ADC_SLOT_W0 e) →
     s.flag .ADC_BANK_COPYBUSY = false →
     ∃ t, exec (.adcSlotW0Write m e v) s = .next t ∧ (t.portAt m).slotW0 = some (e.val, v % 2 ^ 32) ∧
       SameRegs (Fields [.PMG_DOMSTAT_DIRTY]) s t ∧ t = { s with regs := t.regs, hwSets := t.hwSets, port := t.port }) ∧
  (∀ (m : Fin 10) (e : Fin 96) (w v : Nat) (s : State), Reaches s m (regAddr .ADC_SLOT_W1 e) → m.val ≠ 7 →
     s.flag .ADC_BANK_COPYBUSY = false → s.fget .ADC_BANK_ACTIVE ≤ 1 →
     w = stagedOr (s.portAt m).slotW0 e (slotW0 s e (inactiveBank s)) →
     ∃ t, exec (.adcSlotW1Write m e v) s = .next t ∧ (t.portAt m).slotW0 = consumeStage (s.portAt m).slotW0 e ∧
       t.fget .ADC_SLOT_W0_TRIG e (inactiveBank s) = w0Trig w ∧ t.fget .ADC_SLOT_W0_CONV e (inactiveBank s) = w0Conv w ∧
       t.fget .ADC_SLOT_W0_DLY e (inactiveBank s) = w0Dly w ∧ t.fget .ADC_SLOT_W0_INPUT e (inactiveBank s) = w0Input w ∧
       t.fget .ADC_SLOT_W0_SE e (inactiveBank s) = b2n (w0Se w) ∧ t.fget .ADC_SLOT_W0_OSR e (inactiveBank s) = w0Osr w ∧
       t.fget .ADC_SLOT_W0_MODE e (inactiveBank s) = b2n (w0Every w) ∧ t.fget .ADC_SLOT_W0_EXC e (inactiveBank s) = w0Exc w ∧
       t.fget .ADC_SLOT_W0_EN e (inactiveBank s) = b2n (w0En w && !slotInvalid s.scaleDecl w (v % 2 ^ 32)) ∧
       t.fget .ADC_SLOT_W1_OCC e (inactiveBank s) = w1Occ v ∧ t.fget .ADC_SLOT_W1_LANE e (inactiveBank s) = w1Lane v ∧
       t.fget .ADC_SLOT_W1_DELIV e (inactiveBank s) = b2n (w1Deliv v) ∧
       t.fget .ADC_SLOT_W1_SCALE e (inactiveBank s) = w1Scale v ∧ t.fget .ADC_SLOT_W1_TRK e (inactiveBank s) = w1Trk v ∧
       t.fget .ADC_SLOT_W1_TAG e (inactiveBank s) = w1Tag v ∧ (∀ x b, x ≠ e.val ∨ b ≠ inactiveBank s → slotW0 t x b = slotW0 s x b ∧
         slotW1 t x b = slotW1 s x b)) ∧
  (∀ (m : Fin 10) (e : Fin 96) (v : Nat) (s : State), Reaches s m (regAddr .ADC_SLOT_W1 e) →
     s.flag .ADC_BANK_COPYBUSY = true →
     ∃ t, exec (.adcSlotW1Write m e v) s = .next t ∧ t.slotHeld = s.slotHeld ++ [⟨m, e, true, v % 2 ^ 32⟩] ∧
       SameRegs (Fields [.PMG_DOMSTAT_DIRTY]) s t) ∧
  (∀ (m : Fin 10) (e : Fin 96) (w1 : Bool) (v : Nat) (s : State),
     Reaches s m (regAddr (if w1 then .ADC_SLOTACT_W1 else .ADC_SLOTACT_W0) e) → actWritable s = false →
     ∃ t, exec (.adcSlotactWrite m e w1 v) s = .next t ∧ WroteOnly (Fields []) m s t) ∧
  (∀ (m : Fin 10) (e : Fin 96) (v : Nat) (s : State), Reaches s m (regAddr .ADC_SLOTACT_W1 e) → actWritable s = true →
     slotInvalid s.scaleDecl (stagedOr (s.portAt m).slotActW0 e (slotW0 s e (activeBank s))) (v % 2 ^ 32) = false →
     ∃ t, exec (.adcSlotactWrite m e true v) s = .next t ∧ vget t.occ e = 0 ∧
       t.fget .ADC_SLOT_W0_TRIG e (activeBank s) =
         w0Trig (stagedOr (s.portAt m).slotActW0 e (slotW0 s e (activeBank s))) ∧
       t.fget .ADC_SLOT_W1_LANE e (activeBank s) = w1Lane v) ∧
  (∀ (m : Fin 10) (s : State), Reaches s m (regAddr .ADC_BANK) →
     ∃ t, exec (.swapReq m) s = .next t ∧ t.fget .ADC_BANK_SWAPREQ = 1 ∧
       t.fget .ADC_BANK_ACTIVE = s.fget .ADC_BANK_ACTIVE ∧ t.mem = s.mem) ∧
  (∀ (m : Fin 10) (s : State), Reaches s m (regAddr .ADC_BANK) → s.flag .ADC_BANK_SWAPREQ = false →
     s.flag .ADC_BANK_COPYBUSY = false →
     ∃ t, exec (.bankCopy m) s = .next t ∧ t.fget .ADC_BANK_COPYBUSY = 1 ∧ t.copyEnd = s.now + 240 ∧
       t.fget .ADC_BANK_SWAPREQ = s.fget .ADC_BANK_SWAPREQ ∧ t.mem = s.mem) ∧
  (∀ (s : State), s.flag .ADC_BANK_COPYBUSY = true → s.copyEnd ≤ s.now → s.slotHeld = [] → s.fget .ADC_BANK_ACTIVE ≤ 1 →
     Regs.wf s.regs = true →
     ∃ t, exec .copyEnd s = .next t ∧ t.fget .ADC_BANK_COPYBUSY = 0 ∧
       (∀ e : Fin 96, slotW0 t e (inactiveBank s) = slotW0 s e (activeBank s) ∧
         slotW1 t e (inactiveBank s) = slotW1 s e (activeBank s) ∧
         slotW0 t e (activeBank s) = slotW0 s e (activeBank s)) ∧
       t.mem = s.mem) ∧
  (∀ (m : Fin 10) (e : Fin 96) (v : Nat) (s : State), Reaches s m (regAddr .ADC_SLOT_W0 e) →
     s.flag .ADC_BANK_COPYBUSY = true →
     ∃ t, exec (.adcSlotW0Write m e v) s = .next t ∧ t.slotHeld = s.slotHeld ++ [⟨m, e, false, v % 2 ^ 32⟩] ∧
       (t.portAt m).slotW0 = (s.portAt m).slotW0 ∧ SameRegs (Fields [.PMG_DOMSTAT_DIRTY]) s t) ∧
  (∀ (m : Fin 10) (e : Fin 96) (v : Nat) (s : State), Reaches s m (regAddr .ADC_SLOTACT_W0 e) → actWritable s = true →
     ∃ t, exec (.adcSlotactWrite m e false v) s = .next t ∧ (t.portAt m).slotActW0 = some (e.val, v % 2 ^ 32) ∧
       SameRegs (Fields [.PMG_DOMSTAT_DIRTY]) s t) ∧
  (∀ (m : Fin 10) (s : State), Reaches s m (regAddr .ADC_BANK) →
     s.flag .ADC_BANK_SWAPREQ = true ∨ s.flag .ADC_BANK_COPYBUSY = true →
     ∃ t, exec (.bankCopy m) s = .next t ∧ t.copyEnd = s.copyEnd ∧ t.flag .ADC_BANK_COPYBUSY = s.flag .ADC_BANK_COPYBUSY ∧
       t.flag .ADC_BANK_SWAPREQ = s.flag .ADC_BANK_SWAPREQ) ∧
  (∀ (m : Fin 10) (e : Fin 96) (v : Nat) (s : State), s.flag .ADC_BANK_COPYBUSY = true → s.copyEnd ≤ s.now →
     s.slotHeld = [⟨m, e, true, v⟩] → (s.portAt m).slotW0 = none → s.fget .ADC_BANK_ACTIVE ≤ 1 → Regs.wf s.regs = true →
     ∃ t, exec .copyEnd s = .next t ∧ t.fget .ADC_BANK_COPYBUSY = 0 ∧ t.slotHeld = [] ∧
       t.fget .ADC_SLOT_W1_TAG e (inactiveBank s) = w1Tag v ∧
       t.fget .ADC_SLOT_W0_TRIG e (inactiveBank s) = s.fget .ADC_SLOT_W0_TRIG e (activeBank s)) ∧
  (∀ (s : State), s.flag .ADC_BANK_SWAPREQ = true → s.flag .ADC_BANK_COPYBUSY = false → s.fget .ADC_BANK_ACTIVE ≤ 1 →
     (frameBoundary s).fget .ADC_BANK_ACTIVE = 1 - s.fget .ADC_BANK_ACTIVE ∧ (frameBoundary s).fget .ADC_BANK_SWAPREQ = 0)

/-- FAST_SAMPLE: an enabled modulator's sample is in SDM_FAST, or the end value with OVR while its input is overranged (R81, R82); of
a disabled modulator nothing changes (R89). SDM_OVERRANGE sets OVR at its start and clears it at no time (R81). METER_SAMPLE: a
sample that comes at the 20 kSPS rate joins those of its modulator while the engine runs (R83, R84), and none of a disabled one
(R89). METER_PUBLISH: when the feed's window is over, SEQ counts and each modulator's RMS value is that of its window, in error at most
as R87 bounds it; with no window, as of a disabled modulator, it is 0; while the feed is out of lock no harmonic, THD or Q is
given (R85, R87; Q is the model's choice, log entry 23); the other feed's results stay. ENERGY_LOW_READ returns the low word and latches
the high word for its reader (R88). CONVERTER_DISABLE clears the converter's enable and no other; it makes no later hold edge and
presents nothing more (R76). SDM_DISABLE clears the modulator's enable and no other, and drops its samples (R89). -/
def Obligations.SigmaDelta : Prop :=
  (∀ (m : Fin 12) (v : Nat) (s : State), s.fbit .SDM_CTRL_EN m = true → vget s.sdmOver m = false → v < 2 ^ 18 →
     ∃ t, exec (.fastSample m v) s = .next t ∧ t.fget .SDM_FAST_DATA m = v ∧ t.fget .SDM_FAST_OVR m = 0 ∧
       ChangedOnly (FieldsAt [.SDM_FAST_DATA, .SDM_FAST_OVR] m) s t) ∧
  (∀ (m : Fin 12) (v : Nat) (s : State), s.fbit .SDM_CTRL_EN m = true → vget s.sdmOver m = true →
     ∃ t, exec (.fastSample m v) s = .next t ∧ t.fget .SDM_FAST_DATA m = fastEnd v ∧ t.fget .SDM_FAST_OVR m = 1) ∧
  (∀ (m : Fin 12) (v : Nat) (s : State), s.fbit .SDM_CTRL_EN m = false → exec (.fastSample m v) s = .next s) ∧
  (∀ (m : Fin 12) (on : Bool) (s : State), s.clockOn 13 = true →
     ∃ t, exec (.sdmOverrange m on) s = .next t ∧ vget t.sdmOver m = on ∧
       t.fbit .SDM_STAT_OVR m = (on || s.fbit .SDM_STAT_OVR m) ∧ t = { s with regs := t.regs, hwSets := t.hwSets, sdmOver := t.sdmOver } ∧
       SameRegs (Fields [.SDM_STAT_OVR]) s t) ∧
  (∀ (m : Fin 12) (v : Nat) (s : State), s.flag .SDM_CTRL_MET_EN = true → s.fbit .SDM_CTRL_EN m = true →
     (∀ e ∈ (vget s.meter m).head?, e.1 + meterPeriod ≤ s.now) →
     ∃ t, exec (.meterSample m v) s = .next t ∧ vget t.meter m = (s.now, v % 2 ^ 24) :: vget s.meter m ∧
       t = { s with meter := t.meter } ∧ ∀ x, x ≠ m.val → vget t.meter x = vget s.meter x) ∧
  (∀ (f : Fin 2) (i : Fin 6) (s : State), s.flag .SDM_CTRL_MET_EN = true → windowOver s f = true →
     ∃ t, exec (.meterPublish f) s = .next t ∧
       t.fget .SDM_STAT_SEQ = (s.fget .SDM_STAT_SEQ + 1) % 2 ^ Fld.len .SDM_STAT_SEQ ∧
       t.fget .SDM_RES_RMS_V (6 * f + i) = ((windowOf s (6 * f + i)).map fun l => toU48 (rmsRead (rmsOf l)
         (ofU48 (s.fget .SDM_SCALE_FS (6 * f + i))) (Config.meterError s.draw (6 * f + i) 0))).getD 0 % 2 ^ 48 ∧
       t.fget .SDM_RES_RMS_V (6 * (1 - f) + i) = s.fget .SDM_RES_RMS_V (6 * (1 - f) + i) ∧
       vget t.meter (6 * (1 - f) + i) = vget s.meter (6 * (1 - f) + i) ∧ t.mem = s.mem) ∧
  (∀ (m : Fin 10) (f : Fin 2) (p : Fin 3) (x : Bool) (s : State), (s.coreAt m).wait = none → Reaches s m (energyAddr f p x) →
     ∃ t, exec (.energyLowRead m f p x) s = .next t ∧
       (t.portAt m).resp = some ⟨s.fget (energyReg x) f p % 2 ^ 32, false⟩ ∧
       (t.portAt m).energy = (energyAddr f p x, s.fget (energyReg x) f p / 2 ^ 32) ::
         (s.portAt m).energy.filter (fun e => e.1 ≠ energyAddr f p x) ∧ t = { s with port := t.port }) ∧
  (∀ (m : Fin 10) (c x : Fin 16) (s : State), Reaches s m (regAddr .ADC_CTRL) → s.fbit .ADC_CTRL_EN c = true →
     ∃ t, exec (.converterDisable m c) s = .next t ∧ t.fbit .ADC_CTRL_EN c = false ∧
       (t.sarAt c).visit = none ∧ (t.sarAt c).results = (s.sarAt c).results.filter (fun r => r.readyAt < s.now) ∧
       (x ≠ c → t.fbit .ADC_CTRL_EN x = s.fbit .ADC_CTRL_EN x ∧ t.sarAt x = s.sarAt x) ∧ t.mem = s.mem) ∧
  (∀ (m : Fin 10) (n x : Fin 12) (s : State), Reaches s m (regAddr .SDM_CTRL) → s.fbit .SDM_CTRL_EN n = true →
     Regs.wf s.regs = true →
     ∃ t, exec (.sdmDisable m n) s = .next t ∧ t.fbit .SDM_CTRL_EN n = false ∧ vget t.meter n = [] ∧
       t.flag .SDM_CTRL_MET_EN = s.flag .SDM_CTRL_MET_EN ∧
       (x ≠ n → t.fbit .SDM_CTRL_EN x = s.fbit .SDM_CTRL_EN x ∧ vget t.meter x = vget s.meter x) ∧ t.mem = s.mem) ∧
  (∀ (m : Fin 12) (v : Nat) (s : State), s.fbit .SDM_CTRL_EN m = false → exec (.meterSample m v) s = .next s) ∧
  (∀ (f : Fin 2) (i : Fin 6) (h : Fin 50) (p : Fin 3) (s : State), s.flag .SDM_CTRL_MET_EN = true → windowOver s f = true →
     s.flag .LAE_FEED_STAT_LOCK f = false →
     ∃ t, exec (.meterPublish f) s = .next t ∧ t.fget .SDM_RES_MAG_V (6 * f + i) h = 0 ∧ t.fget .SDM_RES_PHASE_V (6 * f + i) h = 0 ∧
       t.fget .SDM_RES_THD_V (6 * f + i) = 0 ∧ t.fget .SDM_RES_Q_V f p = 0)

/-! ### Comparators and Rein lines -/

/-- COMPARATOR_CROSSING: the voltage at the comparator's ball, or at the SAR pair it shares, is the one given (R92); a disabled or
settling comparator's output does not follow it (R101, R114), nor does that of one whose INSRC selects the other source; else the
output takes the window function of its comparisons (R97), which a bypassed filter passes on to the latch: an active output sets it
(R104, R107). FILTER_OUTPUT_CHANGE: the filter gives the N-of-M majority of its samples, and an active output sets the latch (R105, R107).
SETTLE_END empties the history, ends settling, and the output takes the comparison of the present input (R101, R105). -/
def Obligations.ComparatorOutputs : Prop :=
  (∀ (k : Fin 48) (uv : Int) (s : State),
     s.flag .CMP_CFG_EN k = false ∨ s.flag .CMP_STAT_SETTLING k = true ∨ s.flag .CMP_CFG_INSRC k = true →
     ∃ t, exec (.comparatorCrossing k ⟨false, uv⟩) s = .next t ∧ (t.cmpAt k).ballUv = uv ∧ t = { s with cmp := t.cmp } ∧
       ∀ x, x ≠ k.val → t.cmpAt x = s.cmpAt x) ∧
  (∀ (k : Fin 48) (uv : Int) (s : State), s.flag .CMP_CFG_EN k = true → s.flag .CMP_STAT_SETTLING k = false →
     s.flag .CMP_CFG_INSRC k = false → s.flag .CMP_CFG_BYP k = true →
     ∃ t, exec (.comparatorCrossing k ⟨false, uv⟩) s = .next t ∧ (t.cmpAt k).ballUv = uv ∧
       t.flag .CMP_STAT_RAW k = windowOut t k ∧
       t.flag .CMP_STAT_FILT k = t.flag .CMP_STAT_RAW k ∧
       latchSetQ t k = (latchSetQ s k || t.flag .CMP_STAT_FILT k) ∧ t.mem = s.mem) ∧
  (∀ (k : Fin 48) (s : State), s.flag .CMP_CFG_EN k = true → s.flag .CMP_CFG_BYP k = false →
     s.flag .CMP_STAT_SETTLING k = false →
     ∃ t, exec (.filterOutputChange k) s = .next t ∧ t.flag .CMP_STAT_FILT k = majority s k ∧
       latchSetQ t k = (latchSetQ s k || majority s k) ∧ t.mem = s.mem ∧ ∀ x, x ≠ k.val → t.cmpAt x = s.cmpAt x) ∧
  (∀ (k : Fin 48) (s : State), s.flag .CMP_STAT_SETTLING k = true →
     ∃ t, exec (.settleEnd k) s = .next t ∧ t.flag .CMP_STAT_SETTLING k = false ∧ (t.cmpAt k).hist = [] ∧
       t.flag .CMP_STAT_RAW k = windowOut t k ∧
       t.flag .CMP_STAT_FILT k = (s.flag .CMP_CFG_BYP k && t.flag .CMP_STAT_RAW k) ∧ t.mem = s.mem) ∧
  (∀ (k : Fin 48) (uv : Int) (s : State), s.flag .CMP_CFG_EN k = true → s.flag .CMP_STAT_SETTLING k = false →
     s.flag .CMP_CFG_BYP k = false →
     ∃ t, exec (.comparatorCrossing k ⟨s.flag .CMP_CFG_INSRC k, uv⟩) s = .next t ∧ cmpInput t k = uv ∧
       t.flag .CMP_STAT_RAW k = windowOut t k ∧ t = { s with regs := t.regs, cmp := t.cmp, pairUv := t.pairUv } ∧
       SameRegs (FieldsAt [.CMP_STAT_RAW] k) s t) ∧
  (∀ (k : Fin 48) (uv : Int) (s : State),
     s.flag .CMP_CFG_EN k = false ∨ s.flag .CMP_STAT_SETTLING k = true ∨ s.flag .CMP_CFG_INSRC k = false →
     ∃ t, exec (.comparatorCrossing k ⟨true, uv⟩) s = .next t ∧ vget t.pairUv (sharedPair k) = uv ∧ t = { s with pairUv := t.pairUv }) ∧
  (∀ (k : Fin 48) (uv : Int) (s : State), s.flag .CMP_CFG_EN k = true → s.flag .CMP_STAT_SETTLING k = false →
     s.flag .CMP_CFG_INSRC k = true → s.flag .CMP_CFG_BYP k = true →
     ∃ t, exec (.comparatorCrossing k ⟨true, uv⟩) s = .next t ∧ vget t.pairUv (sharedPair k) = uv ∧
       t.flag .CMP_STAT_RAW k = windowOut t k ∧ t.flag .CMP_STAT_FILT k = t.flag .CMP_STAT_RAW k ∧
       latchSetQ t k = (latchSetQ s k || t.flag .CMP_STAT_FILT k) ∧ t.mem = s.mem)

/-- CMP_CFG_WRITE: enabling a comparator starts its settling with its outputs inactive; a change of MODE or INSRC starts it with the
outputs held (R101); a filter that R105 calls invalid is bypassed. COMPARATOR_DISABLE makes the outputs inactive and leaves the
latch (R114). CMP_THR_WRITE: without THRUPD, or while the comparator's Team is stopped, the thresholds written are in force at once;
else they wait for the Team's wrap (R103). LATCH_SOFT_CLEAR clears no latch that its write does not name; it clears a named one whose
input is inactive, and refuses, with CLRREJ, that of an active input (R108, R109). PERIOD_CLEAR_ATTEMPT at count L - 2 of the
Team's leading channel does the same to a latch with CLRM (R110). -/
def Obligations.ComparatorLatches : Prop :=
  (∀ (m : Fin 10) (k : Fin 48) (v : Nat) (s : State), Reaches s m (regAddr .CMP_CFG k) → s.flag .CMP_CFG_EN k = false →
     bit v 0 = true →
     ∃ t, exec (.cmpCfgWrite m k v) s = .next t ∧ t.fget .CMP_CFG_EN k = 1 ∧ t.fget .CMP_CFG_MODE k = bits v 1 2 ∧
       t.flag .CMP_CFG_BYP k = (bit v 8 || !filterValid v) ∧
       t.fget .CMP_STAT_SETTLING k = 1 ∧ t.fget .CMP_STAT_RAW k = 0 ∧ t.fget .CMP_STAT_FILT k = 0 ∧ latches t = latches s ∧
       t.mem = s.mem) ∧
  (∀ (m : Fin 10) (k : Fin 48) (v : Nat) (s : State), Reaches s m (regAddr .CMP_CFG k) → bit v 0 = false →
     ∃ t, exec (.comparatorDisable m k v) s = .next t ∧ t.fget .CMP_CFG_EN k = 0 ∧ t.fget .CMP_STAT_RAW k = 0 ∧
       t.fget .CMP_STAT_FILT k = 0 ∧ t.fget .CMP_STAT_SETTLING k = 0 ∧ (t.cmpAt k).hist = [] ∧ latches t = latches s ∧
       t.mem = s.mem) ∧
  (∀ (m : Fin 10) (k : Fin 48) (v : Nat) (s : State), Reaches s m (regAddr .CMP_THR k) →
     s.flag .CMP_CFG_THRUPD k = false ∨ teamRuns s (s.fget .CMP_CFG_TEAM k) = false →
     ∃ t, exec (.cmpThrWrite m k v) s = .next t ∧ t.fget .CMP_THR_LTH k = bits v 0 12 ∧ t.fget .CMP_THR_UTH k = bits v 16 12 ∧
       t.fget .CMP_ATHR_LTH k = bits v 0 12 ∧ t.fget .CMP_ATHR_UTH k = bits v 16 12 ∧
       SameRegs (fun x => FieldsAt [.CMP_THR_LTH, .CMP_THR_UTH, .CMP_ATHR_LTH, .CMP_ATHR_UTH] k x ∨
         x.f = .PMG_DOMSTAT_DIRTY) s t ∧ t.mem = s.mem) ∧
  (∀ (m : Fin 10) (k : Fin 48) (v : Nat) (s : State), Reaches s m (regAddr (if 32 ≤ k.val then .CMP_LATCHHI else .CMP_LATCHLO)) →
     bit v (k.val % 32) = false →
     ∃ t, exec (.latchSoftClear m (decide (32 ≤ k.val)) v) s = .next t ∧ latchSetQ t k = latchSetQ s k ∧ t.mem = s.mem) ∧
  (∀ (m : Fin 10) (k : Fin 48) (s : State), Reaches s m (regAddr (if 32 ≤ k.val then .CMP_LATCHHI else .CMP_LATCHLO)) →
     latchSetQ s k = true → latchInput s k = true →
     ∃ t, exec (.latchSoftClear m (decide (32 ≤ k.val)) (2 ^ (k.val % 32))) s = .next t ∧ latchSetQ t k = true ∧
       (if 32 ≤ k.val then t.fbit .CMP_CLRREJHI_CLRREJ (k.val % 32) else t.fbit .CMP_CLRREJLO_CLRREJ (k.val % 32)) = true ∧
       t.mem = s.mem) ∧
  (∀ (m : Fin 10) (k : Fin 48) (s : State), Reaches s m (regAddr (if 32 ≤ k.val then .CMP_LATCHHI else .CMP_LATCHLO)) →
     latchSetQ s k = true → latchInput s k = false → (s.cmpAt k).inTick = false →
     ∃ t, exec (.latchSoftClear m (decide (32 ≤ k.val)) (2 ^ (k.val % 32))) s = .next t ∧ latchSetQ t k = false ∧
       (∀ x : Fin 48, x ≠ k → latchSetQ t x = latchSetQ s x) ∧ t.mem = s.mem) ∧
  (∀ (k : Fin 48) (n : Nat) (s : State), leading s (s.fget .CMP_CFG_TEAM k) = some n → s.flag .CMP_CFG_CLRM k = true →
     (s.chanAt n).cnt + 2 = (s.chanAt n).len → latchSetQ s k = true → latchInput s k = false → (s.cmpAt k).inTick = false →
     ∃ t, exec (.periodClearAttempt k) s = .next t ∧ latchSetQ t k = false ∧ t.mem = s.mem) ∧
  (∀ (m : Fin 10) (k : Fin 48) (v : Nat) (s : State), Reaches s m (regAddr .CMP_CFG k) → s.flag .CMP_CFG_EN k = true →
     bit v 0 = true → bits v 1 2 ≠ s.fget .CMP_CFG_MODE k ∨ bit v 3 ≠ s.flag .CMP_CFG_INSRC k →
     bit v 8 = false → filterValid v = true →
     ∃ t, exec (.cmpCfgWrite m k v) s = .next t ∧ t.fget .CMP_CFG_MODE k = bits v 1 2 ∧ t.fget .CMP_STAT_SETTLING k = 1 ∧
       t.flag .CMP_STAT_RAW k = s.flag .CMP_STAT_RAW k ∧ t.flag .CMP_STAT_FILT k = s.flag .CMP_STAT_FILT k ∧ latches t = latches s ∧
       t.mem = s.mem) ∧
  (∀ (m : Fin 10) (k : Fin 48) (v : Nat) (s : State), Reaches s m (regAddr .CMP_THR k) →
     s.flag .CMP_CFG_THRUPD k = true → teamRuns s (s.fget .CMP_CFG_TEAM k) = true →
     ∃ t, exec (.cmpThrWrite m k v) s = .next t ∧ t.fget .CMP_THR_LTH k = bits v 0 12 ∧ t.fget .CMP_THR_UTH k = bits v 16 12 ∧
       (t.cmpAt k).thrWait = true ∧ SameRegs (fun x => FieldsAt [.CMP_THR_LTH, .CMP_THR_UTH] k x ∨
         x.f = .PMG_DOMSTAT_DIRTY) s t ∧ t.mem = s.mem) ∧
  (∀ (k : Fin 48) (n : Nat) (s : State), leading s (s.fget .CMP_CFG_TEAM k) = some n → s.flag .CMP_CFG_CLRM k = true →
     (s.chanAt n).cnt + 2 = (s.chanAt n).len → latchSetQ s k = true → latchInput s k = true →
     ∃ t, exec (.periodClearAttempt k) s = .next t ∧ latchSetQ t k = true ∧
       (if 32 ≤ k.val then t.fbit .CMP_CLRREJHI_CLRREJ (k.val % 32) else t.fbit .CMP_CLRREJLO_CLRREJ (k.val % 32)) = true ∧
       t.mem = s.mem)

/-- TRIP_PIN_EDGE: the ball has the level given; unfiltered, the filtered state follows it by POL (R116, R117); with LEN above 0 nothing
else changes at once. TRIP_FILTER_CHANGE: the filtered state follows what the synchronised level has been for LEN ticks (R118). PINCFG_WRITE: a
changed LEN or POL takes the present level at once, synchronised when LEN is not 0, and restarts the count; an unchanged one
leaves the filter (R507). SWTRIP_WRITE stores the forced lines: a line it forces has an active source, and a line with no source left is
inactive (R120, R125). REIN_ACTIVE: the line is active and remembered, raises its event, rings when enabled, and every channel whose
TRIPMASK names it is cut, with neither output on at the interlock (R126, R155, R157). -/
def Obligations.TripPinsAndReins : Prop :=
  (∀ (p : Fin 16) (lvl : Bool) (s : State), s.fget .REIN_PINCFG_LEN p = 0 → pinsLive s = true →
     ∃ t, exec (.tripPinEdge p lvl) s = .next t ∧ (t.pinAt p).ball = lvl ∧
       t.fbit .REIN_PINSTAT_STATE p = (lvl == s.flag .REIN_PINCFG_POL p) ∧ t.mem = s.mem ∧
       SameRegs (Fields [.REIN_PINSTAT_STATE, .REIN_STAT_ACTIVE]) s t) ∧
  (∀ (p : Fin 16) (s : State), s.fget .REIN_PINCFG_LEN p ≠ 0 → s.fget .REIN_PINCFG_LEN p ≤ (s.pinAt p).run →
     ∃ t, exec (.tripFilterChange p) s = .next t ∧
       t.fbit .REIN_PINSTAT_STATE p = ((s.pinAt p).past2 == s.flag .REIN_PINCFG_POL p) ∧
       ChangedOnly (Fields [.REIN_PINSTAT_STATE, .REIN_STAT_ACTIVE]) s t) ∧
  (∀ (m : Fin 10) (p : Fin 16) (v : Nat) (s : State), Reaches s m (regAddr .REIN_PINCFG p) → bits v 0 8 = 0 →
     s.fget .REIN_PINCFG_LEN p ≠ 0 →
     ∃ t, exec (.pincfgWrite m p v) s = .next t ∧ t.fget .REIN_PINCFG_LEN p = 0 ∧ t.fget .REIN_PINCFG_POL p = b2n (bit v 8) ∧
       t.fbit .REIN_PINSTAT_STATE p = ((s.pinAt p).ball == bit v 8) ∧ t.mem = s.mem) ∧
  (∀ (m : Fin 10) (v : Nat) (r : Fin 16) (s : State), Reaches s m (regAddr .REIN_SWTRIP) → latches s = 0 →
     s.fget .REIN_PINSTAT_STATE = 0 → bit v r = false →
     ∃ t, exec (.swtripWrite m v) s = .next t ∧ t.fget .REIN_SWTRIP_FORCE = v % 2 ^ 16 ∧
       t.fbit .REIN_STAT_ACTIVE r = false ∧ WroteOnly (Fields [.REIN_SWTRIP_FORCE, .REIN_STAT_ACTIVE]) m s t) ∧
  (∀ (r : Fin 16) (fine : Fin 128) (n : Fin 24) (s : State), reinLevel s r = true → s.fbit .REIN_STAT_ACTIVE r = false →
     s.fbit .PWM_CH_TRIPMASK_MASK r n = true → s.flag .PWM_CH_STAT_CUT n = false →
     ∃ t, exec (.reinActive r fine) s = .next t ∧ t.fbit .REIN_STAT_ACTIVE r = true ∧ t.fbit .REIN_STICKY_SEEN r = true ∧
       t.flag .PWM_CH_STAT_CUT n = true ∧ t.flag .PWM_CH_STAT_TRIPSEEN n = true ∧ (outAt t n false).on = false ∧
       (outAt t n true).on = false ∧ (∃ e ∈ t.hrn, e.prod = 56 + r) ∧ t.mem = s.mem) ∧
  (∀ (p : Fin 16) (lvl : Bool) (s : State), s.fget .REIN_PINCFG_LEN p ≠ 0 →
     ∃ t, exec (.tripPinEdge p lvl) s = .next t ∧ (t.pinAt p).ball = lvl ∧ t = { s with trip := t.trip } ∧
       ∀ x, x ≠ p.val → t.pinAt x = s.pinAt x) ∧
  (∀ (m : Fin 10) (p : Fin 16) (v : Nat) (s : State), Reaches s m (regAddr .REIN_PINCFG p) → bits v 0 8 ≠ 0 →
     bits v 0 8 ≠ s.fget .REIN_PINCFG_LEN p ∨ bit v 8 ≠ s.flag .REIN_PINCFG_POL p →
     ∃ t, exec (.pincfgWrite m p v) s = .next t ∧ t.fget .REIN_PINCFG_LEN p = bits v 0 8 ∧
       t.fget .REIN_PINCFG_POL p = b2n (bit v 8) ∧ (t.pinAt p).run = 0 ∧
       t.fbit .REIN_PINSTAT_STATE p = ((s.pinAt p).sync2 == bit v 8) ∧ t.mem = s.mem) ∧
  (∀ (m : Fin 10) (p : Fin 16) (v : Nat) (s : State), Reaches s m (regAddr .REIN_PINCFG p) →
     bits v 0 8 = s.fget .REIN_PINCFG_LEN p → bit v 8 = s.flag .REIN_PINCFG_POL p →
     ∃ t, exec (.pincfgWrite m p v) s = .next t ∧ WroteOnly (FieldsAt [.REIN_PINCFG_LEN, .REIN_PINCFG_POL] p) m s t) ∧
  (∀ (m : Fin 10) (v : Nat) (r : Fin 16) (s : State), Reaches s m (regAddr .REIN_SWTRIP) → bit v r = true →
     ∃ t, exec (.swtripWrite m v) s = .next t ∧ t.fget .REIN_SWTRIP_FORCE = v % 2 ^ 16 ∧ reinLevel t r = true ∧
       t.fbit .REIN_STAT_ACTIVE r = s.fbit .REIN_STAT_ACTIVE r ∧
       WroteOnly (Fields [.REIN_SWTRIP_FORCE, .REIN_STAT_ACTIVE]) m s t) ∧
  (∀ (r : Fin 16) (fine : Fin 128) (s : State), reinLevel s r = true → s.fbit .REIN_STAT_ACTIVE r = false →
     s.fbit .REIN_DBELL_EN r = true →
     ∃ t, exec (.reinActive r fine) s = .next t ∧ t.fbit .BFY_PEND_W ((240 + r.val) % 32) 7 = true)

/-! ### PWM generator -/

/-- TEAM_START and TEAM_RESTART set the Team's RUN bit, and every enabled channel of the Team starts in the next tick (R133,
R135), which copies its preloads into the active registers; TEAM_STOP clears it, and every running channel of the Team runs on to the end
of its period (R134). CHANNEL_ENABLE takes the configuration of a disabled channel, which waits for its Team when the Team is
stopped, for the wrap of the leading channel while another channel of the Team runs, and else starts in the next tick (R136, R166); a
reserved MODE, and a channel that is enabled, take nothing (R149, R166). CHANNEL_DISABLE clears EN alone and acts in the next
tick: the counter stops, the outputs are off at the interlock, the preloads are discarded, and FORCE, CUTCNT and PEND read 0
(R170). -/
def Obligations.TeamsAndChannels : Prop :=
  (∀ (m : Fin 10) (t : Fin 8) (v : Nat) (n : Fin 24) (s : State), Reaches s m (regAddr .PWM_TEAMRUN) → bit v t = true →
    teamOn s t = false → teamRuns s t = false → chEn s n = true → chTeam s n = t.val →
    ∃ u, exec (.teamStart m t v) s = .next u ∧ u.fget .PWM_TEAMRUN_RUN = v % 2 ^ 8 ∧ (u.chanAt n).startNext = true ∧
      (u.chanAt n).waitAt = none ∧ u = { s with regs := u.regs, hwSets := u.hwSets, port := u.port, chan := u.chan } ∧
      SameRegs (Fields [.PWM_TEAMRUN_RUN, .PMG_DOMSTAT_DIRTY]) s u) ∧
  (∀ (m : Fin 10) (t : Fin 8) (v : Nat) (n : Fin 24) (s : State), Reaches s m (regAddr .PWM_TEAMRUN) → bit v t = true →
    teamOn s t = false → teamRuns s t = true → chEn s n = true → chTeam s n = t.val →
    ∃ u, exec (.teamRestart m t v) s = .next u ∧ u.fget .PWM_TEAMRUN_RUN = v % 2 ^ 8 ∧ (u.chanAt n).startNext = true ∧
      (u.chanAt n).cnt = (s.chanAt n).cnt ∧ SameRegs (Fields [.PWM_TEAMRUN_RUN, .PMG_DOMSTAT_DIRTY]) s u) ∧
  (∀ (m : Fin 10) (t : Fin 8) (v : Nat) (n : Fin 24) (s : State), Reaches s m (regAddr .PWM_TEAMRUN) → bit v t = false →
    teamOn s t = true → chRun s n = true → chTeam s n = t.val →
    ∃ u, exec (.teamStop m t v) s = .next u ∧ teamOn u t = false ∧ (u.chanAt n).stopAt = some s.now ∧
      (u.chanAt n).startNext = false ∧ (u.chanAt n).cnt = (s.chanAt n).cnt ∧
      SameRegs (Fields [.PWM_TEAMRUN_RUN, .PMG_DOMSTAT_DIRTY]) s u) ∧
  (∀ (m : Fin 10) (n : Fin 24) (v : Nat) (s : State), Reaches s m (regAddr .PWM_CH_CFG n) → bit v 0 = true →
    bits v 4 2 < 2 → chEn s n = false → teamOn s (bits v 1 3) = false →
    ∃ u, exec (.channelEnable m n v) s = .next u ∧ u.fget .PWM_CH_CFG_EN n = 1 ∧ u.fget .PWM_CH_CFG_TEAM n = bits v 1 3 ∧
      u.fget .PWM_CH_CFG_MODE n = bits v 4 2 ∧ u.chan = s.chan ∧
      WroteOnly (FieldsAt [.PWM_CH_CFG_EN, .PWM_CH_CFG_TEAM, .PWM_CH_CFG_MODE, .PWM_CH_CFG_PRDIMM, .PWM_CH_CFG_DITH,
        .PWM_CH_CFG_POLH, .PWM_CH_CFG_POLL, .PWM_CH_CFG_ESC, .PWM_CH_CFG_ESCTEAM] n) m s u) ∧
  (∀ (m : Fin 10) (n : Fin 24) (v : Nat) (s : State), Reaches s m (regAddr .PWM_CH_CFG n) → bit v 0 = false →
    chEn s n = true →
    ∃ u, exec (.channelDisable m n v) s = .next u ∧ u.fget .PWM_CH_CFG_EN n = 0 ∧ (u.chanAt n).disNext = true ∧
      (∀ x, x ≠ n.val → u.chanAt x = s.chanAt x) ∧ SameRegs (fun k => FieldsAt [.PWM_CH_CFG_EN] n k ∨
        k.f = .PMG_DOMSTAT_DIRTY) s u ∧ u.mem = s.mem) ∧
  (∀ (n : Fin 24) (r : Fin 8) (s : State), Regs.wf s.regs = true →
    active (startChan s n) n r = preload s n r ∧ chRun (startChan s n) n = true ∧ (startChan s n).fget .PWM_CH_STAT_PEND n = 0) ∧
  (∀ (m : Fin 10) (n x : Fin 24) (v : Nat) (s : State), Reaches s m (regAddr .PWM_CH_CFG n) → bit v 0 = true →
    bits v 4 2 < 2 → chEn s n = false → teamOn s (bits v 1 3) = true → x ≠ n → chEn s x = true → chTeam s x = bits v 1 3 →
    chRun s x = true →
    ∃ u, exec (.channelEnable m n v) s = .next u ∧ u.fget .PWM_CH_CFG_EN n = 1 ∧ (u.chanAt n).waitAt = some s.now ∧
      (u.chanAt n).startNext = (s.chanAt n).startNext ∧ (∀ y, y ≠ n.val → u.chanAt y = s.chanAt y) ∧ u.mem = s.mem) ∧
  (∀ (m : Fin 10) (n : Fin 24) (v : Nat) (s : State), Reaches s m (regAddr .PWM_CH_CFG n) → bit v 0 = true →
    bits v 4 2 < 2 → chEn s n = false → teamOn s (bits v 1 3) = true → teamRuns s (bits v 1 3) = false →
    ∃ u, exec (.channelEnable m n v) s = .next u ∧ u.fget .PWM_CH_CFG_EN n = 1 ∧ (u.chanAt n).startNext = true ∧
      (∀ y, y ≠ n.val → u.chanAt y = s.chanAt y) ∧ u.mem = s.mem) ∧
  (∀ (m : Fin 10) (n : Fin 24) (v : Nat) (s : State), Reaches s m (regAddr .PWM_CH_CFG n) → bit v 0 = true →
    2 ≤ bits v 4 2 ∨ chEn s n = true →
    ∃ u, exec (.channelEnable m n v) s = .next u ∧ WroteOnly (Fields []) m s u) ∧
  (∀ (n : Fin 24) (r : Fin 8) (s : State), Regs.wf s.regs = true →
    chRun (disableActs s n) n = false ∧ preload (disableActs s n) n r = active s n r ∧
      (disableActs s n).fget .PWM_CH_FORCE_FH n = 0 ∧ (disableActs s n).fget .PWM_CH_FORCE_FL n = 0 ∧
      (disableActs s n).fget .PWM_CH_STAT_CUTCNT n = 0 ∧ (disableActs s n).fget .PWM_CH_STAT_PEND n = 0 ∧
      (outAt (disableActs s n) n false).on = false ∧ (outAt (disableActs s n) n true).on = false)

/-- PWM_WRAP: the count of a running channel at its length returns to 0 and a new period runs, of a leading channel too (R129); the
slot table has the wrap event, and the Harness when it is enabled and unprescaled (R167, R168); a pending channel takes its
preloads, and is not pending (R140); a cut whose lines are inactive ends, another goes on (R156); the ESC-th cut period in a row escalates the
channel (R158); after a stop the counter stops there, and neither output is on at the interlock (R134). COMPARE_MATCH takes each compare
once in a period: REF follows from the tick's actions in order, a set action alone sets it (R130, R131), and the slot table has the
compare event (R66); PERIOD_EVENT raises the period event of an enabled, unprescaled channel (R167, R168). REFRESH_END ends the
refresh off-pulse and leaves REF and every other channel (R153). -/
def Obligations.PwmPeriods : Prop :=
  (∀ (n : Fin 24) (s : State), chRun s n = true → (s.chanAt n).len ≤ (s.chanAt n).cnt → (s.chanAt n).stopAt = none →
    leading s (chTeam s n) ≠ some n.val →
    ∃ u, exec (.pwmWrap n) s = .next u ∧ (u.chanAt n).cnt = 0 ∧ (u.chanAt n).live = true ∧
      (u.chanAt n).wrapAt = some s.now ∧ (u.chanAt n).done = 0 ∧ chRun u n = true ∧ u.mem = s.mem) ∧
  (∀ (n : Fin 24) (w : Nat) (s : State), chRun s n = true → (s.chanAt n).len ≤ (s.chanAt n).cnt →
    (s.chanAt n).stopAt = some w → w < s.now →
    ∃ u, exec (.pwmWrap n) s = .next u ∧ chRun u n = false ∧ (u.chanAt n).cnt = 0 ∧ (u.chanAt n).live = false ∧
      (outAt u n false).on = false ∧ (outAt u n true).on = false ∧ u.mem = s.mem) ∧
  (∀ (n : Fin 24) (x : Fin 4) (s : State), chRun s n = true → (s.chanAt n).live = true →
    (edgeActs s n (active s n (2 + x))).1 = (s.chanAt n).cnt → (s.chanAt n).cnt < (s.chanAt n).len →
    bit (s.chanAt n).done x = false → (s.chanAt n).acts = [] → actionOf s n (1 + x) = 2 →
    ∃ u, exec (.compareMatch n x) s = .next u ∧ bit (u.chanAt n).done x = true ∧ (u.chanAt n).ref = true ∧
      (u.chanAt n).cnt = (s.chanAt n).cnt ∧ u.mem = s.mem) ∧
  (∀ (n : Fin 24) (s : State), chRun s n = true → (s.chanAt n).live = true → (s.chanAt n).cnt + 1 = (s.chanAt n).len →
    (s.chanAt n).prdAt ≠ some s.now → s.fbit .PWM_CH_EVCFG_EN 1 n = true → vget (s.chanAt n).psc 1 = 0 →
    ∃ u, exec (.periodEvent n) s = .next u ∧ (u.chanAt n).prdAt = some s.now ∧ (∃ e ∈ u.hrn, e.prod = n.val) ∧
      u.mem = s.mem) ∧
  (∀ (n : Fin 24) (e : Nat) (s : State), (s.chanAt n).refrEnd = some e → e ≤ s.now →
    ∃ u, exec (.refreshEnd n) s = .next u ∧ (u.chanAt n).refrEnd = none ∧ (u.chanAt n).ref = (s.chanAt n).ref ∧
      u.mem = s.mem ∧ ∀ x, x ≠ n.val → u.chanAt x = s.chanAt x) ∧
  (∀ (n : Fin 24) (s : State), chRun s n = true → (s.chanAt n).len ≤ (s.chanAt n).cnt → (s.chanAt n).stopAt = none →
    ∃ u, exec (.pwmWrap n) s = .next u ∧ (u.chanAt n).cnt = 0 ∧ (u.chanAt n).live = true ∧ (u.chanAt n).wrapAt = some s.now ∧
      (u.chanAt n).done = 0 ∧ 6 * n.val ∈ u.trigs ∧
      (s.fbit .PWM_CH_EVCFG_EN 0 n = true → vget (s.chanAt n).psc 0 = 0 → ∃ e ∈ u.hrn, e.prod = n.val)) ∧
  (∀ (n : Fin 24) (r : Fin 8) (s : State), chRun s n = true → (s.chanAt n).len ≤ (s.chanAt n).cnt → (s.chanAt n).stopAt = none →
    leading s (chTeam s n) ≠ some n.val → s.flag .PWM_CH_STAT_PEND n = true → (s.chanAt n).loadAt ≠ some s.now →
    (s.chanAt n).wrote = [] → Regs.wf s.regs = true →
    ∃ u, exec (.pwmWrap n) s = .next u ∧ active u n r = preload s n r ∧ u.fget .PWM_CH_STAT_PEND n = 0 ∧
      (u.chanAt n).xferAt = some s.now) ∧
  (∀ (n : Fin 24) (s : State), chRun s n = true → (s.chanAt n).len ≤ (s.chanAt n).cnt → (s.chanAt n).stopAt = none →
    leading s (chTeam s n) ≠ some n.val →
    ∃ u, exec (.pwmWrap n) s = .next u ∧ u.flag .PWM_CH_STAT_CUT n =
      (s.flag .PWM_CH_STAT_CUT n && (s.fget .PWM_CH_TRIPMASK_MASK n &&& s.reinPrev != 0))) ∧
  (∀ (n : Fin 24) (s : State), chRun s n = true → (s.chanAt n).len ≤ (s.chanAt n).cnt → (s.chanAt n).stopAt = none →
    leading s (chTeam s n) ≠ some n.val → (s.chanAt n).cutIn = true → s.fget .PWM_CH_CFG_ESC n ≠ 0 →
    s.fget .PWM_CH_CFG_ESC n ≤ s.fget .PWM_CH_STAT_CUTCNT n + 1 → s.fget .PWM_CH_STAT_CUTCNT n < 255 →
    ∃ u, exec (.pwmWrap n) s = .next u ∧ u.flag .PWM_CH_STAT_ESCL n = true ∧
      u.fget .PWM_CH_STAT_CUTCNT n = s.fget .PWM_CH_STAT_CUTCNT n + 1) ∧
  (∀ (n : Fin 24) (x : Fin 4) (s : State), chRun s n = true → (s.chanAt n).live = true →
    (edgeActs s n (active s n (2 + x))).1 = (s.chanAt n).cnt → (s.chanAt n).cnt < (s.chanAt n).len →
    bit (s.chanAt n).done x = false →
    ∃ u, exec (.compareMatch n x) s = .next u ∧ bit (u.chanAt n).done x = true ∧ 6 * n.val + 2 + x ∈ u.trigs ∧
      (u.chanAt n).ref = (if actionOf s n (1 + x) = 0 then (s.chanAt n).ref
        else refAfter (s.chanAt n).ref0 (actInsert (s.chanAt n).acts
          (8 * (edgeActs s n (active s n (2 + x))).2 + (1 + x), actionOf s n (1 + x)))) ∧ u.mem = s.mem)

/-- DEADTIME_TURN_ON: the demanded output turns on, at its ball no earlier than the dead time after its complement turned off at
the interlock; of its Spire line only a measurement or an install of this tick is taken back (R150, R173, R178, R179). FORCE_WRITE stores the force, which acts from the next tick; one that would make both outputs active
also sets FORCEERR, but not in HIGH ONLY (R161, R162). ESCL_CLEAR clears ESCL and CUTCNT (R160), unless hardware has set ESCL in the same
tick (R17). -/
def Obligations.DeadTimeAndForce : Prop :=
  (∀ (n : Fin 24) (low : Bool) (p : Nat) (s : State), turnOnAt s n low = some p → p < 128 * (s.now + 1) →
     wanted s n low = true →
     ∃ u, exec (.deadtimeTurnOn n low) s = .next u ∧ (outAt u n low).on = true ∧ (outAt u n !low).on = false ∧
       (∀ q, (outAt s n !low).offAt = some q → q + deadTime s n low ≤ (outAt u n low).spOnAt) ∧
       u = { s with regs := u.regs, hwSets := u.hwSets, chan := u.chan, spr := u.spr } ∧
       SameRegs (fun k => Fields [.SPR_NARROWLO_NARROW, .SPR_NARROWHI_NARROW, .SPR_STARVEDLO_STARVED, .SPR_STARVEDHI_STARVED] k ∨
         FieldsAt [.SPR_LINE_S, .SPR_LINE_UPDCNT] (lineOf n low) k) s u) ∧
  (∀ (m : Fin 10) (n : Fin 24) (v : Nat) (s : State), Reaches s m (regAddr .PWM_CH_FORCE n) →
    ∃ u, exec (.forceWrite m n v) s = .next u ∧ u.fget .PWM_CH_FORCE_FH n = bits v 0 2 ∧
      u.fget .PWM_CH_FORCE_FL n = bits v 2 2 ∧
      u.flag .PWM_CH_STAT_FORCEERR n = (s.flag .PWM_CH_STAT_FORCEERR n ||
        (bits v 0 2 == 2 && bits v 2 2 == 2 && s.fget .PWM_CH_CFG_MODE n != 1)) ∧
      WroteOnly (FieldsAt [.PWM_CH_FORCE_FH, .PWM_CH_FORCE_FL, .PWM_CH_STAT_FORCEERR] n) m s u) ∧
  (∀ (m : Fin 10) (n : Fin 24) (v : Nat) (s : State), Reaches s m (regAddr .PWM_CH_STAT n) → bit v 4 = true →
    s.fget .PWM_CH_STAT_ESCL n = 1 → s.setNow .PWM_CH_STAT_ESCL n 0 = 0 →
    ∃ u, exec (.esclClear m n v) s = .next u ∧ u.fget .PWM_CH_STAT_ESCL n = 0 ∧ u.fget .PWM_CH_STAT_CUTCNT n = 0 ∧
      WroteOnly (FieldsAt [.PWM_CH_STAT_ESCL, .PWM_CH_STAT_CUTCNT, .PWM_CH_STAT_LATE, .PWM_CH_STAT_PRDSHORT,
        .PWM_CH_STAT_COLL, .PWM_CH_STAT_TRIPSEEN, .PWM_CH_STAT_REFRESH, .PWM_CH_STAT_FORCEERR] n) m s u)

/-- PRELOAD_WRITE changes the preload named, PRD, PHS, CMPA to CMPD, DTR or DTF, and no active register; PRD has the minimum 8 (R139,
R144), and under PRDIMM acts on a running channel in the next tick (R148); of two writes in one tick the fabric's gives way to a lane
group's, with COLL (R143); in the tick of a transfer the write waits for the next one, with PEND and LATE (R141). LOAD_ALL makes the
enabled channels of the Teams named pending, and no other channel (R140); at a channel's wrap the load is late (R141). DUTY puts its port value with its lane in the queue of the
lane's group (R225, R229), when the group's queue has room, and waits otherwise (R39); DUTY_LANDING: the oldest entry lands 3 ticks after
it entered, not before, as a write of its preload, and the entry is gone (R229). -/
def Obligations.PreloadsAndDutyPort : Prop :=
  (∀ (m : Fin 10) (n : Fin 24) (v : Nat) (s : State), Reaches s m (regAddr .PWM_CH_PRD n) → (s.chanAt n).wrote = [] →
    (s.chanAt n).xferAt ≠ some s.now →
    ∃ u, exec (.preloadWrite m n 0 v) s = .next u ∧ u.fget .PWM_CH_PRD_PRD n = max 8 (v % 2 ^ 24) ∧
      (∀ x r, active u x r = active s x r) ∧ SameRegs (fun k => FieldsAt [.PWM_CH_PRD_PRD] n k ∨
        k.f = .PMG_DOMSTAT_DIRTY) s u ∧ u.mem = s.mem) ∧
  (∀ (m : Fin 10) (n : Fin 24) (v : Nat) (s : State), Reaches s m (regAddr .PWM_CH_CMPA n) → (s.chanAt n).wrote = [] →
    (s.chanAt n).xferAt ≠ some s.now →
    ∃ u, exec (.preloadWrite m n 2 v) s = .next u ∧ u.fget .PWM_CH_CMPA_FINE n = v % 128 ∧
      u.fget .PWM_CH_CMPA_COARSE n = v / 128 % 2 ^ 24 ∧ (∀ x r, active u x r = active s x r) ∧ u.mem = s.mem) ∧
  (∀ (m : Fin 10) (v : Nat) (n : Fin 24) (s : State), Reaches s m (regAddr .PWM_TEAMLOAD) → chEn s n = true →
    bit v (chTeam s n) = true → chTeam s n < 8 → (s.chanAt n).wrapAt ≠ some s.now →
    ∃ u, exec (.loadAll m v) s = .next u ∧ u.fget .PWM_CH_STAT_PEND n = 1 ∧ (u.chanAt n).loadAt = some s.now ∧
      (∀ x : Fin 24, bit v (chTeam s x) = false → u.chanAt x = s.chanAt x ∧
        u.fget .PWM_CH_STAT_PEND x = s.fget .PWM_CH_STAT_PEND x) ∧ u.mem = s.mem) ∧
  (∀ (k : Fin 32) (f : LaneWord) (s : State), laneFetch s k .duty = some f →
    s.fbit .LANE_DUTYMASK_CH (f.imm % 32) k = true → dutyFull s k = false →
    ∃ t, exec (.laneDuty k) s = .next t ∧ (t.laneAt k).pc = (s.laneAt k).pc + 1 ∧
      DutyEntry.duty (s.laneEdge + 2) k (f.imm % 32) (bits f.imm 5 3)
        (dutyValue (s.lregI k f.rs1) (bits f.imm 5 3) (bits f.imm 8 4)).1 ∈ t.dutyAt (k / 8) ∧
      (t.dutyAt (k / 8)).length = (s.dutyAt (k / 8)).length + 1 ∧ t.mem = s.mem ∧
      SameRegs (FieldsAt [.LANE_PC_PC, .LANE_ECCCNT_PMCOR, .LANE_STAT_DCLIP] k) s t) ∧
  (∀ (g : Fin 4) (e l v : Nat) (ch : Fin 24) (q : List DutyEntry) (s : State), s.dutyAt g = .duty e l ch 7 v :: q →
    e + 3 ≤ s.ltc → vget s.dutyNext g ≤ s.now → (s.chanAt ch).wrote = [] → (s.chanAt ch).xferAt ≠ some s.now →
    ∃ t, exec (.dutyLanding g) s = .next t ∧ t.dutyAt g = q ∧ vget t.dutyNext g = s.now + 1 ∧ t.fget .PWM_CH_DTF_DT ch = v % 2 ^ 16 ∧
      SameRegs (FieldsAt [.PWM_CH_DTF_DT] ch) s t ∧ t.mem = s.mem) ∧
  (∀ (g : Fin 4) (e l ch r v : Nat) (q : List DutyEntry) (s : State), s.dutyAt g = .duty e l ch r v :: q →
    s.ltc < e + 3 ∨ s.now < vget s.dutyNext g → exec (.dutyLanding g) s = .next s) ∧
  (∀ (m : Fin 10) (n : Fin 24) (r : Fin 8) (v : Nat) (s : State), Reaches s m (regAddr (preloadReg r) n) →
    (s.chanAt n).wrote.filter (fun w => w.1 = r.val) = [] → (s.chanAt n).xferAt ≠ some s.now →
    ∃ u, exec (.preloadWrite m n r v) s = .next u ∧ preload u n r = (if r.val = 0 then max 8 (v % 2 ^ 24)
        else if (preFlds r).1 = (preFlds r).2 then v % 2 ^ Fld.len (preFlds r).1 else v % 2 ^ 31) ∧
      (∀ x i, active u x i = active s x i) ∧ (∀ x, x ≠ n.val → u.chanAt x = s.chanAt x) ∧
      SameRegs (fun k => FieldsAt [(preFlds r).1, (preFlds r).2] n k ∨ k.f = .PMG_DOMSTAT_DIRTY) s u ∧ u.mem = s.mem) ∧
  (∀ (m : Fin 10) (n : Fin 24) (v : Nat) (s : State), Reaches s m (regAddr .PWM_CH_PRD n) → chRun s n = true →
    s.flag .PWM_CH_CFG_PRDIMM n = true → (s.chanAt n).wrote = [] →
    ∃ u, exec (.preloadWrite m n 0 v) s = .next u ∧ (u.chanAt n).immPrd = some (max 8 (v % 2 ^ 24))) ∧
  (∀ (m : Fin 10) (n : Fin 24) (r : Fin 8) (v g old : Nat) (s : State), Reaches s m (regAddr (preloadReg r) n) →
    (s.chanAt n).wrote = [(r.val, g, old)] → g < 4 →
    ∃ u, exec (.preloadWrite m n r v) s = .next u ∧ u.fget .PWM_CH_STAT_COLL n = 1 ∧ u.chan = s.chan ∧
      SameRegs (fun k => FieldsAt [.PWM_CH_STAT_COLL] n k ∨ k.f = .PMG_DOMSTAT_DIRTY) s u) ∧
  (∀ (m : Fin 10) (n : Fin 24) (r : Fin 8) (v : Nat) (s : State), Reaches s m (regAddr (preloadReg r) n) →
    (s.chanAt n).wrote = [] → (s.chanAt n).xferAt = some s.now →
    ∃ u, exec (.preloadWrite m n r v) s = .next u ∧ u.fget .PWM_CH_STAT_PEND n = 1 ∧ u.flag .PWM_CH_STAT_LATE n = true ∧
      ∀ x i, active u x i = active s x i) ∧
  (∀ (m : Fin 10) (v : Nat) (n : Fin 24) (s : State), Reaches s m (regAddr .PWM_TEAMLOAD) → chEn s n = true →
    bit v (chTeam s n) = true → chTeam s n < 8 → (s.chanAt n).wrapAt = some s.now →
    ∃ u, exec (.loadAll m v) s = .next u ∧ u.fget .PWM_CH_STAT_PEND n = 1 ∧ u.flag .PWM_CH_STAT_LATE n = true ∧ u.mem = s.mem) ∧
  (∀ (k : Fin 32) (f : LaneWord) (s : State), laneFetch s k .duty = some f →
    s.fbit .LANE_DUTYMASK_CH (f.imm % 32) k = true → dutyFull s k = true → exec (.laneDuty k) s = .next s) ∧
  (∀ (g : Fin 4) (e l v : Nat) (ch : Fin 24) (r : Fin 8) (q : List DutyEntry) (s : State), s.dutyAt g = .duty e l ch r v :: q →
    e + 3 ≤ s.ltc → vget s.dutyNext g ≤ s.now → (s.chanAt ch).wrote = [] → (s.chanAt ch).xferAt ≠ some s.now →
    ∃ t, exec (.dutyLanding g) s = .next t ∧ t.dutyAt g = q ∧ preload t ch r = (if r.val = 0 then max 8 (v % 2 ^ 24)
        else if (preFlds r).1 = (preFlds r).2 then v % 2 ^ Fld.len (preFlds r).1 else v % 2 ^ 31) ∧
      SameRegs (FieldsAt [(preFlds r).1, (preFlds r).2] ch) s t ∧ t.mem = s.mem)

/-! ### Spire -/

/-- The calibration of a line. SPIRE_MEASUREMENT: a measurement in an idle tick counts, of a locked line at most one in 8 ticks
(R178). CALIBRATION_GROUP_DONE: the 256th of a locked line makes a new table no more than 4 units of 1/16 stage away, which CALHOLD
discards (R179, R182). TABLE_INSTALL: at the first idle tick after an idle tick the table is in force, which is an update (R179, R181). SPIRE_LOCK: the
2,048th measurement of an unlocked line locks it, with the table of their mean (R183). SPIRE_FAULT: sixteen measurements out of range unlock
the line, and its fault rings (R184). SPIRE_FAULT_CLEAR: the fault cleared, a new lock starts (R184); a fault of this tick stays (R17).
STARVED_TIMEOUT: 100 µs with no update make the line starved (R181). One update moves the stage of a fine position by at most one stage
(R172, R180). -/
def Obligations.SpireLines : Prop :=
  (∀ (i : Fin 48) (g : Nat) (s : State), s.clockOn 11 = true → lineIdle s i s.now = true →
    (∀ t ∈ (s.sprAt i).lastMeas, t + (if lineLocked s i then 8 else 1) ≤ s.now) → lineFault s i = false → (s.sprAt i).count < (if lineLocked s i then 256 else 2048) →
    ∃ u, exec (.spireMeasurement i g) s = .next u ∧ (u.sprAt i).count = (s.sprAt i).count + 1 ∧
      (u.sprAt i).sum = (s.sprAt i).sum + g ∧ (u.sprAt i).lastMeas = some s.now ∧ u = { s with spr := u.spr }) ∧
  (∀ (i : Fin 48) (s : State), measured s (s.sprAt i) = true → lineLocked s i = true → (s.sprAt i).count = 256 →
    s.flag .SPR_CTRL_CALHOLD = false →
    ∃ u v, exec (.calibrationGroupDone i) s = .next u ∧ (u.sprAt i).next = some v ∧ v ≤ s.fget .SPR_LINE_S i + 4 ∧
      s.fget .SPR_LINE_S i ≤ v + 4 ∧ (u.sprAt i).count = 0 ∧ u = { s with spr := u.spr, free := u.free }) ∧
  (∀ (i : Fin 48) (s : State), measured s (s.sprAt i) = true → lineLocked s i = true → (s.sprAt i).count = 256 →
    s.flag .SPR_CTRL_CALHOLD = true →
    ∃ u, exec (.calibrationGroupDone i) s = .next u ∧ (u.sprAt i).next = none ∧ (u.sprAt i).count = 0) ∧
  (∀ (i : Fin 48) (v : Nat) (s : State), s.clockOn 11 = true → (s.sprAt i).next = some v → lineIdle s i s.now = true →
    lineIdle s i (s.now - 1) = true → s.flag .SPR_CTRL_CALHOLD = false →
    ∃ u, exec (.tableInstall i) s = .next u ∧ u.fget .SPR_LINE_S i = v % 2 ^ Fld.len .SPR_LINE_S ∧
      (u.sprAt i).next = none ∧ (u.sprAt i).lastUpd = s.now ∧ u = { s with spr := u.spr, regs := u.regs, hwSets := u.hwSets } ∧
      SameRegs (fun k => FieldsAt [.SPR_LINE_S, .SPR_LINE_UPDCNT] i k ∨
        Fields [.SPR_STARVEDLO_STARVED, .SPR_STARVEDHI_STARVED] k) s u) ∧
  (∀ (i : Fin 48) (s : State), measured s (s.sprAt i) = true → lineLocked s i = false → lineFault s i = false →
    (s.sprAt i).count = 2048 →
    ∃ u e, exec (.spireLock i) s = .next u ∧ lineLocked u i = true ∧ (u.sprAt i).count = 0 ∧ e < 2048 ∧
      u.fget .SPR_LINE_S i = (16 * (s.sprAt i).sum + e) / 2048 % 2 ^ Fld.len .SPR_LINE_S ∧ u.mem = s.mem) ∧
  (∀ (i : Fin 48) (s : State), measured s (s.sprAt i) = true → 16 ≤ (s.sprAt i).bad → lineFault s i = false →
    ∃ u, exec (.spireFault i) s = .next u ∧ lineFault u i = true ∧ lineLocked u i = false ∧ (u.sprAt i).bad = 0 ∧
      u.fbit .BFY_PEND_W 7 3 = true ∧ u.mem = s.mem) ∧
  (∀ (m : Fin 10) (i : Fin 48) (s : State), Reaches s m (regAddr (if 32 ≤ i.val then .SPR_FAULTHI else .SPR_FAULTLO)) →
    lineFault s i = true → s.setNow (if 32 ≤ i.val then .SPR_FAULTHI_FAULT else .SPR_FAULTLO_FAULT) 0 0 = 0 →
    ∃ u, exec (.spireFaultClear m (decide (32 ≤ i.val)) (2 ^ (i.val % 32))) s = .next u ∧ lineFault u i = false ∧
      (u.sprAt i).count = 0 ∧ lineLocked u i = lineLocked s i ∧ u.mem = s.mem) ∧
  (∀ (i : Fin 48) (s : State), s.clockOn 11 = true → (s.sprAt i).lastUpd + 80000 ≤ s.now →
    ∃ u, exec (.starvedTimeout i) s = .next u ∧
      (if i.val < 32 then u.fbit .SPR_STARVEDLO_STARVED i else u.fbit .SPR_STARVEDHI_STARVED (i - 32)) = true ∧
      ChangedOnly (Fields [.SPR_STARVEDLO_STARVED, .SPR_STARVEDHI_STARVED]) s u) ∧
  (∀ (a d j : Nat), j < 128 → d ≤ 4 → tapStage a j ≤ tapStage (a + d) j ∧ tapStage (a + d) j ≤ tapStage a j + 1)

/-! ### Control lanes: activations -/

/-- ACTIVATION_ENQUEUE: the activations that arrive at one edge join the queue of an idle or running lane with room for them, in source
order; at a full queue an activation is dropped and counted (R198). DISPATCH: the head of the queue becomes the activation that runs:
the flags clear, the stack empties, the program counter is its TAG's vector, L0 takes the operand of an operand-bearing activation, and
ACTINFO describes it (R200); an apply that was requested takes place with it, and the operand prevails in L0 (R235). END: with every
load written the activation ends: the lane is idle with an empty queue, and dispatches the next of one that is not empty, with
EN at 0 it ends in DISABLED when the cycle is over (R241), and LAST holds its cycles (R202, R216, R240); with a load outstanding the lane
stays where it is. NOP only steps on (R211). A lane executes the instruction at its program counter, `laneFetch`, when an activation
executes within its bound and its cycle has come, the word there is readable and decodes to it, no load has yet to write a register it names, and
its sources are usable (R210, R214, R216). -/
def Obligations.ActivationCourse : Prop :=
  (∀ (k : Fin 32) (e : Nat) (a : Activation) (s : State), (s.laneAt k).arriving = [(e, a)] → e ≤ s.ltc →
    s.fget .LANE_STAT_STATE k = laneIdle ∨ s.fget .LANE_STAT_STATE k = laneRunning → (s.laneAt k).queue.length < 32 →
    ∃ t, exec (.activationEnqueue k) s = .next t ∧ (t.laneAt k).queue = (s.laneAt k).queue ++ [a] ∧
      (t.laneAt k).arriving = [] ∧ t.fget .LANE_QSTAT_COUNT k = (s.laneAt k).queue.length + 1 ∧ t.mem = s.mem ∧
      SameRegs (FieldsAt [.LANE_QSTAT_COUNT, .LANE_QSTAT_HWM] k) s t) ∧
  (∀ (k : Fin 32) (e : Nat) (a : Activation) (s : State), (s.laneAt k).arriving = [(e, a)] → e ≤ s.ltc →
    s.fget .LANE_STAT_STATE k = laneIdle ∨ s.fget .LANE_STAT_STATE k = laneRunning → 32 ≤ (s.laneAt k).queue.length →
    ∃ t, exec (.activationEnqueue k) s = .next t ∧ (t.laneAt k).queue = (s.laneAt k).queue ∧
      t.fget .LANE_DROPCNT_QFULL k = min 65535 (s.fget .LANE_DROPCNT_QFULL k + 1) ∧ t.mem = s.mem) ∧
  (∀ (k : Fin 32) (a : Activation) (rest : List Activation) (s : State), (s.laneAt k).queue = a :: rest →
     mayDispatch s k = true → s.flag .LANE_CTRL_APPLY k = false →
     ∃ t, exec (.dispatch k) s = .next t ∧ (t.laneAt k).queue = rest ∧ (t.laneAt k).active = true ∧
       (t.laneAt k).stack = [] ∧ (t.laneAt k).pc = s.fget .LANE_VEC_ENTRY k a.tag ∧
       (t.laneAt k).budget = s.fget .LANE_CFG_BUDGET k ∧ t.laneFlags k = ⟨false, false, false, false⟩ ∧
       t.fget .LANE_STAT_STATE k = laneRunning ∧
       (∀ i, t.lreg k i = if i = 0 ∧ a.opv = true then a.operand % 2 ^ 48 else s.lreg k i) ∧
       t.fget .LANE_ACTINFO_TAG k = a.tag % 2 ^ Fld.len .LANE_ACTINFO_TAG ∧ t.flag .LANE_ACTINFO_OPV k = a.opv ∧
       t.fget .LANE_ACTINFO_GEN k = a.gen % 2 ^ Fld.len .LANE_ACTINFO_GEN ∧
       t.fget .LANE_ACTINFO_SRC k = a.src % 2 ^ Fld.len .LANE_ACTINFO_SRC ∧
       (t.laneAt k).acc = (s.laneAt k).acc ∧ t.mem = s.mem ∧ ∀ x, x ≠ k.val → t.laneAt x = s.laneAt x) ∧
  (∀ (k : Fin 32) (f : LaneWord) (s : State), laneFetch s k .end_ = some f → (s.laneAt k).loads = [] →
    s.flag .LANE_CTRL_EN k = true → (s.laneAt k).queue = [] →
    ∃ t, exec (.laneEnd k) s = .next t ∧ (t.laneAt k).active = false ∧ t.fget .LANE_STAT_STATE k = laneIdle ∧
      t.fget .LANE_CYC_LAST k = min 65535 (laneCycles s k) ∧ t.mem = s.mem ∧
      (∀ i, t.lreg k i = s.lreg k i) ∧ ∀ x, x ≠ k.val → t.laneAt x = s.laneAt x) ∧
  (∀ (k : Fin 32) (s : State), (s.laneAt k).loads ≠ [] → exec (.laneEnd k) s = .next s) ∧
  (∀ (k : Fin 32) (f : LaneWord) (s : State), laneFetch s k .nop = some f →
    ∃ t, exec (.laneNop k) s = .next t ∧ LaneStep [] false k s t) ∧
  (∀ (k : Fin 32) (e : Nat) (s : State), firstEdge (s.laneAt k).arriving = some e → e ≤ s.ltc →
    s.fget .LANE_STAT_STATE k = laneIdle ∨ s.fget .LANE_STAT_STATE k = laneRunning →
    (s.laneAt k).queue.length + ((s.laneAt k).arriving.filter (fun x => x.1 == e)).length ≤ 32 →
    ∃ t, exec (.activationEnqueue k) s = .next t ∧
      (t.laneAt k).queue = (s.laneAt k).queue ++ bySource (((s.laneAt k).arriving.filter (fun x => x.1 == e)).map (·.2)) ∧
      (t.laneAt k).arriving = (s.laneAt k).arriving.filter (fun x => x.1 != e) ∧
      SameRegs (FieldsAt [.LANE_QSTAT_COUNT, .LANE_QSTAT_HWM] k) s t) ∧
  (∀ (k : Fin 32) (a : Activation) (rest : List Activation) (s : State), (s.laneAt k).queue = a :: rest →
     mayDispatch s k = true → s.flag .LANE_CTRL_APPLY k = true →
     ∃ t, exec (.dispatch k) s = .next t ∧ (t.laneAt k).queue = rest ∧ (t.laneAt k).active = true ∧ (t.laneAt k).stage = [] ∧
       t.fget .LANE_CTRL_APPLY k = 0 ∧ (t.laneAt k).pc = s.fget .LANE_VEC_ENTRY k a.tag ∧
       (∀ i, t.lreg k i = if i = 0 ∧ a.opv = true then a.operand % 2 ^ 48 else (applyStage s k).lreg k i)) ∧
  (∀ (k : Fin 32) (f : LaneWord) (s : State), laneFetch s k .end_ = some f → (s.laneAt k).loads = [] →
    s.flag .LANE_CTRL_EN k = true → (s.laneAt k).queue ≠ [] →
    ∃ t, exec (.laneEnd k) s = .next t ∧ (t.laneAt k).active = false ∧ t.fget .LANE_STAT_STATE k = laneRunning ∧
      (t.laneAt k).queue = (s.laneAt k).queue ∧ t.fget .LANE_CYC_LAST k = min 65535 (laneCycles s k)) ∧
  (∀ (k : Fin 32) (f : LaneWord) (s : State), laneFetch s k .end_ = some f → (s.laneAt k).loads = [] →
    s.flag .LANE_CTRL_EN k = false →
    ∃ t, exec (.laneEnd k) s = .next t ∧ (t.laneAt k).active = false ∧ (t.laneAt k).ending = true ∧
      (laneCycleEnd t k).fget .LANE_STAT_STATE k = laneDisabled ∧ ((laneCycleEnd t k).laneAt k).queue = [] ∧
      t.fget .LANE_CYC_LAST k = min 65535 (laneCycles s k)) ∧
  (∀ (k : Fin 32) (mn : LaneMn) (f : LaneWord) (s : State), (s.laneAt k).active = true → laneReady s k = true →
    overdue s k = false → (s.laneAt k).pc < 512 → wordReadable s k = true →
    laneDecode (s.pmem k (s.laneAt k).pc) = some (mn, f) →
    (∀ r ∈ laneSources mn f ++ laneDests mn f, r ∉ pendingRegs (s.laneAt k)) →
    (∀ r ∈ laneSources mn f, unready s k r = false) → laneFetch s k mn = some f)

/-- R199: the activations that arrive at one edge while the lane is disabled or faulted are discarded, and each is counted in
LANE_DISCCNT (which saturates); the queue, the later arrivals and every other register stay. -/
def Obligations.DisabledLaneDiscards : Prop :=
  (∀ (k : Fin 32) (e : Nat) (s : State), firstEdge (s.laneAt k).arriving = some e → e ≤ s.ltc →
    s.fget .LANE_STAT_STATE k = laneDisabled ∨ s.fget .LANE_STAT_STATE k = laneFaulted →
    ∃ t, exec (.activationEnqueue k) s = .next t ∧ (t.laneAt k).queue = (s.laneAt k).queue ∧
      (t.laneAt k).arriving = (s.laneAt k).arriving.filter (fun x => x.1 != e) ∧
      t.fget .LANE_DISCCNT_COUNT k = min 65535 (s.fget .LANE_DISCCNT_COUNT k +
        ((s.laneAt k).arriving.filter (fun x => x.1 == e)).length) ∧
      SameRegs (FieldsAt [.LANE_DISCCNT_COUNT] k) s t ∧ t.mem = s.mem ∧ ∀ x, x ≠ k.val → t.laneAt x = s.laneAt x)

/-! ### Control lanes: instructions -/

/-- MOV, LDI, MOVS and ANG: the register each writes (R211, R217, R218); the first three leave the flags. MIN, MAX, CLMP and
SLEW with LIM, and CMP (R211): LIM says that the limit applied. AND, OR and XOR: the bits of the result, Z and N, SAT and LIM
cleared (R205, R211). -/
def Obligations.LaneMovesLimitsLogic : Prop :=
  (∀ (k : Fin 32) (f : LaneWord) (s : State), laneFetch s k .mov = some f →
    ∃ t, exec (.laneMov k) s = .next t ∧ t.lreg k f.rd = s.lreg k f.rs1 % 2 ^ 48 ∧ LaneStep [f.rd] false k s t) ∧
  (∀ (k : Fin 32) (f : LaneWord) (s : State), laneFetch s k .ldi = some f →
    ∃ t, exec (.laneLdi k) s = .next t ∧ LaneStep [f.rd] false k s t ∧
      (f.rs2 = 0 → t.lregI k f.rd = sext 32 f.imm * 2 ^ 16) ∧
      (f.rs2 = 1 → t.lreg k f.rd = s.lreg k f.rd / 2 ^ 32 % 2 ^ 16 * 2 ^ 32 + f.imm % 2 ^ 32) ∧
      (f.rs2 = 2 → t.lreg k f.rd = f.imm % 2 ^ 16 * 2 ^ 32 + s.lreg k f.rd % 2 ^ 32)) ∧
  (∀ (k : Fin 32) (f : LaneWord) (s : State), laneFetch s k .movs = some f →
    ∃ t, exec (.laneMovs k) s = .next t ∧ t.lreg k f.rd = movsValue s k (f.imm % 8) % 2 ^ 16 * 2 ^ 32 ∧
      LaneStep [f.rd] false k s t) ∧
  (∀ (k : Fin 32) (f : LaneWord) (s : State), laneFetch s k .ang = some f →
    ∃ t, exec (.laneAng k) s = .next t ∧ t.lreg k f.rd = s.angleLag (f.imm % 2) * 2 ^ 16 % 2 ^ 48 ∧
      t.flag .LANE_STAT_LIM k = (!s.flag .LAE_FEED_STAT_LOCK (f.imm % 2)) ∧ t.flag .LANE_STAT_SAT k = false ∧
      LaneStep [f.rd] true k s t) ∧
  (∀ (k : Fin 32) (f : LaneWord) (s : State), laneFetch s k .min = some f →
    ∃ t, exec (.laneMin k) s = .next t ∧ Saturated k f.rd (min (s.lregI k f.rs1) (s.lregI k f.rs2))
        (decide (s.lregI k f.rs2 < s.lregI k f.rs1)) t ∧ LaneStep [f.rd] true k s t) ∧
  (∀ (k : Fin 32) (f : LaneWord) (s : State), laneFetch s k .max = some f →
    ∃ t, exec (.laneMax k) s = .next t ∧ Saturated k f.rd (max (s.lregI k f.rs1) (s.lregI k f.rs2))
        (decide (s.lregI k f.rs1 < s.lregI k f.rs2)) t ∧ LaneStep [f.rd] true k s t) ∧
  (∀ (k : Fin 32) (f : LaneWord) (s : State), laneFetch s k .clmp = some f →
    ∃ t, exec (.laneClmp k) s = .next t ∧
      Saturated k f.rd (min (max (s.lregI k f.rs1) (s.lregI k f.rs2)) (s.lregI k f.rs3))
        (decide (min (max (s.lregI k f.rs1) (s.lregI k f.rs2)) (s.lregI k f.rs3) ≠ s.lregI k f.rs1)) t ∧
      LaneStep [f.rd] true k s t) ∧
  (∀ (k : Fin 32) (f : LaneWord) (s : State), laneFetch s k .slew = some f →
    ∃ t, exec (.laneSlew k) s = .next t ∧ LaneStep [f.rd] true k s t ∧
      (((s.lregI k f.rs1 - s.lregI k f.rs2).natAbs : Int) ≤ ((s.lregI k f.rs3).natAbs : Int) → Saturated k f.rd (s.lregI k f.rs1) false t) ∧
      (((s.lregI k f.rs3).natAbs : Int) < s.lregI k f.rs1 - s.lregI k f.rs2 →
        Saturated k f.rd (s.lregI k f.rs2 + ((s.lregI k f.rs3).natAbs : Int)) true t) ∧
      (((s.lregI k f.rs3).natAbs : Int) < s.lregI k f.rs2 - s.lregI k f.rs1 →
        Saturated k f.rd (s.lregI k f.rs2 - ((s.lregI k f.rs3).natAbs : Int)) true t)) ∧
  (∀ (k : Fin 32) (f : LaneWord) (s : State), laneFetch s k .cmp = some f →
    ∃ t, exec (.laneCmp k) s = .next t ∧ LaneStep [] true k s t ∧
      t.laneFlags k = ⟨decide (s.lregI k f.rs1 = s.lregI k f.rs2), decide (s.lregI k f.rs1 < s.lregI k f.rs2), false,
        false⟩) ∧
  (∀ (k : Fin 32) (f : LaneWord) (s : State), laneFetch s k .and = some f →
    ∃ t, exec (.laneAnd k) s = .next t ∧ LaneStep [f.rd] true k s t ∧
      (∀ i, i < 48 → bit (t.lreg k f.rd) i = (bit (s.lreg k f.rs1) i && bit (s.lreg k f.rs2) i)) ∧
      t.laneFlags k = ⟨t.lreg k f.rd == 0, bit (t.lreg k f.rd) 47, false, false⟩) ∧
  (∀ (k : Fin 32) (f : LaneWord) (s : State), laneFetch s k .or = some f →
    ∃ t, exec (.laneOr k) s = .next t ∧ LaneStep [f.rd] true k s t ∧
      (∀ i, i < 48 → bit (t.lreg k f.rd) i = (bit (s.lreg k f.rs1) i || bit (s.lreg k f.rs2) i)) ∧
      t.laneFlags k = ⟨t.lreg k f.rd == 0, bit (t.lreg k f.rd) 47, false, false⟩) ∧
  (∀ (k : Fin 32) (f : LaneWord) (s : State), laneFetch s k .xor = some f →
    ∃ t, exec (.laneXor k) s = .next t ∧ LaneStep [f.rd] true k s t ∧
      (∀ i, i < 48 → bit (t.lreg k f.rd) i = (bit (s.lreg k f.rs1) i != bit (s.lreg k f.rs2) i)) ∧
      t.laneFlags k = ⟨t.lreg k f.rd == 0, bit (t.lreg k f.rd) 47, false, false⟩)

/-- ADD and SUB saturate, or wrap modulo 2^48 when W is 1, SAT and LIM then clear and Z and N those of the pattern; NEG and ABS saturate;
MUL, MADD, MSUB and ASH round their exact result once by RM and saturate (R205, R206, R207, R211). -/
def Obligations.LaneArithmetic : Prop :=
  (∀ (k : Fin 32) (f : LaneWord) (s : State), laneFetch s k .add = some f → bit f.imm 2 = false →
    ∃ t, exec (.laneAdd k) s = .next t ∧ Saturated k f.rd (s.lregI k f.rs1 + s.lregI k f.rs2) false t ∧
      LaneStep [f.rd] true k s t) ∧
  (∀ (k : Fin 32) (f : LaneWord) (s : State), laneFetch s k .add = some f → bit f.imm 2 = true →
    ∃ t, exec (.laneAdd k) s = .next t ∧ t.lreg k f.rd = (s.lreg k f.rs1 + s.lreg k f.rs2) % 2 ^ 48 ∧
      t.laneFlags k = ⟨t.lreg k f.rd == 0, bit (t.lreg k f.rd) 47, false, false⟩ ∧ LaneStep [f.rd] true k s t) ∧
  (∀ (k : Fin 32) (f : LaneWord) (s : State), laneFetch s k .sub = some f → bit f.imm 2 = false →
    ∃ t, exec (.laneSub k) s = .next t ∧ Saturated k f.rd (s.lregI k f.rs1 - s.lregI k f.rs2) false t ∧
      LaneStep [f.rd] true k s t) ∧
  (∀ (k : Fin 32) (f : LaneWord) (s : State), laneFetch s k .neg = some f →
    ∃ t, exec (.laneNeg k) s = .next t ∧ Saturated k f.rd (-s.lregI k f.rs1) false t ∧ LaneStep [f.rd] true k s t) ∧
  (∀ (k : Fin 32) (f : LaneWord) (s : State), laneFetch s k .abs = some f →
    ∃ t, exec (.laneAbs k) s = .next t ∧ Saturated k f.rd (max (s.lregI k f.rs1) (-s.lregI k f.rs1)) false t ∧
      LaneStep [f.rd] true k s t) ∧
  (∀ (k : Fin 32) (f : LaneWord) (s : State), laneFetch s k .mul = some f →
    ∃ t, exec (.laneMul k) s = .next t ∧
      Saturated k f.rd (roundDiv (f.imm % 4) (s.lregI k f.rs1 * s.lregI k f.rs2) (2 ^ 32)) false t ∧
      LaneStep [f.rd] true k s t) ∧
  (∀ (k : Fin 32) (f : LaneWord) (s : State), laneFetch s k .madd = some f →
    ∃ t, exec (.laneMadd k) s = .next t ∧ Saturated k f.rd (roundDiv (f.imm % 4)
        (s.lregI k f.rs3 * 2 ^ 32 + s.lregI k f.rs1 * s.lregI k f.rs2) (2 ^ 32)) false t ∧ LaneStep [f.rd] true k s t) ∧
  (∀ (k : Fin 32) (f : LaneWord) (s : State), laneFetch s k .msub = some f →
    ∃ t, exec (.laneMsub k) s = .next t ∧ Saturated k f.rd (roundDiv (f.imm % 4)
        (s.lregI k f.rs3 * 2 ^ 32 - s.lregI k f.rs1 * s.lregI k f.rs2) (2 ^ 32)) false t ∧ LaneStep [f.rd] true k s t) ∧
  (∀ (k : Fin 32) (f : LaneWord) (s : State), laneFetch s k .ash = some f →
    ∃ t, exec (.laneAsh k) s = .next t ∧
      Saturated k f.rd (if 0 ≤ immSh f.imm then s.lregI k f.rs1 * 2 ^ (immSh f.imm).toNat
        else roundDiv (f.imm % 4) (s.lregI k f.rs1) (2 ^ (-immSh f.imm).toNat)) false t ∧ LaneStep [f.rd] true k s t) ∧
  (∀ (k : Fin 32) (f : LaneWord) (s : State), laneFetch s k .sub = some f → bit f.imm 2 = true →
    ∃ t, exec (.laneSub k) s = .next t ∧
      t.lreg k f.rd = (s.lreg k f.rs1 + (2 ^ 48 - s.lreg k f.rs2 % 2 ^ 48)) % 2 ^ 48 ∧
      t.laneFlags k = ⟨t.lreg k f.rd == 0, bit (t.lreg k f.rd) 47, false, false⟩ ∧ LaneStep [f.rd] true k s t)

/-- The accumulators: ACLR clears one, ALD loads one, AMAC and AMSU add and subtract an exact product, saturating at 104 bits with the
flags of the sum, ARD reads one shifted, rounded by RM and saturated, and keeps it; the accumulator that ACC does not select stays
(R208, R211). -/
def Obligations.LaneAccumulators : Prop :=
  (∀ (k : Fin 32) (f : LaneWord) (s : State), laneFetch s k .aclr = some f →
    ∃ t, exec (.laneAclr k) s = .next t ∧ accI (t.laneAt k) (accSel f) = 0 ∧
      accI (t.laneAt k) (1 - accSel f) = accI (s.laneAt k) (1 - accSel f) ∧ LaneStep [] false k s t) ∧
  (∀ (k : Fin 32) (f : LaneWord) (s : State), laneFetch s k .ald = some f →
    ∃ t, exec (.laneAld k) s = .next t ∧ accI (t.laneAt k) (accSel f) = s.lregI k f.rs1 * 2 ^ 32 ∧
      accI (t.laneAt k) (1 - accSel f) = accI (s.laneAt k) (1 - accSel f) ∧ LaneStep [] false k s t) ∧
  (∀ (k : Fin 32) (f : LaneWord) (s : State), laneFetch s k .amac = some f →
    ∃ t, exec (.laneAmac k) s = .next t ∧
      Accumulated k (accSel f) (accI (s.laneAt k) (accSel f) + s.lregI k f.rs1 * s.lregI k f.rs2) s t ∧
      LaneStep [] true k s t) ∧
  (∀ (k : Fin 32) (f : LaneWord) (s : State), laneFetch s k .amsu = some f →
    ∃ t, exec (.laneAmsu k) s = .next t ∧
      Accumulated k (accSel f) (accI (s.laneAt k) (accSel f) - s.lregI k f.rs1 * s.lregI k f.rs2) s t ∧
      LaneStep [] true k s t) ∧
  (∀ (k : Fin 32) (f : LaneWord) (s : State), laneFetch s k .ard = some f →
    ∃ t, exec (.laneArd k) s = .next t ∧ Saturated k f.rd (shiftRound (f.imm % 4) (accI (s.laneAt k) (accSel f))
        (immSh f.imm) 32) false t ∧ (t.laneAt k).acc = (s.laneAt k).acc ∧ LaneStep [f.rd] true k s t)

/-- The transforms CLARKE, ICLARKE, PARK and IPARK: every result, formed exactly from the named constants, rounded once and saturated,
Z and N of the first result and SAT of any (R205, R220; the constants to 2⁻⁶⁴ are log entry 20). SINCOS writes the sine and the cosine
of the angle and no flag: exactly 1 or -1 where they are, else a value within 2⁻²⁹ of the model's series (R219; which one is a free
value, log entry 21). -/
def Obligations.LaneTransforms : Prop :=
  (∀ (k : Fin 32) (f : LaneWord) (s : State), laneFetch s k .clarke = some f →
    ∃ t, exec (.laneClarke k) s = .next t ∧ LaneStep [f.rd, f.rd + 1] true k s t ∧
      SaturatedMany k f.rd [trRound ((2 * s.lregI k f.rs1 - s.lregI k (f.rs1 + 1) - s.lregI k (f.rs1 + 2)) * kThird),
        trRound ((s.lregI k (f.rs1 + 1) - s.lregI k (f.rs1 + 2)) * kInvSqrt3)] t) ∧
  (∀ (k : Fin 32) (f : LaneWord) (s : State), laneFetch s k .iclarke = some f →
    ∃ t, exec (.laneIclarke k) s = .next t ∧ LaneStep [f.rd, f.rd + 1, f.rd + 2] true k s t ∧
      SaturatedMany k f.rd [s.lregI k f.rs1, trRound (-s.lregI k f.rs1 * 2 ^ 63 + s.lregI k (f.rs1 + 1) * kSqrt3Half),
        trRound (-s.lregI k f.rs1 * 2 ^ 63 - s.lregI k (f.rs1 + 1) * kSqrt3Half)] t) ∧
  (∀ (k : Fin 32) (f : LaneWord) (s : State), laneFetch s k .park = some f →
    ∃ t, exec (.lanePark k) s = .next t ∧ LaneStep [f.rd, f.rd + 1] true k s t ∧
      SaturatedMany k f.rd [roundDiv 0 (s.lregI k f.rs1 * s.lregI k (f.rs2 + 1) +
        s.lregI k (f.rs1 + 1) * s.lregI k f.rs2) (2 ^ 32), roundDiv 0 (-s.lregI k f.rs1 * s.lregI k f.rs2 +
        s.lregI k (f.rs1 + 1) * s.lregI k (f.rs2 + 1)) (2 ^ 32)] t) ∧
  (∀ (k : Fin 32) (f : LaneWord) (s : State), laneFetch s k .ipark = some f →
    ∃ t, exec (.laneIpark k) s = .next t ∧ LaneStep [f.rd, f.rd + 1] true k s t ∧
      SaturatedMany k f.rd [roundDiv 0 (s.lregI k f.rs1 * s.lregI k (f.rs2 + 1) -
        s.lregI k (f.rs1 + 1) * s.lregI k f.rs2) (2 ^ 32), roundDiv 0 (s.lregI k f.rs1 * s.lregI k f.rs2 +
        s.lregI k (f.rs1 + 1) * s.lregI k (f.rs2 + 1)) (2 ^ 32)] t) ∧
  (∀ (k : Fin 32) (f : LaneWord) (s : State), laneFetch s k .sincos = some f →
    ∃ t x y, exec (.laneSincos k) s = .next t ∧ LaneStep [f.rd, f.rd + 1] false k s t ∧
      t.lreg k f.rd = twos 48 (sinResult (bits (s.lreg k f.rs1) 16 32) x) ∧
      t.lreg k (f.rd + 1) = twos 48 (sinResult (bits (s.lreg k f.rs1) 16 32 + 2 ^ 30) y)) ∧
  (∀ (a x : Nat), a % 2 ^ 32 ≠ 2 ^ 30 → a % 2 ^ 32 ≠ 3 * 2 ^ 30 →
    sinResult a x * 2 ^ 48 - sinFine a ≤ 2 ^ 51 ∧ sinFine a - sinResult a x * 2 ^ 48 ≤ 2 ^ 51) ∧
  (∀ (a x : Nat), a % 2 ^ 32 = 2 ^ 30 → sinResult a x = 2 ^ 32) ∧
  (∀ (a x : Nat), a % 2 ^ 32 = 3 * 2 ^ 30 → sinResult a x = -(2 ^ 32))

/-- LD and ST: a load is issued for consecutive registers, a store for consecutive words, as one request for the bank of the word
index, or as two where they cross into the next bank (R42, R221); a lane with two loads outstanding, or four stores buffered, stays
where it is (R215). LOAD_DATA_RETURN: a word that has come writes its register; an uncorrectable one writes none, and faults with SDLECC
while an activation executes (R222, R224); the last word that a fault waits for lets its record be made (R242). -/
def Obligations.LaneMemory : Prop :=
  (∀ (k : Fin 32) (f : LaneWord) (s : State), laneFetch s k .ld = some f → (s.laneAt k).loads.length < 2 →
    laneWordIndex s k f % 16384 + f.rs3 < 16384 →
    ∃ t, exec (.laneLd k) s = .next t ∧ LaneStep [] false k s t ∧
      (t.laneAt k).loads = (s.laneAt k).loads ++ [⟨s.sdlSeq, (List.range (f.rs3 + 1)).map (f.rd + ·), []⟩] ∧
      (t.bankAt (wordBank (laneWordIndex s k f))).req = (s.bankAt (wordBank (laneWordIndex s k f))).req ++
        [⟨k / 4, s.sdlSeq, laneWordIndex s k f, f.rs3 + 1, false, [], .laneLoad k f.rd, s.laneEdge, true, false, false⟩]) ∧
  (∀ (k : Fin 32) (f : LaneWord) (s : State), laneFetch s k .st = some f → (s.laneAt k).stores < 4 →
    laneWordIndex s k f % 16384 + f.rs3 < 16384 →
    ∃ t, exec (.laneSt k) s = .next t ∧ LaneStep [] false k s t ∧ (t.laneAt k).stores = (s.laneAt k).stores + 1 ∧
      (t.bankAt (wordBank (laneWordIndex s k f))).req = (s.bankAt (wordBank (laneWordIndex s k f))).req ++
        [⟨k / 4, s.sdlSeq, laneWordIndex s k f, f.rs3 + 1, true,
          (List.range (f.rs3 + 1)).map fun i => s.lreg k (f.rd + i), .laneStore k, s.laneEdge, true, false, false⟩]) ∧
  (∀ (k : Fin 32) (s : State), 2 ≤ (s.laneAt k).loads.length → exec (.laneLd k) s = .next s) ∧
  (∀ (k : Fin 32) (s : State), 4 ≤ (s.laneAt k).stores → exec (.laneSt k) s = .next s) ∧
  (∀ (k : Fin 32) (r v e : Nat) (s : State), nextReturn s.laneEdge (s.laneAt k).loads = some ⟨r, v, false, e⟩ →
    (s.laneAt k).faultWait = none →
    ∃ t, exec (.loadDataReturn k) s = .next t ∧ t.lreg k r = v % 2 ^ 48 ∧
      (t.laneAt k).loads = dropReturn r (s.laneAt k).loads ∧ (t.laneAt k).active = (s.laneAt k).active ∧
      SameRegs (fun x => x = ⟨.LANE_LREG_VALUE, k, r⟩) s t ∧ t.mem = s.mem) ∧
  (∀ (k : Fin 32) (r v e : Nat) (s : State), nextReturn s.laneEdge (s.laneAt k).loads = some ⟨r, v, true, e⟩ →
    (s.laneAt k).active = true → s.flag .LANE_STAT_FAULT k = false →
    ∃ t, exec (.loadDataReturn k) s = .next t ∧ Faulted k causeSdlecc ((s.laneAt k).pc % 512) t ∧
      t.lreg k r = s.lreg k r) ∧
  (∀ (k : Fin 32) (f : LaneWord) (s : State), laneFetch s k .ld = some f → (s.laneAt k).loads.length < 2 →
    16384 ≤ laneWordIndex s k f % 16384 + f.rs3 →
    ∃ t, exec (.laneLd k) s = .next t ∧ LaneStep [] false k s t ∧
      (t.laneAt k).loads = (s.laneAt k).loads ++ [⟨s.sdlSeq, (List.range (f.rs3 + 1)).map (f.rd + ·), []⟩] ∧
      let w := laneWordIndex s k f;
      let n := 16384 - w % 16384;
      (t.bankAt (wordBank w)).req = (s.bankAt (wordBank w)).req ++
        [⟨k / 4, s.sdlSeq, w, n, false, [], .laneLoad k f.rd, s.laneEdge, true, false, false⟩] ∧
      (t.bankAt (wordBank (w + n))).req = (s.bankAt (wordBank (w + n))).req ++
        [⟨k / 4, s.sdlSeq + 1, (w + n) % 65536, f.rs3 + 1 - n, false, [], .laneLoad k (f.rd + n), s.laneEdge, true, true, false⟩]) ∧
  (∀ (k : Fin 32) (f : LaneWord) (s : State), laneFetch s k .st = some f → (s.laneAt k).stores < 4 →
    16384 ≤ laneWordIndex s k f % 16384 + f.rs3 →
    ∃ t, exec (.laneSt k) s = .next t ∧ LaneStep [] false k s t ∧ (t.laneAt k).stores = (s.laneAt k).stores + 1 ∧
      let w := laneWordIndex s k f;
      let n := 16384 - w % 16384;
      let d := (List.range (f.rs3 + 1)).map fun i => s.lreg k (f.rd + i);
      (t.bankAt (wordBank w)).req = (s.bankAt (wordBank w)).req ++
        [⟨k / 4, s.sdlSeq, w, n, true, d.take n, .laneStore k, s.laneEdge, true, false, false⟩] ∧
      (t.bankAt (wordBank (w + n))).req = (s.bankAt (wordBank (w + n))).req ++
        [⟨k / 4, s.sdlSeq + 1, (w + n) % 65536, f.rs3 + 1 - n, true, d.drop n, .laneStore k, s.laneEdge, true, true, false⟩]) ∧
  (∀ (k : Fin 32) (r v e : Nat) (s : State), nextReturn s.laneEdge (s.laneAt k).loads = some ⟨r, v, true, e⟩ →
    (s.laneAt k).active = false → (s.laneAt k).faultWait = none →
    ∃ t, exec (.loadDataReturn k) s = .next t ∧ (t.laneAt k).loads = dropReturn r (s.laneAt k).loads ∧ t.regs = s.regs ∧
      t.mem = s.mem) ∧
  (∀ (k : Fin 32) (w : LaneWordIn) (c p : Nat) (s : State), nextReturn s.laneEdge (s.laneAt k).loads = some w →
    (s.laneAt k).active = false → (s.laneAt k).faultWait = some (c, p) → c < 16 → p < 512 →
    dropReturn w.reg (s.laneAt k).loads = [] → s.flag .LANE_STAT_FAULT k = false →
    ∃ t, exec (.loadDataReturn k) s = .next t ∧ Faulted k c p t ∧ (t.laneAt k).faultWait = none)

/-- R227: a DUTY with a channel field of 24 or more is illegal, and faults with ILLOP; a DUTY that names a channel whose
DUTYMASK bit is 0 faults with DUTYPERM and puts nothing in the duty queue. -/
def Obligations.DutyPermission : Prop :=
  (∀ (w : Nat), (laneFields w).op = (laneRow .duty).op → 24 ≤ (laneFields w).imm % 32 → laneDecode w = none) ∧
  (∀ (k : Fin 32) (s : State), (s.laneAt k).active = true → (s.laneAt k).pc < 512 → wordReadable s k = true → laneReady s k = true → overdue s k = false →
    (laneFields (s.pmem k (s.laneAt k).pc)).op = (laneRow .duty).op →
    24 ≤ (laneFields (s.pmem k (s.laneAt k).pc)).imm % 32 → s.flag .LANE_STAT_FAULT k = false →
    ∃ t, exec (.illegalInstruction k) s = .next t ∧ Faulted k causeIllop (s.laneAt k).pc t) ∧
  (∀ (k : Fin 32) (f : LaneWord) (s : State), laneFetch s k .duty = some f →
    s.fbit .LANE_DUTYMASK_CH (f.imm % 32) k = false → s.flag .LANE_STAT_FAULT k = false →
    ∃ t, exec (.laneDuty k) s = .next t ∧ Faulted k causeDutyperm ((s.laneAt k).pc % 512) t ∧ t.dutyq = s.dutyq)

/-- R228: COMMIT puts its 8-bit mask in the queue of its lane's group; when it lands, the enabled channels of every Team named
become pending, as a write of PWM_TEAMLOAD makes them; a COMMIT that names a Team whose TEAMMASK bit is 0 faults with TEAMPERM
and puts nothing in the queue; a COMMIT with mask 0 only steps on. A lane whose group's queue is full stays where it is (R39). -/
def Obligations.CommitOfTeams : Prop :=
  (∀ (k : Fin 32) (f : LaneWord) (s : State), laneFetch s k .commit = some f → f.imm % 256 ≠ 0 →
    (∀ t : Fin 8, bit f.imm t = true → s.fbit .LANE_TEAMMASK_TEAM t k = true) → dutyFull s k = false →
    ∃ t, exec (.laneCommit k) s = .next t ∧ LaneStep [] false k s t ∧
      DutyEntry.commit (s.laneEdge + 2) k (f.imm % 256) ∈ t.dutyAt (k / 8) ∧
      (t.dutyAt (k / 8)).length = (s.dutyAt (k / 8)).length + 1) ∧
  (∀ (k : Fin 32) (f : LaneWord) (s : State), laneFetch s k .commit = some f → f.imm % 256 = 0 →
    ∃ t, exec (.laneCommit k) s = .next t ∧ LaneStep [] false k s t ∧ t.dutyq = s.dutyq) ∧
  (∀ (k : Fin 32) (j : Fin 8) (f : LaneWord) (s : State), laneFetch s k .commit = some f → bit f.imm j = true →
    s.fbit .LANE_TEAMMASK_TEAM j k = false → s.flag .LANE_STAT_FAULT k = false →
    ∃ t, exec (.laneCommit k) s = .next t ∧ Faulted k causeTeamperm ((s.laneAt k).pc % 512) t ∧ t.dutyq = s.dutyq) ∧
  (∀ (g : Fin 4) (e l mask : Nat) (n : Fin 24) (q : List DutyEntry) (s : State), s.dutyAt g = .commit e l mask :: q →
    e + 3 ≤ s.ltc → vget s.dutyNext g ≤ s.now → chEn s n = true → chTeam s n < 8 → bit mask (chTeam s n) = true → (s.chanAt n).wrapAt ≠ some s.now →
    ∃ t, exec (.dutyLanding g) s = .next t ∧ t.dutyAt g = q ∧ t.flag .PWM_CH_STAT_PEND n = true ∧ t.mem = s.mem) ∧
  (∀ (k : Fin 32) (f : LaneWord) (s : State), laneFetch s k .commit = some f → f.imm % 256 ≠ 0 →
    (∀ t : Fin 8, bit f.imm t = true → s.fbit .LANE_TEAMMASK_TEAM t k = true) → dutyFull s k = true →
    exec (.laneCommit k) s = .next s)

/-- EVT raises the lane's event with the next generation count, SEND sends an activation to its lane; at generation 7 both are
dropped and counted, the first drop since the count was 0 rings its source, 97 or 96 (R203, R231, R232, R323). DBL rings its source
(R233). -/
def Obligations.LaneEvents : Prop :=
  (∀ (k : Fin 32) (f : LaneWord) (s : State), laneFetch s k .evt = some f → s.fget .LANE_ACTINFO_GEN k < 6 →
    (∀ e ∈ s.hrn, e.prod ≠ 128 + 2 * k + f.imm % 2) →
    ∃ t, exec (.laneEvt k) s = .next t ∧ LaneStep [] false k s t ∧
      t.hrn = s.hrn ++ [⟨128 + 2 * k + f.imm % 2, s.fget .LANE_ACTINFO_GEN k + 1, s.laneEdge + 2⟩]) ∧
  (∀ (k : Fin 32) (f : LaneWord) (s : State), laneFetch s k .evt = some f → s.fget .LANE_ACTINFO_GEN k = 6 →
    ∃ t, exec (.laneEvt k) s = .next t ∧ t.hrn = s.hrn ∧ t.fget .HRN_LOOPDROP_LANE = k ∧
      t.fget .HRN_LOOPDROP_COUNT = min (2 ^ Fld.len .HRN_LOOPDROP_COUNT - 1) (s.fget .HRN_LOOPDROP_COUNT + 1) ∧
      (t.laneAt k).pc = (s.laneAt k).pc + 1) ∧
  (∀ (k : Fin 32) (f : LaneWord) (s : State), laneFetch s k .send = some f → s.fget .LANE_ACTINFO_GEN k < 6 →
    ∃ t, exec (.laneSend k) s = .next t ∧ (t.laneAt k).pc = (s.laneAt k).pc + 1 ∧ t.mem = s.mem ∧
      (t.laneAt (f.imm % 32)).arriving = (s.laneAt (f.imm % 32)).arriving ++ [(s.laneEdge + 4,
        ⟨if bit f.imm 9 then s.lreg k f.rs1 else 0, bit f.imm 9, bits f.imm 5 4, s.fget .LANE_ACTINFO_GEN k + 1, 64 + k⟩)]) ∧
  (∀ (k : Fin 32) (f : LaneWord) (s : State), laneFetch s k .send = some f → s.fget .LANE_ACTINFO_GEN k = 6 →
    ∃ t, exec (.laneSend k) s = .next t ∧
      t.fget .LANE_DROPCNT_LOOP k = min (2 ^ Fld.len .LANE_DROPCNT_LOOP - 1) (s.fget .LANE_DROPCNT_LOOP k + 1) ∧
      (t.laneAt (f.imm % 32)).arriving = (s.laneAt (f.imm % 32)).arriving) ∧
  (∀ (k : Fin 32) (f : LaneWord) (s : State), laneFetch s k .dbl = some f → sourceReserved (f.imm % 512) = false →
    f.imm % 512 < 384 →
    ∃ t, exec (.laneDbl k) s = .next t ∧ (t.laneAt k).pc = (s.laneAt k).pc + 1 ∧ t.mem = s.mem ∧
      t.fbit .BFY_PEND_W (f.imm % 512 % 32) (f.imm % 512 / 32) = true ∧
      SameRegs (Fields [.BFY_PEND_W, .BFY_MERGECNT_COUNT, .LANE_PC_PC, .LANE_ECCCNT_PMCOR]) s t) ∧
  (∀ (k : Fin 32) (f : LaneWord) (s : State), laneFetch s k .evt = some f → s.fget .LANE_ACTINFO_GEN k = 6 →
    s.fget .HRN_LOOPDROP_COUNT = 0 → ∃ t, exec (.laneEvt k) s = .next t ∧ pended t 97 = true) ∧
  (∀ (k : Fin 32) (f : LaneWord) (s : State), laneFetch s k .send = some f → s.fget .LANE_ACTINFO_GEN k = 6 →
    s.fget .LANE_DROPCNT_LOOP k = 0 → ∃ t, exec (.laneSend k) s = .next t ∧ pended t 96 = true)

/-- BR goes to its target when its condition holds of the flags, else on (R212). CALL pushes the next address and RET returns to
it; a CALL with four entries, and a RET with none, faults with STACK (R213). The faults that are commands: an illegal or
uncorrectable word, a next address of 512 or more, an expired budget, the bound after a disable; each with its cause and its
address (R210, R213, R216, R238, R241, R242, R244). -/
def Obligations.LaneBranchesAndFaults : Prop :=
  (∀ (k : Fin 32) (f : LaneWord) (s : State), laneFetch s k .br = some f →
    ∃ t, exec (.laneBr k) s = .next t ∧
      (t.laneAt k).pc = (if branchTaken f.rs3 (s.laneFlags k) then f.imm else (s.laneAt k).pc + 1) ∧
      t.laneFlags k = s.laneFlags k ∧ t.mem = s.mem ∧
      SameRegs (FieldsAt [.LANE_PC_PC, .LANE_ECCCNT_PMCOR] k) s t) ∧
  (∀ (k : Fin 32) (f : LaneWord) (s : State), laneFetch s k .call = some f → (s.laneAt k).stack.length < 4 →
    ∃ t, exec (.laneCall k) s = .next t ∧ (t.laneAt k).pc = f.imm ∧
      (t.laneAt k).stack = ((s.laneAt k).pc + 1) :: (s.laneAt k).stack ∧ t.mem = s.mem ∧
      SameRegs (FieldsAt [.LANE_PC_PC, .LANE_ECCCNT_PMCOR] k) s t) ∧
  (∀ (k : Fin 32) (f : LaneWord) (a : Nat) (st : List Nat) (s : State), laneFetch s k .ret = some f →
    (s.laneAt k).stack = a :: st →
    ∃ t, exec (.laneRet k) s = .next t ∧ (t.laneAt k).pc = a ∧ (t.laneAt k).stack = st ∧ t.mem = s.mem ∧
      SameRegs (FieldsAt [.LANE_PC_PC, .LANE_ECCCNT_PMCOR] k) s t) ∧
  (∀ (k : Fin 32) (f : LaneWord) (s : State), laneFetch s k .call = some f → 4 ≤ (s.laneAt k).stack.length →
    s.flag .LANE_STAT_FAULT k = false →
    ∃ t, exec (.laneCall k) s = .next t ∧ Faulted k causeStack ((s.laneAt k).pc % 512) t) ∧
  (∀ (k : Fin 32) (f : LaneWord) (s : State), laneFetch s k .ret = some f → (s.laneAt k).stack = [] →
    s.flag .LANE_STAT_FAULT k = false →
    ∃ t, exec (.laneRet k) s = .next t ∧ Faulted k causeStack ((s.laneAt k).pc % 512) t) ∧
  (∀ (k : Fin 32) (s : State), (s.laneAt k).active = true → laneReady s k = true → overdue s k = false → (s.laneAt k).pc < 512 → wordReadable s k = true →
    laneDecode (s.pmem k (s.laneAt k).pc) = none → s.flag .LANE_STAT_FAULT k = false →
    ∃ t, exec (.illegalInstruction k) s = .next t ∧ Faulted k causeIllop (s.laneAt k).pc t) ∧
  (∀ (k : Fin 32) (s : State), (s.laneAt k).active = true → laneReady s k = true → overdue s k = false → (s.laneAt k).pc < 512 → wordReadable s k = false →
    s.flag .LANE_STAT_FAULT k = false →
    ∃ t, exec (.illegalInstruction k) s = .next t ∧ Faulted k causePmecc (s.laneAt k).pc t) ∧
  (∀ (k : Fin 32) (s : State), (s.laneAt k).active = true → laneReady s k = true → overdue s k = false → 512 ≤ (s.laneAt k).pc → s.flag .LANE_STAT_FAULT k = false →
    ∃ t, exec (.pcOverflow k) s = .next t ∧ Faulted k causePcovf ((s.laneAt k).lastPc % 512) t) ∧
  (∀ (k : Fin 32) (s : State), (s.laneAt k).active = true → (s.laneAt k).budget ≠ 0 →
    (s.laneAt k).budget + 1 < laneCycles s k → s.flag .LANE_STAT_FAULT k = false →
    ∃ t, exec (.budgetExpiry k) s = .next t ∧ Faulted k causeBudget ((s.laneAt k).pc % 512) t) ∧
  (∀ (k : Fin 32) (d : Nat) (s : State), (s.laneAt k).active = true → (s.laneAt k).budget = 0 →
    (s.laneAt k).disabledAt = some d → d + 2048 < s.laneEdge → s.flag .LANE_STAT_FAULT k = false →
    ∃ t, exec (.disableBoundExpiry k) s = .next t ∧ Faulted k causeBudget ((s.laneAt k).pc % 512) t)

/-- LREG_WRITE: direct while EN is 0; staged while EN is 1 and the stage has room, else STGOVF and nothing staged (R234). LANE_APPLY
at a lane between activations, and APPLY_EXECUTE at the boundary after a request, copy the stage, in order, and empty it; else APPLY is
noted (R235). PMEM_WRITE: the high half joins the low half staged for the word, else the word keeps its low half; while EN is 1 no word
is written and PMWERR sets (R32, R237). POST puts an activation with the operand of POSTOP on its way to the lane (R239). LANE_ENABLE takes
a disabled lane to IDLE with an empty queue, and withdraws a disable under way. LANE_DISABLE takes a lane between activations to
DISABLED, its queue discarded and counted; one that executes finishes first, and one whose activation ended in this cycle is DISABLED at
its end (R241). LANE_FAULT_CLEAR takes a faulted, enabled lane back to IDLE with no cause (R240). -/
def Obligations.LaneOutsideWrites : Prop :=
  (∀ (m : Fin 10) (k : Fin 32) (i : Fin 64) (v : Nat) (s : State), Reaches s m (regAddr .LANE_LREG k i) →
    s.flag .LANE_CTRL_EN k = false →
    ∃ t, exec (.lregWrite m k i v) s = .next t ∧ t.lreg k i = v % 2 ^ 48 ∧ t.lane = s.lane ∧ t.mem = s.mem ∧
      SameRegs (fun x => x = ⟨.LANE_LREG_VALUE, k, i⟩ ∨ x.f = .PMG_DOMSTAT_DIRTY) s t) ∧
  (∀ (m : Fin 10) (k : Fin 32) (i : Fin 64) (v : Nat) (s : State), Reaches s m (regAddr .LANE_LREG k i) →
    s.flag .LANE_CTRL_EN k = true → (s.laneAt k).stage.length < 16 →
    ∃ t, exec (.lregWrite m k i v) s = .next t ∧ (t.laneAt k).stage = (s.laneAt k).stage ++ [(i.val, v % 2 ^ 48)] ∧
      SameRegs (Fields [.PMG_DOMSTAT_DIRTY]) s t ∧ t.mem = s.mem) ∧
  (∀ (m : Fin 10) (k : Fin 32) (i : Fin 64) (v : Nat) (s : State), Reaches s m (regAddr .LANE_LREG k i) →
    s.flag .LANE_CTRL_EN k = true → 16 ≤ (s.laneAt k).stage.length →
    ∃ t, exec (.lregWrite m k i v) s = .next t ∧ t.lane = s.lane ∧ t.flag .LANE_STAT_STGOVF k = true) ∧
  (∀ (m : Fin 10) (k : Fin 32) (i : Fin 64) (v : Nat) (s : State), Reaches s m (regAddr .LANE_CTRL k) →
    s.fget .LANE_CTRL_EN k = 1 → laneBetween s k = true → s.fget .LANE_STAT_STATE k = laneIdle →
    (s.laneAt k).stage = [(i.val, v)] →
    ∃ t, exec (.laneApply m k) s = .next t ∧ t.lreg k i = v % 2 ^ 48 ∧ (t.laneAt k).stage = [] ∧
      t.fget .LANE_CTRL_APPLY k = 0 ∧ t.mem = s.mem) ∧
  (∀ (m : Fin 10) (k : Fin 32) (s : State), Reaches s m (regAddr .LANE_CTRL k) → s.fget .LANE_CTRL_EN k = 1 →
    (s.laneAt k).active = true → s.fget .LANE_STAT_STATE k = laneRunning →
    ∃ t, exec (.laneApply m k) s = .next t ∧ t.fget .LANE_CTRL_APPLY k = 1 ∧
      (t.laneAt k).stage = (s.laneAt k).stage ∧ t.mem = s.mem) ∧
  (∀ (k : Fin 32) (i v w : Nat) (s : State), laneBetween s k = true → s.flag .LANE_CTRL_APPLY k = true →
    (s.laneAt k).stage = [(i, v), (i, w)] →
    ∃ t, exec (.applyExecute k) s = .next t ∧ t.lreg k i = w % 2 ^ 48 ∧ (t.laneAt k).stage = [] ∧
      t.fget .LANE_CTRL_APPLY k = 0 ∧ SameRegs (fun x => x = ⟨.LANE_LREG_VALUE, k, i⟩ ∨ x = ⟨.LANE_CTRL_APPLY, k, 0⟩) s t ∧
      t.mem = s.mem) ∧
  (∀ (m : Fin 10) (k : Fin 32) (i : Fin 512) (lo v : Nat) (s : State), Reaches s m (regAddr .LANE_PMEM k i) →
    s.flag .LANE_CTRL_EN k = false → (s.portAt m).wstage = some (regAddr .LANE_PMEM k i, lo) → lo < 2 ^ 32 →
    ∃ t, exec (.pmemWrite m k i true v) s = .next t ∧ t.pmem k i = lo + v % 2 ^ 32 * 2 ^ 32 ∧ t.mem = s.mem ∧
      SameRegs (fun x => x = ⟨.LANE_PMEM_INSTR, k, i⟩ ∨ x.f = .PMG_DOMSTAT_DIRTY) s t) ∧
  (∀ (m : Fin 10) (k : Fin 32) (i : Fin 512) (v : Nat) (s : State), Reaches s m (regAddr .LANE_PMEM k i) →
    s.flag .LANE_CTRL_EN k = true →
    ∃ t, exec (.pmemWrite m k i true v) s = .next t ∧ t.flag .LANE_STAT_PMWERR k = true ∧ (∀ a, t.pmem k a = s.pmem k a) ∧
      t.mem = s.mem) ∧
  (∀ (m : Fin 10) (k : Fin 32) (v : Nat) (s : State), Reaches s m (regAddr .LANE_POST k) →
    ∃ t, exec (.post m k v) s = .next t ∧
      (t.laneAt k).arriving = (s.laneAt k).arriving ++ [(s.laneEdge + 2,
        ⟨s.fget .LANE_POSTOP_OPERAND k, bit v 4, v % 16, 0, 96 + m⟩)] ∧
      (∀ x, x ≠ k.val → t.laneAt x = s.laneAt x) ∧ SameRegs (Fields [.PMG_DOMSTAT_DIRTY]) s t ∧ t.mem = s.mem) ∧
  (∀ (m : Fin 10) (k : Fin 32) (s : State), Reaches s m (regAddr .LANE_CTRL k) → s.fget .LANE_STAT_STATE k = laneDisabled →
    ∃ t, exec (.laneEnable m k) s = .next t ∧ t.fget .LANE_CTRL_EN k = 1 ∧ t.fget .LANE_STAT_STATE k = laneIdle ∧
      (t.laneAt k).queue = [] ∧ t.mem = s.mem) ∧
  (∀ (m : Fin 10) (k : Fin 32) (s : State), Reaches s m (regAddr .LANE_CTRL k) → laneBetween s k = true →
    ∃ t, exec (.laneDisable m k) s = .next t ∧ t.fget .LANE_CTRL_EN k = 0 ∧ t.fget .LANE_STAT_STATE k = laneDisabled ∧
      (t.laneAt k).queue = [] ∧
      t.fget .LANE_DISCCNT_COUNT k = min 65535 (s.fget .LANE_DISCCNT_COUNT k + (s.laneAt k).queue.length) ∧
      t.mem = s.mem) ∧
  (∀ (m : Fin 10) (k : Fin 32) (s : State), Reaches s m (regAddr .LANE_STAT k) → s.fget .LANE_STAT_FAULT k = 1 →
    s.fget .LANE_STAT_STATE k = laneFaulted → s.flag .LANE_CTRL_EN k = true → s.setNow .LANE_STAT_FAULT k 0 = 0 →
    Regs.wf s.regs = true →
    ∃ t, exec (.laneFaultClear m k) s = .next t ∧ t.fget .LANE_STAT_FAULT k = 0 ∧ t.fget .LANE_STAT_CAUSE k = 0 ∧
      t.fget .LANE_STAT_STATE k = laneIdle ∧
      WroteOnly (FieldsAt [.LANE_STAT_FAULT, .LANE_STAT_CAUSE, .LANE_STAT_STATE] k) m s t) ∧
  (∀ (m : Fin 10) (k : Fin 32) (i : Fin 512) (lo : Nat) (s : State), Reaches s m (regAddr .LANE_PMEM k i) →
    ∃ t, exec (.pmemWrite m k i false lo) s = .next t ∧ (t.portAt m).wstage = some (regAddr .LANE_PMEM k i, lo % 2 ^ 32) ∧
      (∀ a, t.pmem k a = s.pmem k a) ∧ t.mem = s.mem) ∧
  (∀ (m : Fin 10) (k : Fin 32) (i : Fin 512) (v : Nat) (s : State), Reaches s m (regAddr .LANE_PMEM k i) →
    s.flag .LANE_CTRL_EN k = false → stagedLow s m (regAddr .LANE_PMEM k i) = none → s.upsetAt (pmemSlot k i) ≠ some true →
    ∃ t, exec (.pmemWrite m k i true v) s = .next t ∧
      t.pmem k i = s.pmem k i % 2 ^ 32 + v % 2 ^ 32 * 2 ^ 32 ∧ t.mem = s.mem) ∧
  (∀ (m : Fin 10) (k : Fin 32) (i : Fin 512) (v : Nat) (s : State), Reaches s m (regAddr .LANE_PMEM k i) →
    s.flag .LANE_CTRL_EN k = false → stagedLow s m (regAddr .LANE_PMEM k i) = none → s.upsetAt (pmemSlot k i) = some true →
    ∃ t lo, exec (.pmemWrite m k i true v) s = .next t ∧ t.pmem k i = lo % 2 ^ 32 + v % 2 ^ 32 * 2 ^ 32 ∧
      t.upsetAt (pmemSlot k i) = none ∧ t.mem = s.mem) ∧
  (∀ (m : Fin 10) (k : Fin 32) (s : State), Reaches s m (regAddr .LANE_CTRL k) → s.fget .LANE_STAT_STATE k = laneRunning →
    (s.laneAt k).ending = false →
    ∃ t, exec (.laneEnable m k) s = .next t ∧ t.fget .LANE_CTRL_EN k = 1 ∧ t.fget .LANE_STAT_STATE k = laneRunning ∧
      (t.laneAt k).disabledAt = none ∧ (t.laneAt k).queue = (s.laneAt k).queue ∧ t.mem = s.mem) ∧
  (∀ (m : Fin 10) (k : Fin 32) (s : State), Reaches s m (regAddr .LANE_CTRL k) → (s.laneAt k).active = true →
    s.flag .LANE_CTRL_EN k = true →
    ∃ t, exec (.laneDisable m k) s = .next t ∧ t.fget .LANE_CTRL_EN k = 0 ∧
      t.fget .LANE_STAT_STATE k = s.fget .LANE_STAT_STATE k ∧ (t.laneAt k).active = true ∧
      (t.laneAt k).disabledAt = some s.laneEdge ∧ (t.laneAt k).queue = (s.laneAt k).queue ∧ t.mem = s.mem) ∧
  (∀ (m : Fin 10) (k : Fin 32) (s : State), Reaches s m (regAddr .LANE_CTRL k) → laneBusy s k = false → laneReady s k = false →
    ∃ t, exec (.laneDisable m k) s = .next t ∧ t.fget .LANE_CTRL_EN k = 0 ∧ (t.laneAt k).ending = true ∧
      (t.laneAt k).queue = (s.laneAt k).queue ∧ (laneCycleEnd t k).fget .LANE_STAT_STATE k = laneDisabled ∧
      ((laneCycleEnd t k).laneAt k).queue = [] ∧ t.mem = s.mem)

/-! ### Line Angle Engine -/

/-- LAE_SAMPLE takes the feed's three current samples from the fast path (R253), and its three voltage samples when the feed and their
modulators are enabled; those of a disabled feed move neither its loop nor its angle (R264). CROSSING_TIMEOUT: with the window of the
expected crossing passed and no sign change seen, the crossing is bad and counted, the feed coasts, or loses its seed and its lock on the
third in a row (R258, R259, R268), and the next crossing is expected; with the window not passed it does nothing.
CROSSING_COMPARATOR_EDGE is time-stamped for its feed (R257), and makes a crossing that waited for it good: the count of bad ones ends
(R258, R259). ANGLE_EVENT: the locked feed's published angle reaches a phase reference, or an enabled EVANG: its event is raised, once in
the tick; of an unlocked feed, or away from the angle, none is (R269). -/
def Obligations.LaeSamplesAndEvents : Prop :=
  (∀ (f : Fin 2) (s : State), s.clockOn 15 = true → laeEn s f = true → (∀ p : Fin 3, s.fbit .SDM_CTRL_EN (6 * f.val + p.val) = true) →
    ∃ t, exec (.laeSample f) s = .next t ∧ (t.feedAt f).cur = (List.range 3).map (fun p => fastSample s (6 * f.val + 3 + p)) ∧
      (t.feedAt f).volts = (List.range 3).map fun p =>
        (fastSample s (6 * f.val + p) :: (s.feedAt f).volts.getD p []).take 400) ∧
  (∀ (f : Fin 2) (s : State), laeEn s f = false → exec (.crossingTimeout f) s = .next s) ∧
  (∀ (f : Fin 2) (s : State), laeEn s f = true → (s.feedAt f).seen = false → (s.feedAt f).seeded = true →
    windowPassed s f = true →
    ∃ t, exec (.crossingTimeout f) s = .next t ∧ (t.feedAt f).exp = ((s.feedAt f).exp + 1) % 6 ∧
      (t.feedAt f).seen = false ∧
      t.fget .LAE_FEED_BAD_COUNT f = min (2 ^ Fld.len .LAE_FEED_BAD_COUNT - 1) (s.fget .LAE_FEED_BAD_COUNT f + 1) ∧
      ((s.feedAt f).bads < 2 → (t.feedAt f).bads = (s.feedAt f).bads + 1 ∧ t.flag .LAE_FEED_STAT_COAST f = true) ∧
      (2 ≤ (s.feedAt f).bads → (t.feedAt f).seeded = false ∧ feedLocked t f = false)) ∧
  (∀ (z : Fin 6) (rising : Bool) (s : State), s.clockOn 15 = true → laeEn s (z.val / 3) = false →
    ∃ t, exec (.crossingComparatorEdge z rising) s = .next t ∧
      (t.feedAt (z.val / 3)).zx = (s.feedAt (z.val / 3)).zx.set (z.val % 3) (rising, (s.now : Rat)) ∧
      t = { s with feed := t.feed }) ∧
  (∀ (f : Fin 2) (i : Fin 3) (s : State), feedLocked s f = true → reached s f (phi i) = true →
    bit (s.feedAt f).raised i = false →
    ∃ t, exec (.angleEvent f (Fin.castLE (by omega) i)) s = .next t ∧ (∃ e ∈ t.hrn, e.prod = 104 + 3 * f.val + i.val) ∧
      bit (t.feedAt f).raised i = true ∧ t = { s with hrn := t.hrn, feed := t.feed }) ∧
  (∀ (f : Fin 2) (i : Fin 7) (s : State), feedLocked s f = false → exec (.angleEvent f i) s = .next s) ∧
  (∀ (f : Fin 2) (s : State), s.clockOn 15 = true → laeEn s f = false →
    ∃ t, exec (.laeSample f) s = .next t ∧ (t.feedAt f).cur = (List.range 3).map (fun p => fastSample s (6 * f.val + 3 + p)) ∧
      (t.feedAt f).theta = (s.feedAt f).theta ∧ (t.feedAt f).pub = (s.feedAt f).pub ∧
      t.fget .LAE_FEED_ANGLE_TICKS f = s.fget .LAE_FEED_ANGLE_TICKS f) ∧
  (∀ (f : Fin 2) (s : State), windowPassed s f = false → exec (.crossingTimeout f) s = .next s) ∧
  (∀ (z : Fin 6) (rising : Bool) (s : State), s.clockOn 15 = true → laeEn s (z.val / 3) = true →
    (s.feedAt (z.val / 3)).wait = [] →
    ∃ t, exec (.crossingComparatorEdge z rising) s = .next t ∧
      (t.feedAt (z.val / 3)).zx = (s.feedAt (z.val / 3)).zx.set (z.val % 3) (rising, (s.now : Rat)) ∧
      t = { s with feed := t.feed }) ∧
  (∀ (z : Fin 6) (rising : Bool) (tc net : Rat) (s : State), s.clockOn 15 = true → laeEn s (z.val / 3) = true →
    (s.feedAt (z.val / 3)).zx.length = 3 → (s.feedAt (z.val / 3)).seeded = true →
    (s.feedAt (z.val / 3)).wait = [⟨crossIdx (z.val % 3) rising, tc, net⟩] →
    near ((s.now : Rat) - 4 * (s.fget .LAE_ZXDLY_DLY z : Rat)) net (800 * (s.fget .LAE_FEED_CWIN_ZXAGREE (z.val / 3) : Rat)) = true →
    ∃ t, exec (.crossingComparatorEdge z rising) s = .next t ∧ (t.feedAt (z.val / 3)).wait = [] ∧
      (t.feedAt (z.val / 3)).bads = 0 ∧ (t.feedAt (z.val / 3)).coastBad = false) ∧
  (∀ (f : Fin 2) (i : Fin 4) (s : State), feedLocked s f = true → s.flag .LAE_FEED_EVANG_EN f i = true →
    reached s f (s.fget .LAE_FEED_EVANG_ANGLE f i : Nat) = true → bit (s.feedAt f).raised (3 + i.val) = false →
    ∃ t, exec (.angleEvent f (Fin.natAdd 3 i)) s = .next t ∧ (∃ e ∈ t.hrn, e.prod = 112 + 4 * f.val + i.val) ∧
      bit (t.feedAt f).raised (3 + i.val) = true ∧ t = { s with hrn := t.hrn, feed := t.feed }) ∧
  (∀ (f : Fin 2) (i : Fin 3) (s : State), reached s f (phi i) = false ∨ bit (s.feedAt f).raised i = true →
    exec (.angleEvent f (Fin.castLE (by omega) i)) s = .next s) ∧
  (∀ (f : Fin 2) (i : Fin 4) (s : State), s.flag .LAE_FEED_EVANG_EN f i = false ∨
    reached s f (s.fget .LAE_FEED_EVANG_ANGLE f i : Nat) = false ∨ bit (s.feedAt f).raised (3 + i.val) = true →
    exec (.angleEvent f (Fin.natAdd 3 i)) s = .next s)

/-- GATE_FIRE: a gate that may fire fires at its instant, the later of its target angle and its readiness, within its window: it is
active, its firing is open, the load is energised; a forward gate's actual angle is recorded (R272, R275, R286), a reverse gate more than
8 line ticks late counts SYMERR (R275). One whose angle comes while the opposite current flows waits for its zero (R279, R286). Before a
flux-matched first firing no gate fires but at its instant: then the forward gates of phase k and the reverse gates of phase k + 1 (R284).
A gate that may not fire does not (R288, R294, R295). THIRD_PHASE_FIRE fires both gates of the third phase's pairs, CONTINUOUS, at φk +
α_T + XDLY (R285). PULSE_END: a SINGLE pulse of TON, or a confirmed PICKET pulse, ends the firing; an unconfirmed PICKET pulse ends alone
(R276, R288). PICKET_PULSE: the next one starts after TPER, unless the interlock holds it (R276, R294). MISFIRE_TIMEOUT: a gate not
confirmed within TON + 50 µs, SINGLE, or by its window's close counts a misfire (R276). WINDOW_CLOSE releases the gate; with STRAT 3 a
CONTINUOUS gate that conducts stays until its zero (R272, R286, R288). CURRENT_ZERO_TIMEOUT: a wait of 12 ms for a zero ends as if it had
come, with CZTMO (R279). PAIR_DISABLE clears EN; an open gate is released in the next tick, one that conducts at its zero (R288).
RAMP_UPDATE: the ramp ends when the remaining step is within the limit, else the ramp angle moves (R281). -/
def Obligations.GateCourse : Prop :=
  (∀ (j : Fin 12) (s : State), mayFire s j = true → (gateAt s j false).done = false →
    (gateAt s j false).open_ = false → fluxArmed s (pairFeed s j) = false → (s.feedAt (pairFeed s j)).xf ≠ 2 →
    (s.feedAt (pairFeed s j)).xf ≠ 3 → gateDue s j false = true → insideWindow s j false = true →
    ∃ t, exec (.gateFire j false) s = .next t ∧ (gateAt t j false).on = true ∧ (gateAt t j false).open_ = true ∧
      (gateAt t j false).done = true ∧ (gateAt t j false).firedAt = s.now ∧ gateAt t j true = gateAt s j true ∧
      (t.pairAt j).act = some (pairAngle s j) ∧
      t.flag .LAE_PAIR_STAT_FIRING j = true ∧ t.fget .LAE_PAIR_STAT_AACT j = (pairAngle s j).floor.toNat % 2 ^ 16 ∧
      t.energised = true ∧ t.mem = s.mem ∧ SameRegs (FieldsAt [.LAE_PAIR_STAT_FIRING, .LAE_PAIR_STAT_AACT] j) s t) ∧
  (∀ (j : Fin 12) (rev : Bool) (s : State), mayFire s j = false → exec (.gateFire j rev) s = .next s) ∧
  (∀ (f : Fin 2) (j : Fin 12) (s : State), thirdHere s f = true → j.val ∈ fluxPairs s f ((s.feedAt f).xfK + 2) →
    mayFire s j = true →
    ∃ t, exec (.thirdPhaseFire f) s = .next t ∧ (gateAt t j false).on = true ∧ (gateAt t j true).on = true ∧
      (gateAt t j false).cont = true ∧ (gateAt t j true).cont = true ∧ (t.feedAt f).xf = 3 ∧ t.mem = s.mem) ∧
  (∀ (j : Fin 12) (rev : Bool) (s : State), (gateAt s j rev).on = true → (gateAt s j rev).open_ = true →
    gateMode s j (gateAt s j rev) = 0 ∨ gateMode s j (gateAt s j rev) = 1 ∧ (gateAt s j rev).confirmed = true →
    (gateAt s j rev).pulseAt + s.fget .LAE_PAIR_PULSE_TON j * 800 ≤ s.now →
    ∃ t, exec (.pulseEnd j rev) s = .next t ∧ (gateAt t j rev).on = false ∧ (gateAt t j rev).open_ = false ∧
      (t.pairAt j).rel = some s.now ∧ gateAt t j (!rev) = gateAt s j !rev ∧ t.mem = s.mem) ∧
  (∀ (j : Fin 12) (rev : Bool) (s : State), (gateAt s j rev).on = true → (gateAt s j rev).confirmed = false →
    gateMode s j (gateAt s j rev) = 1 → (gateAt s j rev).pulseAt + s.fget .LAE_PAIR_PULSE_TON j * 800 ≤ s.now →
    ∃ t, exec (.pulseEnd j rev) s = .next t ∧ (gateAt t j rev).on = false ∧
      (gateAt t j rev).open_ = (gateAt s j rev).open_ ∧ t = { s with regs := t.regs, hwSets := t.hwSets, pair := t.pair } ∧
      SameRegs (FieldsAt [.LAE_PAIR_STAT_FIRING] j) s t) ∧
  (∀ (j : Fin 12) (rev : Bool) (s : State), (gateAt s j rev).open_ = true → (gateAt s j rev).confirmed = false →
    gateMode s j (gateAt s j rev) = 1 → (gateAt s j rev).pulseAt + s.fget .LAE_PAIR_PULSE_TPER j * 800 ≤ s.now →
    interlockFree s (pairFeed s j) = true →
    ∃ t, exec (.picketPulse j rev) s = .next t ∧ (gateAt t j rev).on = true ∧ (gateAt t j rev).pulseAt = s.now ∧
      t.flag .LAE_PAIR_STAT_FIRING j = true ∧ t = { s with regs := t.regs, hwSets := t.hwSets, pair := t.pair } ∧
      SameRegs (FieldsAt [.LAE_PAIR_STAT_FIRING] j) s t) ∧
  (∀ (j : Fin 12) (rev : Bool) (s : State), (gateAt s j rev).watch = true → (gateAt s j rev).confirmed = false →
    (gateAt s j rev).closed = true ∨ gateMode s j (gateAt s j rev) = 0 ∧
      (gateAt s j rev).firedAt + (s.fget .LAE_PAIR_PULSE_TON j + 50) * 800 ≤ s.now →
    ∃ t, exec (.misfireTimeout j rev) s = .next t ∧ t.flag .LAE_PAIR_STAT_MISFIRE j = true ∧
      t.fget .LAE_PAIR_CNT_MISCNT j = min (2 ^ Fld.len .LAE_PAIR_CNT_MISCNT - 1) (s.fget .LAE_PAIR_CNT_MISCNT j + 1) ∧
      (gateAt t j rev).watch = false ∧ t.mem = s.mem) ∧
  (∀ (j : Fin 12) (rev : Bool) (s : State), (gateAt s j rev).open_ = true → gateMode s j (gateAt s j rev) ≠ 0 →
    pairStrat s j ≠ 3 ∨ gateMode s j (gateAt s j rev) ≠ 2 ∨ (gateAt s j rev).zero ≠ none →
    reached s (pairFeed s j) (phi (pairPhase s j) + ((s.pairAt j).endW : Rat) + (if rev then 32768 else 0)) = true →
    ∃ t, exec (.windowClose j rev) s = .next t ∧ (gateAt t j rev).on = false ∧ (gateAt t j rev).open_ = false ∧ t.mem = s.mem) ∧
  (∀ (j : Fin 12) (r : Nat) (s : State), (s.pairAt j).rel = some r → r + 9600000 ≤ s.now →
    ∃ t, exec (.currentZeroTimeout j) s = .next t ∧ t.flag .LAE_PAIR_STAT_CZTMO j = true ∧ (t.pairAt j).rel = none ∧
      t.mem = s.mem) ∧
  (∀ (m : Fin 10) (j : Fin 12) (rev : Bool) (v : Nat) (s : State), Reaches s m (regAddr .LAE_PAIR_CFG j) →
    bit v 0 = false → pairEn s j = true → m.val = 7 ∨ pairValid (s.writeNamed .LAE_PAIR_CFG (v % 2 ^ 32) j) j = true →
    (gateAt s j rev).open_ = true →
    ∃ t, exec (.pairDisable m j v) s = .next t ∧ pairEn t j = false ∧
      (if conducts s j rev then (gateAt t j rev).stopAt = some s.now else (gateAt t j rev).relNext = true) ∧
      (gateAt t j rev).open_ = true ∧ t.mem = s.mem) ∧
  (∀ (f : Fin 2) (s : State), reached s f 0 = true → s.flag .LAE_FEED_PRESTAT_RAMP f = true →
    lineToLine s f - (s.feedAt f).vc ≤ preLim s f * rsqrt (quot (preInd s f) (preCap s f)) →
    ∃ t, exec (.rampUpdate f) s = .next t ∧ t.fget .LAE_FEED_PRESTAT_DONE f = 1 ∧ t.fget .LAE_FEED_PRESTAT_RAMP f = 0 ∧
      t.fget .LAE_FEED_PRESTAT_ALPHA f = 0 ∧ pended t 107 = true ∧ SameRegs (fun k => FieldsAt [.LAE_FEED_PRESTAT_DONE,
        .LAE_FEED_PRESTAT_RAMP, .LAE_FEED_PRESTAT_ALPHA] f k ∨ Fields [.BFY_PEND_W, .BFY_MERGECNT_COUNT] k) s t ∧ t.mem = s.mem) ∧
  (∀ (f : Fin 2) (s : State), s.flag .LAE_FEED_PRESTAT_RAMP f = false ∨ reached s f 0 = false →
    exec (.rampUpdate f) s = .next s) ∧
  (∀ (j : Fin 12) (s : State), mayFire s j = true → (gateAt s j true).done = false →
    (gateAt s j true).open_ = false → fluxArmed s (pairFeed s j) = false → (s.feedAt (pairFeed s j)).xf ≠ 2 →
    (s.feedAt (pairFeed s j)).xf ≠ 3 → gateDue s j true = true → insideWindow s j true = true →
    ∃ t, exec (.gateFire j true) s = .next t ∧ (gateAt t j true).on = true ∧ (gateAt t j true).open_ = true ∧
      (gateAt t j true).done = true ∧ gateAt t j false = gateAt s j false ∧ t.energised = true ∧ t.mem = s.mem ∧
      (gateAngle s j true ≤ gateTarget s j true + 8 → SameRegs (FieldsAt [.LAE_PAIR_STAT_FIRING] j) s t) ∧
      (gateTarget s j true + 8 < gateAngle s j true → t.flag .LAE_PAIR_STAT_SYMERR j = true ∧
        t.fget .LAE_PAIR_CNT_SYMCNT j = min (2 ^ Fld.len .LAE_PAIR_CNT_SYMCNT - 1) (s.fget .LAE_PAIR_CNT_SYMCNT j + 1))) ∧
  (∀ (j : Fin 12) (rev : Bool) (s : State), mayFire s j = true → (gateAt s j rev).done = false →
    (gateAt s j rev).open_ = false → fluxArmed s (pairFeed s j) = false → (s.feedAt (pairFeed s j)).xf ≠ 2 →
    (s.feedAt (pairFeed s j)).xf ≠ 3 → gateDue s j rev = false → gateHere s j rev = true → readyFrom s j rev = none →
    (gateAt s j rev).waitZ = none →
    ∃ t, exec (.gateFire j rev) s = .next t ∧ (gateAt t j rev).waitZ = some s.now ∧ (gateAt t j rev).on = (gateAt s j rev).on ∧
      t.energised = s.energised ∧ t.mem = s.mem) ∧
  (∀ (j i : Fin 12) (s : State), mayFire s j = true → (gateAt s j false).done = false → (gateAt s j false).open_ = false →
    fluxArmed s (pairFeed s j) = true → pairPhase s j = fluxK s (pairFeed s j) → fluxDue s (pairFeed s j) = true →
    ∃ t, exec (.gateFire j false) s = .next t ∧ (t.feedAt (pairFeed s j)).xf = 2 ∧ t.fget .LAE_REMV_VALID = 0 ∧
      (i.val ∈ fluxPairs s (pairFeed s j) (fluxK s (pairFeed s j)) → (gateAt t i false).on = true) ∧
      (i.val ∈ fluxPairs s (pairFeed s j) (fluxK s (pairFeed s j) + 1) → (gateAt t i true).on = true) ∧
      (i.val ∉ fluxPairs s (pairFeed s j) (fluxK s (pairFeed s j)) →
        i.val ∉ fluxPairs s (pairFeed s j) (fluxK s (pairFeed s j) + 1) → t.pairAt i = s.pairAt i) ∧ t.mem = s.mem) ∧
  (∀ (j : Fin 12) (rev : Bool) (s : State), fluxArmed s (pairFeed s j) = true → fluxDue s (pairFeed s j) = false →
    exec (.gateFire j rev) s = .next s) ∧
  (∀ (f : Fin 2) (s : State), thirdHere s f = false → exec (.thirdPhaseFire f) s = .next s) ∧
  (∀ (f : Fin 2) (j : Fin 12) (s : State), thirdHere s f = true →
    j.val ∉ fluxPairs s f ((s.feedAt f).xfK + 2) ∨ mayFire s j = false →
    ∃ t, exec (.thirdPhaseFire f) s = .next t ∧ t.pairAt j = s.pairAt j) ∧
  (∀ (j : Fin 12) (rev : Bool) (s : State), interlockFree s (pairFeed s j) = false → exec (.picketPulse j rev) s = .next s) ∧
  (∀ (j : Fin 12) (rev : Bool) (s : State), (gateAt s j rev).open_ = true → gateMode s j (gateAt s j rev) = 2 →
    pairStrat s j = 3 → (gateAt s j rev).zero = none →
    reached s (pairFeed s j) (phi (pairPhase s j) + ((s.pairAt j).endW : Rat) + (if rev then 32768 else 0)) = true →
    ∃ t, exec (.windowClose j rev) s = .next t ∧ (gateAt t j rev).on = (gateAt s j rev).on ∧ (gateAt t j rev).open_ = true ∧
      (gateAt t j rev).stopAt = some s.now ∧ (gateAt t j rev).closed = true ∧ t.mem = s.mem) ∧
  (∀ (j : Fin 12) (rev : Bool) (r : Nat) (s : State), (gateAt s j rev).stopAt = some r → r + 9600000 ≤ s.now →
    (gateAt s j rev).open_ = true →
    ∃ t, exec (.currentZeroTimeout j) s = .next t ∧ t.flag .LAE_PAIR_STAT_CZTMO j = true ∧ (gateAt t j rev).on = false ∧
      (gateAt t j rev).open_ = false ∧ t.mem = s.mem) ∧
  (∀ (j : Fin 12) (rev : Bool) (r : Nat) (s : State), (gateAt s j rev).waitZ = some r → r + 9600000 ≤ s.now →
    ∃ t, exec (.currentZeroTimeout j) s = .next t ∧ t.flag .LAE_PAIR_STAT_CZTMO j = true ∧ (gateAt t j rev).waitZ = none ∧
      (gateAt t j rev).okAt = some s.now ∧ t.mem = s.mem) ∧
  (∀ (m : Fin 10) (j : Fin 12) (v : Nat) (s : State), Reaches s m (regAddr .LAE_PAIR_CFG j) →
    bit v 0 = false → m.val = 7 ∨ pairValid (s.writeNamed .LAE_PAIR_CFG (v % 2 ^ 32) j) j = true →
    (∀ rev, (gateAt s j rev).open_ = false) →
    ∃ t, exec (.pairDisable m j v) s = .next t ∧ pairEn t j = false ∧ t.pair = s.pair ∧ t.mem = s.mem) ∧
  (∀ (f : Fin 2) (s : State), reached s f 0 = true → s.flag .LAE_FEED_PRESTAT_RAMP f = true →
    preLim s f * rsqrt (quot (preInd s f) (preCap s f)) < lineToLine s f - (s.feedAt f).vc →
    ∃ t, exec (.rampUpdate f) s = .next t ∧ t.flag .LAE_FEED_PRESTAT_RAMP f = true ∧
      t.fget .LAE_FEED_PRESTAT_ALPHA f = min (32768 - asinLt (quot ((s.feedAt f).vc +
        preLim s f * rsqrt (quot (preInd s f) (preCap s f))) (lineToLine s f)) - 16384 / 3).ceil.toNat
          (s.fget .LAE_FEED_PRECFG_ASTART f) % 2 ^ Fld.len .LAE_FEED_PRESTAT_ALPHA ∧
      SameRegs (FieldsAt [.LAE_FEED_PRESTAT_ALPHA] f) s t ∧ t.mem = s.mem)

/-- The health of the feeds: SAGN samples below the threshold set SAG, SAGN at or above it clear it (R293); a load feed that enters sag
starts a transfer under XAUTO (R296). FEED_QUALIFIED: with no load feed, a qualified feed carries the load, of two the one that became
healthy first, or PREF (R292, R295). TRANSFER_REQUEST: a request to a qualified incoming feed starts the transfer (R296, R297), one to an
unqualified feed is refused and rings (R296), one during a transfer does nothing. AUTO_RETURN: the preferred feed qualified for RETDLY
starts the return (R296). TRANSFER_ZEROS: with every outgoing gate released and current declared zero step 4 begins (R297).
TRANSFER_COMPLETE: after the margin the incoming feed carries the load and the transfer is counted (R297); with XSAFE 1 its first firing is
flux-matched by T_D − 10 µs, with XSAFE 2 no gate fires at once (R298). TRANSFER_DEADLINE: past T_D it is late (R299). -/
def Obligations.FeedsAndTransfers : Prop :=
  (∀ (f : Fin 2) (s : State), s.flag .LAE_FEED_STAT_SAG f = false → s.fget .LAE_FEED_CFG_SAGN f ≤ (s.feedAt f).below →
    (s.feedAt f).below ≠ 0 →
    ∃ t, exec (.sagEntry f) s = .next t ∧ t.fget .LAE_FEED_STAT_SAG f = 1 ∧ t.fget .LAE_FEED_STAT_HEALTHY f = 0) ∧
  (∀ (f : Fin 2) (s : State), s.flag .LAE_FEED_STAT_SAG f = true → s.fget .LAE_FEED_CFG_SAGN f ≤ (s.feedAt f).above →
    ∃ t, exec (.sagExit f) s = .next t ∧ t.fget .LAE_FEED_STAT_SAG f = 0) ∧
  (∀ (f : Fin 2) (s : State), qualified s f = true → s.flag .LAE_XSTAT_NONE = true → s.flag .LAE_XSTAT_BUSY = false →
    qualified s (1 - f.val) = false →
    ∃ t, exec (.feedQualified f) s = .next t ∧ t.fget .LAE_XSTAT_NONE = 0 ∧ t.fget .LAE_XSTAT_ACTIVE = f.val ∧
      t.mem = s.mem) ∧
  (∀ (m : Fin 10) (v : Nat) (s : State), Reaches s m (regAddr .LAE_XCTRL) → bit v 0 = true →
    s.flag .LAE_XSTAT_BUSY = false → s.flag .LAE_XSTAT_NONE = false → qualified s (1 - loadFeed s) = true →
    ∃ t, exec (.transferRequest m v) s = .next t ∧ t.fget .LAE_XSTAT_BUSY = 1 ∧ t.xfer.step = 2 ∧ t.xfer.t0 = s.now ∧
      t.xfer.td = s.now + 3200000 ∧ (∃ e ∈ t.hrn, e.prod = 120) ∧ t.mem = s.mem ∧
      SameRegs (Fields [.LAE_XSTAT_BUSY, .PMG_DOMSTAT_DIRTY]) s t) ∧
  (∀ (m : Fin 10) (v : Nat) (s : State), Reaches s m (regAddr .LAE_XCTRL) → bit v 0 = true →
    s.flag .LAE_XSTAT_BUSY = false → s.flag .LAE_XSTAT_NONE = true ∨ qualified s (1 - loadFeed s) = false →
    ∃ t, exec (.transferRequest m v) s = .next t ∧ t.flag .LAE_XSTAT_REFUSED = true ∧ t.flag .LAE_XSTAT_BUSY = false ∧
      pended t 106 = true ∧ t.xfer = s.xfer) ∧
  (∀ (s : State), s.flag .LAE_XCFG_AUTORET = true → s.flag .LAE_XSTAT_NONE = false → s.flag .LAE_XSTAT_BUSY = false →
    loadFeed s + s.fget .LAE_XCFG_PREF = 1 → qualified s (s.fget .LAE_XCFG_PREF) = true →
    (s.feedAt (s.fget .LAE_XCFG_PREF)).since + s.fget .LAE_XCFG_QUAL * 800000 +
      s.fget .LAE_XCFG_RETDLY * 1000 * 800000 ≤ s.now →
    ∃ t, exec .autoReturn s = .next t ∧ t.fget .LAE_XSTAT_BUSY = 1 ∧ t.xfer.step = 2 ∧ t.mem = s.mem) ∧
  (∀ (s : State), s.flag .LAE_XSTAT_BUSY = true → s.xfer.step = 3 → feedIdle s (loadFeed s) = true →
    ∃ t, exec .transferZeros s = .next t ∧ t.xfer.step = 4 ∧ t.xfer.zeroAt = s.now ∧ t.xfer.td = s.xfer.td ∧
      t = { s with xfer := t.xfer }) ∧
  (∀ (s : State), s.flag .LAE_XSTAT_BUSY = true → s.xfer.step = 4 → s.fget .LAE_XSTAT_ACTIVE ≤ 1 →
    s.xfer.zeroAt + s.fget .LAE_XCFG_MARG * 800 ≤ s.now →
    ∃ t, exec .transferComplete s = .next t ∧ t.fget .LAE_XSTAT_ACTIVE = 1 - s.fget .LAE_XSTAT_ACTIVE ∧
      t.fget .LAE_XSTAT_BUSY = 0 ∧ t.xfer.step = 0 ∧
      t.fget .LAE_XCNT_COUNT = min (2 ^ Fld.len .LAE_XCNT_COUNT - 1) (s.fget .LAE_XCNT_COUNT + 1) ∧
      (s.fget .LAE_XCFG_XSAFE = 1 → (t.feedAt (1 - loadFeed s)).xf = 1 ∧
        (t.feedAt (1 - loadFeed s)).xfBy = some (max s.now (s.xfer.td - 8000)) ∧ ∀ j rev, gateAt t j rev = gateAt s j rev) ∧
      (s.fget .LAE_XCFG_XSAFE = 2 → (t.feedAt (1 - loadFeed s)).xf = 4 ∧ ∀ j rev, gateAt t j rev = gateAt s j rev)) ∧
  (∀ (s : State), s.flag .LAE_XSTAT_BUSY = true → s.xfer.td ≤ s.now →
    ∃ t, exec .transferDeadline s = .next t ∧ t.flag .LAE_XSTAT_XLATE = true ∧ t.fget .LAE_XSTAT_BUSY =
      s.fget .LAE_XSTAT_BUSY ∧ t.xfer = s.xfer) ∧
  (∀ (f : Fin 2) (s : State), s.flag .LAE_FEED_STAT_SAG f = false → s.fget .LAE_FEED_CFG_SAGN f ≤ (s.feedAt f).below →
    (s.feedAt f).below ≠ 0 → loadFeed s = f.val → s.flag .LAE_XSTAT_NONE = false → s.flag .LAE_XSTAT_BUSY = false →
    s.flag .LAE_XCFG_XAUTO = true → qualified s (1 - f.val) = true →
    ∃ t, exec (.sagEntry f) s = .next t ∧ t.fget .LAE_XSTAT_BUSY = 1 ∧ t.xfer.step = 2 ∧ t.xfer.t0 = s.now) ∧
  (∀ (f : Fin 2) (s : State), qualified s f = true → s.flag .LAE_XSTAT_NONE = true → s.flag .LAE_XSTAT_BUSY = false →
    qualified s (1 - f.val) = true →
    ∃ t, exec (.feedQualified f) s = .next t ∧ t.fget .LAE_XSTAT_NONE = 0 ∧ t.mem = s.mem ∧
      ((s.feedAt f).since < (s.feedAt (1 - f.val)).since → t.fget .LAE_XSTAT_ACTIVE = f.val) ∧
      ((s.feedAt (1 - f.val)).since < (s.feedAt f).since → t.fget .LAE_XSTAT_ACTIVE = 1 - f.val) ∧
      ((s.feedAt f).since = (s.feedAt (1 - f.val)).since → t.fget .LAE_XSTAT_ACTIVE = s.fget .LAE_XCFG_PREF % 2)) ∧
  (∀ (m : Fin 10) (v : Nat) (s : State), Reaches s m (regAddr .LAE_XCTRL) → bit v 0 = true → s.flag .LAE_XSTAT_BUSY = true →
    ∃ t, exec (.transferRequest m v) s = .next t ∧ t.xfer = s.xfer ∧ SameRegs (Fields [.PMG_DOMSTAT_DIRTY]) s t ∧
      t.mem = s.mem) ∧
  (∀ (s : State), s.flag .LAE_XSTAT_BUSY = true → s.xfer.step = 3 → feedIdle s (loadFeed s) = false →
    exec .transferZeros s = .next s) ∧
  (∀ (s : State), s.flag .LAE_XSTAT_BUSY = false → exec .transferDeadline s = .next s ∧ exec .transferComplete s = .next s ∧
    exec .transferZeros s = .next s)

/-! ### Timers and the Harness -/

/-- TIMER_STEP: the first tick of a step decrements the count of a timer, or of a pair, unless the count was just set; a zero step
sets ZSEEN (R301, R302, R303, R308); in any other tick nothing happens. A write to a timer is in force for all that its tick does: a
step that had acted in this tick, `tmrBack`, acts again after it (R304, R306, R506). TIMER_ENABLE: EN sets, the fields of the write are
taken and the first tick follows the next (R301, R306); an enabled timer keeps them. TIMER_DISABLE clears EN and keeps the count; a
disabled timer takes the other fields (R306). TIMER_GO and TIMER_HALT set and clear EN of the timers named, and of no other (R307).
TIMER_CNT_WRITE lands only while EN is 0, and restarts the step (R306). TIMER_PIN_WRITE stores the pin's fields, before the actions
of its tick (R304, R305). CHAIN_STAGED_WRITE: the low half of a chained pair's RELOAD or CMP is staged for its master, and lands with
the same master's write of the high half; a high half with nothing staged for it keeps the low one; unchained, each lands by itself
(R309). WIDE_READ_LOW of the line-time counter or of a pair returns the low half and latches the high one, which WIDE_READ_HIGH
returns within 64 fabric cycles; else it returns the live one, and sets STALEHI with the master (R310, R311, R313). -/
def Obligations.Timers : Prop :=
  (∀ (t : Fin 16) (s : State), tmrDue s t = true → tmrLeads s t = false → s.fget .TMR_CNT_COUNT t < 2 ^ 32 →
     ∃ u, exec (.timerStep t) s = .next u ∧
       u.fget .TMR_CNT_COUNT t = (if (s.tmrAt t).fresh then s.fget .TMR_CNT_COUNT t
         else (s.fget .TMR_CNT_COUNT t + (2 ^ 32 - 1)) % 2 ^ 32) ∧
       u.flag .TMR_STAT_ZSEEN t = (s.flag .TMR_STAT_ZSEEN t || u.fget .TMR_CNT_COUNT t == 0) ∧
       (u.tmrAt t).taken = true ∧ (u.tmrAt t).fresh = false ∧ (∀ x, x ≠ t.val → u.tmrAt x = s.tmrAt x) ∧ u.mem = s.mem) ∧
  (∀ (m : Fin 10) (t : Fin 16) (v : Nat) (s : State), Reaches s m (regAddr .TMR_CFG t) → bit v 0 = true →
    s.flag .TMR_CFG_EN t = false → tmrFollows s t = false →
    ∃ u, exec (.timerEnable m t v) s = .next u ∧ u.fget .TMR_CFG_EN t = 1 ∧ u.flag .TMR_STAT_RUN t = tmrRunning u t ∧
      u.fget .TMR_CFG_PSC t = bits v 1 8 ∧ u.fget .TMR_CFG_CHAIN t = (if t.val % 2 = 0 then bits v 9 1 else 0) ∧
      (u.tmrAt t).enAt = s.now ∧ u.fget .TMR_CNT_COUNT t = (tmrBack s t).fget .TMR_CNT_COUNT t ∧
      SameRegs (fun k => FieldsAt [.TMR_CFG_EN, .TMR_STAT_RUN, .TMR_CFG_PSC, .TMR_CFG_CHAIN] t k ∨
        k = ⟨.TMR_STAT_RUN, t + 1, 0⟩ ∨ k.f = .PMG_DOMSTAT_DIRTY) (tmrBack s t) u ∧ u.mem = s.mem) ∧
  (∀ (m : Fin 10) (t : Fin 16) (v : Nat) (s : State), Reaches s m (regAddr .TMR_CFG t) → bit v 0 = false →
    s.flag .TMR_CFG_EN t = true → tmrFollows s t = false →
    ∃ u, exec (.timerDisable m t v) s = .next u ∧ u.fget .TMR_CFG_EN t = 0 ∧ u.flag .TMR_STAT_RUN t = tmrRunning u t ∧
      u.fget .TMR_CNT_COUNT t = (tmrBack s t).fget .TMR_CNT_COUNT t ∧ (u.tmrAt t).place = (s.tmrAt t).place ∧
      SameRegs (fun k => FieldsAt [.TMR_CFG_EN, .TMR_STAT_RUN] t k ∨ k = ⟨.TMR_STAT_RUN, t + 1, 0⟩ ∨
        k.f = .PMG_DOMSTAT_DIRTY) (tmrBack s t) u ∧ u.mem = s.mem) ∧
  (∀ (m : Fin 10) (t : Fin 16) (v : Nat) (s : State), Reaches s m (regAddr .TMR_GO) →
    ∃ u, exec (.timerGo m v) s = .next u ∧ u.flag .TMR_CFG_EN t = (s.flag .TMR_CFG_EN t || bit v t) ∧
      (s.flag .TMR_CFG_EN t = false → bit v t = true → (u.tmrAt t).enAt = s.now) ∧
      SameRegs (Fields [.TMR_CFG_EN, .TMR_STAT_RUN, .PMG_DOMSTAT_DIRTY]) s u ∧ u.mem = s.mem) ∧
  (∀ (m : Fin 10) (t : Fin 16) (v : Nat) (s : State), Reaches s m (regAddr .TMR_HALT) →
    ∃ u, exec (.timerHalt m v) s = .next u ∧ u.flag .TMR_CFG_EN t = (s.flag .TMR_CFG_EN t && !bit v t) ∧
      (tmrFollows s t = false → u.fget .TMR_CNT_COUNT t =
        (if s.flag .TMR_CFG_EN t && bit v t then tmrBack s t else s).fget .TMR_CNT_COUNT t) ∧
      SameRegs (Fields [.TMR_CFG_EN, .TMR_STAT_RUN, .TMR_CNT_COUNT, .TMR_STAT_ZSEEN, .TMR_STAT_CSEEN, .TMR_PIN_LEVEL,
        .PMG_DOMSTAT_DIRTY]) s u ∧ u.mem = s.mem) ∧
  (∀ (m : Fin 10) (t : Fin 16) (v : Nat) (s : State), Reaches s m (regAddr .TMR_CNT t) →
    s.flag .TMR_CFG_EN (tmrOf s t) = false →
    ∃ u, exec (.timerCntWrite m t v) s = .next u ∧ u.fget .TMR_CNT_COUNT t = v % 2 ^ 32 ∧
      (u.tmrAt (tmrOf s t)).fresh = true ∧ (u.tmrAt (tmrOf s t)).place = 0 ∧
      SameRegs (fun k => FieldsAt [.TMR_CNT_COUNT] t k ∨ k.f = .PMG_DOMSTAT_DIRTY) s u) ∧
  (∀ (m : Fin 10) (t : Fin 16) (v : Nat) (s : State), Reaches s m (regAddr .TMR_CNT t) →
    s.flag .TMR_CFG_EN (tmrOf s t) = true → ∃ u, exec (.timerCntWrite m t v) s = .next u ∧ WroteOnly (Fields []) m s u) ∧
  (∀ (m : Fin 10) (t : Fin 16) (v : Nat) (s : State), Reaches s m (regAddr .TMR_PIN t) →
    tmrDue (tmrBack s (tmrOf s t)) (tmrOf s t) = false →
    ∃ u, exec (.timerPinWrite m t v) s = .next u ∧ u.fget .TMR_PIN_LEVEL t = b2n (bit v 0) ∧
      u.fget .TMR_PIN_SAFE t = b2n (bit v 1) ∧ u.fget .TMR_PIN_OE t = b2n (bit v 2) ∧
      SameRegs (fun k => FieldsAt [.TMR_PIN_LEVEL, .TMR_PIN_SAFE, .TMR_PIN_OE] t k ∨ k.f = .PMG_DOMSTAT_DIRTY)
        (tmrBack s (tmrOf s t)) u ∧ u.mem = s.mem) ∧
  (∀ (m : Fin 10) (t : Fin 16) (v : Nat) (s : State), Reaches s m (regAddr .TMR_RELOAD t) → tmrLeads s t = true →
    ∃ u, exec (.chainStagedWrite m t none v) s = .next u ∧ (u.portAt m).chain = some (regAddr .TMR_RELOAD t, v % 2 ^ 32) ∧
      SameRegs (Fields [.PMG_DOMSTAT_DIRTY]) s u ∧ u.mem = s.mem) ∧
  (∀ (m : Fin 10) (p : Fin 8) (w v : Nat) (s : State), Reaches s m (regAddr .TMR_RELOAD (2 * p.val + 1)) →
    s.flag .TMR_CFG_CHAIN (2 * p.val) = true → (s.portAt m).chain = some (regAddr .TMR_RELOAD (2 * p.val), w) → w < 2 ^ 32 →
    ∃ u, exec (.chainStagedWrite m ⟨2 * p.val + 1, by omega⟩ none v) s = .next u ∧
      u.fget .TMR_RELOAD_RELOAD (2 * p.val) = w ∧ u.fget .TMR_RELOAD_RELOAD (2 * p.val + 1) = v % 2 ^ 32 ∧
      (u.portAt m).chain = none ∧ u.mem = s.mem) ∧
  (∀ (m : Fin 10) (s : State), (s.coreAt m).wait = none → Reaches s m (regAddr .TMR_LTC_LO) →
    ∃ u, exec (.wideReadLow m none) s = .next u ∧ (u.portAt m).resp = some ⟨s.ltc % 2 ^ 32, false⟩ ∧
      (u.portAt m).wide = some (regAddr .TMR_LTC_LO, s.ltc / 2 ^ 32 % 2 ^ 32, s.now) ∧ u = { s with port := u.port }) ∧
  (∀ (m : Fin 10) (h w : Nat) (s : State), (s.coreAt m).wait = none → Reaches s m (regAddr .TMR_LTC_HI) →
    (s.portAt m).wide = some (regAddr .TMR_LTC_LO, h, w) → 3 * (s.now - w) ≤ 512 →
    ∃ u, exec (.wideReadHigh m none) s = .next u ∧ (u.portAt m).resp = some ⟨h, false⟩ ∧ u = { s with port := u.port }) ∧
  (∀ (t : Fin 16) (s : State), tmrDue s t = true → tmrLeads s t = true →
     ∃ u, exec (.timerStep t) s = .next u ∧
       tmrWide u .TMR_CNT_COUNT t 0 = (if (s.tmrAt t).fresh then tmrWide s .TMR_CNT_COUNT t 0
         else (tmrWide s .TMR_CNT_COUNT t 0 + (2 ^ 64 - 1)) % 2 ^ 64) % 2 ^ 64 ∧
       (u.tmrAt t).taken = true ∧ (u.tmrAt t).fresh = false ∧ (∀ x, x ≠ t.val → u.tmrAt x = s.tmrAt x) ∧ u.mem = s.mem) ∧
  (∀ (t : Fin 16) (s : State), tmrDue s t = false → exec (.timerStep t) s = .next s) ∧
  (∀ (m : Fin 10) (t : Fin 16) (v : Nat) (s : State), Reaches s m (regAddr .TMR_CFG t) → bit v 0 = true →
    s.flag .TMR_CFG_EN t = true ∨ tmrFollows s t = true →
    ∃ u, exec (.timerEnable m t v) s = .next u ∧ u.flag .TMR_CFG_EN t = true ∧
      (s.flag .TMR_CFG_EN t = true → u.fget .TMR_CFG_PSC t = s.fget .TMR_CFG_PSC t ∧
        u.fget .TMR_CFG_CHAIN t = s.fget .TMR_CFG_CHAIN t) ∧
      (s.flag .TMR_CFG_EN t = false → u.fget .TMR_CFG_PSC t = bits v 1 8)) ∧
  (∀ (m : Fin 10) (t : Fin 16) (v : Nat) (s : State), Reaches s m (regAddr .TMR_CFG t) → bit v 0 = false →
    s.flag .TMR_CFG_EN t = false ∨ tmrFollows s t = true →
    ∃ u, exec (.timerDisable m t v) s = .next u ∧ u.flag .TMR_CFG_EN t = false ∧
      (s.flag .TMR_CFG_EN t = false → u.fget .TMR_CFG_PSC t = bits v 1 8) ∧
      (s.flag .TMR_CFG_EN t = true → u.fget .TMR_CFG_PSC t = s.fget .TMR_CFG_PSC t)) ∧
  (∀ (m : Fin 10) (t : Fin 16) (v : Nat) (s : State), Reaches s m (regAddr .TMR_PIN t) →
    ∃ u, exec (.timerPinWrite m t v) s = .next u ∧ u.fget .TMR_PIN_SAFE t = b2n (bit v 1) ∧ u.fget .TMR_PIN_OE t = b2n (bit v 2) ∧
      u.fget .TMR_PIN_LEVEL t = (tmrSettle (((((tmrBack s (tmrOf s t)).fput .TMR_PIN_LEVEL (bit v 0) t).fput .TMR_PIN_SAFE
        (bit v 1) t).fput .TMR_PIN_OE (bit v 2) t)) (tmrOf s t)).fget .TMR_PIN_LEVEL t) ∧
  (∀ (m : Fin 10) (t : Fin 16) (j : Fin 4) (v : Nat) (s : State), Reaches s m (regAddr .TMR_CMP t j) → tmrLeads s t = true →
    ∃ u, exec (.chainStagedWrite m t (some j) v) s = .next u ∧
      (u.portAt m).chain = some (regAddr .TMR_CMP t j, v % 2 ^ 32) ∧
      SameRegs (Fields [.PMG_DOMSTAT_DIRTY]) s u ∧ u.mem = s.mem) ∧
  (∀ (m : Fin 10) (p : Fin 8) (j : Fin 4) (w v : Nat) (s : State), Reaches s m (regAddr .TMR_CMP (2 * p.val + 1) j) →
    s.flag .TMR_CFG_CHAIN (2 * p.val) = true → (s.portAt m).chain = some (regAddr .TMR_CMP (2 * p.val) j, w) → w < 2 ^ 32 →
    ∃ u, exec (.chainStagedWrite m ⟨2 * p.val + 1, by omega⟩ (some j) v) s = .next u ∧
      u.fget .TMR_CMP_CMP (2 * p.val) j = w ∧ u.fget .TMR_CMP_CMP (2 * p.val + 1) j = v % 2 ^ 32 ∧
      (u.portAt m).chain = none ∧ u.mem = s.mem) ∧
  (∀ (m : Fin 10) (t : Fin 16) (v : Nat) (s : State), Reaches s m (regAddr .TMR_RELOAD t) → tmrLeads s t = false →
    tmrFollows s t = false ∨ (∀ w, (s.portAt m).chain ≠ some (regAddr .TMR_RELOAD (t - 1), w)) →
    ∃ u, exec (.chainStagedWrite m t none v) s = .next u ∧ u.fget .TMR_RELOAD_RELOAD t = v % 2 ^ 32 ∧
      WroteOnly (FieldsAt [.TMR_RELOAD_RELOAD] t) m s u) ∧
  (∀ (m : Fin 10) (t : Fin 16) (j : Fin 4) (v : Nat) (s : State), Reaches s m (regAddr .TMR_CMP t j) → tmrLeads s t = false →
    tmrFollows s t = false ∨ (∀ w, (s.portAt m).chain ≠ some (regAddr .TMR_CMP (t - 1) j, w)) →
    ∃ u, exec (.chainStagedWrite m t (some j) v) s = .next u ∧ u.fget .TMR_CMP_CMP t j = v % 2 ^ 32 ∧
      WroteOnly (fun k => k = ⟨.TMR_CMP_CMP, t, j⟩) m s u) ∧
  (∀ (m : Fin 10) (p : Fin 8) (s : State), (s.coreAt m).wait = none → Reaches s m (regAddr .TMR_CNT (2 * p.val)) →
    s.flag .TMR_CFG_CHAIN (2 * p.val) = true → tmrDue s (2 * p.val) = false →
    ∃ u, exec (.wideReadLow m (some p)) s = .next u ∧ (u.portAt m).resp = some ⟨s.fget .TMR_CNT_COUNT (2 * p.val), false⟩ ∧
      (u.portAt m).wide = some (regAddr .TMR_CNT (2 * p.val), s.fget .TMR_CNT_COUNT (2 * p.val + 1), s.now) ∧
      u = { s with port := u.port }) ∧
  (∀ (m : Fin 10) (p : Fin 8) (s : State), (s.coreAt m).wait = none → Reaches s m (regAddr .TMR_CNT (2 * p.val)) →
    s.flag .TMR_CFG_CHAIN (2 * p.val) = true → tmrDue s (2 * p.val) = true →
    ∃ u, exec (.wideReadLow m (some p)) s = .next u ∧
      (u.portAt m).resp = some ⟨(tmrFirst s (2 * p.val)).fget .TMR_CNT_COUNT (2 * p.val), false⟩ ∧
      (u.portAt m).wide = some (regAddr .TMR_CNT (2 * p.val),
        (tmrFirst s (2 * p.val)).fget .TMR_CNT_COUNT (2 * p.val + 1), s.now)) ∧
  (∀ (m : Fin 10) (p : Fin 8) (h w : Nat) (s : State), (s.coreAt m).wait = none → Reaches s m (regAddr .TMR_CNT (2 * p.val + 1)) →
    s.flag .TMR_CFG_CHAIN (2 * p.val) = true → (s.portAt m).wide = some (regAddr .TMR_CNT (2 * p.val), h, w) →
    3 * (s.now - w) ≤ 512 →
    ∃ u, exec (.wideReadHigh m (some p)) s = .next u ∧ (u.portAt m).resp = some ⟨h, false⟩) ∧
  (∀ (m : Fin 10) (s : State), (s.coreAt m).wait = none → Reaches s m (regAddr .TMR_LTC_HI) →
    (∀ h w, (s.portAt m).wide = some (regAddr .TMR_LTC_LO, h, w) → 512 < 3 * (s.now - w)) →
    ∃ u, exec (.wideReadHigh m none) s = .next u ∧ (u.portAt m).resp = some ⟨s.ltc / 2 ^ 32 % 2 ^ 32, false⟩ ∧
      u.flag .TMR_WIDESTAT_STALEHI = true ∧ u.fget .TMR_WIDESTAT_MASTER = m.val ∧ u.mem = s.mem) ∧
  (∀ (m : Fin 10) (p : Fin 8) (s : State), (s.coreAt m).wait = none → Reaches s m (regAddr .TMR_CNT (2 * p.val + 1)) →
    s.flag .TMR_CFG_CHAIN (2 * p.val) = true → tmrDue s (2 * p.val) = false →
    (∀ h w, (s.portAt m).wide = some (regAddr .TMR_CNT (2 * p.val), h, w) → 512 < 3 * (s.now - w)) →
    ∃ u, exec (.wideReadHigh m (some p)) s = .next u ∧
      (u.portAt m).resp = some ⟨s.fget .TMR_CNT_COUNT (2 * p.val + 1), false⟩ ∧
      u.flag .TMR_WIDESTAT_STALEHI = true ∧ u.fget .TMR_WIDESTAT_MASTER = m.val ∧ u.mem = s.mem)

/-- HARNESS_ARRIVAL: the events of the earliest arrival edge that has come leave the Harness, are remembered by each channel that they
feed, and reach each enabled task input of such a channel one lane cycle later, with the input's TAG and the highest generation; two
producers or more are counted as a coincidence (R315 to R318, R321, R322); with none that has come nothing happens. SOFTWARE_EVENT raises
the events named, and no other (R314). NEXT_ROUTE_WRITE sets the next route and PEND, or with CANCEL clears PEND alone; the active
route stays (R320). ROUTE_APPLY_REQUEST: without BEN the pending routes become active at once, with BEN the apply waits for its
boundary; while one waits only a write with CANCEL acts (R320). ROUTE_APPLY_CANCEL ends the wait, but not at the edge of the boundary
event; with APPLY set it replaces the waiting apply (R320). -/
def Obligations.HarnessAndRoutes : Prop :=
  (∀ (p g e : Nat) (c : Fin 32) (i : Fin 256) (s : State), s.hrn = [⟨p, g, e⟩] → e ≤ s.ltc →
    s.fbit .HRN_CH_MASK_MASK (p % 32) c (p / 32) = true → s.flag .HRN_RTCTRL_APPLY = false →
    s.fget .HRN_ROUTE_CH i = c.val → s.flag .HRN_ROUTE_EN i = true →
    s.fbit .HRN_CH_MASK_MASK (p % 32) (s.fget .TTH_CFG_FRAMECH) (p / 32) = false →
    ∃ t, exec .harnessArrival s = .next t ∧ t.hrn = [] ∧ t.fbit .HRN_CHSEENLO_SEEN c = true ∧
      (e + 2, (⟨0, false, bits (s.fget .LANE_TASKTAG_TAG (i.val / 8)) (4 * (i.val % 8)) 4, g, 32 + i.val % 8⟩ : Activation)) ∈
        (t.laneAt (i.val / 8)).arriving ∧ t.mem = s.mem) ∧
  (∀ (m : Fin 10) (i : Fin 4) (v : Nat) (s : State), Reaches s m (regAddr .HRN_SWEV) → bit v i = true →
    ∃ t, exec (.softwareEvent m v) s = .next t ∧ (∃ e ∈ t.hrn, e.prod = 122 + i.val ∧ e.edge = s.laneEdge + 2) ∧
      SameRegs (Fields [.PMG_DOMSTAT_DIRTY]) s t ∧ t.mem = s.mem) ∧
  (∀ (m : Fin 10) (i : Fin 256) (v : Nat) (s : State), Reaches s m (regAddr .HRN_ROUTENX i) → bit v 8 = false →
    ∃ t, exec (.nextRouteWrite m i v) s = .next t ∧ t.fget .HRN_ROUTENX_CH i = v % 64 ∧
      t.fget .HRN_ROUTENX_EN i = b2n (bit v 6) ∧ t.fget .HRN_ROUTENX_PEND i = 1 ∧
      WroteOnly (FieldsAt [.HRN_ROUTENX_CH, .HRN_ROUTENX_EN, .HRN_ROUTENX_PEND] i) m s t) ∧
  (∀ (m : Fin 10) (i : Fin 256) (v : Nat) (s : State), Reaches s m (regAddr .HRN_RTCTRL) → bit v 0 = true →
    bit v 1 = false → bit v 8 = false → s.flag .HRN_RTCTRL_APPLY = false → Regs.wf s.regs = true →
    ∃ t, exec (.routeApplyRequest m v) s = .next t ∧ t.fget .HRN_RTCTRL_APPLY = 0 ∧ t.fget .HRN_ROUTENX_PEND i = 0 ∧
      t.fget .HRN_ROUTE_CH i = (if s.flag .HRN_ROUTENX_PEND i then s.fget .HRN_ROUTENX_CH i else s.fget .HRN_ROUTE_CH i) ∧
      t.fget .HRN_ROUTE_EN i = (if s.flag .HRN_ROUTENX_PEND i then s.fget .HRN_ROUTENX_EN i else s.fget .HRN_ROUTE_EN i) ∧
      t.mem = s.mem) ∧
  (∀ (m : Fin 10) (v : Nat) (s : State), Reaches s m (regAddr .HRN_RTCTRL) → bit v 0 = true → bit v 1 = true →
    bit v 8 = false → s.flag .HRN_RTCTRL_APPLY = false →
    ∃ t, exec (.routeApplyRequest m v) s = .next t ∧ t.fget .HRN_RTCTRL_APPLY = 1 ∧ t.fget .HRN_RTCTRL_BCH = bits v 2 6 ∧
      WroteOnly (Fields [.HRN_RTCTRL_APPLY, .HRN_RTCTRL_BEN, .HRN_RTCTRL_BCH]) m s t) ∧
  (∀ (m : Fin 10) (v : Nat) (s : State), Reaches s m (regAddr .HRN_RTCTRL) → bit v 8 = true → bit v 0 = false →
    s.flag .HRN_RTCTRL_APPLY = true → boundaryNow s = false →
    ∃ t, exec (.routeApplyCancel m v) s = .next t ∧ t.fget .HRN_RTCTRL_APPLY = 0 ∧
      WroteOnly (Fields [.HRN_RTCTRL_APPLY, .HRN_RTCTRL_BEN, .HRN_RTCTRL_BCH]) m s t) ∧
  (∀ (p q g h e : Nat) (c : Fin 32) (i : Fin 256) (s : State), s.hrn = [⟨p, g, e⟩, ⟨q, h, e⟩] → e ≤ s.ltc →
    s.fbit .HRN_CH_MASK_MASK (p % 32) c (p / 32) = true → s.fbit .HRN_CH_MASK_MASK (q % 32) c (q / 32) = true →
    s.flag .HRN_RTCTRL_APPLY = false → s.fget .HRN_ROUTE_CH i = c.val → s.flag .HRN_ROUTE_EN i = true →
    (∀ x : Fin 256, x ≠ i → s.flag .HRN_ROUTE_EN x = false) → s.fget .TTH_CFG_FRAMECH < 64 →
    s.fbit .HRN_CH_MASK_MASK (p % 32) (s.fget .TTH_CFG_FRAMECH) (p / 32) = false →
    s.fbit .HRN_CH_MASK_MASK (q % 32) (s.fget .TTH_CFG_FRAMECH) (q / 32) = false →
    ∃ t, exec .harnessArrival s = .next t ∧ t.hrn = [] ∧
      t.fget .HRN_COINCIDE_COUNT = min (2 ^ Fld.len .HRN_COINCIDE_COUNT - 1) (s.fget .HRN_COINCIDE_COUNT + 1) ∧
      t.fget .HRN_COINCIDE_LAST = i.val ∧
      (t.laneAt (i.val / 8)).arriving = (s.laneAt (i.val / 8)).arriving ++ [(e + 2, ⟨0, false,
        bits (s.fget .LANE_TASKTAG_TAG (i.val / 8)) (4 * (i.val % 8)) 4, max g h, 32 + i.val % 8⟩)] ∧ t.mem = s.mem) ∧
  (∀ (s : State), (∀ x ∈ s.hrn, s.ltc < x.edge) → exec .harnessArrival s = .next s) ∧
  (∀ (m : Fin 10) (v : Nat) (s : State), Reaches s m (regAddr .HRN_SWEV) → v % 16 = 0 →
    ∃ t, exec (.softwareEvent m v) s = .next t ∧ t.hrn = s.hrn ∧ WroteOnly (Fields []) m s t) ∧
  (∀ (m : Fin 10) (i : Fin 256) (v : Nat) (s : State), Reaches s m (regAddr .HRN_ROUTENX i) → bit v 8 = true →
    ∃ t, exec (.nextRouteWrite m i v) s = .next t ∧ t.fget .HRN_ROUTENX_PEND i = 0 ∧
      WroteOnly (FieldsAt [.HRN_ROUTENX_PEND] i) m s t) ∧
  (∀ (m : Fin 10) (v : Nat) (s : State), Reaches s m (regAddr .HRN_RTCTRL) → bit v 8 = false → s.flag .HRN_RTCTRL_APPLY = true →
    ∃ t, exec (.routeApplyRequest m v) s = .next t ∧ SameRegs (Fields [.PMG_DOMSTAT_DIRTY]) s t ∧ t.mem = s.mem) ∧
  (∀ (m : Fin 10) (v : Nat) (s : State), Reaches s m (regAddr .HRN_RTCTRL) → s.flag .HRN_RTCTRL_APPLY = true → boundaryNow s = true →
    ∃ t, exec (.routeApplyCancel m v) s = .next t ∧ SameRegs (Fields [.PMG_DOMSTAT_DIRTY]) s t ∧ t.mem = s.mem) ∧
  (∀ (m : Fin 10) (v : Nat) (s : State), Reaches s m (regAddr .HRN_RTCTRL) → bit v 8 = true → bit v 0 = true → bit v 1 = true →
    s.flag .HRN_RTCTRL_APPLY = true → boundaryNow s = false →
    ∃ t, exec (.routeApplyCancel m v) s = .next t ∧ t.fget .HRN_RTCTRL_APPLY = 1 ∧ t.fget .HRN_RTCTRL_BEN = 1 ∧
      t.fget .HRN_RTCTRL_BCH = bits v 2 6 ∧
      WroteOnly (Fields [.HRN_RTCTRL_APPLY, .HRN_RTCTRL_BEN, .HRN_RTCTRL_BCH]) m s t) ∧
  (∀ (m : Fin 10) (v : Nat) (s : State), Reaches s m (regAddr .HRN_RTCTRL) → bit v 8 = true → bit v 0 = false →
    s.flag .HRN_RTCTRL_APPLY = false →
    ∃ t, exec (.routeApplyCancel m v) s = .next t ∧ t.fget .HRN_RTCTRL_APPLY = 0 ∧
      WroteOnly (Fields [.HRN_RTCTRL_APPLY, .HRN_RTCTRL_BEN, .HRN_RTCTRL_BCH]) m s t) ∧
  (∀ (m : Fin 10) (i : Fin 256) (v : Nat) (s : State), Reaches s m (regAddr .HRN_RTCTRL) → bit v 0 = true → bit v 8 = true →
    bit v 1 = false → s.flag .HRN_RTCTRL_APPLY = true → boundaryNow s = false → Regs.wf s.regs = true →
    ∃ t, exec (.routeApplyCancel m v) s = .next t ∧ t.fget .HRN_RTCTRL_APPLY = 0 ∧ t.fget .HRN_ROUTENX_PEND i = 0 ∧
      t.fget .HRN_ROUTE_CH i = (if s.flag .HRN_ROUTENX_PEND i then s.fget .HRN_ROUTENX_CH i else s.fget .HRN_ROUTE_CH i))

/-! ### Cores, Belfry and locks -/

/-- Levels and priorities of the cores stay within 0 to 15 over every step. -/
def Obligations.StepKeepsLevels : Prop :=
  ∀ (s t : State), Sound s → levelsOk s → step s = .next t → levelsOk t

/-- CORE_INSTRUCTION: the instructions on integer registers write their register with `aluOp` or `aluImm` of their operands, and ADDI and
LUI with what is written out here; AUIPC, JAL, JALR and the branches; a load of any width makes its core wait for the data at an address,
LW reads a word of SRAM, SW stores one; CSRRW on mscratch exchanges; EBREAK, ECALL, and bits that are no instruction, take their
exceptions, MRET returns, WFI waits (R325, R326, R348). A core that does not act executes nothing. CORE_FENCE and CORE_FENCE_I only go on
(R328). BANKDATA_ACCESS returns the register of the bank that BFY_BANKSEL names, and writes it when asked (R342). -/
def Obligations.CoreInstructions : Prop :=
  (∀ (c : Fin 5) (w : Nat) (s : State), coreActs s c = true → (s.coreAt c).level < 16 → w < 2 ^ 32 → w % 128 = 0x13 →
    bits w 12 3 = 0 →
    ∃ t, exec (.coreInstruction c w) s = .next t ∧ (t.coreAt c).pc = ((s.coreAt c).pc + 4) % 2 ^ 32 ∧
      CoreWrote c (bits w 7 5) ((((s.coreAt c).x (bits w 15 5)).toNat + twos 32 (sext 12 (bits w 20 12))) % 2 ^ 32) s t) ∧
  (∀ (c : Fin 5) (w : Nat) (s : State), coreActs s c = true → (s.coreAt c).level < 16 → w < 2 ^ 32 → w % 128 = 0x37 →
    ∃ t, exec (.coreInstruction c w) s = .next t ∧ (t.coreAt c).pc = ((s.coreAt c).pc + 4) % 2 ^ 32 ∧
      CoreWrote c (bits w 7 5) (w / 4096 * 4096) s t) ∧
  (∀ (c : Fin 5) (w a : Nat) (s : State), coreActs s c = true → (s.coreAt c).level < 16 → w < 2 ^ 32 → w % 128 = 0x03 →
    bits w 12 3 = 2 → a = ((s.coreAt c).reg (bits w 15 5) + twos 32 (sext 12 (bits w 20 12))) % 2 ^ 32 → AtomicAt s a →
    mustWait s c a = false → s.pw.powered = true → s.pw.rst = none →
    ∃ t, exec (.coreInstruction c w) s = .next t ∧ (t.coreAt c).pc = ((s.coreAt c).pc + 4) % 2 ^ 32 ∧
      ((t.coreAt c).x (bits w 7 5)).toNat = (if bits w 7 5 = 0 then 0 else s.loadMem a 4) ∧
      (∀ i, i ≠ bits w 7 5 → (t.coreAt c).x i = (s.coreAt c).x i) ∧ (∀ x, x ≠ c.val → t.coreAt x = s.coreAt x) ∧
      t = { s with core := t.core, port := t.port, pw := t.pw }) ∧
  (∀ (c : Fin 5) (w a : Nat) (s : State), coreActs s c = true → w < 2 ^ 32 → w % 128 = 0x23 → bits w 12 3 = 2 →
    a = ((s.coreAt c).reg (bits w 15 5) + twos 32 (sext 12 (bits w 7 5 + 32 * bits w 25 7))) % 2 ^ 32 → AtomicAt s a →
    mustWait s c a = false → s.pw.powered = true → s.pw.rst = none →
    ∃ t, exec (.coreInstruction c w) s = .next t ∧ (t.coreAt c).pc = ((s.coreAt c).pc + 4) % 2 ^ 32 ∧
      (∀ i, (t.coreAt c).x i = (s.coreAt c).x i) ∧ t.loadMem a 4 = (s.coreAt c).reg (bits w 20 5) ∧
      SameMem (fun y => a ≤ y ∧ y < a + 4) s t ∧ SameRegs (Fields [.PMG_DOMSTAT_DIRTY]) s t) ∧
  (∀ (c : Fin 5) (w : Nat) (s : State), coreActs s c = true → w < 2 ^ 32 → w % 128 = 0x63 → bits w 12 3 = 0 →
    ∃ t, exec (.coreInstruction c w) s = .next t ∧ CoreWrote c 0 0 s t ∧
      ((s.coreAt c).x (bits w 15 5) = (s.coreAt c).x (bits w 20 5) → (t.coreAt c).pc = ((s.coreAt c).pc + twos 32 (sext 13
        (bits w 8 4 * 2 + bits w 25 6 * 32 + bits w 7 1 * 2 ^ 11 + bits w 31 1 * 2 ^ 12))) / 2 * 2 % 2 ^ 32) ∧
      ((s.coreAt c).x (bits w 15 5) ≠ (s.coreAt c).x (bits w 20 5) →
        (t.coreAt c).pc = ((s.coreAt c).pc + 4) % 2 ^ 32)) ∧
  (∀ (c : Fin 5) (s : State), coreActs s c = true →
    (∃ t, exec (.coreInstruction c 0x00000073) s = .next t ∧ Excepted c 11 s t) ∧
    (∃ t, exec (.coreInstruction c 0x00000000) s = .next t ∧ Excepted c 2 s t)) ∧
  (∀ (c : Fin 5) (s : State), coreActs s c = true →
    (∃ t, exec (.coreFence c) s = .next t ∧ (t.coreAt c).pc = ((s.coreAt c).pc + 4) % 2 ^ 32 ∧ CoreWrote c 0 0 s t) ∧
    (∃ t, exec (.coreFenceI c) s = .next t ∧ (t.coreAt c).pc = ((s.coreAt c).pc + 4) % 2 ^ 32 ∧ CoreWrote c 0 0 s t)) ∧
  (∀ (c : Fin 5) (rd : Fin 32) (s : State), coreActs s c = true → (s.coreAt c).level < 16 →
    ∃ t, exec (.bankdataAccess c none rd) s = .next t ∧ (t.coreAt c).pc = ((s.coreAt c).pc + 4) % 2 ^ 32 ∧
      CoreWrote c rd (if (s.coreAt c).banksel % 32 = 0 then 0
        else (vget (vget (s.coreAt c).bank (bits (s.coreAt c).banksel 5 4)) ((s.coreAt c).banksel % 32)).toNat) s t) ∧
  (∀ (c : Fin 5) (v : Nat) (rd : Fin 32) (s : State), coreActs s c = true → (s.coreAt c).level < 16 →
    ∃ t, exec (.bankdataAccess c (some v) rd) s = .next t ∧ (t.coreAt c).pc = ((s.coreAt c).pc + 4) % 2 ^ 32 ∧
      ((t.coreAt c).x rd).toNat = (if rd.val = 0 ∨ (s.coreAt c).banksel % 32 = 0 then 0
        else (vget (vget (s.coreAt c).bank (bits (s.coreAt c).banksel 5 4)) ((s.coreAt c).banksel % 32)).toNat) ∧
      ((s.coreAt c).banksel % 32 ≠ 0 → bits (s.coreAt c).banksel 5 4 ≠ (s.coreAt c).level →
        (vget (vget (t.coreAt c).bank (bits (s.coreAt c).banksel 5 4)) ((s.coreAt c).banksel % 32)).toNat = v % 2 ^ 32) ∧
      t = { s with core := t.core } ∧ ∀ x, x ≠ c.val → t.coreAt x = s.coreAt x) ∧
  (∀ (c : Fin 5) (w v : Nat) (s : State), coreActs s c = true → (s.coreAt c).level < 16 → w < 2 ^ 32 →
    w % 128 = 0x33 ∧ aluOp (bits w 25 7) (bits w 12 3) (bits w 20 5) ((s.coreAt c).reg (bits w 15 5))
      ((s.coreAt c).reg (bits w 20 5)) = some v ∨
    w % 128 = 0x13 ∧ aluImm (bits w 12 3) (bits w 20 12) ((s.coreAt c).reg (bits w 15 5)) = some v → v < 2 ^ 32 →
    ∃ t, exec (.coreInstruction c w) s = .next t ∧ (t.coreAt c).pc = ((s.coreAt c).pc + 4) % 2 ^ 32 ∧
      CoreWrote c (bits w 7 5) v s t) ∧
  (∀ (c : Fin 5) (w : Nat) (s : State), coreActs s c = true → (s.coreAt c).level < 16 → w < 2 ^ 32 → w % 128 = 0x17 →
    ∃ t, exec (.coreInstruction c w) s = .next t ∧ (t.coreAt c).pc = ((s.coreAt c).pc + 4) % 2 ^ 32 ∧
      CoreWrote c (bits w 7 5) (((s.coreAt c).pc + w / 4096 * 4096) % 2 ^ 32) s t) ∧
  (∀ (c : Fin 5) (w : Nat) (s : State), coreActs s c = true → (s.coreAt c).level < 16 → w < 2 ^ 32 → w % 128 = 0x6F →
    ∃ t, exec (.coreInstruction c w) s = .next t ∧ CoreWrote c (bits w 7 5) (((s.coreAt c).pc + 4) % 2 ^ 32) s t ∧
      (t.coreAt c).pc = ((s.coreAt c).pc + twos 32 (sext 21
        (bits w 21 10 * 2 + bits w 20 1 * 2 ^ 11 + bits w 12 8 * 2 ^ 12 + bits w 31 1 * 2 ^ 20))) / 2 * 2 % 2 ^ 32) ∧
  (∀ (c : Fin 5) (w : Nat) (s : State), coreActs s c = true → (s.coreAt c).level < 16 → w < 2 ^ 32 → w % 128 = 0x67 →
    bits w 12 3 = 0 →
    ∃ t, exec (.coreInstruction c w) s = .next t ∧ CoreWrote c (bits w 7 5) (((s.coreAt c).pc + 4) % 2 ^ 32) s t ∧
      (t.coreAt c).pc = ((s.coreAt c).reg (bits w 15 5) + twos 32 (sext 12 (bits w 20 12))) % 2 ^ 32 / 2 * 2) ∧
  (∀ (c : Fin 5) (w : Nat) (b : Bool) (s : State), coreActs s c = true → w < 2 ^ 32 → w % 128 = 0x63 →
    branchOp (bits w 12 3) ((s.coreAt c).reg (bits w 15 5)) ((s.coreAt c).reg (bits w 20 5)) = some b →
    ∃ t, exec (.coreInstruction c w) s = .next t ∧ CoreWrote c 0 0 s t ∧ (t.coreAt c).pc = (if b then
      ((s.coreAt c).pc + twos 32 (sext 13 (bits w 8 4 * 2 + bits w 25 6 * 32 + bits w 7 1 * 2 ^ 11 + bits w 31 1 * 2 ^ 12))) / 2 * 2
        % 2 ^ 32 else ((s.coreAt c).pc + 4) % 2 ^ 32)) ∧
  (∀ (c : Fin 5) (w a : Nat) (s : State), coreActs s c = true → w < 2 ^ 32 → w % 128 = 0x03 → bits w 12 3 ∈ [0, 1, 2, 4, 5] →
    a = ((s.coreAt c).reg (bits w 15 5) + twos 32 (sext 12 (bits w 20 12))) % 2 ^ 32 → a % 4 = 0 → regionOf a = .regs →
    readError c a (2 ^ (bits w 12 3 % 4)) = none → mustWait s c a = true →
    s.pw.powered = true → s.pw.rst = none →
    ∃ t, exec (.coreInstruction c w) s = .next t ∧ (t.coreAt c).wait = some ⟨(s.coreAt c).pc, bits w 7 5, false,
      2 ^ (bits w 12 3 % 4), decide (bits w 12 3 < 2), a⟩ ∧
      t.pw.held = s.pw.held ++ [⟨c, a, 2 ^ (bits w 12 3 % 4), none⟩] ∧ t.mem = s.mem) ∧
  (∀ (c : Fin 5) (s : State), coreActs s c = true →
    (∃ t, exec (.coreInstruction c 0x00100073) s = .next t ∧ Excepted c 3 s t) ∧
    (∃ t, exec (.coreInstruction c 0x30200073) s = .next t ∧ (t.coreAt c).pc = (s.coreAt c).mepc / 2 * 2 % 2 ^ 32 ∧
      (t.coreAt c).mie = (s.coreAt c).mpie ∧ (t.coreAt c).mpie = true ∧ CoreWrote c 0 0 s t) ∧
    (∃ t, exec (.coreInstruction c 0x10500073) s = .next t ∧ (t.coreAt c).wfi = true ∧
      (t.coreAt c).pc = ((s.coreAt c).pc + 4) % 2 ^ 32 ∧ CoreWrote c 0 0 s t)) ∧
  (∀ (c : Fin 5) (w : Nat) (s : State), coreActs s c = true → (s.coreAt c).level < 16 → (s.coreAt c).mscratch < 2 ^ 32 →
    w < 2 ^ 32 → w % 128 = 0x73 → bits w 12 3 = 1 → bits w 20 12 = 0x340 →
    ∃ t, exec (.coreInstruction c w) s = .next t ∧ (t.coreAt c).mscratch = (s.coreAt c).reg (bits w 15 5) ∧
      (t.coreAt c).pc = ((s.coreAt c).pc + 4) % 2 ^ 32 ∧ CoreWrote c (bits w 7 5) (s.coreAt c).mscratch s t) ∧
  (∀ (c : Fin 5) (w : Nat) (b : Option Nat) (rd : Fin 32) (s : State), coreActs s c = false →
    exec (.coreInstruction c w) s = .next s ∧ exec (.coreFence c) s = .next s ∧ exec (.coreFenceI c) s = .next s ∧
      exec (.bankdataAccess c b rd) s = .next s)

/-- CORE_LR returns the word of SRAM and reserves its 8-byte granule; CORE_SC stores and gives 0 while the reservation covers the granule
and has not expired, else gives 1 and stores nothing, and the reservation is gone either way; CORE_AMO returns the old word and
stores the new one. Each waits while an earlier access of its core to the block does; an address that is not aligned, or not of SRAM,
raises an access fault (R27, R326, R327). RESERVATION_EXPIRY ends a reservation that is due, and no other (R327). -/
def Obligations.CoreAtomics : Prop :=
  (∀ (c : Fin 5) (rd rs1 : Fin 32) (s : State), coreActs s c = true → (s.coreAt c).level < 16 →
    AtomicAt s ((s.coreAt c).reg rs1) → mustWait s c ((s.coreAt c).reg rs1) = false →
    ∃ t, exec (.coreLr c rd rs1) s = .next t ∧ (t.coreAt c).pc = ((s.coreAt c).pc + 4) % 2 ^ 32 ∧
      CoreLoaded c rd (s.loadMem ((s.coreAt c).reg rs1) 4) s t ∧
      (t.coreAt c).resv = some ((s.coreAt c).reg rs1 - (s.coreAt c).reg rs1 % 8, s.now + resvTicks s c)) ∧
  (∀ (c : Fin 5) (rd rs1 rs2 : Fin 32) (d : Nat) (s : State), coreActs s c = true → (s.coreAt c).level < 16 →
    AtomicAt s ((s.coreAt c).reg rs1) → mustWait s c ((s.coreAt c).reg rs1) = false → (s.coreAt c).resv = some ((s.coreAt c).reg rs1 - (s.coreAt c).reg rs1 % 8, d) →
    s.now < d →
    ∃ t, exec (.coreSc c rd rs1 rs2) s = .next t ∧ (t.coreAt c).x rd = 0 ∧ (t.coreAt c).resv = none ∧
      t.loadMem ((s.coreAt c).reg rs1) 4 = (s.coreAt c).reg rs2 ∧
      SameMem (fun a => (s.coreAt c).reg rs1 ≤ a ∧ a < (s.coreAt c).reg rs1 + 4) s t ∧
      SameRegs (Fields [.PMG_DOMSTAT_DIRTY]) s t) ∧
  (∀ (c : Fin 5) (rd rs1 rs2 : Fin 32) (s : State), coreActs s c = true → (s.coreAt c).level < 16 →
    AtomicAt s ((s.coreAt c).reg rs1) → mustWait s c ((s.coreAt c).reg rs1) = false →
    (∀ g d, (s.coreAt c).resv = some (g, d) → g ≠ (s.coreAt c).reg rs1 - (s.coreAt c).reg rs1 % 8 ∨ d ≤ s.now) →
    ∃ t, exec (.coreSc c rd rs1 rs2) s = .next t ∧ (t.coreAt c).resv = none ∧ CoreWrote c rd 1 s t) ∧
  (∀ (c : Fin 5) (op : AmoOp) (rd rs1 rs2 : Fin 32) (s : State), coreActs s c = true → (s.coreAt c).level < 16 →
    AtomicAt s ((s.coreAt c).reg rs1) → mustWait s c ((s.coreAt c).reg rs1) = false →
    ∃ t, exec (.coreAmo c op rd rs1 rs2) s = .next t ∧ (t.coreAt c).pc = ((s.coreAt c).pc + 4) % 2 ^ 32 ∧
      ((t.coreAt c).x rd).toNat = (if rd.val = 0 then 0 else s.loadMem ((s.coreAt c).reg rs1) 4) ∧
      t.loadMem ((s.coreAt c).reg rs1) 4 = amoValue op (s.loadMem ((s.coreAt c).reg rs1) 4) ((s.coreAt c).reg rs2) ∧
      SameMem (fun a => (s.coreAt c).reg rs1 ≤ a ∧ a < (s.coreAt c).reg rs1 + 4) s t ∧
      SameRegs (Fields [.PMG_DOMSTAT_DIRTY]) s t) ∧
  (∀ (c : Fin 5) (g d : Nat) (s : State), (s.coreAt c).resv = some (g, d) →
    (d ≤ s.now → ∃ t, exec (.reservationExpiry c) s = .next t ∧ (t.coreAt c).resv = none ∧ CoreWrote c 0 0 s t) ∧
    (s.now < d → exec (.reservationExpiry c) s = .next s)) ∧
  (∀ (c : Fin 5) (op : AmoOp) (rd rs1 rs2 : Fin 32) (s : State), mustWait s c ((s.coreAt c).reg rs1) = true →
    exec (.coreLr c rd rs1) s = .next s ∧ exec (.coreSc c rd rs1 rs2) s = .next s ∧
      exec (.coreAmo c op rd rs1 rs2) s = .next s) ∧
  (∀ (c : Fin 5) (op : AmoOp) (rd rs1 rs2 : Fin 32) (s : State), coreActs s c = true →
    mustWait s c ((s.coreAt c).reg rs1) = false → regionOf ((s.coreAt c).reg rs1) ≠ .sram → (s.coreAt c).reg rs1 % 4 = 0 →
    (∃ t, exec (.coreLr c rd rs1) s = .next t ∧ Excepted c 5 s t) ∧
    (∃ t, exec (.coreSc c rd rs1 rs2) s = .next t ∧ Excepted c 7 s t) ∧
    (∃ t, exec (.coreAmo c op rd rs1 rs2) s = .next t ∧ Excepted c 7 s t)) ∧
  (∀ (c : Fin 5) (op : AmoOp) (rd rs1 rs2 : Fin 32) (s : State), coreActs s c = true →
    mustWait s c ((s.coreAt c).reg rs1) = false → (s.coreAt c).reg rs1 % 4 ≠ 0 →
    s.flag .FAB_ERRSTAT_UNMAPPED = false → s.flag .FAB_ERRSTAT_WIDTH = false → s.flag .FAB_ERRSTAT_PARTNER = false →
    (∃ t, exec (.coreLr c rd rs1) s = .next t ∧ (t.coreAt c).mcause = 5 ∧ t.flag .FAB_ERRSTAT_WIDTH = true ∧ t.mem = s.mem) ∧
    (∃ t, exec (.coreSc c rd rs1 rs2) s = .next t ∧ (t.coreAt c).mcause = 7 ∧ t.flag .FAB_ERRSTAT_WIDTH = true ∧ t.mem = s.mem) ∧
    (∃ t, exec (.coreAmo c op rd rs1 rs2) s = .next t ∧ (t.coreAt c).mcause = 7 ∧ t.flag .FAB_ERRSTAT_WIDTH = true ∧
      t.mem = s.mem))

/-- CORE_RELEASE starts a core at BOOT with every register 0, MIE 0 and level 0 (R332), the management core too, whose watchdog
counts from here (R402); CORE_RESET takes it to reset and frees its locks (R353), and for the management core ends every session
(R468). RST of a checker core is ignored; a released core that is released, and a core in reset that is reset, stay as they are (R332).
LOCKSTEP_MISMATCH takes both cores of the pair to reset, records the difference and rings; with lockstep off, or the pair in reset, it
does nothing (R331). -/
def Obligations.CoreResets : Prop :=
  (∀ (m : Fin 10) (n : Fin 5) (s : State), Reaches s m (regAddr .FAB_CORE_CTRL n) → n ≠ 4 → isChecker s n = false →
    s.fget .FAB_CORE_CTRL_RST n = 1 → Regs.wf s.regs = true →
    ∃ t, exec (.coreRelease m n) s = .next t ∧ t.fget .FAB_CORE_CTRL_RST n = 0 ∧ (t.coreAt n).phase = .running ∧
      (t.coreAt n).pc = 4 * s.fget .FAB_CORE_CTRL_BOOT n ∧ (∀ i, (t.coreAt n).x i = 0) ∧ (t.coreAt n).mie = false ∧
      (t.coreAt n).level = 0 ∧ t.mem = s.mem ∧
      SameRegs (fun k => FieldsAt [.FAB_CORE_CTRL_RST] n k ∨ k.f = .PMG_DOMSTAT_DIRTY) s t) ∧
  (∀ (m : Fin 10) (n : Fin 5) (s : State), Reaches s m (regAddr .FAB_CORE_CTRL n) → n ≠ 4 → isChecker s n = false →
    s.fget .FAB_CORE_CTRL_RST n = 0 → Regs.wf s.regs = true →
    ∃ t, exec (.coreReset m n) s = .next t ∧ t.fget .FAB_CORE_CTRL_RST n = 1 ∧ (t.coreAt n).phase = .reset ∧
      (∀ l : Fin 64, ¬(t.flag .LCK_STAT_HELD l = true ∧ t.fget .LCK_STAT_OWNMST l = n.val)) ∧ t.mem = s.mem) ∧
  (∀ (m : Fin 10) (s : State), Reaches s m (regAddr .FAB_CORE_CTRL 4) → s.fget .FAB_CORE_CTRL_RST 4 = 0 →
    ∃ t, exec (.coreReset m 4) s = .next t ∧ mgmtUp t = false ∧ ∀ p : Fin 5, (t.fport p).session = none) ∧
  (∀ (p : Fin 2) (kind : Fin 4) (s : State),
    s.flag (if p = 0 then .FAB_CORECFG_LS01 else .FAB_CORECFG_LS23) = true → s.flag .FAB_CORE_CTRL_RST (2 * p) = false →
    ∃ t, exec (.lockstepMismatch p kind) s = .next t ∧ (t.coreAt (2 * p)).phase = .reset ∧
      (t.coreAt (2 * p + 1)).phase = .reset ∧ t.fget .FAB_CORE_CTRL_RST (2 * p) = 1 ∧
      t.fget .FAB_CORE_CTRL_RST (2 * p + 1) = 1 ∧ t.fget .FAB_LSSTAT_KIND = kind ∧
      t.fget (if p = 0 then .FAB_LSSTAT_ERR01 else .FAB_LSSTAT_ERR23) = 1 ∧ pended t (109 + p) = true ∧ t.mem = s.mem) ∧
  (∀ (m : Fin 10) (s : State), Reaches s m (regAddr .FAB_CORE_CTRL 4) → s.fget .FAB_CORE_CTRL_RST 4 = 1 →
    ∃ t, exec (.coreRelease m 4) s = .next t ∧ mgmtUp t = true ∧ (t.coreAt 4).phase = .running ∧
      (t.coreAt 4).pc = 4 * s.fget .FAB_CORE_CTRL_BOOT 4 ∧ (∀ i, (t.coreAt 4).x i = 0) ∧ t.pw.kickAt = s.now ∧ t.mem = s.mem) ∧
  (∀ (m : Fin 10) (n : Fin 5) (s : State), Reaches s m (regAddr .FAB_CORE_CTRL n) → isChecker s n = true →
    (∃ t, exec (.coreReset m n) s = .next t ∧ t.core = s.core ∧ t.fget .FAB_CORE_CTRL_RST n = s.fget .FAB_CORE_CTRL_RST n) ∧
    (∃ t, exec (.coreRelease m n) s = .next t ∧ t.core = s.core ∧ t.fget .FAB_CORE_CTRL_RST n = s.fget .FAB_CORE_CTRL_RST n)) ∧
  (∀ (m : Fin 10) (n : Fin 5) (s : State), Reaches s m (regAddr .FAB_CORE_CTRL n) → Regs.wf s.regs = true →
    (s.flag .FAB_CORE_CTRL_RST n = true → ∃ t, exec (.coreReset m n) s = .next t ∧ t.core = s.core ∧
      SameRegs (Fields [.PMG_DOMSTAT_DIRTY]) s t) ∧
    (s.flag .FAB_CORE_CTRL_RST n = false → ∃ t, exec (.coreRelease m n) s = .next t ∧ t.core = s.core ∧
      SameRegs (Fields [.PMG_DOMSTAT_DIRTY]) s t)) ∧
  (∀ (p : Fin 2) (kind : Fin 4) (s : State), s.flag (if p = 0 then .FAB_CORECFG_LS01 else .FAB_CORECFG_LS23) = false ∨
    s.flag .FAB_CORE_CTRL_RST (2 * p) = true → exec (.lockstepMismatch p kind) s = .next s)

/-- DOORBELL_RING: a good number becomes pending; a reserved source, one of the partner's range and a form of more than 9 bits are
refused and recorded (R334). PARTNER_RING: the partner may ring its own range only (R335). DELIVERY_DECISION: with no source ready nothing
happens; the first of the ready sources starts the entry of the management core when it is its target and can take it, else of the
application core that can take it with the lowest running priority, of several the first at or after the rotation pointer, which moves past
it (R340, R344). HANDLER_START clears pending, sets active and runs the handler at the address that Entry 2 took from its vector, not
before the entry has run (R344); COMPLETE clears active, or counts a spurious completion with its source and master (R349). CORE_IRET and
EXIT_RETURN go back to the level and address of the link, IRET at level 0 is illegal, and an exit takes its four cycles (R346). -/
def Obligations.RingsAndDelivery : Prop :=
  (∀ (m : Fin 10) (v : Nat) (s : State), Reaches s m (regAddr .BFY_DOORBELL) → v < 384 → sourceReserved v = false →
    ∃ t, exec (.doorbellRing m v) s = .next t ∧ pended t v = true ∧
      WroteOnly (fun k => FieldsAt [.BFY_PEND_W] (v / 32) k ∨ k.f = .BFY_MERGECNT_COUNT) m s t) ∧
  (∀ (m : Fin 10) (v : Nat) (s : State), Reaches s m (regAddr .BFY_DOORBELL) → 384 ≤ v → v < 512 →
    ∃ t, exec (.doorbellRing m v) s = .next t ∧ t.fget .BFY_DBERR_LOCAL = 1 ∧ t.fget .BFY_DBERR_LAST = v ∧
      WroteOnly (Fields [.BFY_DBERR_LOCAL, .BFY_DBERR_LAST]) m s t) ∧
  (∀ (m : Fin 10) (v : Nat) (s : State), Reaches s m (regAddr .BFY_DOORBELL) → 512 ≤ v → v < 2 ^ 32 →
    ∃ t, exec (.doorbellRing m v) s = .next t ∧ t.fget .BFY_DBERR_FORM = 1 ∧ t.fget .BFY_DBERR_LAST = v % 512 ∧
      WroteOnly (Fields [.BFY_DBERR_FORM, .BFY_DBERR_RSVD, .BFY_DBERR_LOCAL, .BFY_DBERR_LAST]) m s t) ∧
  (∀ (v : Nat) (s : State), s.clockOn 16 = true → 384 ≤ v → v < 512 →
    ∃ t, exec (.partnerRing v) s = .next t ∧ pended t v = true ∧
      ChangedOnly (fun k => FieldsAt [.BFY_PEND_W] (v / 32) k ∨ k.f = .BFY_MERGECNT_COUNT) s t) ∧
  (∀ (v : Nat) (s : State), s.clockOn 16 = true → v < 384 ∨ 512 ≤ v → v < 2 ^ 32 →
    ∃ t, exec (.partnerRing v) s = .next t ∧ t.fget .BFY_DBERR_PARTNER = 1 ∧ t.fget .BFY_DBERR_LAST = v % 512 ∧
      ChangedOnly (Fields [.BFY_DBERR_PARTNER, .BFY_DBERR_LAST]) s t) ∧
  (∀ (s : State), readySources s = [] → exec .deliveryDecision s = .next s) ∧
  (∀ (n : Nat) (rest : List Nat) (s : State), readySources s = n :: rest → s.flag .BFY_SRC_CFG_TGT n = true → mayTake s n 4 = true →
    ∃ t, exec .deliveryDecision s = .next t ∧ (t.coreAt 4).phase = .entry ∧ (t.coreAt 4).entSrc = n ∧
      (t.coreAt 4).entPrio = s.fget .BFY_SRC_CFG_PRIO n ∧ (t.coreAt 4).resv = none ∧ t.mem = s.mem ∧
      (rest = [] → t = { s with core := t.core } ∧ ∀ x, x ≠ 4 → t.coreAt x = s.coreAt x)) ∧
  (∀ (n : Nat) (c : Fin 4) (s : State), readySources s = [n] → s.flag .BFY_SRC_CFG_TGT n = false →
    mayTake s n c = true → (∀ d : Fin 4, d ≠ c → mayTake s n d = true → runPrio s c < runPrio s d) →
    ∃ t, exec .deliveryDecision s = .next t ∧ (t.coreAt c).phase = .entry ∧ (t.coreAt c).entSrc = n ∧
      t.fget .BFY_ROT_PTR = (c + 1) % 4 ∧ (∀ x, x ≠ c.val → t.coreAt x = s.coreAt x) ∧
      SameRegs (Fields [.BFY_ROT_PTR]) s t ∧ t.mem = s.mem) ∧
  (∀ (c : Fin 5) (a : Nat) (s : State), (s.coreAt c).phase = .entry → coreOn s c = true → (s.coreAt c).due ≤ s.now →
    (s.coreAt c).entPc = some a →
    ∃ t, exec (.handlerStart c) s = .next t ∧ pended t (s.coreAt c).entSrc = false ∧
      t.fbit .BFY_ACTIVE_W ((s.coreAt c).entSrc % 32) ((s.coreAt c).entSrc / 32) = true ∧ (t.coreAt c).phase = .running ∧
      (t.coreAt c).level = (s.coreAt c).entPrio ∧ (t.coreAt c).pc = a ∧
      (∀ x, x ≠ c.val → t.coreAt x = s.coreAt x) ∧
      SameRegs (FieldsAt [.BFY_PEND_W, .BFY_ACTIVE_W] ((s.coreAt c).entSrc / 32)) s t ∧ t.mem = s.mem) ∧
  (∀ (m : Fin 10) (v : Nat) (s : State), Reaches s m (regAddr .BFY_COMPLETE) → v < 512 →
    (s.fbit .BFY_ACTIVE_W (v % 32) (v / 32) = true → ∃ t, exec (.complete m v) s = .next t ∧
      t.fbit .BFY_ACTIVE_W (v % 32) (v / 32) = false ∧ WroteOnly (FieldsAt [.BFY_ACTIVE_W] (v / 32)) m s t) ∧
    (s.fbit .BFY_ACTIVE_W (v % 32) (v / 32) = false → ∃ t, exec (.complete m v) s = .next t ∧
      t.fget .BFY_SPURCNT_COUNT = min 65535 (s.fget .BFY_SPURCNT_COUNT + 1) ∧ t.fget .BFY_SPURLAST_SRC = v ∧
      t.fget .BFY_SPURLAST_MASTER = m ∧
      WroteOnly (Fields [.BFY_SPURCNT_COUNT, .BFY_SPURLAST_SRC, .BFY_SPURLAST_MASTER]) m s t)) ∧
  (∀ (c : Fin 5) (s : State), coreActs s c = true → (s.coreAt c).level ≠ 0 →
    ∃ t, exec (.coreIret c) s = .next t ∧ (t.coreAt c).phase = .exit ∧
      (t.coreAt c).level = vget (s.coreAt c).linkLvl (s.coreAt c).level ∧
      (t.coreAt c).ctxRet = vget (s.coreAt c).linkRet (s.coreAt c).level ∧
      vget (t.coreAt c).srcid (s.coreAt c).level = none ∧ (t.coreAt c).bank = (s.coreAt c).bank ∧
      t = { s with core := t.core } ∧ ∀ x, x ≠ c.val → t.coreAt x = s.coreAt x) ∧
  (∀ (c : Fin 5) (s : State), coreActs s c = true → (s.coreAt c).level = 0 →
    ∃ t, exec (.coreIret c) s = .next t ∧ Excepted c 2 s t) ∧
  (∀ (c : Fin 5) (s : State), (s.coreAt c).phase = .exit → (s.coreAt c).due ≤ s.now →
    ∃ t, exec (.exitReturn c) s = .next t ∧ (t.coreAt c).phase = .running ∧ (t.coreAt c).pc = (s.coreAt c).ctxRet ∧
      CoreWrote c 0 0 s t) ∧
  (∀ (m : Fin 10) (v : Nat) (s : State), Reaches s m (regAddr .BFY_DOORBELL) → sourceReserved v = true →
    ∃ t, exec (.doorbellRing m v) s = .next t ∧ t.fget .BFY_DBERR_RSVD = 1 ∧ t.fget .BFY_DBERR_LAST = v ∧
      WroteOnly (Fields [.BFY_DBERR_RSVD, .BFY_DBERR_LAST]) m s t) ∧
  (∀ (v : Nat) (s : State), s.clockOn 16 = false → exec (.partnerRing v) s = .next s) ∧
  (∀ (n : Nat) (rest : List Nat) (s : State), readySources s = n :: rest → s.flag .BFY_SRC_CFG_TGT n = false →
    s.fget .BFY_ROT_PTR < 4 → (∀ d : Fin 4, mayTake s n d = true ∧ runPrio s d = runPrio s 0) →
    ∃ t, exec .deliveryDecision s = .next t ∧ (t.coreAt (s.fget .BFY_ROT_PTR)).phase = .entry ∧
      (t.coreAt (s.fget .BFY_ROT_PTR)).entSrc = n) ∧
  (∀ (n : Nat) (s : State), readySources s = [n] → (∀ c : Fin 5, mayTake s n c = false) → exec .deliveryDecision s = .next s) ∧
  (∀ (c : Fin 5) (s : State), (s.coreAt c).phase ≠ .entry ∨ coreOn s c = false ∨ s.now < (s.coreAt c).due →
    exec (.handlerStart c) s = .next s) ∧
  (∀ (c : Fin 5) (s : State), (s.coreAt c).phase ≠ .exit ∨ s.now < (s.coreAt c).due → exec (.exitReturn c) s = .next s)

/-- R336: PENDSET, PENDCLR, MASKSET and MASKCLR act on the bits written as 1 and leave the bits written as 0, of the 32 sources
of their word and of no other; a source that becomes pending in the cycle of a PENDCLR stays pending (R17, R337); a masked source is not among those that a decision may deliver; after reset every source is
masked and not pending. -/
def Obligations.PendingAndMaskBits : Prop :=
  (∀ (m : Fin 10) (w : Fin 16) (v : Nat) (s : State), Reaches s m (regAddr .BFY_PENDSET w) →
    (∃ t, exec (.pendSet m w v) s = .next t ∧ WroteOnly (FieldsAt [.BFY_PEND_W] w) m s t ∧
      ∀ k : Fin 32, t.fbit .BFY_PEND_W k w = (s.fbit .BFY_PEND_W k w || bit v k))) ∧
  (∀ (m : Fin 10) (w : Fin 16) (v : Nat) (s : State), Reaches s m (regAddr .BFY_PENDCLR w) →
    (∃ t, exec (.pendClr m w v) s = .next t ∧ WroteOnly (FieldsAt [.BFY_PEND_W] w) m s t ∧
      ∀ k : Fin 32, t.fbit .BFY_PEND_W k w = (s.fbit .BFY_PEND_W k w && (!bit v k || bit (s.setNow .BFY_PEND_W w 0) k)))) ∧
  (∀ (m : Fin 10) (w : Fin 16) (v : Nat) (s : State), Reaches s m (regAddr .BFY_MASKSET w) →
    (∃ t, exec (.maskSet m w v) s = .next t ∧ WroteOnly (FieldsAt [.BFY_MASK_W] w) m s t ∧
      ∀ k : Fin 32, t.fbit .BFY_MASK_W k w = (s.fbit .BFY_MASK_W k w || bit v k))) ∧
  (∀ (m : Fin 10) (w : Fin 16) (v : Nat) (s : State), Reaches s m (regAddr .BFY_MASKCLR w) →
    (∃ t, exec (.maskClr m w v) s = .next t ∧ WroteOnly (FieldsAt [.BFY_MASK_W] w) m s t ∧
      ∀ k : Fin 32, t.fbit .BFY_MASK_W k w = (s.fbit .BFY_MASK_W k w && !bit v k))) ∧
  (∀ (n : Nat) (s : State), s.fbit .BFY_MASK_W (n % 32) (n / 32) = true → n ∉ readySources s) ∧
  (∀ n : Fin 512, State.reset.fbit .BFY_MASK_W (n % 32) (n / 32) = true ∧ pended State.reset n = false)

/-- LOCK_ACQUIRE, a read of LCK_ACQ: by a master that may own locks it takes a free lock and returns GOT with its owner; of a lock that
its own identity holds it returns GOT and ALREADY, of one another identity holds GOT 0, and changes nothing; by any other master it
only returns the lock's state (R350, R351). LOCK_BREAK by the management core or a debugger frees the lock with BROKEN set; by another master
it counts and changes no lock (R353, R354). -/
def Obligations.Locks : Prop :=
  (∀ (m : Fin 10) (l : Fin 64) (s : State), Reaches s m (regAddr .LCK_ACQ l) → mayAcquire m = true →
    s.flag .LCK_STAT_HELD l = false →
    ∃ t, exec (.lockAcquire m l) s = .next t ∧ t.fget .LCK_STAT_HELD l = 1 ∧ t.fget .LCK_STAT_OWNMST l = m ∧
      t.fget .LCK_STAT_OWNLVL l = ownLevel s m % 16 ∧ t.fget .LCK_STAT_BROKEN l = 0 ∧
      (t.portAt m).resp = some ⟨acqWord true (s.flag .LCK_STAT_BROKEN l) false false (ownLevel s m) m, false⟩ ∧
      SameRegs (FieldsAt [.LCK_STAT_HELD, .LCK_STAT_OWNMST, .LCK_STAT_OWNLVL, .LCK_STAT_BROKEN] l) s t ∧ t.mem = s.mem) ∧
  (∀ (m : Fin 10) (l : Fin 64) (s : State), Reaches s m (regAddr .LCK_ACQ l) → mayAcquire m = true →
    s.flag .LCK_STAT_HELD l = true → holdsLock s m l = false →
    ∃ t, exec (.lockAcquire m l) s = .next t ∧ SameRegs (Fields []) s t ∧ t.mem = s.mem ∧
      (t.portAt m).resp = some ⟨acqWord false false false true (s.fget .LCK_STAT_OWNLVL l) (s.fget .LCK_STAT_OWNMST l), false⟩) ∧
  (∀ (m : Fin 10) (l : Fin 64) (s : State), Reaches s m (regAddr .LCK_BREAK) → m.val = 4 ∨ m.val = 9 →
    ∃ t, exec (.lockBreak m l) s = .next t ∧ t.fget .LCK_STAT_HELD l = 0 ∧ t.fget .LCK_STAT_BROKEN l = 1 ∧
      t.fget .LCK_BROKENCNT_COUNT = min 65535 (s.fget .LCK_BROKENCNT_COUNT + 1) ∧
      WroteOnly (fun k => FieldsAt [.LCK_STAT_HELD, .LCK_STAT_OWNMST, .LCK_STAT_OWNLVL, .LCK_STAT_BROKEN] l k ∨
        k.f ∈ [.LCK_BROKENCNT_COUNT, .BFY_PEND_W, .BFY_MERGECNT_COUNT]) m s t) ∧
  (∀ (m : Fin 10) (l : Fin 64) (s : State), Reaches s m (regAddr .LCK_BREAK) → m.val ≠ 4 → m.val ≠ 9 →
    ∃ t, exec (.lockBreak m l) s = .next t ∧ t.fget .LCK_RELERR_COUNT = min 65535 (s.fget .LCK_RELERR_COUNT + 1) ∧
      WroteOnly (Fields [.LCK_RELERR_COUNT]) m s t) ∧
  (∀ (m : Fin 10) (l : Fin 64) (s : State), Reaches s m (regAddr .LCK_ACQ l) → mayAcquire m = true → holdsLock s m l = true →
    ∃ t, exec (.lockAcquire m l) s = .next t ∧ SameRegs (Fields []) s t ∧ t.mem = s.mem ∧
      (t.portAt m).resp = some ⟨acqWord true false true true (s.fget .LCK_STAT_OWNLVL l) (s.fget .LCK_STAT_OWNMST l), false⟩) ∧
  (∀ (m : Fin 10) (l : Fin 64) (s : State), Reaches s m (regAddr .LCK_ACQ l) → mayAcquire m = false →
    ∃ t, exec (.lockAcquire m l) s = .next t ∧ SameRegs (Fields []) s t ∧ t.mem = s.mem ∧
      (t.portAt m).resp = some ⟨acqWord false false false (s.flag .LCK_STAT_HELD l) (s.fget .LCK_STAT_OWNLVL l)
        (s.fget .LCK_STAT_OWNMST l), false⟩)

/-- R352: a write to LCK_REL by the identity that owns the lock, its master at the level it owns it with, frees the lock; a
write by any other identity, or to a free lock, changes no lock and counts in LCK_RELERR. -/
def Obligations.LockRelease : Prop :=
  (∀ (m : Fin 10) (l : Fin 64) (s : State), Reaches s m (regAddr .LCK_REL l) → s.flag .LCK_STAT_HELD l = true →
    s.fget .LCK_STAT_OWNMST l = m.val → s.fget .LCK_STAT_OWNLVL l = ownLevel s m →
    ∃ t, exec (.lockRelease m l) s = .next t ∧ t.fget .LCK_STAT_HELD l = 0 ∧
      WroteOnly (FieldsAt [.LCK_STAT_HELD, .LCK_STAT_OWNMST, .LCK_STAT_OWNLVL] l) m s t) ∧
  (∀ (m : Fin 10) (l : Fin 64) (s : State), Reaches s m (regAddr .LCK_REL l) →
    s.flag .LCK_STAT_HELD l = false ∨ s.fget .LCK_STAT_OWNMST l ≠ m.val ∨ s.fget .LCK_STAT_OWNLVL l ≠ ownLevel s m →
    ∃ t, exec (.lockRelease m l) s = .next t ∧ t.fget .LCK_RELERR_COUNT = min 65535 (s.fget .LCK_RELERR_COUNT + 1) ∧
      WroteOnly (Fields [.LCK_RELERR_COUNT]) m s t)

/-! ### Twin pairing -/

/-- Output ownership: OWN_CLAIM decides the claim of a SOLO device that may claim (R362); OWNERSHIP_GAIN takes ownership LEAD ticks
after OWN was driven (R360); OWN_RELEASE ends it at once with no output on at the interlock, and makes a primary DETACHED (R383);
OWN_DEASSERT drives OWN inactive LEAD ticks later (R360); OWNIN_CHANGE counts a new level once it has held for QUAL ticks, or 16 while
a handover is filtered (R361, R392); KEEPALIVE_EXPIRY releases (R362). Each has no effect while its condition does not hold. -/
def Obligations.OutputOwnership : Prop :=
  (∀ (s : State), soloMayClaim s = true →
    ∃ t, exec .ownClaim s = .next t ∧ t.twin.claimAt = some s.now ∧ t.twin.keepFrom = s.now ∧ t = { s with twin := t.twin }) ∧
  (∀ (c : Nat) (s : State), s.twin.claimAt = some c → c + 1 + s.fget .TTH_OWNCFG_LEAD ≤ s.now →
    ∃ t, exec .ownershipGain s = .next t ∧ t.fget .TTH_STAT_OWN = 1 ∧ t.fget .TTH_STAT_OWNED = 1 ∧ t.twin.claimAt = none) ∧
  (∀ (c : Nat) (s : State), s.twin.claimAt = some c → s.now < c + 1 + s.fget .TTH_OWNCFG_LEAD →
    exec .ownershipGain s = .next s) ∧
  (∀ (s : State), releaseDue s = true → s.role = roleSolo →
    ∃ t, exec .ownRelease s = .next t ∧ t.fget .TTH_STAT_OWNED = 0 ∧ t.twin.releaseAt = some s.now ∧ t.role = roleSolo ∧
      t.flag .TTH_STAT_OWN = s.flag .TTH_STAT_OWN ∧ (∀ (n : Fin 24) (low : Bool), (outAt t n low).on = false) ∧ t.mem = s.mem) ∧
  (∀ (r : Nat) (s : State), s.twin.releaseAt = some r → r + s.fget .TTH_OWNCFG_LEAD ≤ s.now →
    ∃ t, exec .ownDeassert s = .next t ∧ t.fget .TTH_STAT_OWN = 0 ∧ t.twin.releaseAt = none) ∧
  (∀ (level : Bool) (ticks : Nat) (s : State), s.twin.handUntil = none → s.clockOn 16 = true →
    (s.flag .TTH_STAT_OWNIN = !level → s.fget .TTH_OWNCFG_QUAL ≤ ticks →
      ∃ t, exec (.ownInChange level ticks) s = .next t ∧ t.fget .TTH_STAT_OWNIN = b2n level) ∧
    (ticks < s.fget .TTH_OWNCFG_QUAL → exec (.ownInChange level ticks) s = .next s)) ∧
  (∀ (s : State), s.fget .TTH_KEEP_KEEP ≠ 0 → holdsOwn s = true → s.twin.releaseAt = none →
    s.twin.keepFrom + s.fget .TTH_KEEP_KEEP ≤ s.now →
    ∃ t, exec .keepaliveExpiry s = .next t ∧ t.flag .TTH_STAT_KEEPEXP = true ∧ t.fget .TTH_STAT_OWNED = 0 ∧
      t.twin.releaseAt = some s.now ∧ pended t 135 = true) ∧
  (∀ (s : State), releaseDue s = true → s.role = rolePrimary →
    ∃ t, exec .ownRelease s = .next t ∧ t.fget .TTH_STAT_OWNED = 0 ∧ t.twin.releaseAt = some s.now ∧ t.role = roleDetached ∧
      t.flag .TTH_STAT_OWN = s.flag .TTH_STAT_OWN ∧ ∀ (n : Fin 24) (low : Bool), (outAt t n low).on = false) ∧
  (∀ (s : State), (releaseDue s = false → exec .ownRelease s = .next s) ∧
    (soloMayClaim s = false → exec .ownClaim s = .next s) ∧
    (s.twin.claimAt = none → exec .ownershipGain s = .next s) ∧ (s.twin.releaseAt = none → exec .ownDeassert s = .next s) ∧
    (s.now < s.twin.keepFrom + s.fget .TTH_KEEP_KEEP ∨ s.fget .TTH_KEEP_KEEP = 0 ∨ holdsOwn s = false →
      exec .keepaliveExpiry s = .next s)) ∧
  (∀ (r : Nat) (s : State), s.twin.releaseAt = some r → s.now < r + s.fget .TTH_OWNCFG_LEAD → exec .ownDeassert s = .next s) ∧
  (∀ (level : Bool) (ticks h : Nat) (s : State),
    (s.flag .TTH_STAT_OWNIN = level → exec (.ownInChange level ticks) s = .next s) ∧
    (s.clockOn 16 = false → exec (.ownInChange level ticks) s = .next s) ∧
    (s.clockOn 16 = true → s.flag .TTH_STAT_OWNIN = !level → s.twin.handUntil = some h → s.now < h → 16 ≤ ticks →
      ∃ t, exec (.ownInChange level ticks) s = .next t ∧ t.fget .TTH_STAT_OWNIN = b2n level) ∧
    (s.twin.handUntil = some h → s.now < h → ticks < 16 → exec (.ownInChange level ticks) s = .next s))

/-- Roles: PREFSEAT_WAIT_EXPIRY and WAITB_EXPIRY make a device in INIT that may claim alone PRIMARY, one that is not paired SOLO (R383);
OWN_CONFLICT_TIMEOUT detaches (R389); DETACH_WRITE, ATTACH_WRITE and HANDOVER_WRITE move the role, pass the request to the partner,
or begin a handover, which is refused with a ring where R392 does not allow it (R383, R392), and do nothing with their bit clear; at
HANDOVER_FILTER_EXPIRY a standby whose OWNIN is inactive takes over (R384, R392). SNS_EDGE moves a ball's level, which passes the
filter after four ticks, and on a watched input ends the report of no switching (R387). -/
def Obligations.PairRoles : Prop :=
  (∀ (s : State), initMayClaim s = true → holdsOwn s = false →
    (s.fget .TTH_STAT_SEAT = s.fget .TTH_CFG_PREFSEAT → ∃ t, exec .prefseatWaitExpiry s = .next t ∧ t.role = rolePrimary ∧
      t.twin.claimAt = some s.now) ∧
    (s.fget .TTH_STAT_SEAT ≠ s.fget .TTH_CFG_PREFSEAT → ∃ t, exec .waitbExpiry s = .next t ∧ t.role = rolePrimary ∧
      t.twin.claimAt = some s.now)) ∧
  (∀ (s : State), s.role = rolePrimary → s.flag .TTH_STAT_TOOK = true → s.flag .TTH_STAT_OWNIN = true → holdsOwn s = true →
    s.twin.ownInAt ≤ s.twin.ownAt → s.twin.ownAt + msTicks ≤ s.now →
    ∃ t, exec .ownConflictTimeout s = .next t ∧ t.role = roleDetached ∧ t.fget .TTH_STAT_OWNED = 0 ∧
      t.flag .TTH_STAT_OWNCONF = true) ∧
  (∀ (m : Fin 10) (v : Nat) (s : State), Reaches s m (regAddr .TTH_CTRL) → bit v 2 = true → bit v 3 = false →
    s.role = rolePrimary → holdsOwn s = true →
    ∃ t, exec (.detachWrite m v) s = .next t ∧ t.role = roleDetached ∧ t.fget .TTH_STAT_OWNED = 0) ∧
  (∀ (m : Fin 10) (v : Nat) (s : State), Reaches s m (regAddr .TTH_CTRL) → bit v 2 = true → bit v 3 = false →
    s.role = roleStandby ∨ s.role = roleJoining →
    ∃ t, exec (.detachWrite m v) s = .next t ∧ t.role = roleDetached) ∧
  (∀ (m : Fin 10) (v : Nat) (s : State), Reaches s m (regAddr .TTH_CTRL) → bit v 3 = true → bit v 5 = false →
    s.role = roleDetached → s.twin.pRole = rolePrimary → linkUp s = true → s.flag .CUP_STAT_SHUT = false →
    ∃ t, exec (.attachWrite m v) s = .next t ∧ t.role = roleJoining ∧ t.twin.join = 1 ∧ t.fget .TTH_STAT_LOCKED = 0 ∧
      t.fget .TTH_STAT_TOOK = 0) ∧
  (∀ (m : Fin 10) (v : Nat) (s : State), Reaches s m (regAddr .TTH_CTRL) → v % 64 = 19 →
    (handoverOk s = true → ∃ t, exec (.handoverWrite m v) s = .next t ∧ t.twin.hand = true ∧ t.role = rolePrimary ∧
      t.twin.txq = s.twin.txq ++ List.replicate 4 ⟨tyCtrl, [3, 0, 0, 0], s.now⟩) ∧
    (handoverOk s = false → ∃ t, exec (.handoverWrite m v) s = .next t ∧ t.twin = s.twin ∧ t.role = s.role ∧
      pended t 130 = true)) ∧
  (∀ (h : Nat) (s : State), s.twin.handUntil = some h → h ≤ s.now → s.role = roleStandby →
    (s.flag .TTH_STAT_OWNIN = true → linkUp s = true →
      ∃ t, exec .handoverFilterExpiry s = .next t ∧ t.twin.handUntil = none ∧ t.twin.handed = false ∧
        t = { s with twin := t.twin }) ∧
    (s.flag .TTH_STAT_OWNIN = false → eligible s = true →
      ∃ t, exec .handoverFilterExpiry s = .next t ∧ t.role = rolePrimary ∧ t.fget .TTH_STAT_TOOK = 1)) ∧
  (∀ (j : Fin 8) (s : State),
    ∃ t, exec (.snsEdge j) s = .next t ∧ t = { s with snsBall := setBit s.snsBall j (!bit s.snsBall j) }) ∧
  (∀ (s : State), s.role ≠ roleInit ∨ s.flag .TTH_CFG_PAIRED = true ∧ initMayClaim s = false →
    exec .prefseatWaitExpiry s = .next s ∧ exec .waitbExpiry s = .next s) ∧
  (∀ (s : State), s.role = roleInit → s.img.applied = true → s.flag .TTH_CFG_PAIRED = false →
    (s.fget .TTH_STAT_SEAT = s.fget .TTH_CFG_PREFSEAT → ∃ t, exec .prefseatWaitExpiry s = .next t ∧ t.role = roleSolo) ∧
    (s.fget .TTH_STAT_SEAT ≠ s.fget .TTH_CFG_PREFSEAT → ∃ t, exec .waitbExpiry s = .next t ∧ t.role = roleSolo)) ∧
  (∀ (s : State), s.role ≠ rolePrimary ∨ s.flag .TTH_STAT_TOOK = false ∨ s.flag .TTH_STAT_OWNIN = false ∨
    holdsOwn s = false ∨ s.now < s.twin.ownAt + msTicks → exec .ownConflictTimeout s = .next s) ∧
  (∀ (m : Fin 10) (v : Nat) (s : State), Reaches s m (regAddr .TTH_CTRL) → bit v 2 = true → bit v 3 = false → bit v 5 = false →
    s.role = roleInit ∨ s.role = roleSolo ∨ s.role = roleDetached →
    ∃ t, exec (.detachWrite m v) s = .next t ∧ t.role = s.role) ∧
  (∀ (m : Fin 10) (v : Nat) (s : State), Reaches s m (regAddr .TTH_CTRL) → v % 64 = 11 →
    (s.role = rolePrimary → linkUp s = true → ∃ t, exec (.attachWrite m v) s = .next t ∧ t.role = rolePrimary ∧
      t.twin.txq = s.twin.txq ++ List.replicate 4 ⟨tyCtrl, [2, 0, 0, 0], s.now⟩) ∧
    (s.role ≠ roleDetached ∨ s.twin.pRole ≠ rolePrimary ∨ linkUp s = false ∨ s.flag .CUP_STAT_SHUT = true →
      ∃ t, exec (.attachWrite m v) s = .next t ∧ t.role = s.role)) ∧
  (∀ (m : Fin 10) (v : Nat) (s : State), (bit v 2 = false → exec (.detachWrite m v) s = .next s) ∧
    (bit v 3 = false → exec (.attachWrite m v) s = .next s) ∧ (bit v 4 = false → exec (.handoverWrite m v) s = .next s)) ∧
  (∀ (h : Nat) (s : State), (s.twin.handUntil = none → exec .handoverFilterExpiry s = .next s) ∧
    (s.twin.handUntil = some h → s.now < h → exec .handoverFilterExpiry s = .next s)) ∧
  (∀ (j : Fin 8) (s : State), bit s.snsBall j ≠ bit s.snsLevel j →
    (3 ≤ vget s.snsRun j → (snsFilter s j).snsLevel = setBit s.snsLevel j (!bit s.snsLevel j) ∧
      (s.fbit .TTH_SNSCFG_MASK j = true → (snsFilter s j).monEdge = true ∧ (snsFilter s j).monQuiet = 0)) ∧
    (vget s.snsRun j < 3 → snsFilter s j = { s with snsRun := vput s.snsRun j (vget s.snsRun j + 1) }))

/-- TRAINING_START and TRAINING_STEP_DONE run the four steps in order; the second ends with eight PING frames, the last sets TETHER and
rings; TRAINING_TIMEOUT fails the attempt, counted, and the next begins 100 µs later (R366). LANE_LOCK_LOSS by four errors,
HEALTH_TIMEOUT, 4 µs without a good HEALTH frame, and TETHER_RETRAIN take the trained link down; the first two set LINKLOST (R366,
R367). LANE_DISABLE_DETACH sends four CTRL DETACH frames, and the link goes down when they have left; a standby or joining seat
is DETACHED (R368). Each has no effect while its condition does not hold. -/
def Obligations.LinkTraining : Prop :=
  (∀ (s : State), s.clockOn 16 = true → linkUp s = false → s.twin.step = 0 → lanesEnabled s = true → s.twin.retryAt ≤ s.now →
    ∃ t, exec .trainingStart s = .next t ∧ t.twin.step = 1 ∧ t.twin.stepAt = s.now) ∧
  (∀ (k : Nat) (s : State), s.now ≤ s.twin.stepAt + stepMax s.twin.step →
    (s.twin.step = 1 → ∃ t, exec (.trainingStepDone k) s = .next t ∧ t.twin.step = 2 ∧ t.fget .TTH_LINKSTAT_LOCK0 = 1 ∧
      t.fget .TTH_LINKSTAT_LOCK1 = 1) ∧
    (s.twin.step = 2 → ∃ t, exec (.trainingStepDone k) s = .next t ∧ t.twin.step = 3 ∧ t.fget .TTH_LINKSTAT_DESKEW = 1 ∧
      t.fget .TTH_LINKSTAT_SKEW = k % 2 ^ Fld.len .TTH_LINKSTAT_SKEW ∧
      t.twin.txq = s.twin.txq ++ List.replicate 8 ⟨tyPing, leBytes 8 s.now, s.now⟩) ∧
    (s.twin.step = 3 → 8 ≤ s.twin.pongs → ∃ t, exec (.trainingStepDone k) s = .next t ∧ t.twin.step = 4) ∧
    (s.twin.step = 4 → 2 ≤ s.twin.greets → ∃ t, exec (.trainingStepDone k) s = .next t ∧ t.fget .TTH_STAT_TETHER = 1 ∧
      t.fget .TTH_LINKSTAT_TRAINED = 1 ∧ pended t 128 = true)) ∧
  (∀ (s : State), s.twin.step ≠ 0 → s.twin.stepAt + stepMax s.twin.step < s.now →
    ∃ t, exec .trainingTimeout s = .next t ∧ t.twin.step = 0 ∧ t.twin.retryAt = s.now + 100 * usTicks ∧
      t.fget .TTH_LINKSTAT_FAILS = min (2 ^ Fld.len .TTH_LINKSTAT_FAILS - 1) (s.fget .TTH_LINKSTAT_FAILS + 1) ∧
      t.mem = s.mem) ∧
  (∀ (n : Fin 2) (e : Nat) (s : State), linkUp s = true →
    s.flag (if n = 0 then .TTH_LINKSTAT_LOCK0 else .TTH_LINKSTAT_LOCK1) = true →
    (4 ≤ e → ∃ t, exec (.laneLockLoss n e) s = .next t ∧ t.fget .TTH_STAT_TETHER = 0 ∧ t.flag .TTH_STAT_LINKLOST = true) ∧
    (e < 4 → ∃ t, exec (.laneLockLoss n e) s = .next t ∧
      t.fget .TTH_ERRCNT_CODEERR = min 65535 (s.fget .TTH_ERRCNT_CODEERR + e) ∧ ChangedOnly (Fields [.TTH_ERRCNT_CODEERR]) s t)) ∧
  (∀ (s : State), linkUp s = true →
    (s.twin.healthAt + 4 * usTicks ≤ s.now → ∃ t, exec .healthTimeout s = .next t ∧ t.fget .TTH_STAT_TETHER = 0 ∧
      t.flag .TTH_STAT_LINKLOST = true) ∧
    (s.now < s.twin.healthAt + 4 * usTicks → exec .healthTimeout s = .next s)) ∧
  (∀ (m : Fin 10) (v : Nat) (s : State), Reaches s m (regAddr .TTH_CTRL) → v % 64 < 3 → linkUp s = true →
    s.flag .TTH_CTRL_LANEEN0 = true ∧ bit v 0 = false ∨ s.flag .TTH_CTRL_LANEEN1 = true ∧ bit v 1 = false →
    ∃ t, exec (.laneDisableDetach m v) s = .next t ∧ t.flag .TTH_CTRL_LANEEN0 = bit v 0 ∧ t.flag .TTH_CTRL_LANEEN1 = bit v 1 ∧
      t.twin.laneStop = true ∧ t.twin.txq = s.twin.txq ++ List.replicate 4 ⟨tyCtrl, [1, 1, 0, 0], s.now⟩ ∧ linkUp t = true ∧
      (s.role = roleStandby ∨ s.role = roleJoining → t.role = roleDetached)) ∧
  (∀ (m : Fin 10) (v : Nat) (s : State), Reaches s m (regAddr .TTH_CTRL) → v % 64 = 35 → linkUp s = true →
    ∃ t, exec (.tetherRetrain m v) s = .next t ∧ t.fget .TTH_STAT_TETHER = 0 ∧ t.fget .TTH_LINKSTAT_TRAINED = 0 ∧
      t.twin.step = 0) ∧
  (∀ (k : Nat) (s : State), s.twin.step = 3 ∧ s.twin.pongs < 8 ∨ s.twin.step = 4 ∧ s.twin.greets < 2 ∨ s.twin.step = 0 ∨
    s.twin.stepAt + stepMax s.twin.step < s.now → exec (.trainingStepDone k) s = .next s) ∧
  (∀ (s : State), (s.clockOn 16 = false ∨ linkUp s = true ∨ s.twin.step ≠ 0 ∨ lanesEnabled s = false ∨
      s.now < s.twin.retryAt → exec .trainingStart s = .next s) ∧
    (s.twin.step = 0 ∨ s.now ≤ s.twin.stepAt + stepMax s.twin.step → exec .trainingTimeout s = .next s) ∧
    (linkUp s = false → exec .healthTimeout s = .next s)) ∧
  (∀ (n : Fin 2) (e : Nat) (s : State),
    (s.flag (if n = 0 then .TTH_LINKSTAT_LOCK0 else .TTH_LINKSTAT_LOCK1) = false → exec (.laneLockLoss n e) s = .next s) ∧
    (s.flag (if n = 0 then .TTH_LINKSTAT_LOCK0 else .TTH_LINKSTAT_LOCK1) = true → linkUp s = false → 4 ≤ e →
      ∃ t, exec (.laneLockLoss n e) s = .next t ∧
        t.flag (if n = 0 then .TTH_LINKSTAT_LOCK0 else .TTH_LINKSTAT_LOCK1) = false ∧
        t.fget .TTH_ERRCNT_CODEERR = min 65535 (s.fget .TTH_ERRCNT_CODEERR + e) ∧
        ChangedOnly (Fields [.TTH_ERRCNT_CODEERR, .TTH_LINKSTAT_LOCK0, .TTH_LINKSTAT_LOCK1]) s t)) ∧
  (∀ (s : State), s.twin.laneStop = true → s.twin.shortLeft = 0 → s.twin.txq.any (fun f => f.ty == tyCtrl) = false →
    (laneStopTick s).fget .TTH_STAT_TETHER = 0 ∧ (laneStopTick s).fget .TTH_LINKSTAT_TRAINED = 0 ∧
      (laneStopTick s).twin.laneStop = false) ∧
  (∀ (m : Fin 10) (v : Nat) (s : State), Reaches s m (regAddr .TTH_CTRL) → linkUp s = false →
    (v % 64 < 3 → ∃ t, exec (.laneDisableDetach m v) s = .next t ∧ t.flag .TTH_CTRL_LANEEN0 = bit v 0 ∧
      t.flag .TTH_CTRL_LANEEN1 = bit v 1 ∧ t.twin.step = 0 ∧ t.fget .TTH_LINKSTAT_LOCK0 = 0 ∧ t.fget .TTH_LINKSTAT_LOCK1 = 0) ∧
    (v % 64 = 35 → ∃ t, exec (.tetherRetrain m v) s = .next t ∧ t.twin.step = 0 ∧ t.twin.retryAt = s.now ∧
      t.fget .TTH_LINKSTAT_TRAINED = 0)) ∧
  (∀ (m : Fin 10) (v : Nat) (s : State), (v % 4 = 3 → exec (.laneDisableDetach m v) s = .next s) ∧
    (bit v 5 = false → exec (.tetherRetrain m v) s = .next s))

/-- A frame with a bad CRC, length or type is counted and does nothing else, one of another type, or that comes while the link carries
none, does nothing (R371). A good one does what R370 gives its type: HEALTH tells of the partner, CTRL detaches, attaches or opens the
handover's filter, PING is answered with its eight bytes, PONG gives the one-way latency, BELL rings or records its error (R335, R366,
R372, R383, R392). RDREQ is answered with the value at its address, the shadow engine reading a Saddle word, or with an error
response; RDRSP answers the master that asked (R28, R370). HEALTH_TX hands over a HEALTH frame; the transmitter sends the short
frames first, also inside a long one (R371). BULK_RX at a joining device: image data go to the slot that is not applied, sync data are gathered in order, each acknowledged;
data that are not taken are not acknowledged, and so are sent again (R371, R390, R421); the seventeenth copy of a frame ends
the attempt (R383). ACK_RX takes the frame out of the window, which moves on; BULK_RETRANSMIT sends again a frame whose acknowledgement
is 5 µs late, and gives up after 16 times (R371). -/
def Obligations.TetherFrames : Prop :=
  (∀ (body : List Nat) (ago round : Nat) (locks : Fin 4) (i : Instr) (s : State),
    i ∈ [.healthRx body ago, .stateRx body locks, .ctrlDetachRx body, .ctrlAttachRx body, .ctrlHandoverRx body, .pingRx body,
      .pongRx body round, .rdreqRx body, .rdrspRx body, .bellRx body, .bulkRx body, .ackRx body] →
    (linkTalks s = true → frameRead body = none → ∃ t, exec i s = .next t ∧
      t.fget .TTH_ERRCNT_CRCERR = min (2 ^ Fld.len .TTH_ERRCNT_CRCERR - 1) (s.fget .TTH_ERRCNT_CRCERR + 1) ∧
      ChangedOnly (Fields [.TTH_ERRCNT_CRCERR]) s t) ∧
    (linkTalks s = false → exec i s = .next s)) ∧
  (∀ (s : State), linkUp s = true ∨ s.twin.step = 4 → s.twin.healthTx + usTicks ≤ s.now →
    ∃ t, exec .healthTx s = .next t ∧ t.twin.txq = s.twin.txq ++ [⟨tyHealth, [], s.now⟩] ∧
      t.twin.healthTx = s.now ∧ t = { s with twin := t.twin }) ∧
  (∀ (body p : List Nat) (q ago : Nat) (s : State), linkUp s = true ∨ s.twin.step = 4 →
    frameRead body = some (tyHealth, q, p) →
    ∃ t, exec (.healthRx body ago) s = .next t ∧ t.twin.healthAt = s.now ∧ t.twin.pRole = bits (leAt p 0 1) 1 3 ∧
      t.twin.hRole = bits (leAt p 0 1) 1 3 ∧ t.twin.greets = s.twin.greets + 1 ∧
      t.twin.pReady = bit (leAt p 0 1) 6 ∧ t.twin.pTook = bit (leAt p 0 1) 7) ∧
  (∀ (body p : List Nat) (q : Nat) (s : State), linkUp s = true → frameRead body = some (tyCtrl, q, p) →
    (p.headD 0 = 1 → s.role = roleStandby ∨ s.role = roleJoining →
      ∃ t, exec (.ctrlDetachRx body) s = .next t ∧ t.role = roleDetached) ∧
    (p.headD 0 = 2 → s.role = roleDetached → s.twin.pRole = rolePrimary → s.flag .CUP_STAT_SHUT = false →
      ∃ t, exec (.ctrlAttachRx body) s = .next t ∧ t.role = roleJoining ∧ t.twin.join = 1) ∧
    (p.headD 0 = 3 → s.role = roleStandby → s.twin.handUntil = none →
      ∃ t, exec (.ctrlHandoverRx body) s = .next t ∧ t.twin.handUntil = some (s.now + 100 * usTicks) ∧
        t = { s with twin := t.twin })) ∧
  (∀ (body p : List Nat) (q : Nat) (s : State), linkTalks s = true → frameRead body = some (tyPing, q, p) →
    (linkUp s = false → ∃ t, exec (.pingRx body) s = .next t ∧ t = { s with twin := t.twin } ∧
      t.twin.txq = s.twin.txq ++ [⟨tyPong, (p ++ List.replicate 8 0).take 8 ++ leBytes 8 0, s.now⟩]) ∧
    (linkUp s = true → exec (.pingRx body) s = .next s)) ∧
  (∀ (body p : List Nat) (q round : Nat) (s : State), linkTalks s = true → frameRead body = some (tyPong, q, p) →
    (s.twin.step = 3 → ∃ t, exec (.pongRx body round) s = .next t ∧ t.twin.pongs = s.twin.pongs + 1 ∧
      t.fget .TTH_LAT_ONEWAY = (round - leAt p 8 8) / 2 % 2 ^ Fld.len .TTH_LAT_ONEWAY ∧
      SameRegs (Fields [.TTH_LAT_ONEWAY]) s t ∧ t.mem = s.mem) ∧
    (s.twin.step ≠ 3 → exec (.pongRx body round) s = .next s)) ∧
  (∀ (body p : List Nat) (q : Nat) (s : State), linkUp s = true → frameRead body = some (tyBell, q, p) →
    (384 ≤ leAt p 0 4 → leAt p 0 4 < 512 → ∃ t, exec (.bellRx body) s = .next t ∧ pended t (leAt p 0 4) = true ∧
      ChangedOnly (Fields [.BFY_PEND_W, .BFY_MERGECNT_COUNT]) s t) ∧
    (leAt p 0 4 % 2 ^ 32 < 384 ∨ 512 ≤ leAt p 0 4 % 2 ^ 32 → ∃ t, exec (.bellRx body) s = .next t ∧
      t.flag .BFY_DBERR_PARTNER = true ∧ t.fget .BFY_DBERR_LAST = leAt p 0 4 % 512 ∧
      ChangedOnly (Fields [.BFY_DBERR_PARTNER, .BFY_DBERR_LAST]) s t)) ∧
  (∀ (body p : List Nat) (q : Nat) (s : State), linkUp s = true → frameRead body = some (tyRdreq, q, p) →
    regionOf (leAt p 4 4) = .none →
    ∃ t, exec (.rdreqRx body) s = .next t ∧ t = { s with twin := t.twin } ∧
      t.twin.txq = s.twin.txq ++ [⟨tyRdrsp, leBytes 4 (leAt p 0 4 % 16 + 16) ++ leBytes 8 0, s.now⟩]) ∧
  (∀ (body p : List Nat) (q : Nat) (s : State), linkUp s = true → frameRead body = some (tyRdreq, q, p) →
    0x10000000 ≤ leAt p 4 4 → leAt p 4 4 + 4 ≤ 0x10400000 → leAt p 4 4 % 4 = 0 → leAt p 0 4 / 256 % 256 = 4 →
    domOn s (addrDomain (leAt p 4 4)) = true → s.upsetAt (slotBaseOf (leAt p 4 4)) ≠ some true →
    ∃ t, exec (.rdreqRx body) s = .next t ∧ t = { s with twin := t.twin, pw := t.pw } ∧
      t.twin.txq = s.twin.txq ++
        [⟨tyRdrsp, leBytes 4 (leAt p 0 4 % 16) ++ leBytes 8 (s.loadMem (leAt p 4 4) 4), s.now⟩]) ∧
  (∀ (body p : List Nat) (q x w : Nat) (m : Fin 10) (s : State), linkUp s = true → frameRead body = some (tyRdrsp, q, p) →
    leAt p 0 4 % 16 = m.val → (s.coreAt m).wait = none → vget s.partnerRd m = some (x, w) → slotOf x w = none →
    ∃ t, exec (.rdrspRx body) s = .next t ∧ vget t.partnerRd m = none ∧
      (t.portAt m).resp = some ⟨if bit (leAt p 0 4) 4 then 0 else leAt p 4 8 % 2 ^ (8 * w), bit (leAt p 0 4) 4⟩ ∧
      t = { s with partnerRd := t.partnerRd, port := t.port }) ∧
  (∀ (body p : List Nat) (ty q ago round : Nat) (i : Instr) (s : State), frameRead body = some (ty, q, p) →
    (i, ty) ∉ [(.healthRx body ago, tyHealth), (.ctrlDetachRx body, tyCtrl), (.ctrlAttachRx body, tyCtrl),
      (.ctrlHandoverRx body, tyCtrl), (.pingRx body, tyPing), (.pongRx body round, tyPong), (.rdreqRx body, tyRdreq),
      (.rdrspRx body, tyRdrsp), (.bellRx body, tyBell), (.ackRx body, tyAck)] →
    i ∈ [.healthRx body ago, .ctrlDetachRx body, .ctrlAttachRx body, .ctrlHandoverRx body, .pingRx body, .pongRx body round,
      .rdreqRx body, .rdrspRx body, .bellRx body, .ackRx body] → exec i s = .next s) ∧
  (∀ (s : State), linkUp s = false ∧ s.twin.step ≠ 4 ∨ s.now < s.twin.healthTx + usTicks → exec .healthTx s = .next s) ∧
  (∀ (body p : List Nat) (q : Nat) (s : State), frameRead body = some (tyCtrl, q, p) →
    (p.headD 0 ≠ 1 ∨ s.role ≠ roleStandby ∧ s.role ≠ roleJoining → exec (.ctrlDetachRx body) s = .next s) ∧
    (p.headD 0 ≠ 2 ∨ s.role ≠ roleDetached ∨ s.twin.pRole ≠ rolePrimary ∨ s.flag .CUP_STAT_SHUT = true →
      exec (.ctrlAttachRx body) s = .next s) ∧
    (p.headD 0 ≠ 3 ∨ s.role ≠ roleStandby ∨ s.twin.handUntil ≠ none → exec (.ctrlHandoverRx body) s = .next s)) ∧
  (∀ (body p : List Nat) (q : Nat) (s : State), linkUp s = true → frameRead body = some (tyRdreq, q, p) →
    0x20000000 ≤ leAt p 4 4 → leAt p 4 4 + 4 ≤ 0x20080000 → leAt p 4 4 % 4 = 0 → leAt p 0 4 / 256 % 256 = 4 →
    ∃ t, exec (.rdreqRx body) s = .next t ∧ t.mem = s.mem ∧ t.twin = s.twin ∧ ∃ r ∈ allReqs t, r.who = 15 ∧
      r.use = .windowRead (leAt p 0 4 % 16 + 16 * 4 + 256 * (leAt p 4 4 % 8))) ∧
  (∀ (m : Fin 10) (v : Nat) (e : Bool) (s : State), linkUp s = true → s.windowIn = [(m.val + 16 * 4, v, e)] →
    (windowTick s).windowIn = [] ∧ (windowTick s).twin.txq = s.twin.txq ++
      [⟨tyRdrsp, leBytes 4 (m.val + 16 * b2n e) ++ leBytes 8 (if e then 0 else v % 2 ^ 32), s.now⟩]) ∧
  (∀ (f : TxFrame) (s : State), linkTalks s = true → s.twin.shortLeft = 0 →
    (nextFrame s shortOrder = some f → (f.ty, frameBody f.ty s.twin.seqS (payloadAtSof s f)) ∈ (txTick s).twin.tx ∧
      (txTick s).twin.txq = s.twin.txq.erase f) ∧
    (nextFrame s shortOrder = none → s.twin.longTy = 0 → nextFrame s longOrder = some f →
      (f.ty, frameBody f.ty s.twin.seqL (payloadAtSof s f)) ∈ (txTick s).twin.tx ∧
        (txTick s).twin.txq = s.twin.txq.erase f)) ∧
  (∀ (body p : List Nat) (q : Nat) (s : State), frameRead body = some (tyRdrsp, q, p) →
    vget s.partnerRd (leAt p 0 4 % 16) = none → exec (.rdrspRx body) s = .next s) ∧
  (∀ (body p : List Nat) (q : Nat) (s : State), linkUp s = true → s.role = roleJoining → s.twin.join = 1 →
    frameRead body = some (tyBulk, q, p) → bulkCopies s 0 (leAt p 0 4) < 16 → leAt p 4 4 = 0 →
    leAt p 0 4 + (p.drop 8).length ≤ 0x1FFFC0 →
    ∃ t, exec (.bulkRx body) s = .next t ∧ (leAt p 0 4, (p.drop 8).length) ∈ t.twin.imgGot ∧
      (∀ i, i < (p.drop 8).length →
        t.byteAt (slotBase (spareSlot s) + 0x40 + leAt p 0 4 + i) = (p.drop 8).getD i 0 % 256) ∧
      t.twin.txq = s.twin.txq ++ [⟨tyAck, leBytes 4 (leAt p 0 4), s.now⟩] ∧ t.regs = s.regs) ∧
  (∀ (body p : List Nat) (q : Nat) (s : State), linkUp s = true → frameRead body = some (tyAck, q, p) →
    s.twin.bulkLeft = [] →
    ∃ t, exec (.ackRx body) s = .next t ∧ t = { s with twin := t.twin } ∧
      t.twin.bulkOut = s.twin.bulkOut.filter (fun b => b.off != leAt p 0 4)) ∧
  (∀ (b : BulkOut) (s : State), bulkLate s = some b →
    (b.again < 16 → ∃ t, exec .bulkRetransmit s = .next t ∧ t = { s with twin := t.twin } ∧
      t.twin.txq = s.twin.txq ++ [⟨tyBulk, leBytes 4 b.off ++ leBytes 4 b.kind ++ b.data, s.now⟩] ∧
      t.twin.bulkOut.length = s.twin.bulkOut.length) ∧
    (16 ≤ b.again → ∃ t, exec .bulkRetransmit s = .next t ∧ t = { s with twin := t.twin } ∧ t.twin.bulkOut = [] ∧
      t.twin.bulkLeft = [])) ∧
  (∀ (s : State), bulkLate s = none → exec .bulkRetransmit s = .next s) ∧
  (∀ (body p : List Nat) (q k : Nat) (s : State), linkUp s = true → frameRead body = some (tyAck, q, p) →
    s.twin.bulkKind = some k → s.twin.bulkLeft ≠ [] → s.twin.bulkLeft.length ≤ 1024 →
    (s.twin.bulkOut.filter (fun b => b.off != leAt p 0 4)).length < 8 →
    ∃ t, exec (.ackRx body) s = .next t ∧ t = { s with twin := t.twin } ∧ t.twin.bulkLeft = [] ∧
      t.twin.bulkOut = s.twin.bulkOut.filter (fun b => b.off != leAt p 0 4) ++
        [⟨s.twin.bulkPos, k, s.twin.bulkLeft, none, 0⟩] ∧
      t.twin.txq = s.twin.txq ++ [⟨tyBulk, leBytes 4 s.twin.bulkPos ++ leBytes 4 k ++ s.twin.bulkLeft, s.now⟩]) ∧
  (∀ (body p : List Nat) (q : Nat) (s : State), linkUp s = true → s.role = roleJoining → frameRead body = some (tyBulk, q, p) →
    16 ≤ bulkCopies s (leAt p 4 4) (leAt p 0 4) → ∃ t, exec (.bulkRx body) s = .next t ∧ t.role = roleInit) ∧
  (∀ (body p : List Nat) (q : Nat) (s : State), linkUp s = true → s.role = roleJoining → frameRead body = some (tyBulk, q, p) →
    bulkCopies s (leAt p 4 4) (leAt p 0 4) < 16 → (bulkTake s (leAt p 4 4) (leAt p 0 4) (p.drop 8)).isNone = true →
    ∃ t, exec (.bulkRx body) s = .next t ∧ t = { s with twin := t.twin } ∧ t.twin.txq = s.twin.txq ∧
      t.twin.sync = s.twin.sync ∧ t.twin.imgGot = s.twin.imgGot) ∧
  (∀ (body p : List Nat) (q : Nat) (s : State), linkUp s = true → s.role = roleJoining → s.twin.join = 2 →
    frameRead body = some (tyBulk, q, p) → bulkCopies s 1 (leAt p 0 4) < 16 → leAt p 4 4 = 1 →
    (leAt p 0 4 = s.twin.sync.length → s.twin.sync ≠ [] → p.drop 8 ≠ [] →
      s.twin.sync.length + (p.drop 8).length < syncLength s s.twin.syncLanes →
      ∃ t, exec (.bulkRx body) s = .next t ∧ t = { s with twin := t.twin } ∧ t.twin.sync = s.twin.sync ++ p.drop 8 ∧
        t.twin.txq = s.twin.txq ++ [⟨tyAck, leBytes 4 (leAt p 0 4), s.now⟩]) ∧
    (leAt p 0 4 + (p.drop 8).length ≤ s.twin.sync.length →
      ∃ t, exec (.bulkRx body) s = .next t ∧ t = { s with twin := t.twin } ∧ t.twin.sync = s.twin.sync ∧
        t.twin.txq = s.twin.txq ++ [⟨tyAck, leBytes 4 (leAt p 0 4), s.now⟩]) ∧
    (s.twin.sync.length < leAt p 0 4 → (bulkTake s 1 (leAt p 0 4) (p.drop 8)).isNone = true)) ∧
  (∀ (body p : List Nat) (q : Nat) (s : State), s.role ≠ roleJoining → linkTalks s = true → frameRead body = some (tyBulk, q, p) →
    ∃ t, exec (.bulkRx body) s = .next t ∧ t = { s with twin := { s.twin with rxL := some q } })

/-- STATE_SEND sends the primary's complete snapshot and counts the frame (R377). STATE_RX: a standby that has no snapshot of that time
counts SKIP, one that has compares, and DIVERGED sets after DIVN frames in a row out of tolerance; a gap in SEQ counts GAP; the frame's
overwrites wait behind those of the frame before and are then applied (R379, R380). Bridle: a cell each microsecond, the word's
first cell with SYNC, a received cell by its high time (R373, R374); a valid word is in TTH_PARTNER, the third invalid one in a row and
the edge timeout lose Bridle and ring (R375). DISC_WINDOW_END: a hold window moves the trim by at most 16 steps, an acquisition
window by at most 838 against the drift, within ±4,194 (how far is a free value, log entry 5); DISC_ERROR_EXPIRY unlocks and rings
(R381). TEAM_REALIGN clears, then sets, the Team's RUN bit (R382). -/
def Obligations.StreamAndDiscipline : Prop :=
  (∀ (n : Snapshot) (s : State), s.snap = some n → s.role = rolePrimary → linkUp s = true → n.waitLane = [] →
    n.waitSdl = [] →
    ∃ t, exec .stateSend s = .next t ∧ t.twin.txq = s.twin.txq ++ [⟨tyState, statePayload s n, s.now⟩] ∧
      t.snap = none ∧ t.twin.frames = s.twin.frames + 1 ∧ t = { s with snap := t.snap, twin := t.twin }) ∧
  (∀ (body p : List Nat) (q r : Nat) (locks : Fin 4) (s : State), takesFrames s = true → s.role = roleStandby →
    frameRead body = some (tyState, q, p) → leAt p 12 2 = 0 → s.twin.rxL = some r → s.twin.snaps = [] → s.twin.apply = [] →
    ∃ t, exec (.stateRx body locks) s = .next t ∧ t.twin.apply = [([], true)] ∧ t.twin.rxL = some q ∧
      t.fget .TTH_DIVCNT_SKIP = min (2 ^ Fld.len .TTH_DIVCNT_SKIP - 1) (s.fget .TTH_DIVCNT_SKIP + 1) ∧
      (q ≠ (r + 1) % 65536 →
        t.fget .TTH_FRMCNT_GAP = min (2 ^ Fld.len .TTH_FRMCNT_GAP - 1) (s.fget .TTH_FRMCNT_GAP + 1)) ∧
      SameRegs (Fields [.TTH_DIVCNT_SKIP, .TTH_FRMCNT_GAP]) s t ∧ t.mem = s.mem) ∧
  (∀ (s : State), s.img.applied = true ∨ s.pw.prevSlot.isSome = true →
    s.twin.bAt.all (fun a => decide (a + usTicks ≤ s.now)) = true → s.twin.bIdx < 16 →
    ∃ t, exec .bridleCellTx s = .next t ∧ t = { s with twin := t.twin } ∧ t.twin.bIdx = (s.twin.bIdx + 1) % 16 ∧
      t.twin.bAt = some s.now ∧ (s.twin.bIdx = 0 → t.twin.bWord = bridleWord s ∧ t.twin.bCell = 2) ∧
      (s.twin.bIdx ≠ 0 → t.twin.bCell = b2n (bit s.twin.bWord s.twin.bIdx))) ∧
  (∀ (highs : List Nat) (v : Nat) (s : State), s.clockOn 16 = true → cellsWord highs = some v →
    bridleGood s.twin.bLast v = true → s.flag .TTH_STAT_BRIDLE = true →
    ∃ t, exec (.bridleWordRx highs) s = .next t ∧ t.fget .TTH_PARTNER_WORD = v % 2 ^ Fld.len .TTH_PARTNER_WORD ∧
      t.flag .TTH_PARTNER_VALID = true ∧ t.twin.pRole = bits v 2 3 ∧ t.twin.bRxAt = s.now ∧ t.twin.bLast = some (bits v 8 4)) ∧
  (∀ (highs : List Nat) (s : State), s.clockOn 16 = true → s.flag .TTH_STAT_BRIDLE = true →
    (cellsWord highs).all (fun v => !bridleGood s.twin.bLast v) = true →
    (s.twin.bBad = 2 → ∃ t, exec (.bridleWordRx highs) s = .next t ∧ t.fget .TTH_STAT_BRIDLE = 0 ∧
      t.fget .TTH_PARTNER_VALID = 0 ∧ pended t 129 = true) ∧
    (s.twin.bBad < 2 → ∃ t, exec (.bridleWordRx highs) s = .next t ∧ t = { s with twin := t.twin } ∧
      t.twin.bBad = s.twin.bBad + 1)) ∧
  (∀ (s : State), s.flag .TTH_STAT_BRIDLE = true → s.twin.bRxAt + 3 * usTicks ≤ s.now + 680 →
    ∃ t, exec .bridleEdgeTimeout s = .next t ∧ t.fget .TTH_STAT_BRIDLE = 0 ∧ t.fget .TTH_PARTNER_VALID = 0 ∧
      pended t 129 = true) ∧
  (∀ (s : State), s.role = roleStandby → s.twin.winAt + msTicks ≤ s.now → s.twin.acq = false →
    -4194 ≤ sext 16 (s.fget .TTH_DISC_TRIM) → sext 16 (s.fget .TTH_DISC_TRIM) ≤ 4194 →
    ∃ t, exec .discWindowEnd s = .next t ∧ t.twin.winAt = s.now ∧ -4194 ≤ sext 16 (t.fget .TTH_DISC_TRIM) ∧
      sext 16 (t.fget .TTH_DISC_TRIM) ≤ 4194 ∧
      (sext 16 (t.fget .TTH_DISC_TRIM) - sext 16 (s.fget .TTH_DISC_TRIM)).natAbs ≤ 16) ∧
  (∀ (a : Nat) (s : State), s.role = roleStandby → s.flag .TTH_STAT_LOCKED = true → s.twin.badFrom = some a →
    a + 100 * usTicks ≤ s.now →
    ∃ t, exec .discErrorExpiry s = .next t ∧ t.fget .TTH_STAT_LOCKED = 0 ∧ t.fget .TTH_STAT_READY = 0 ∧
      pended t 131 = true) ∧
  (∀ (k : Fin 8) (s : State), alignDue s k = true →
    (vget s.twin.align k = 0 → ∃ t, exec (.teamRealign k) s = .next t ∧ t.fbit .PWM_TEAMRUN_RUN k = false ∧
      vget t.twin.align k = 1 ∧ t.mem = s.mem) ∧
    (vget s.twin.align k = 1 → alignNow s k = true → ∃ t, exec (.teamRealign k) s = .next t ∧
      t.fbit .PWM_TEAMRUN_RUN k = true ∧ vget t.twin.align k = 2)) ∧
  (∀ (n : Snapshot) (s : State), (s.snap = none → exec .stateSend s = .next s) ∧
    (s.snap = some n → s.role ≠ rolePrimary ∨ linkUp s = false ∨ n.waitLane ≠ [] ∨ n.waitSdl ≠ [] →
      exec .stateSend s = .next s)) ∧
  (∀ (body p : List Nat) (q : Nat) (locks : Fin 4) (n : Snapshot) (s : State), takesFrames s = true → s.role = roleStandby →
    frameRead body = some (tyState, q, p) →
    s.twin.snaps.find? (fun x => Machine.within x.ltv (leAt p 4 8 + s.twin.theta0) 16) = some n →
    (firstOut s locks n (frameValues s p) = none → ∃ t, exec (.stateRx body locks) s = .next t ∧ t.twin.divRun = 0 ∧
      t.fget .TTH_DIVCNT_DIV = s.fget .TTH_DIVCNT_DIV) ∧
    (∀ e, firstOut s locks n (frameValues s p) = some e → ∃ t, exec (.stateRx body locks) s = .next t ∧
      t.twin.divRun = s.twin.divRun + 1 ∧ t.twin.goodRun = 0 ∧
      t.fget .TTH_DIVCNT_DIV = min (2 ^ Fld.len .TTH_DIVCNT_DIV - 1) (s.fget .TTH_DIVCNT_DIV + 1) ∧
      (s.fget .TTH_CFG_DIVN ≤ s.twin.divRun + 1 → s.flag .TTH_STAT_DIVERGED = false → t.fget .TTH_STAT_DIVERGED = 1 ∧
        t.fget .TTH_DIVCNT_LAST = e % 2 ^ Fld.len .TTH_DIVCNT_LAST ∧ t.fget .TTH_STAT_READY = 0 ∧ pended t 131 = true))) ∧
  (∀ (body p : List Nat) (q : Nat) (locks : Fin 4) (x : List (Nat × List Nat)) (l : List (List (Nat × List Nat) × Bool))
    (s : State), takesFrames s = true → s.role = roleJoining → frameRead body = some (tyState, q, p) →
    s.twin.apply = (x, true) :: l →
    ∃ t, exec (.stateRx body locks) s = .next t ∧
      t.twin.apply = s.twin.apply ++ [((frameValues s p).filter (fun e => entOverwrites s e.1), false)]) ∧
  (∀ (e : Nat) (v : List Nat) (i : Fin 3) (s : State), s.role = roleStandby → s.twin.apply = [([(e, v)], true)] →
    entKind s e = 4 → shadowBusy s .shadowWrite = false →
    (applyTick s).fget .LAE_REM_PSI i = leAt v (22 + 6 * i) 6 % 2 ^ Fld.len .LAE_REM_PSI ∧ (applyTick s).twin.apply = []) ∧
  (∀ (body p : List Nat) (q : Nat) (locks : Fin 4) (s : State), takesFrames s = false → linkTalks s = true →
    frameRead body = some (tyState, q, p) →
    ∃ t, exec (.stateRx body locks) s = .next t ∧ t = { s with twin := { s.twin with rxL := some q } }) ∧
  (∀ (highs : List Nat) (v i : Nat), cellsWord highs = some v → 0 < i → i < 16 →
    highs.length = 16 ∧ 400 ≤ highs.headD 0 ∧ highs.headD 0 ≤ 600 ∧
      (bit v i = true → 650 ≤ highs.getD i 0 ∧ highs.getD i 0 ≤ 850) ∧
      (bit v i = false → 150 ≤ highs.getD i 0 ∧ highs.getD i 0 ≤ 350)) ∧
  (∀ (highs : List Nat) (s : State),
    (s.clockOn 16 = false → exec (.bridleWordRx highs) s = .next s) ∧
    (s.img.applied = false ∧ s.pw.prevSlot.isSome = false ∨
      s.twin.bAt.any (fun a => decide (s.now < a + usTicks)) = true → exec .bridleCellTx s = .next s) ∧
    (s.flag .TTH_STAT_BRIDLE = false ∨ s.now + 680 < s.twin.bRxAt + 3 * usTicks → exec .bridleEdgeTimeout s = .next s)) ∧
  (∀ (m : Int) (s : State), s.role = roleStandby ∨ s.role = roleJoining → s.twin.winAt + msTicks ≤ s.now → s.twin.acq = true →
    (s.twin.cnt = 0 → ∃ t, exec .discWindowEnd s = .next t ∧ t = { s with twin := { s.twin with winAt := s.now } }) ∧
    (s.twin.cnt ≠ 0 → s.twin.mean = none → ∃ t, exec .discWindowEnd s = .next t ∧
      t.twin.mean = some (roundDiv 0 s.twin.sum s.twin.cnt) ∧ t.twin.cnt = 0 ∧ t.twin.sum = 0 ∧ t = { s with twin := t.twin }) ∧
    (s.twin.cnt ≠ 0 → s.twin.mean = some m → Machine.within (roundDiv 0 s.twin.sum s.twin.cnt - m) 0 2 = true →
      ∃ t, exec .discWindowEnd s = .next t ∧ t.twin.acq = false ∧ t.twin.theta0 = roundDiv 0 s.twin.sum s.twin.cnt ∧
        t.fget .TTH_DISC_TRIM = s.fget .TTH_DISC_TRIM) ∧
    (s.twin.cnt ≠ 0 → s.twin.mean = some m → 2 < roundDiv 0 s.twin.sum s.twin.cnt - m →
      -4194 ≤ sext 16 (s.fget .TTH_DISC_TRIM) → sext 16 (s.fget .TTH_DISC_TRIM) ≤ 4194 →
      ∃ t, exec .discWindowEnd s = .next t ∧ t.twin.acq = true ∧ -4194 ≤ sext 16 (t.fget .TTH_DISC_TRIM) ∧
        sext 16 (s.fget .TTH_DISC_TRIM) - 838 ≤ sext 16 (t.fget .TTH_DISC_TRIM) ∧
        sext 16 (t.fget .TTH_DISC_TRIM) ≤ sext 16 (s.fget .TTH_DISC_TRIM))) ∧
  (∀ (s : State), s.role ≠ roleStandby ∧ s.role ≠ roleJoining ∨ s.now < s.twin.winAt + msTicks →
    exec .discWindowEnd s = .next s) ∧
  (∀ (s : State), s.role ≠ roleStandby ∨ s.flag .TTH_STAT_LOCKED = false ∨ s.twin.badFrom = none →
    exec .discErrorExpiry s = .next s) ∧
  (∀ (k : Fin 8) (s : State), alignDue s k = true → vget s.twin.align k = 1 → alignNow s k = false →
    exec (.teamRealign k) s = .next s) ∧
  (∀ (k : Fin 8) (s : State), alignDue s k = false →
    ∃ t, exec (.teamRealign k) s = .next t ∧ t = { s with twin := { s.twin with
      join := if s.role = roleJoining ∧ s.twin.join = 3 ∧ s.flag .TTH_STAT_LOCKED = true ∧
        (List.range 8).all (fun x => !alignDue s x) = true then 4 else s.twin.join } })

/-! ### Power, resets and start-up -/

/-- Device resets: SUPPLIES_VALID, a rail that drops for 1 µs (SUPPLY_DROP) and RSTN held low for 1 µs (PIN_RESET) begin one, a power-on
reset under way staying one; every register is at its reset value but those that the reset keeps, and no output is driven (R396, R398,
R400); of a word that was being programmed the old or the new value stands (R421). A pulse shorter than 1 µs does nothing. At
DEVICE_RESET_RELEASE, 5 µs after the cause ended, SEAT is sampled and the cause recorded (R400). PLL_LOCK starts the line-time counter at
0 (R313, R413). WATCHDOG_KICK with 0xA5 kicks, and nothing else does; WATCHDOG_EXPIRY restarts the management core alone at its
BOOT, counted, with a ring, and every session ends (R402, R468). Each has no effect while its condition does not hold. -/
def Obligations.ResetsAndWatchdog : Prop :=
  (∀ (s : State), s.pw.powered = false → ∃ t, exec .suppliesValid s = .next t ∧ ResetHeld true 0 s t) ∧
  (∀ (rail : Fin 3) (n : Nat) (s : State), s.pw.powered = true →
    (800 ≤ n → s.pw.mramBuf = [] → ∃ t, exec (.supplyDrop rail n) s = .next t ∧ ResetHeld true 0 s t ∧
      t.pw.powered = false) ∧
    (n < 800 → exec (.supplyDrop rail n) s = .next s ∧ exec (.pinReset n) s = .next s)) ∧
  (∀ (n : Nat) (s : State), s.pw.powered = true → 800 ≤ n → s.pw.rst ≠ some 0 →
    ∃ t, exec (.pinReset n) s = .next t ∧ ResetHeld false 1 s t) ∧
  (∀ (cause : Fin 4) (seat : Bool) (s : State), s.pw.rst = some cause.val → s.pw.powered = true → 4000 ≤ s.now →
    ∃ t, exec (.deviceResetRelease seat) s = .next t ∧ t.pw.rst = none ∧ t.fget .TTH_STAT_SEAT = b2n seat ∧
      t.fget .PMG_RSTCAUSE_POR = b2n (cause == 0) ∧ t.fget .PMG_RSTCAUSE_PIN = b2n (cause == 1) ∧
      t.fget .PMG_RSTCAUSE_JTAG = b2n (cause == 2) ∧ t.fget .PMG_RSTCAUSE_HOST = b2n (cause == 3) ∧
      t.logSeq = s.logSeq + 1) ∧
  (∀ (cal : List (Nat × Nat)) (s : State), s.pw.rst = none → s.flag .FAB_CLKSTAT_PLLT_LOCK = false →
    ∃ t, exec (.pllLock cal) s = .next t ∧ t.ltc = 0 ∧ t.pw.bootDue = true ∧ t.fget .FAB_CLKSTAT_PLLT_LOCK = 1 ∧
      t.fget .FAB_CLKSTAT_PLLP_LOCK = 1 ∧ t.fget .FAB_CLKSTAT_PLLL_LOCK = 1 ∧ t.mem = s.mem) ∧
  (∀ (m : Fin 10) (v : Nat) (s : State), Reaches s m (regAddr .PMG_WDTKICK) → v % 256 = 0xA5 →
    ∃ t, exec (.watchdogKick m v) s = .next t ∧ t.pw = { s.pw with kickAt := s.now } ∧
      SameRegs (Fields [.PMG_DOMSTAT_DIRTY]) s t ∧ t.mem = s.mem) ∧
  (∀ (m : Fin 10) (v : Nat) (s : State), Reaches s m (regAddr .PMG_WDTKICK) → v % 256 ≠ 0xA5 →
    ∃ t, exec (.watchdogKick m v) s = .next t ∧ WroteOnly (Fields []) m s t) ∧
  (∀ (s : State), s.pw.rst = none → s.fget .PMG_WDT_PERIOD ≠ 0 → s.pw.kickAt + s.fget .PMG_WDT_PERIOD * msTicks ≤ s.now →
    ∃ t, exec .watchdogExpiry s = .next t ∧ mgmtUp t = true ∧ (t.coreAt 4).phase = .running ∧
      (t.coreAt 4).pc = 4 * s.fget .FAB_CORE_CTRL_BOOT 4 ∧
      t.fget .PMG_RSTCAUSE_WDTCNT = min 255 (s.fget .PMG_RSTCAUSE_WDTCNT + 1) ∧ pended t 161 = true ∧
      (∀ p : Fin 5, (t.fport p).session = none) ∧ ∀ c : Fin 4, t.coreAt c = s.coreAt c) ∧
  (∀ (n : Nat) (s : State), s.pw.powered = true → 800 ≤ n → s.pw.rst = some 0 →
    ∃ t, exec (.pinReset n) s = .next t ∧ ResetHeld true 0 s t) ∧
  (∀ (rail : Fin 3) (n : Nat) (w : Nat × Nat) (s : State), s.pw.powered = true → 800 ≤ n → s.pw.mramBuf = [w] →
    0x30000000 ≤ w.1 → w.1 + 8 ≤ 0x30800000 →
    ∃ t, exec (.supplyDrop rail n) s = .next t ∧ t.pw.rst = some 0 ∧ t.pw.powered = false ∧ t.pw.mramBuf = [] ∧
      ((∀ i, i < 8 → t.byteAt (w.1 + i) = s.byteAt (w.1 + i)) ∨ ∀ i, i < 8 → t.byteAt (w.1 + i) = bits w.2 (8 * i) 8)) ∧
  (∀ (rail : Fin 3) (n : Nat) (s : State),
    (s.pw.powered = true → exec .suppliesValid s = .next s) ∧
    (s.pw.powered = false → exec (.supplyDrop rail n) s = .next s ∧ exec (.pinReset n) s = .next s)) ∧
  (∀ (seat : Bool) (cal : List (Nat × Nat)) (s : State),
    (s.pw.rst = none ∨ s.pw.powered = false ∨ s.now < 4000 → exec (.deviceResetRelease seat) s = .next s) ∧
    (s.pw.rst ≠ none ∨ s.flag .FAB_CLKSTAT_PLLT_LOCK = true → exec (.pllLock cal) s = .next s)) ∧
  (∀ (s : State), s.fget .PMG_WDT_PERIOD = 0 ∨ s.now < s.pw.kickAt + s.fget .PMG_WDT_PERIOD * msTicks ∨ s.pw.rst ≠ none →
    exec .watchdogExpiry s = .next s)

/-- Power domains: BUDGET_WRITE and HOLD_WRITE land the value written; a service newly held rings PMG_READY when its domains are
all ON, at once or later (R411, R412); DIRTY_CLEAR clears the flag by a 1, but for AON's when an image is applied, which the write itself
sets again (R17, R404). DOMAIN_ENTRY: after 10 µs without ACTIVE a domain enters its target, an OFF one losing its registers (R403,
R409); DOMAIN_WAKE: a cause wakes it, and at DOMAIN_ON it is ON again (R408), from OFF with the applied image's records replayed
(R407). Each has no effect while its condition does not hold. -/
def Obligations.PowerDomains : Prop :=
  (∀ (m : Fin 10) (k : Fin 8) (v : Nat) (s : State), Reaches s m (regAddr .PMG_BUDGET k) →
    ∃ t, exec (.budgetWrite m k v) s = .next t ∧ t.fget .PMG_BUDGET_US k = v % 2 ^ 32 ∧
      WroteOnly (FieldsAt [.PMG_BUDGET_US] k) m s t) ∧
  (∀ (m : Fin 10) (v : Nat) (s : State), Reaches s m (regAddr .PMG_HOLD) →
    ∃ t, exec (.holdWrite m v) s = .next t ∧ t.fget .PMG_HOLD_HOLD = v % 2 ^ 8) ∧
  (∀ (m : Fin 10) (k : Fin 8) (v : Nat) (s : State), Reaches s m (regAddr .PMG_HOLD) → bit v k = true →
    s.fbit .PMG_HOLD_HOLD k = false → serviceOn s k = true →
    ∃ t, exec (.holdWrite m v) s = .next t ∧ pended t 160 = true ∧ bit t.pw.holdWait k = false) ∧
  (∀ (m : Fin 10) (d : Fin 20) (v : Nat) (s : State), Reaches s m (regAddr .PMG_DOMSTAT d) → d ≠ 0 ∨ s.img.applied = false →
    bit v 6 = true → Regs.wf s.regs = true → s.setNow .PMG_DOMSTAT_DIRTY d 0 % 2 = 0 →
    ∃ t, exec (.dirtyClear m d v) s = .next t ∧ t.fget .PMG_DOMSTAT_DIRTY d = 0 ∧
      WroteOnly (FieldsAt [.PMG_DOMSTAT_DIRTY] d) m s t) ∧
  (∀ (d : Fin 20) (s : State), s.pw.rst = none → domState s d < domTarget s d → bit s.pw.waking d = false → domReport s d ≠ 0 →
    vget s.pw.domAct d + 8000 ≤ s.now →
    ∃ t, exec (.domainEntry d) s = .next t ∧ domState t d = domTarget s d ∧
      (domTarget s d ≠ 3 → ChangedOnly (FieldsAt [.PMG_DOMSTAT_STATE] d) s t) ∧
      (domTarget s d = 3 → ∀ f i j, lostField d ⟨f, i, j⟩ = true → t.fget f i j = f.reset i j)) ∧
  (∀ (d : Fin 20) (s : State), s.pw.rst = none → domState s d ≠ 0 → wakeCause s d = true →
    ∃ t, exec (.domainWake d) s = .next t ∧ bit t.pw.waking d = true ∧ t = { s with pw := t.pw }) ∧
  (∀ (d : Fin 20) (s : State), s.pw.rst = none → bit s.pw.waking d = true → domState s d ≠ 3 → d ≠ 14 → s.pw.held = [] →
    s.pw.holdWait = 0 →
    ∃ t, exec (.domainOn d) s = .next t ∧ domState t d = 0 ∧ bit t.pw.waking d = false ∧
      t = { s with regs := t.regs, hwSets := t.hwSets, pw := t.pw } ∧ SameRegs (FieldsAt [.PMG_DOMSTAT_STATE] d) s t) ∧
  (∀ (m : Fin 10) (k : Fin 8) (v : Nat) (s : State), Reaches s m (regAddr .PMG_HOLD) → bit v k = true →
    s.fbit .PMG_HOLD_HOLD k = false → serviceOn s k = false →
    ∃ t, exec (.holdWrite m v) s = .next t ∧ bit t.pw.holdWait k = true) ∧
  (∀ (m : Fin 10) (d : Fin 20) (v : Nat) (s : State), Reaches s m (regAddr .PMG_DOMSTAT d) → bit v 6 = false →
    ∃ t, exec (.dirtyClear m d v) s = .next t ∧ WroteOnly (Fields []) m s t) ∧
  (∀ (d : Fin 20) (s : State), s.pw.rst = none → bit s.pw.waking d = true →
    ∃ t, exec (.domainOn d) s = .next t ∧ domState t d = 0 ∧ bit t.pw.waking d = false) ∧
  (∀ (d : Fin 20) (s : State), s.pw.rst = none → bit s.pw.waking d = true → domState s d = 3 → d ∉ [11, 12, 14, 16, 17] →
    s.pw.held = [] → s.pw.holdWait = 0 → exec (.domainOn d) s = .next (replay { s.fset .PMG_DOMSTAT_STATE 0 d with
      pw := { s.pw with waking := setBit s.pw.waking d false } } d)) ∧
  (∀ (d : Fin 20) (s : State),
    (s.pw.rst ≠ none ∨ domTarget s d ≤ domState s d ∨ bit s.pw.waking d = true ∨ domReport s d = 0 ∨
      s.now < vget s.pw.domAct d + 8000 → exec (.domainEntry d) s = .next s) ∧
    (s.pw.rst ≠ none ∨ domState s d = 0 ∨ wakeCause s d = false → exec (.domainWake d) s = .next s) ∧
    (s.pw.rst ≠ none ∨ bit s.pw.waking d = false → exec (.domainOn d) s = .next s))

/-- IMAGE_BOOT: with no slot to try there is no image, the management core starts and no output is driven (R419, R426); a slot whose
header or signature fails is BAD, with its reason (R416, R418); one whose attempt succeeds is applied (R414, R419); one whose START
sets DRV waits for Spire's lock (R186). NONLIVE_SECTIONS_DONE ends the background pass, or sets CODEFAIL and rings when a digest fails
(R414, R418). IMAGE_APPLY_IN_PLACE: an image applied in place is in force; when it fails the previous one is again, or there is none,
and the seat is DETACHED (R420). MRAM_WORD_PROGRAMMED: a word is programmed, or fails with PGMERR and a ring (R421). Each has no effect
while its condition does not hold. -/
def Obligations.ImageBoot : Prop :=
  (∀ (s : State), s.pw.bootDue = true → (slotState s 0 = 0 ∨ slotState s 0 = 5) → (slotState s 1 = 0 ∨ slotState s 1 = 5) →
    ∃ t, exec .imageBoot s = .next t ∧ t.fget .PMG_BOOTSTAT_NOIMG = 1 ∧ t.fget .PMG_BOOTSTAT_APPLIED = 0 ∧
      t.fget .PMG_BOOTSTAT_FAIL0 = 1 ∧ t.fget .PMG_BOOTSTAT_FAIL1 = 1 ∧ mgmtUp t = true ∧ t.pw.bootDue = false ∧
      t.mem = s.mem) ∧
  (∀ (s : State), s.pw.bootDue = true → driveHeld s 0 = false → slotState s 0 = 4 → slotState s 1 = 0 →
    headerReason s 0 ≠ 0 →
    ∃ t, exec .imageBoot s = .next t ∧ t.fget .PMG_BOOTSTAT_FAIL0 = headerReason s 0 ∧ slotState t 0 = 5 ∧
      t.fget .PMG_BOOTSTAT_NOIMG = 1 ∧ t.fget .PMG_BOOTSTAT_FALLBACK = 1 ∧ mgmtUp t = true) ∧
  (∀ (s : State), s.pw.bootDue = true → driveHeld s 0 = false → slotState s 0 = 4 → slotState s 1 = 0 →
    s.pw.slotsLeft = none → (tryImage (bootCleared s) 0).reason = 0 →
    ∃ t, exec .imageBoot s = .next t ∧ t.img.applied = true ∧ t.img.slot = 0 ∧ t.fget .PMG_BOOTSTAT_APPLIED = 1 ∧
      t.fget .PMG_BOOTSTAT_NOIMG = 0 ∧ t.fget .PMG_BOOTSTAT_FALLBACK = 0 ∧ t.pw.nonlive = true ∧ mgmtUp t = true) ∧
  (∀ (s : State), s.pw.nonlive = true → s.img.applied = true →
    ((∀ c ∈ sections s s.img.slot, c.live = true) → ∃ t, exec .nonliveSectionsDone s = .next t ∧ t.pw.nonlive = false ∧
      t = { s with pw := t.pw }) ∧
    ((∃ c ∈ sections s s.img.slot, c.live = false ∧ digestOk s s.img.slot c = false) →
      ∃ t, exec .nonliveSectionsDone s = .next t ∧ t.fget .PMG_BOOTSTAT_CODEFAIL = 1 ∧ pended t 163 = true)) ∧
  (∀ (s : State), s.pw.inPlace = [] → imageReceived s = true → driveHeld (applyStart s) (spareSlot s) = false →
    (tryImage (applyStart s) (spareSlot s)).reason = 0 →
    ∃ t, exec .imageApplyInPlace s = .next t ∧ t.img.applied = true ∧ t.img.slot = spareSlot s ∧ t.img.fresh = true ∧
      t.fget .PMG_BOOTSTAT_APPLIED = 1 ∧ t.pw.nonlive = true ∧ t.pw.inPlace = []) ∧
  (∀ (s : State), s.pw.inPlace = [] → imageReceived s = true → driveHeld (applyStart s) (spareSlot s) = false →
    s.img.applied = false → (tryImage (applyStart s) (spareSlot s)).reason ≠ 0 →
    ∃ t, exec .imageApplyInPlace s = .next t ∧ t.fget .PMG_BOOTSTAT_NOIMG = 1 ∧ t.role = roleDetached) ∧
  (∀ (w : Nat × Nat) (rest : List (Nat × Nat)) (s : State), s.pw.mramBuf = w :: rest →
    (∃ t, exec (.mramWordProgrammed true) s = .next t ∧ t.pw.mramBuf = rest ∧ t = { s with pw := t.pw }) ∧
    (∃ t, exec (.mramWordProgrammed false) s = .next t ∧ t.pw.mramBuf = rest ∧ t.flag .FAB_MRAMSTAT_PGMERR = true ∧
      SameMem (fun a => w.1 ≤ a ∧ a < w.1 + 8) s t ∧
      (s.flag .FAB_MRAMSTAT_PGMERR = false → pended t 164 = true))) ∧
  (∀ (s : State), s.pw.bootDue = true → slotState s 0 = 4 → slotState s 1 = 0 → driveHeld s 0 = true →
    ∃ t, exec .imageBoot s = .next t ∧ t.pw.slotsLeft = some (true, [0]) ∧ t.pw.bootDue = false ∧ t.img = s.img ∧
      t.fget .PMG_BOOTSTAT_APPLIED = 0 ∧ t.mem = s.mem) ∧
  (∀ (first : Bool) (n : Fin 2) (s : State), s.pw.bootDue = false → s.pw.slotsLeft = some (first, [n.val]) → slotState s n = 4 →
    driveHeld s n = false → (tryImage { s with pw := { s.pw with slotsLeft := none } } n).reason = 0 →
    ∃ t, exec .imageBoot s = .next t ∧ t.img.applied = true ∧ t.img.slot = n ∧ t.pw.slotsLeft = none ∧
      t.flag .PMG_BOOTSTAT_FALLBACK = !first) ∧
  (∀ (n : Fin 2) (s : State), s.pw.bootDue = true → slotState s n = 2 → slotState s (1 - n) = 0 → driveHeld s n = false →
    headerReason s n ≠ 0 → ∃ t, exec .imageBoot s = .next t ∧ slotState t n = 5 ∧
      t.fget (if n = 0 then .PMG_BOOTSTAT_FAIL0 else .PMG_BOOTSTAT_FAIL1) = headerReason s n ∧
      t.fget .PMG_BOOTSTAT_NOIMG = 1) ∧
  (∀ (s : State), s.pw.nonlive = true → s.img.applied = true →
    ∃ t, exec .nonliveSectionsDone s = .next t ∧ t.pw.nonlive = false) ∧
  (∀ (s : State), s.pw.inPlace = [] → imageReceived s = true → s.img.applied = true → s.img.slot < 2 →
    driveHeld (applyStart s) (spareSlot s) = false → (attempt (applyStart s) (spareSlot s)).1 = false →
    driveHeld (attempt (applyStart s) (spareSlot s)).2 s.img.slot = false →
    (attempt (attempt (applyStart s) (spareSlot s)).2 s.img.slot).1 = true →
    ∃ t, exec .imageApplyInPlace s = .next t ∧ t.img.applied = true ∧ t.img.slot = s.img.slot ∧ t.role = roleDetached) ∧
  (∀ (s : State), s.pw.inPlace = [] → imageReceived s = true → driveHeld (applyStart s) (spareSlot s) = true →
    ∃ t, exec .imageApplyInPlace s = .next t ∧ t.pw.inPlace.head? = some (spareSlot s) ∧ t.img.applied = false ∧
      t.pw.nonlive = false) ∧
  (∀ (s : State), s.pw.mramBuf = [] → exec (.mramWordProgrammed true) s = .next s ∧ exec (.mramWordProgrammed false) s = .next s) ∧
  (∀ (s : State),
    (s.pw.bootDue = false → s.pw.slotsLeft = none → exec .imageBoot s = .next s) ∧
    (s.pw.nonlive = false ∨ s.img.applied = false → exec .nonliveSectionsDone s = .next s) ∧
    (s.pw.inPlace = [] → imageReceived s = false → exec .imageApplyInPlace s = .next s))

/-! ### Cupola -/

/-- CUPOLA_BURST_START: a due burst starts on a free converter that no entry reserves (R430); a diode's second burst follows its first
within 100 µs (R431); a converter domain that is not ON is woken (R408). SENSOR_SAMPLE: an NTC or diode input out of its window is an open or
shorted sensor, at level 3 with a ring (R433, R437, R438); in it, the reading is one of the two neighbours of the formula's value
(R432, R433; which one is a free value, log entry 27), and two samples in a row set the level (R437); a die sensor's is
implementation-defined. SENSOR_STALE: a sensor without a sample for 8 ms is broken (R438). GRACE_EXPIRY: enforcement starts, counted, with
a ring, or is deferred while a feed transfer runs, until its deadline (R440, R443); ENFORCEMENT_END comes 1 ms after the last sensor
of its kind left level 2 (R441); LIMIT_RAMP_WRITE steps a limit towards its floor, or back to NOM, each millisecond (R442).
SHUTDOWN_RECORD stores the record with the next SEQ (R445); THERMAL_EXIT_WRITE of the management core, and of no other master, leaves the
shut-down state (R446). Each has no effect while its condition does not hold. -/
def Obligations.CupolaThermal : Prop :=
  (∀ (i : Fin 22) (s : State), s.pw.rst = none → cupEn s i = true → (s.cupAt i).ready = false → (s.cupAt i).startAt = none →
    (s.cupAt i).first = none → (s.sarAt (cupConv s i)).burst = none → s.fget .PMG_DOMSTAT_STATE 12 = 0 →
    (sarReserved s (cupConv s i) = false → ∃ t, exec (.cupolaBurstStart i) s = .next t ∧
      (t.sarAt (cupConv s i)).burst = some ⟨i, false, s.now⟩ ∧ (t.cupAt i).startAt = some s.now ∧
      t = { s with sar := t.sar, cupS := t.cupS }) ∧
    (sarReserved s (cupConv s i) = true → exec (.cupolaBurstStart i) s = .next s)) ∧
  (∀ (i : Fin 22) (uv lo : Nat) (s : State), 14 ≤ i.val → cupEn s i = true → (s.cupAt i).ready = true →
    cupBroken s i = false → 1470000 < uv → Regs.wf s.regs = true →
    ∃ t, exec (.sensorSample i uv lo) s = .next t ∧ t.fget .CUP_SNS_TEMP_BROKEN i = 1 ∧ t.fget .CUP_SNS_TEMP_REASON i = 1 ∧
      t.fget .CUP_SNS_TEMP_LEVEL i = 3 ∧ t.fget .CUP_STAT_LEVEL = 3 ∧ t.fget .CUP_STAT_THROT = 1 ∧ pended t 116 = true ∧
      (t.cupAt i).ready = false) ∧
  (∀ (i : Fin 22) (uv lo : Nat) (s : State), 10 ≤ i.val → i.val < 14 → cupEn s i = true → (s.cupAt i).ready = true →
    lo ≤ 1500000 → lo + 40000 ≤ uv →
    ∃ t x, exec (.sensorSample i uv lo) s = .next t ∧
      (x = (diodeTemp s i uv lo * 16).floor ∨ x = (diodeTemp s i uv lo * 16).floor + 1) ∧
      (-32768 ≤ x → x ≤ 32767 → t.fget .CUP_SNS_TEMP_TEMP i = twos 16 x) ∧ (t.cupAt i).last = some x ∧
      (t.cupAt i).prev = (s.cupAt i).last ∧ (t.cupAt i).doneAt = s.now) ∧
  (∀ (i : Fin 22) (s : State), cupEn s i = true → cupBroken s i = false → (s.cupAt i).doneAt + 8 * msTicks ≤ s.now →
    ∃ t, exec (.sensorStale i) s = .next t ∧ t.fget .CUP_SNS_TEMP_BROKEN i = 1 ∧ t.fget .CUP_SNS_TEMP_REASON i = 4 ∧
      t.fget .CUP_SNS_TEMP_LEVEL i = 3 ∧ pended t 116 = true) ∧
  (∀ (k : Bool) (a : Nat) (s : State), vget s.cupGrace (b2n k) = some a → a + s.fget .CUP_CFG_GRACE * msTicks ≤ s.now →
    (s.flag .LAE_XSTAT_BUSY = false → ∃ t, exec (.graceExpiry k) s = .next t ∧ t.fget (enfFlag (b2n k)) = 1 ∧
      t.fget (graceFlag (b2n k)) = 0 ∧ vget t.cupGrace (b2n k) = none ∧ pended t 114 = true ∧
      t.fget .CUP_CNT_ENFCNT = min (2 ^ Fld.len .CUP_CNT_ENFCNT - 1) (s.fget .CUP_CNT_ENFCNT + 1)) ∧
    (s.flag .LAE_XSTAT_BUSY = true → s.now < s.xfer.td → ∃ t, exec (.graceExpiry k) s = .next t ∧
      t.flag .CUP_STAT_DEFER = true ∧ vget t.cupDefer (b2n k) = true ∧
      t.fget (enfFlag (b2n k)) = s.fget (enfFlag (b2n k)) ∧ vget t.cupGrace (b2n k) = none)) ∧
  (∀ (k : Bool) (a : Nat) (s : State), s.flag (enfFlag (b2n k)) = true → kindHot s (b2n k) = false →
    vget s.cupBelow (b2n k) = some a → a + msTicks ≤ s.now →
    ∃ t, exec (.enforcementEnd k) s = .next t ∧ t.fget (enfFlag (b2n k)) = 0 ∧ pended t 118 = true) ∧
  (∀ (n : Fin 8) (a : Nat) (v : Int) (s : State), s.limNext = some a → a ≤ s.now → s.flag .CUP_STAT_ENFCUR = true →
    limitTargets s = [n.val] → vget s.limLast n = some v →
    ∃ t, exec .limitRampWrite s = .next t ∧ vget t.limLast n = some (max (limFloor s n) (v - limStep s n)) ∧
      t.limNext = some (s.now + msTicks) ∧ t.mem = s.mem) ∧
  (∀ (b : List Nat) (s : State), s.cupRec = some b →
    ∃ t, exec .shutdownRecord s = .next t ∧ t.cupRec = none ∧
      t.fget .CUP_RECSEQ_SEQ = (s.fget .CUP_RECSEQ_SEQ + 1) % 2 ^ Fld.len .CUP_RECSEQ_SEQ ∧
      t.fget .CUP_REC_NEXT = (s.fget .CUP_REC_NEXT + 1) % 2 ^ Fld.len .CUP_REC_NEXT ∧ pended t 117 = true ∧
      t.loadBytes (recordAddr (s.fget .CUP_REC_NEXT)) 8 =
        [0x43, 0x55, 0x50, 0x31] ++ leBytes 4 (s.fget .CUP_RECSEQ_SEQ + 1)) ∧
  (∀ (v : Nat) (s : State), Reaches s 4 (regAddr .CUP_CTRL) → bit v 0 = true → s.flag .CUP_STAT_SHUT = true →
    ∃ t, exec (.thermalExitWrite 4 v) s = .next t ∧ t.fget .CUP_STAT_SHUT = 0) ∧
  (∀ (m : Fin 10) (v : Nat) (s : State), m ≠ 4 → Reaches s m (regAddr .CUP_CTRL) →
    ∃ t, exec (.thermalExitWrite m v) s = .next t ∧ WroteOnly (Fields []) m s t) ∧
  (∀ (v : Nat) (s : State), Reaches s 4 (regAddr .CUP_CTRL) → bit v 0 = false ∨ s.flag .CUP_STAT_SHUT = false →
    ∃ t, exec (.thermalExitWrite 4 v) s = .next t ∧ WroteOnly (Fields []) 4 s t) ∧
  (∀ (i : Fin 22) (a b : Nat) (s : State), s.pw.rst = none → 10 ≤ i.val → i.val < 14 → cupEn s i = true →
    (s.cupAt i).ready = false → (s.cupAt i).first = some a → s.now + 281 ≤ a + 100 * usTicks → (s.cupAt i).startAt = some b →
    (s.cupAt i).doneAt < b → (s.sarAt (cupConv s i)).burst = none → s.fget .PMG_DOMSTAT_STATE 12 = 0 →
    sarReserved s (cupConv s i) = false →
    ∃ t, exec (.cupolaBurstStart i) s = .next t ∧ (t.sarAt (cupConv s i)).burst = some ⟨i, true, s.now⟩ ∧
      (t.cupAt i).startAt = some b ∧ t = { s with sar := t.sar, cupS := t.cupS }) ∧
  (∀ (i : Fin 22) (a : Nat) (s : State), s.pw.rst = none → cupEn s i = true → (s.cupAt i).ready = false →
    (s.cupAt i).startAt = some a → (s.cupAt i).first = none →
    (a + cupInterval s i ≤ s.now → (s.sarAt (cupConv s i)).burst = none → s.fget .PMG_DOMSTAT_STATE 12 = 0 →
      sarReserved s (cupConv s i) = false →
      ∃ t, exec (.cupolaBurstStart i) s = .next t ∧ (t.sarAt (cupConv s i)).burst = some ⟨i, false, s.now⟩ ∧
        (t.cupAt i).startAt = some s.now ∧ (t.cupAt i).fast = s.flag .CUP_SNS_TEMP_NEAR i) ∧
    (s.now < a + cupInterval s i → a ≤ (s.cupAt i).doneAt → exec (.cupolaBurstStart i) s = .next s)) ∧
  (∀ (i : Fin 22) (s : State), s.pw.rst = none → cupEn s i = true → (s.cupAt i).ready = false → burstDue s i = true →
    (s.sarAt (cupConv s i)).burst = none → sarReserved s (cupConv s i) = false → s.fget .PMG_DOMSTAT_STATE 12 ≠ 0 →
    ∃ t, exec (.cupolaBurstStart i) s = .next t ∧ bit t.pw.waking 12 = true ∧ t = { s with pw := t.pw }) ∧
  (∀ (i : Fin 22) (uv lo : Nat) (s : State), cupEn s i = true → (s.cupAt i).ready = true → cupBroken s i = false →
    (14 ≤ i.val → uv < 30000 → ∃ t, exec (.sensorSample i uv lo) s = .next t ∧ t.fget .CUP_SNS_TEMP_BROKEN i = 1 ∧
      t.fget .CUP_SNS_TEMP_REASON i = 2 ∧ t.fget .CUP_SNS_TEMP_LEVEL i = 3) ∧
    (10 ≤ i.val → i.val < 14 → 1500000 < lo → ∃ t, exec (.sensorSample i uv lo) s = .next t ∧
      t.fget .CUP_SNS_TEMP_BROKEN i = 1 ∧ t.fget .CUP_SNS_TEMP_REASON i = 1 ∧ t.fget .CUP_SNS_TEMP_LEVEL i = 3) ∧
    (10 ≤ i.val → i.val < 14 → lo ≤ 1500000 → uv < lo + 40000 → ∃ t, exec (.sensorSample i uv lo) s = .next t ∧
      t.fget .CUP_SNS_TEMP_BROKEN i = 1 ∧ t.fget .CUP_SNS_TEMP_REASON i = 2 ∧ t.fget .CUP_SNS_TEMP_LEVEL i = 3)) ∧
  (∀ (i : Fin 22) (uv lo : Nat) (s : State), 14 ≤ i.val → cupEn s i = true → (s.cupAt i).ready = true →
    30000 ≤ uv → uv ≤ 1470000 →
    ∃ t x, exec (.sensorSample i uv lo) s = .next t ∧ (x = (ntcTemp s i uv * 16).floor ∨ x = (ntcTemp s i uv * 16).floor + 1) ∧
      (-32768 ≤ x → x ≤ 32767 → t.fget .CUP_SNS_TEMP_TEMP i = twos 16 x) ∧ (t.cupAt i).last = some x ∧
      ∀ p, (s.cupAt i).last = some p → (s.cupAt i).odd < 15 → cupBroken s i = false →
        t.fget .CUP_SNS_TEMP_LEVEL i = levelAfter s 2 (cupLevel s i) p x % 4) ∧
  (∀ (i : Fin 22) (uv lo : Nat) (s : State), i.val < 10 → cupEn s i = true → (s.cupAt i).ready = true →
    ∃ t, exec (.sensorSample i uv lo) s = .next t ∧ (t.cupAt i).ready = false ∧ (t.cupAt i).doneAt = s.now ∧
      (t.fget .CUP_SNS_TEMP_BROKEN i = 1 ∨ (t.cupAt i).last = some (Config.dieTemp i uv))) ∧
  (∀ (k : Bool) (a : Nat) (s : State), vget s.cupGrace (b2n k) = some a → a + s.fget .CUP_CFG_GRACE * msTicks ≤ s.now →
    s.flag .LAE_XSTAT_BUSY = true → s.xfer.td ≤ s.now → ∃ t, exec (.graceExpiry k) s = .next t ∧
      t.flag .CUP_STAT_DEFER = true ∧ t.fget (enfFlag (b2n k)) = 1 ∧ t.fget (graceFlag (b2n k)) = 0 ∧ pended t 114 = true) ∧
  (∀ (n : Fin 8) (a : Nat) (v : Int) (s : State), s.limNext = some a → a ≤ s.now → limitTargets s = [n.val] →
    (s.flag .CUP_STAT_ENFCUR = false → vget s.limLast n = some v → v ≠ limNom s n →
      ∃ t, exec .limitRampWrite s = .next t ∧ vget t.limLast n = some (min (limNom s n) (v + limStep s n)) ∧ t.mem = s.mem) ∧
    (s.flag .CUP_STAT_ENFCUR = true → vget s.limLast n = none →
      ∃ t, exec .limitRampWrite s = .next t ∧ vget t.limLast n = some (max (limFloor s n) (limNom s n - limStep s n)) ∧
        t.limNext = some (s.now + msTicks))) ∧
  (∀ (i : Fin 22) (uv lo : Nat) (s : State),
    (cupEn s i = false ∨ (s.cupAt i).ready = false → exec (.sensorSample i uv lo) s = .next s) ∧
    (cupEn s i = false ∨ cupBroken s i = true ∨ s.now < (s.cupAt i).doneAt + 8 * msTicks →
      exec (.sensorStale i) s = .next s) ∧
    (s.pw.rst ≠ none ∨ cupEn s i = false ∨ (s.cupAt i).ready = true ∨ (s.sarAt (cupConv s i)).burst ≠ none →
      exec (.cupolaBurstStart i) s = .next s)) ∧
  (∀ (k : Bool) (a : Nat) (s : State),
    (vget s.cupGrace (b2n k) = none → exec (.graceExpiry k) s = .next s) ∧
    (vget s.cupGrace (b2n k) = some a → s.now < a + s.fget .CUP_CFG_GRACE * msTicks → exec (.graceExpiry k) s = .next s) ∧
    (s.flag (enfFlag (b2n k)) = false ∨ kindHot s (b2n k) = true ∨ vget s.cupBelow (b2n k) = none →
      exec (.enforcementEnd k) s = .next s) ∧
    (vget s.cupBelow (b2n k) = some a → s.now < a + msTicks → exec (.enforcementEnd k) s = .next s) ∧
    (s.limNext = none → exec .limitRampWrite s = .next s) ∧
    (s.limNext = some a → s.now < a → exec .limitRampWrite s = .next s) ∧
    (s.cupRec = none → exec .shutdownRecord s = .next s))

/-! ### Fyzal: ports and packets -/

/-- The ports. SPI_TRANSACTION: MISO carries as many bytes as MOSI, the status byte first (R454), a packet cut by the end is sent again
(R455). CAN_FRAGMENT: fragments in order make a packet, another order or a bad header is counted (R457, R458). UART_BYTE: a byte before
a SYNC is dropped, a framing error drops what has come (R450, R459). FRAGMENT_TIMEOUT and UART_GAP_TIMEOUT: the gaps of 10 ms and
2 ms abandon a packet (R458, R459). PACKET_TRANSMITTED makes room for the next reply or notice (R451, R457). CAN_BUS_ERROR and
BUS_OFF_RECOVERY: error-passive from 128, bus-off at a TEC of 256, counted, and the recovery (R456). HOST_RESET comes 1 ms after RESET's
reply (R400, R470). RESUME_WRITE sets DRV and ends the stop, for the management core alone (R476). SESSION_IDLE_EXPIRY ends an idle
session and logs it, LOCKOUT_EXPIRY a lockout (R468). A port that is disabled or not clocked takes nothing in. -/
def Obligations.HostPortsAndTimers : Prop :=
  (∀ (p : Fin 2) (mosi : List Nat) (s : State), portLive s p = true →
    ∃ t, exec (.spiTransaction p mosi) s = .next t ∧ (t.fport p).miso.length = mosi.length ∧
      (mosi ≠ [] → (t.fport p).miso.head? = some (spiStatus s p)) ∧ (t.fport p).rx = [] ∧
      ∀ k, (s.fport p).tx = some k → k ≠ [] → k.length < mosi.length → (t.fport p).tx = none) ∧
  (∀ (n : Fin 2) (k : List Nat) (s : State), canLive s n = true → (s.fport (2 + n)).frag = none → (∀ x ∈ k, x < 256) →
    headerGood k = true → 8 ≤ k.length → 12 + pktLen k = k.length → k.length ≤ 63 →
    ∃ t, exec (.canFragment n (s.fget .FYZ_CAN_ID_RXID n) (0xC0 :: k)) s = .next t ∧
      (t.fport (2 + n)).arrived = (s.fport (2 + n)).arrived ++ [k] ∧ (t.fport (2 + n)).frag = none ∧
      t = { s with fyz := t.fyz }) ∧
  (∀ (n : Fin 2) (h : Nat) (k : List Nat) (s : State), canLive s n = true → bit h 7 = false →
    (s.fport (2 + n)).frag = none →
    ∃ t, exec (.canFragment n (s.fget .FYZ_CAN_ID_RXID n) (h :: k)) s = .next t ∧
      (t.fport (2 + n)).arrived = (s.fport (2 + n)).arrived ∧
      t.fget .FYZ_PORT_ERR_FRAMING (2 + n) = min 255 (s.fget .FYZ_PORT_ERR_FRAMING (2 + n) + 1)) ∧
  (∀ (n : Fin 2) (id : Nat) (k : List Nat) (s : State), id ≠ s.fget .FYZ_CAN_ID_RXID n ∨ k = [] ∨ canLive s n = false →
    exec (.canFragment n id k) s = .next s) ∧
  (∀ (n : Fin 2) (f : Nat × List Nat × Nat) (s : State), (s.fport (2 + n)).frag = some f →
    (f.2.2 + 10 * msTicks ≤ s.now → ∃ t, exec (.fragmentTimeout n) s = .next t ∧ (t.fport (2 + n)).frag = none ∧
      t.fget .FYZ_PORT_ERR_FRAMING (2 + n) = min 255 (s.fget .FYZ_PORT_ERR_FRAMING (2 + n) + 1)) ∧
    (s.now < f.2.2 + 10 * msTicks → exec (.fragmentTimeout n) s = .next s)) ∧
  (∀ (b : Nat) (s : State), portLive s 4 = true → (s.fport 4).rx = [] →
    ∃ t, exec (.uartByte b false) s = .next t ∧ (t.fport 4).rx = (if b % 256 = 0xC5 then [0xC5] else []) ∧
      (t.fport 4).rxAt = s.now ∧ t = { s with fyz := t.fyz }) ∧
  (∀ (b : Nat) (s : State), portLive s 4 = true →
    ∃ t, exec (.uartByte b true) s = .next t ∧ (t.fport 4).rx = [] ∧
      t.fget .FYZ_PORT_ERR_FRAMING 4 = min 255 (s.fget .FYZ_PORT_ERR_FRAMING 4 + 1)) ∧
  (∀ (s : State), (s.fport 4).rx ≠ [] → (s.fport 4).rxAt + 2 * msTicks < s.now →
    ∃ t, exec .uartGapTimeout s = .next t ∧ (t.fport 4).rx = [] ∧
      t.fget .FYZ_PORT_ERR_FRAMING 4 = min 255 (s.fget .FYZ_PORT_ERR_FRAMING 4 + 1)) ∧
  (∀ (k r : List Nat) (rest : List (List Nat)) (s : State), (s.fport 4).tx = some k → (s.fport 4).replies = r :: rest →
    ∃ t, exec (.packetTransmitted 4) s = .next t ∧ (t.fport 4).tx = some r ∧ (t.fport 4).replies = rest ∧
      t = { s with fyz := t.fyz }) ∧
  (∀ (n : Fin 2) (k : List Nat) (s : State), canLive s n = true → (s.fport (2 + n)).tx = some k →
    63 * ((s.fport (2 + n)).txPos + 1) < k.length →
    ∃ t, exec (.packetTransmitted ⟨2 + n, by omega⟩) s = .next t ∧ (t.fport (2 + n)).tx = some k ∧
      (t.fport (2 + n)).txPos = (s.fport (2 + n)).txPos + 1 ∧
      canOut t n = some (s.fget .FYZ_CAN_ID_TXID n, canFrame k ((s.fport (2 + n)).txPos + 1)) ∧ t = { s with fyz := t.fyz }) ∧
  (∀ (n : Fin 2) (tec rcv : Nat) (s : State), canLive s n = true →
    ∃ t, exec (.canBusError n tec rcv) s = .next t ∧ t.fget .FYZ_CAN_ECNT_TEC n = min 255 tec ∧
      t.fget .FYZ_CAN_ECNT_REC n = min 255 rcv ∧
      t.fget .FYZ_CAN_ECNT_STATE n = (if 256 ≤ tec then 2 else if 128 ≤ tec ∨ 128 ≤ rcv then 1 else 0) ∧
      t.fget .FYZ_CAN_ECNT_BUSOFF n =
        (if 256 ≤ tec then min 255 (s.fget .FYZ_CAN_ECNT_BUSOFF n + 1) else s.fget .FYZ_CAN_ECNT_BUSOFF n) ∧
      ChangedOnly (FieldsAt [.FYZ_CAN_ECNT_TEC, .FYZ_CAN_ECNT_REC, .FYZ_CAN_ECNT_STATE, .FYZ_CAN_ECNT_BUSOFF] n) s t) ∧
  (∀ (n : Fin 2) (s : State), portLive s (2 + n) = true → s.fget .FYZ_CAN_ECNT_STATE n = 2 →
    ∃ t, exec (.busOffRecovery n) s = .next t ∧ t.fget .FYZ_CAN_ECNT_STATE n = 0 ∧ t.fget .FYZ_CAN_ECNT_TEC n = 0 ∧
      t.fget .FYZ_CAN_ECNT_REC n = 0 ∧
      ChangedOnly (FieldsAt [.FYZ_CAN_ECNT_TEC, .FYZ_CAN_ECNT_REC, .FYZ_CAN_ECNT_STATE] n) s t) ∧
  (∀ (a : Nat) (s : State), s.fyz.resetAt = some a → s.pw.rst ≠ some 0 →
    (a + msTicks ≤ s.now → ∃ t, exec .hostResetDue s = .next t ∧ ResetHeld false 3 s t) ∧
    (s.now < a + msTicks → exec .hostResetDue s = .next s)) ∧
  (∀ (v : Nat) (s : State), Reaches s 4 0x40220008 → domOn s 10 = true → domOn s 15 = true →
    ∃ t, exec (.resumeWrite 4 v) s = .next t ∧
      t.fget .PWM_DRIVE_DRV = (if bit v 0 then 1 else s.fget .PWM_DRIVE_DRV) ∧
      t.fget .FYZ_STAT_ESTOPPWM = (if bit v 0 then 0 else s.fget .FYZ_STAT_ESTOPPWM) ∧
      t.fget .LAE_DRIVE_DRV = (if bit v 1 then 1 else s.fget .LAE_DRIVE_DRV) ∧
      t.fget .FYZ_STAT_ESTOPLAE = (if bit v 1 then 0 else s.fget .FYZ_STAT_ESTOPLAE)) ∧
  (∀ (m : Fin 10) (v : Nat) (s : State), m ≠ 4 → Reaches s m 0x40220008 →
    ∃ t, exec (.resumeWrite m v) s = .next t ∧ WroteOnly (Fields []) m s t) ∧
  (∀ (p : Fin 5) (x : FyzSession) (s : State), (s.fport p).session = some x →
    (x.at_ + s.fget .FYZ_CFG_IDLE * 1000 * msTicks ≤ s.now → ∃ t, exec (.sessionIdleExpiry p) s = .next t ∧
      (t.fport p).session = none ∧ t.logSeq = s.logSeq + 1 ∧ SameRegs (Fields [.PMG_DOMSTAT_DIRTY]) s t) ∧
    (s.now < x.at_ + s.fget .FYZ_CFG_IDLE * 1000 * msTicks → exec (.sessionIdleExpiry p) s = .next s)) ∧
  (∀ (p : Fin 5) (d : Nat) (s : State), (s.fport p).lockUntil = some d →
    (d ≤ s.now → ∃ t, exec (.lockoutExpiry p) s = .next t ∧ (t.fport p).lockUntil = none ∧ t = { s with fyz := t.fyz }) ∧
    (s.now < d → exec (.lockoutExpiry p) s = .next s)) ∧
  (∀ (p : Fin 2) (mosi k : List Nat) (s : State), portLive s p = true → (s.fport p).tx = some k →
    ∃ t, exec (.spiTransaction p mosi) s = .next t ∧
      (t.fport p).miso = (spiStatus s p :: (k ++ List.replicate (mosi.length - 1 - k.length) 0xFF)).take mosi.length ∧
      (mosi.length ≤ k.length → (t.fport p).tx = some k)) ∧
  (∀ (p : Fin 2) (k : List Nat) (s : State), portLive s p = true → (∀ x ∈ k, x < 256) → headerGood k = true → 8 ≤ k.length →
    12 + pktLen k = k.length →
    (∃ t, exec (.spiTransaction p k) s = .next t ∧ (t.fport p).arrived = (s.fport p).arrived ++ [k]) ∧
    (∃ t, exec (.spiTransaction p (k.take 7)) s = .next t ∧ (t.fport p).arrived = (s.fport p).arrived ∧
      t.fget .FYZ_PORT_ERR_FRAMING p = min 255 (s.fget .FYZ_PORT_ERR_FRAMING p + 1))) ∧
  (∀ (p : Fin 2) (mosi : List Nat) (b : Nat) (e : Bool) (s : State),
    (portLive s p = false → exec (.spiTransaction p mosi) s = .next s) ∧
    (portLive s 4 = false → exec (.uartByte b e) s = .next s) ∧
    ((s.fport 4).rx = [] ∨ s.now ≤ (s.fport 4).rxAt + 2 * msTicks → exec .uartGapTimeout s = .next s)) ∧
  (∀ (n : Fin 2) (want at_ h : Nat) (got k : List Nat) (s : State), canLive s n = true →
    (s.fport (2 + n)).frag = some (want, got, at_) → s.now < at_ + 10 * msTicks → bit h 7 = false →
    (h % 16 = want → bit h 6 = false → (got ++ (k.take 63).map (· % 256)).length ≤ 1036 →
      ∃ t, exec (.canFragment n (s.fget .FYZ_CAN_ID_RXID n) (h :: k)) s = .next t ∧ t = { s with fyz := t.fyz } ∧
        (t.fport (2 + n)).frag = some ((want + 1) % 16, got ++ (k.take 63).map (· % 256), s.now)) ∧
    (h % 16 ≠ want → ∃ t, exec (.canFragment n (s.fget .FYZ_CAN_ID_RXID n) (h :: k)) s = .next t ∧
      (t.fport (2 + n)).frag = none ∧ (t.fport (2 + n)).arrived = (s.fport (2 + n)).arrived ∧
      t.fget .FYZ_PORT_ERR_FRAMING (2 + n) = min 255 (s.fget .FYZ_PORT_ERR_FRAMING (2 + n) + 1)) ∧
    (∀ (l : List Nat), l = got ++ (k.take 63).map (· % 256) → h % 16 = want → bit h 6 = true → 8 ≤ l.length →
      (headerGood l = true → 12 + pktLen l ≤ l.length →
        ∃ t, exec (.canFragment n (s.fget .FYZ_CAN_ID_RXID n) (h :: k)) s = .next t ∧ t = { s with fyz := t.fyz } ∧
          (t.fport (2 + n)).frag = none ∧
          (t.fport (2 + n)).arrived = (s.fport (2 + n)).arrived ++ [l.take (12 + pktLen l)]) ∧
      (headerGood l = false → l.length ≤ 1036 →
        ∃ t, exec (.canFragment n (s.fget .FYZ_CAN_ID_RXID n) (h :: k)) s = .next t ∧ (t.fport (2 + n)).frag = none ∧
          t.fget .FYZ_PORT_ERR_HDRERR (2 + n) = min 255 (s.fget .FYZ_PORT_ERR_HDRERR (2 + n) + 1)))) ∧
  (∀ (p : Fin 5) (n : Notice) (k : List Nat) (rest : List Notice) (s : State), p.val = 4 → (s.fport p).tx = some k →
    (s.fport p).replies = [] →
    (vget s.notices p = n :: rest → ∃ t, exec (.packetTransmitted p) s = .next t ∧ (t.fport p).tx = some (noticePacket n) ∧
      vget t.notices p = rest) ∧
    (vget s.notices p = [] → ∃ t, exec (.packetTransmitted p) s = .next t ∧ (t.fport p).tx = none ∧
      t = { s with fyz := t.fyz })) ∧
  (∀ (n : Fin 2) (k r : List Nat) (rest : List (List Nat)) (s : State), canLive s n = true →
    (s.fport (2 + n)).tx = some k → k.length ≤ 63 * ((s.fport (2 + n)).txPos + 1) → (s.fport (2 + n)).replies = r :: rest →
    ∃ t, exec (.packetTransmitted ⟨2 + n, by omega⟩) s = .next t ∧ (t.fport (2 + n)).tx = some r ∧
      (t.fport (2 + n)).replies = rest ∧ (t.fport (2 + n)).txPos = 0) ∧
  (∀ (n : Fin 2) (tec rcv : Nat) (s : State),
    (exec (.packetTransmitted ⟨n, by omega⟩) s = .next s) ∧
    (canLive s n = false → exec (.packetTransmitted ⟨2 + n, by omega⟩) s = .next s ∧
      exec (.canBusError n tec rcv) s = .next s) ∧
    (portLive s (2 + n) = false ∨ s.fget .FYZ_CAN_ECNT_STATE n ≠ 2 → exec (.busOffRecovery n) s = .next s) ∧
    ((s.fport (2 + n)).frag = none → exec (.fragmentTimeout n) s = .next s)) ∧
  (∀ (p : Fin 5) (s : State), (s.fyz.resetAt = none → exec .hostResetDue s = .next s) ∧
    ((s.fport p).session = none → exec (.sessionIdleExpiry p) s = .next s) ∧
    ((s.fport p).lockUntil = none → exec (.lockoutExpiry p) s = .next s))

/-- PACKET_RECEIVED: with a wrong trailer BAD_CRC is answered and counted, another version is BAD_VER (R450); without a MAC an open
command is buffered and rings, another is refused AUTH_REQUIRED; with an accepted MAC it is buffered and its session goes on, a wrong
tag is AUTH_FAILED, an old CTR REPLAY (R451, R466 to R468); a repeated request is answered as before (R461); an unknown command is
BAD_OPCODE (R463); with the management core in reset the answer is MGMT_DOWN (R462); one of the safety subset goes to the
safety state machine (R474); with no free buffer the packet is dropped and counted (R451). Requests complete in one fabric cycle go in
port order (R451). MGMT_DOWN_TIMEOUT answers a request that has waited 10 ms (R462). -/
def Obligations.Reception : Prop :=
  (∀ (p : Fin 5) (k : List Nat) (rest : List (List Nat)) (s : State), (s.fport p).arrived = k :: rest →
    bufferFree s p = true → trailerGood k = false →
    ∃ t, exec (.packetReceived p) s = .next t ∧ Outgoing t p (replyPacket ⟨p, k, s.now, none⟩ stBadCrc []) ∧
      t.fget .FYZ_PORT_ERR_CRCERR p = min 255 (s.fget .FYZ_PORT_ERR_CRCERR p + 1) ∧ (t.fport p).arrived = rest ∧
      t.fyz.reqs = s.fyz.reqs) ∧
  (∀ (p : Fin 5) (k : List Nat) (rest : List (List Nat)) (s : State), (s.fport p).arrived = k :: rest →
    bufferFree s p = true → trailerGood k = true → k.getD 1 0 = 1 → romOpcodes.contains (pktOp k) = true →
    mgmtUp s = true → (s.fport p).dup = none → (s.fport p).session = none → pktMac k = false →
    (needsSession s (pktOp k) = false →
      s.fyz.reqs.getLast?.all (fun x => !(decide (x.at_ * 3 / 8 = s.now * 3 / 8) && decide (p.val < x.port))) = true →
      ∃ t, exec (.packetReceived p) s = .next t ∧ t.fyz.reqs = s.fyz.reqs ++ [⟨p, k, s.now, none⟩] ∧
        pended t (144 + p) = true ∧ (t.fport p).arrived = rest ∧ t.mem = s.mem) ∧
    (needsSession s (pktOp k) = true → ∃ t, exec (.packetReceived p) s = .next t ∧ t.fyz.reqs = s.fyz.reqs ∧
      Outgoing t p (replyPacket ⟨p, k, s.now, none⟩ stAuthRequired []) ∧ pended t (144 + p) = true ∧
      t = { s with fyz := t.fyz, regs := t.regs, hwSets := t.hwSets } ∧
      SameRegs (Fields [.BFY_PEND_W, .BFY_MERGECNT_COUNT]) s t)) ∧
  (∀ (p : Fin 5) (k : List Nat) (rest : List (List Nat)) (s : State), (s.fport p).arrived = k :: rest →
    trailerGood k = true → k.getD 1 0 = 1 → safetyOpcodes.contains (pktOp k) = true → (s.fport p).safeDup = none →
    ∃ t, exec (.packetReceived p) s = .next t ∧ t.fyz.safe = s.fyz.safe ++ [⟨p, k, s.now, none⟩] ∧
      t.fyz.reqs = s.fyz.reqs ∧ t = { s with fyz := t.fyz }) ∧
  (∀ (p : Fin 5) (k : List Nat) (rest : List (List Nat)) (s : State), (s.fport p).arrived = k :: rest →
    safetyOpcodes.contains (pktOp k) = false → bufferFree s p = false →
    ∃ t, exec (.packetReceived p) s = .next t ∧ (t.fport p).arrived = rest ∧ t.fyz.reqs = s.fyz.reqs ∧
      t.fget .FYZ_PORT_ERR_OVERRUN p = min 255 (s.fget .FYZ_PORT_ERR_OVERRUN p + 1)) ∧
  (∀ (p : Fin 5) (r : FyzReq) (s : State), firstOf s p = some r → mgmtUp s = false ∨ r.at_ + 10 * msTicks ≤ s.now →
    ∃ t, exec (.mgmtDownTimeout p) s = .next t ∧ t.fyz.reqs = s.fyz.reqs.erase r ∧
      Outgoing t p (replyPacket r stMgmtDown []) ∧ t = { s with fyz := t.fyz }) ∧
  (∀ (p : Fin 5) (k : List Nat) (rest : List (List Nat)) (s : State), (s.fport p).arrived = k :: rest →
    bufferFree s p = true → trailerGood k = true →
    (k.getD 1 0 ≠ 1 → ∃ t, exec (.packetReceived p) s = .next t ∧
      Outgoing t p (replyPacket ⟨p, k, s.now, none⟩ stBadVer []) ∧ t = { s with fyz := t.fyz } ∧ t.fyz.reqs = s.fyz.reqs) ∧
    (k.getD 1 0 = 1 → safetyOpcodes.contains (pktOp k) = false → mgmtUp s = false →
      ∃ t, exec (.packetReceived p) s = .next t ∧ Outgoing t p (replyPacket ⟨p, k, s.now, none⟩ stMgmtDown []) ∧
        t.fyz.reqs = s.fyz.reqs) ∧
    (k.getD 1 0 = 1 → safetyOpcodes.contains (pktOp k) = false → romOpcodes.contains (pktOp k) = false → mgmtUp s = true →
      (s.fport p).dup = none → ∃ t, exec (.packetReceived p) s = .next t ∧
        Outgoing t p (replyPacket ⟨p, k, s.now, none⟩ stBadOpcode []) ∧ t.fyz.reqs = s.fyz.reqs) ∧
    (∀ (q a : List Nat), k.getD 1 0 = 1 → safetyOpcodes.contains (pktOp k) = false → mgmtUp s = true → (s.fport p).dup = some (q, a) →
      sameRequest q k = true → ∃ t, exec (.packetReceived p) s = .next t ∧ Outgoing t p a ∧ t.fyz.reqs = s.fyz.reqs) ∧
    (∀ (q a : List Nat), k.getD 1 0 = 1 → safetyOpcodes.contains (pktOp k) = true → (s.fport p).safeDup = some (q, a) →
      sameRequest q k = true → ∃ t, exec (.packetReceived p) s = .next t ∧ Outgoing t p a ∧ t = { s with fyz := t.fyz } ∧
        t.fyz.safe = s.fyz.safe)) ∧
  (∀ (p : Fin 5) (x : FyzSession) (k : List Nat) (rest : List (List Nat)) (s : State), (s.fport p).arrived = k :: rest →
    bufferFree s p = true → trailerGood k = true → k.getD 1 0 = 1 → romOpcodes.contains (pktOp k) = true →
    mgmtUp s = true → (s.fport p).dup = none → (s.fport p).session = some x →
    s.now < x.at_ + s.fget .FYZ_CFG_IDLE * 1000 * msTicks →
    (macStatus s p k = 0 → reqCtr k ≠ 0xFFFFFFFF → ∃ t, exec (.packetReceived p) s = .next t ∧
      ⟨p, k, s.now, some (x.key, reqCtr k)⟩ ∈ t.fyz.reqs ∧ t.fyz.reqs.length = s.fyz.reqs.length + 1 ∧
      (t.fport p).session = some ⟨x.key, x.sid, reqCtr k, s.now, 0⟩ ∧ pended t (144 + p) = true) ∧
    (macStatus s p k = stAuthFailed → needsSession s (pktOp k) = true → x.fails < 4 →
      ∃ t, exec (.packetReceived p) s = .next t ∧ Outgoing t p (replyPacket ⟨p, k, s.now, none⟩ stAuthFailed []) ∧
        (t.fport p).session = some ⟨x.key, x.sid, x.ctr, x.at_, x.fails + 1⟩ ∧ pended t 149 = true ∧
        t.fyz.reqs = s.fyz.reqs) ∧
    (macStatus s p k = stAuthFailed → needsSession s (pktOp k) = true → 4 ≤ x.fails →
      ∃ t, exec (.packetReceived p) s = .next t ∧ (t.fport p).session = none ∧
        (t.fport p).lockUntil = some (s.now + 1000 * msTicks) ∧ t.fyz.reqs = s.fyz.reqs) ∧
    (macStatus s p k = stReplay → needsSession s (pktOp k) = true →
      ∃ t, exec (.packetReceived p) s = .next t ∧ Outgoing t p (replyPacket ⟨p, k, s.now, none⟩ stReplay []) ∧
        t.fyz.reqs = s.fyz.reqs ∧ (t.fport p).session = some x)) ∧
  (∀ (p : Fin 5) (x : FyzReq) (k : List Nat) (rest : List (List Nat)) (s : State), (s.fport p).arrived = k :: rest →
    trailerGood k = true → k.getD 1 0 = 1 → romOpcodes.contains (pktOp k) = true → mgmtUp s = true → (s.fport p).dup = none →
    (s.fport p).session = none → pktMac k = false → needsSession s (pktOp k) = false → s.fyz.reqs = [x] →
    s.fyz.job = none → p.val < x.port → x.at_ * 3 / 8 = s.now * 3 / 8 →
    ∃ t, exec (.packetReceived p) s = .next t ∧ t.fyz.reqs = [⟨p, k, s.now, none⟩, x]) ∧
  (∀ (p : Fin 5) (r : FyzReq) (s : State), ((s.fport p).arrived = [] → exec (.packetReceived p) s = .next s) ∧
    (firstOf s p = none → exec (.mgmtDownTimeout p) s = .next s) ∧
    (firstOf s p = some r → mgmtUp s = true → s.now < r.at_ + 10 * msTicks → exec (.mgmtDownTimeout p) s = .next s))

/-! ### Fyzal: the ROM and the safety state machine -/

/-- The commands that only report: each answers OK with the data R469 lists, read as the device stands, and changes nothing but
the queue of requests and the port it answers at (R460, R469); one whose registers lie in a domain that is not ON wakes it first (R408).
LOGINFO with no record, and values that a command cannot report, are answered as R469 and R470 say. Every command answers BAD_LEN to a
payload of another size, and does nothing while the ROM's oldest request is another, or it is at one. PEEK reads its words as master 4,
waits while a response is outstanding, and answers BAD_PARAM at an error response (R470). -/
def Obligations.RomReports : Prop :=
  (∀ (r : FyzReq) (s : State), RomAsked s 0x00 r [] → ∃ t, exec .hello s = .next t ∧
    RomReplied r stOk ([0x01] ++ leBytes 2 0x0960 ++ [b2n Config.gradeE, s.fget .TTH_STAT_SEAT, s.role] ++
      leBytes 2 Config.romVersion ++ [s.fget .PMG_BOOTSTAT_SLOT, s.fget .PMG_BOOTSTAT_APPLIED] ++
      (if s.img.applied then s.img.digest.take 8 else List.replicate 8 0) ++
      [(List.range 4).foldl (fun m i => m + b2n (hostKeyState s i == 1) * 2 ^ i) 0]) s t) ∧
  (∀ (r : FyzReq) (s : State), RomAsked s 0x10 r [] → ∃ t, exec .imgInfo s = .next t ∧
    RomReplied r stOk (slotInfo s 0 ++ slotInfo s 1 ++ leBytes 2 (minSecver s) ++
      (List.range 4).map (fun i => keyState s i % 256) ++ (List.range 4).map (fun i => hostKeyState s i % 256)) s t) ∧
  (∀ (r : FyzReq) (n : Nat) (s : State), RomAsked s 0x21 r [n] → spEnabled s n = true →
    domOn s (addrDomain (regAddr .LANE_CTRL (spLane s n))) = true → ∃ t, exec .spGet s = .next t ∧
    RomReplied r stOk (leBytes 6 (s.lreg (spLane s n) (spReg s n))) s t) ∧
  (∀ (r : FyzReq) (s : State), RomAsked s 0x30 r [] → domOn s 15 = true → ∃ t d, exec .laeStat s = .next t ∧
    RomReplied r stOk (d ++ regBytes s .LAE_XSTAT) s t ∧ d.length = 34 ∧
    d.take 7 = leBytes 1 (viewWord s (regDesc .LAE_FEED_STAT) 0 0) ++ leBytes 6 (s.fget .LAE_FEED_FREQ_FREQ 0)) ∧
  (∀ (r : FyzReq) (f : Fin 2) (s : State), RomAsked s 0x41 r [f.val] → domOn s 13 = true → ∃ t d, exec .meterCmd s = .next t ∧
    RomReplied r stOk (leBytes 2 (s.fget .SDM_STAT_SEQ) ++ d) s t ∧ d.length = 156 ∧
    d.take 6 = leBytes 6 (s.fget .SDM_RES_RMS_V (6 * f))) ∧
  (∀ (r : FyzReq) (s : State), RomAsked s 0x42 r [] → ∃ t, exec .thermCmd s = .next t ∧
    RomReplied r stOk (regBytes s .CUP_STAT ++ (List.range 22).flatMap (fun i => leBytes 2 (s.fget .CUP_SNS_TEMP_TEMP i)) ++
      leBytes 4 (brokenMask s)) s t) ∧
  (∀ (r : FyzReq) (s : State), RomAsked s 0x51 r [] → ∃ t, exec .budgetGet s = .next t ∧
    RomReplied r stOk ((List.range 8).flatMap (fun i => regBytes s .PMG_BUDGET i) ++
      (List.range 20).flatMap (fun i => regBytes s .PMG_DOMSTAT i)) s t) ∧
  (∀ (r : FyzReq) (b : List Nat) (x : Nat × Nat) (s : State), RomAsked s 0x62 r b → b.length = 2 → fieldAt b 0 2 < 4096 →
    recordValid s ((s.fget .CUP_REC_NEXT + 8191 - fieldAt b 0 2) % 4096) = some x → ∃ t, exec .shutRec s = .next t ∧
    RomReplied r stOk (s.loadBytes (recordAddr ((s.fget .CUP_REC_NEXT + 8191 - fieldAt b 0 2) % 4096)) 128) s t) ∧
  (∀ (r : FyzReq) (s : State), RomAsked s 0x71 r [] → domOn s 16 = true → ∃ t, exec .pairStat s = .next t ∧
    RomReplied r stOk (regBytes s .TTH_STAT ++ regBytes s .TTH_PARTNER ++ regBytes s .TTH_LAT ++ regBytes s .TTH_DISC) s t) ∧
  (∀ (r : FyzReq) (s : State), RomAsked s 0x80 r [] → s.logSeq ≠ 0 → ∃ t, exec .logInfo s = .next t ∧
    RomReplied r stOk (leBytes 4 (logOldest s) ++ leBytes 4 (s.logSeq - 1)) s t) ∧
  (∀ (r : FyzReq) (b : List Nat) (s : State), RomAsked s 0x81 r b → b.length = 5 → fieldAt b 4 1 = 1 →
    logOldest s ≤ fieldAt b 0 4 → fieldAt b 0 4 < s.logSeq → ∃ t, exec .logRead s = .next t ∧
    RomReplied r stOk (if crc32c (s.loadBytes (logAddr (fieldAt b 0 4)) 28) =
      leNat (s.loadBytes (logAddr (fieldAt b 0 4) + 28) 4) then s.loadBytes (logAddr (fieldAt b 0 4)) 32 else []) s t) ∧
  (∀ (r : FyzReq) (b : List Nat) (s : State), RomAsked s 0xF3 r b → b.length = 4 → 0x10000000 ≤ leNat b →
    leNat b + 4 ≤ 0x10400000 → leNat b % 4 = 0 → domOn s (addrDomain (leNat b)) = true → mustWait s 4 (leNat b) = false →
    s.upsetAt (slotBaseOf (leNat b)) ≠ some true → ∃ t, exec .peekCmd s = .next t ∧
    RomAnswered r stOk (s.loadBytes (leNat b) 4) s t ∧ t = { s with fyz := t.fyz, port := t.port, pw := t.pw }) ∧
  (∀ (r : FyzReq) (b : List Nat) (s : State), RomAsked s 0xF5 r b → b.length ≤ 1000 → ∃ t, exec .echoCmd s = .next t ∧
    RomReplied r stOk b s t) ∧
  (∀ (r : FyzReq) (op n : Nat) (b : List Nat) (i : Instr) (s : State), RomAsked s op r b → b.length ≠ n →
    (i, op, n) ∈ [(.hello, 0x00, 0), (.openSession, 0x01, 17), (.closeSession, 0x02, 0), (.hkeySet, 0x03, 33),
      (.hkeyRevoke, 0x04, 1), (.imgKeySet, 0x05, 33), (.imgKeyRevoke, 0x06, 1), (.secverSet, 0x07, 2), (.imgInfo, 0x10, 0),
      (.imgBegin, 0x11, 5), (.imgEnd, 0x13, 1), (.imgConfirm, 0x14, 0), (.imgErase, 0x15, 1), (.laeStat, 0x30, 0),
      (.xferCmd, 0x31, 0), (.pairAng, 0x32, 5), (.pairEnCmd, 0x33, 2), (.meterCmd, 0x41, 1), (.thermCmd, 0x42, 0),
      (.noticeCfg, 0x44, 1), (.budgetGet, 0x51, 0), (.holdCmd, 0x52, 2), (.thermCfg, 0x60, 12), (.thermExit, 0x61, 0),
      (.shutRec, 0x62, 2), (.pairStat, 0x71, 0), (.handoverCmd, 0x72, 0), (.detachCmd, 0x73, 0), (.attachCmd, 0x74, 0),
      (.logInfo, 0x80, 0), (.logRead, 0x81, 5), (.logClear, 0x82, 0), (.resumeCmd, 0xF1, 1), (.resetCmd, 0xF2, 0),
      (.debugEn, 0xF6, 1)] → ∃ t, exec i s = .next t ∧ RomReplied r stBadLen [] s t) ∧
  (∀ (op : Nat) (i : Instr) (s : State), mgmtUp s = false ∨ romBusy s = true ∨ s.fyz.reqs.head?.all (fun r => pktOp r.pkt != op) = true →
    (i, op) ∈ [(.hello, 0x00), (.openSession, 0x01), (.closeSession, 0x02), (.hkeySet, 0x03), (.hkeyRevoke, 0x04),
      (.imgKeySet, 0x05), (.imgKeyRevoke, 0x06), (.secverSet, 0x07), (.imgInfo, 0x10), (.imgBegin, 0x11), (.imgWrite, 0x12),
      (.imgEnd, 0x13), (.imgConfirm, 0x14), (.imgErase, 0x15), (.spSet, 0x20), (.spGet, 0x21), (.laeStat, 0x30), (.xferCmd, 0x31),
      (.pairAng, 0x32), (.pairEnCmd, 0x33), (.meterCmd, 0x41), (.thermCmd, 0x42), (.noticeCfg, 0x44), (.budgetSet, 0x50),
      (.budgetGet, 0x51), (.holdCmd, 0x52), (.thermCfg, 0x60), (.thermExit, 0x61), (.shutRec, 0x62), (.pairStat, 0x71),
      (.handoverCmd, 0x72), (.detachCmd, 0x73), (.attachCmd, 0x74), (.logInfo, 0x80), (.logRead, 0x81), (.logClear, 0x82),
      (.resumeCmd, 0xF1), (.resetCmd, 0xF2), (.peekCmd, 0xF3), (.pokeCmd, 0xF4), (.echoCmd, 0xF5), (.debugEn, 0xF6)] →
    exec i s = .next s) ∧
  (∀ (r : FyzReq) (s : State), s.pw.held = [] →
    (RomAsked s 0x30 r [] → ∃ t d, exec .laeStat s = .next t ∧ RomAnswered r stOk d s t ∧ d.length = 38 ∧
      domOn t 15 = true) ∧
    (RomAsked s 0x71 r [] → ∃ t d, exec .pairStat s = .next t ∧ RomAnswered r stOk d s t ∧ d.length = 16 ∧
      domOn t 16 = true) ∧
    (∀ f : Fin 2, RomAsked s 0x41 r [f.val] → ∃ t d, exec .meterCmd s = .next t ∧ RomAnswered r stOk d s t ∧
      d.length = 158 ∧ domOn t 13 = true)) ∧
  (∀ (r : FyzReq) (b : List Nat) (n : Nat) (s : State),
    (RomAsked s 0x21 r [n] → spEnabled s n = false → ∃ t, exec .spGet s = .next t ∧ RomReplied r stBadParam [] s t) ∧
    (RomAsked s 0x41 r [n] → 2 ≤ n → ∃ t, exec .meterCmd s = .next t ∧ RomReplied r stBadParam [] s t) ∧
    (RomAsked s 0x62 r b → b.length = 2 → 4096 ≤ fieldAt b 0 2 ∨
        recordValid s ((s.fget .CUP_REC_NEXT + 8191 - fieldAt b 0 2) % 4096) = none →
      ∃ t, exec .shutRec s = .next t ∧ RomReplied r stBadParam [] s t) ∧
    (RomAsked s 0x81 r b → b.length = 5 → fieldAt b 4 1 = 0 ∨ 30 < fieldAt b 4 1 ∨ fieldAt b 0 4 < logOldest s ∨
        s.logSeq ≤ fieldAt b 0 4 → ∃ t, exec .logRead s = .next t ∧ RomReplied r stBadParam [] s t)) ∧
  (∀ (r : FyzReq) (s : State), RomAsked s 0x80 r [] → s.logSeq = 0 → ∃ t d, exec .logInfo s = .next t ∧
    RomAnswered r stOk d s t ∧ d.length = 8) ∧
  (∀ (r : FyzReq) (b : List Nat) (s : State), RomAsked s 0x81 r b → b.length = 5 → 1 ≤ fieldAt b 4 1 → fieldAt b 4 1 ≤ 30 →
    logOldest s ≤ fieldAt b 0 4 → fieldAt b 0 4 < s.logSeq → ∃ t, exec .logRead s = .next t ∧
    RomReplied r stOk (((((List.range (fieldAt b 4 1)).map (fieldAt b 0 4 + ·)).filter fun k => decide (k < s.logSeq)).map
      (fun k => s.loadBytes (logAddr k) 32)).filter (fun x => crc32c (x.take 28) == leNat (x.drop 28))).flatten s t) ∧
  (∀ (r : FyzReq) (b : List Nat) (s : State), RomAsked s 0xF3 r b → b.length = 4 →
    (readError 4 (leNat b) 4 ≠ none → leNat b < 0x80000000 → ∃ t, exec .peekCmd s = .next t ∧ RomAnswered r stBadParam [] s t) ∧
    (leNat b % 4 = 0 → 0x10000000 ≤ leNat b → leNat b + 4 ≤ 0x10400000 → mustWait s 4 (leNat b) = true →
      ∃ t, exec .peekCmd s = .next t ∧ t.fyz.reqs = s.fyz.reqs ∧ t.fyz.job = some ⟨[(leNat b, none)], [], true⟩)) ∧
  (∀ (r : FyzReq) (a v : Nat) (d : List Nat) (e : Bool) (rest : List FyzReq) (s : State), s.fyz.reqs = r :: rest →
    mgmtUp s = true → r.port < 5 → portEn s r.port = true → s.fyz.store = none → s.fyz.job = some ⟨[(a, none)], d, true⟩ →
    (s.portAt 4).reading = false → (s.portAt 4).resp = some ⟨v, e⟩ →
    RomAnswered r (if e then stBadParam else stOk) (if e then [] else d ++ leBytes 4 v) s (jobTick s))

/-- Sessions and keys: OPEN with an enabled host key starts a session with CTR 0, its key derived from both nonces (R465; nonce
and SID of the device are free values, log entry 5), and is refused LOCKOUT, BAD_PARAM or KEY_STATE else (R463, R468); CLOSE ends it
(R468); a key goes to an empty record and is enabled, an enabled one is revoked for good (R422, R464); MINSECVER rises (R422);
LOGCLEAR hides what was logged before (R480). Image upload: IMGBEGIN takes a free slot to WRITING for its session, IMGWRITE stores its
bytes, IMGEND leaves the slot TRIAL when every check of R416 passes and EMPTY with the check's status when one fails, IMGCONFIRM
makes the applied TRIED slot GOOD, IMGERASE a free slot EMPTY; each is refused as R473 says (R469, R473). The answer of a command that
programs MRAM goes when its words are programmed, MRAM_FAIL when one failed (R462, R463; log entry 103). -/
def Obligations.RomKeysAndImages : Prop :=
  (∀ (r : FyzReq) (i : Nat) (nh : List Nat) (s : State), RomAsked s 0x01 r (i :: nh) → nh.length = 16 → i < 4 →
    hostKeyState s i = 1 → (s.fport r.port).lockUntil = none → ∃ t sid nd, exec .openSession s = .next t ∧
      RomAnswered r stOk (leBytes 4 sid ++ nd) s t ∧ nd.length = 16 ∧ (t.fport r.port).session =
        some ⟨sessionKey (s.loadBytes (hostKeyAddr i) 32) nh nd (leBytes 4 sid), sid, 0, s.now, 0⟩) ∧
  (∀ (r : FyzReq) (s : State), RomAsked s 0x02 r [] → ∃ t, exec .closeSession s = .next t ∧ RomAnswered r stOk [] s t ∧
    (t.fport r.port).session = none ∧ SameRegs (Fields [.PMG_DOMSTAT_DIRTY]) s t) ∧
  (∀ (r : FyzReq) (i : Nat) (k : List Nat) (s : State), k.length = 32 → (∀ x ∈ k, x < 256) → i < 4 →
    domOn s 18 = true ∨ s.pw.held = [] →
    (RomAsked s 0x03 r (i :: k) → hostKeyState s i = 0 → ∃ t, exec .hkeySet s = .next t ∧ RomStored r [] s t ∧
      hostKeyState t i = 1 ∧ t.loadBytes (hostKeyAddr i) 32 = k) ∧
    (RomAsked s 0x05 r (i :: k) → keyState s i = 0 → ∃ t, exec .imgKeySet s = .next t ∧ RomStored r [] s t ∧
      keyState t i = 1 ∧ t.loadBytes (keyRecord i) 32 = k)) ∧
  (∀ (r : FyzReq) (i : Nat) (s : State), i < 4 → domOn s 18 = true ∨ s.pw.held = [] →
    (RomAsked s 0x04 r [i] → hostKeyState s i = 1 → ∃ t, exec .hkeyRevoke s = .next t ∧ RomStored r [] s t ∧
      hostKeyState t i = 2) ∧
    (RomAsked s 0x06 r [i] → keyState s i = 1 → ∃ t, exec .imgKeyRevoke s = .next t ∧ RomStored r [] s t ∧
      keyState t i = 2)) ∧
  (∀ (r : FyzReq) (b : List Nat) (s : State), RomAsked s 0x07 r b → b.length = 2 → domOn s 18 = true ∨ s.pw.held = [] →
    (minSecver s ≤ fieldAt b 0 2 → ∃ t, exec .secverSet s = .next t ∧ RomStored r [] s t ∧
      minSecver t = fieldAt b 0 2) ∧
    (fieldAt b 0 2 < minSecver s → ∃ t, exec .secverSet s = .next t ∧ RomReplied r stBadParam [] s t)) ∧
  (∀ (r : FyzReq) (s : State), RomAsked s 0x82 r [] → ∃ t, exec .logClear s = .next t ∧ RomStored r [] s t ∧
    t.logFrom = s.logSeq ∧ t.logSeq = s.logSeq + 1 ∧ SameRegs (Fields [.PMG_DOMSTAT_DIRTY]) s t) ∧
  (∀ (r : FyzReq) (b : List Nat) (sid : Nat) (s : State), RomAsked s 0x11 r b → b.length = 5 → sidOf s r = some sid →
    s.fyz.upload.any (fun u => u.2.2 != sid) = false → slotFree s (b.headD 0) = true → partnerWrites s (b.headD 0) = false →
    fieldAt b 1 4 ≤ 0x1FFFC0 → domOn s 18 = true ∨ s.pw.held = [] → ∃ t, exec .imgBegin s = .next t ∧ RomStored r [] s t ∧
      slotState t (b.headD 0) = 1 ∧ t.flag (slotWe (b.headD 0)) = true ∧
      t.fyz.upload = some (b.headD 0, fieldAt b 1 4, sid)) ∧
  (∀ (r : FyzReq) (b : List Nat) (n len : Nat) (s : State), RomAsked s 0x12 r b → uploadOf s r = some (n, len) →
    b.length % 8 = 4 → 12 ≤ b.length → b.length ≤ 1004 → fieldAt b 0 4 % 8 = 0 → fieldAt b 0 4 + (b.length - 4) ≤ len →
    s.flag (slotWe n) = true → domOn s 18 = true → ∃ t, exec .imgWrite s = .next t ∧ RomStored r [] s t ∧
      (∀ i, i < b.length - 4 → t.byteAt (imgBase n + fieldAt b 0 4 + i) = b.getD (4 + i) 0 % 256) ∧
      SameMem (fun a => imgBase n + fieldAt b 0 4 ≤ a ∧ a < imgBase n + fieldAt b 0 4 + (b.length - 4)) s t ∧
      SameRegs (Fields [.PMG_DOMSTAT_DIRTY]) s t) ∧
  (∀ (r : FyzReq) (n len : Nat) (s : State), RomAsked s 0x13 r [n] → uploadOf s r = some (n, len) → n < 2 → domOn s 18 = true →
    (endStatus s n = stOk → ∃ t, exec .imgEnd s = .next t ∧ RomStored r ((imgDigest s n).take 8) s t ∧
      slotState t n = 2 ∧ t.fyz.upload = none) ∧
    (endStatus s n ≠ stOk → ∃ t, exec .imgEnd s = .next t ∧ RomAnswered r (endStatus s n) [] s t ∧ slotState t n = 0 ∧
      t.fyz.upload = none)) ∧
  (∀ (r : FyzReq) (s : State), RomAsked s 0x14 r [] → s.img.applied = true → s.img.slot < 2 → slotState s s.img.slot = 3 →
    domOn s 18 = true ∨ s.pw.held = [] →
    ∃ t, exec .imgConfirm s = .next t ∧ RomStored r [s.img.slot] s t ∧ slotState t s.img.slot = 4) ∧
  (∀ (r : FyzReq) (n : Nat) (s : State), RomAsked s 0x15 r [n] → slotFree s n = true → partnerWrites s n = false →
    domOn s 18 = true →
    ∃ t, exec .imgErase s = .next t ∧ RomStored r [] s t ∧ slotState t n = 0 ∧
      (∀ u, t.fyz.upload = some u → u.1 ≠ n) ∧ SameRegs (Fields [.PMG_DOMSTAT_DIRTY]) s t) ∧
  (∀ (r : FyzReq) (i d : Nat) (nh : List Nat) (s : State), RomAsked s 0x01 r (i :: nh) → nh.length = 16 →
    ((s.fport r.port).lockUntil = some d → s.now < d → ∃ t, exec .openSession s = .next t ∧ RomReplied r stLockout [] s t) ∧
    ((s.fport r.port).lockUntil = none → 4 ≤ i → ∃ t, exec .openSession s = .next t ∧ RomReplied r stBadParam [] s t) ∧
    ((s.fport r.port).lockUntil = none → i < 4 → hostKeyState s i ≠ 1 →
      ∃ t, exec .openSession s = .next t ∧ RomReplied r stKeyState [] s t)) ∧
  (∀ (r : FyzReq) (i : Nat) (k : List Nat) (s : State), k.length = 32 →
    (RomAsked s 0x03 r (i :: k) → ∀ st, 4 ≤ i ∧ st = stBadParam ∨ i < 4 ∧ hostKeyState s i ≠ 0 ∧ st = stKeyState →
      ∃ t, exec .hkeySet s = .next t ∧ RomReplied r st [] s t) ∧
    (RomAsked s 0x05 r (i :: k) → ∀ st, 4 ≤ i ∧ st = stBadParam ∨ i < 4 ∧ keyState s i ≠ 0 ∧ st = stKeyState →
      ∃ t, exec .imgKeySet s = .next t ∧ RomReplied r st [] s t) ∧
    (RomAsked s 0x04 r [i] → ∀ st, 4 ≤ i ∧ st = stBadParam ∨ i < 4 ∧ hostKeyState s i ≠ 1 ∧ st = stKeyState →
      ∃ t, exec .hkeyRevoke s = .next t ∧ RomReplied r st [] s t) ∧
    (RomAsked s 0x06 r [i] → ∀ st, 4 ≤ i ∧ st = stBadParam ∨ i < 4 ∧ keyState s i ≠ 1 ∧ st = stKeyState →
      ∃ t, exec .imgKeyRevoke s = .next t ∧ RomReplied r st [] s t)) ∧
  (∀ (r : FyzReq) (b : List Nat) (sid n len : Nat) (s : State),
    (RomAsked s 0x11 r b → b.length = 5 → sidOf s r = some sid → s.fyz.upload = some (n, len, sid + 1) →
      ∃ t, exec .imgBegin s = .next t ∧ RomReplied r stBusy [] s t) ∧
    (RomAsked s 0x11 r b → b.length = 5 → sidOf s r = some sid → s.fyz.upload = none → slotFree s (b.headD 0) = false →
      ∃ t, exec .imgBegin s = .next t ∧ RomReplied r stImgSlot [] s t) ∧
    (RomAsked s 0x11 r b → b.length = 5 → sidOf s r = some sid → s.fyz.upload = none → slotFree s (b.headD 0) = true →
      partnerWrites s (b.headD 0) = false → 0x1FFFC0 < fieldAt b 1 4 →
      ∃ t, exec .imgBegin s = .next t ∧ RomReplied r stImgRange [] s t) ∧
    (RomAsked s 0x12 r b → b.length % 8 = 4 → 12 ≤ b.length → b.length ≤ 1004 → uploadOf s r = none →
      ∃ t, exec .imgWrite s = .next t ∧ RomReplied r stBadState [] s t) ∧
    (RomAsked s 0x12 r b → b.length % 8 = 4 → 12 ≤ b.length → b.length ≤ 1004 → uploadOf s r = some (n, len) →
      fieldAt b 0 4 % 8 ≠ 0 ∨ len < fieldAt b 0 4 + (b.length - 4) →
      ∃ t, exec .imgWrite s = .next t ∧ RomReplied r stImgRange [] s t) ∧
    (RomAsked s 0x13 r [n] → uploadOf s r = none → ∃ t, exec .imgEnd s = .next t ∧ RomReplied r stBadState [] s t) ∧
    (RomAsked s 0x14 r [] → s.img.applied = false ∨ slotState s s.img.slot ≠ 3 →
      ∃ t, exec .imgConfirm s = .next t ∧ RomReplied r stImgSlot [] s t) ∧
    (RomAsked s 0x15 r [n] → slotFree s n = false → ∃ t, exec .imgErase s = .next t ∧ RomReplied r stImgSlot [] s t)) ∧
  (∀ (r : FyzReq) (st : Nat) (d : List Nat) (e : Bool) (s : State), s.fyz.store = some ⟨r, st, d, e⟩ →
    (s.pw.mramBuf = [] → mgmtUp s = true → r.port < 5 → portEn s r.port = true →
      Outgoing (storeTick s) r.port (replyPacket r (if e then stMramFail else st) (if e then [] else d)) ∧
        (storeTick s).fyz.store = none) ∧
    (s.pw.mramBuf ≠ [] → storeTick s = s))

/-- Setpoints, budgets, limits and settings: SPSET writes the named lane register, or stages the value while the lane is enabled,
PAIRANG and PAIREN their pair's configuration where it stays valid, NOTICECFG the port's mask, BUDGETSET and HOLD the budgets and
holds, THERMCFG a class in order, THERMEXIT leaves the shut-down state when every sensor is below its warning level, XFER asks for a
transfer, DEBUGEN opens or closes debugging (R411, R412, R436, R446, R469 to R471). Each is refused, changing nothing, with a value out
of range, and XFER, SPSET and THERMEXIT where R470 and R471 say so. -/
def Obligations.RomSettings : Prop :=
  (∀ (r : FyzReq) (n : Nat) (v : List Nat) (s : State), RomAsked s 0x20 r (n :: v) → v.length = 6 →
    spEnabled s n = true → spInRange s n (leNat v) = true → s.role ≠ roleStandby → s.role ≠ roleJoining →
    domOn s (addrDomain (regAddr .LANE_CTRL (spLane s n))) = true → s.flag .LANE_CTRL_EN (spLane s n) = false →
    (s.laneAt (spLane s n)).stage = [] → ∃ t, exec .spSet s = .next t ∧ RomAnswered r stOk [] s t ∧
      t.lreg (spLane s n) (spReg s n) = leNat v % 2 ^ 48 ∧ t.mem = s.mem) ∧
  (∀ (r : FyzReq) (s : State), RomAsked s 0x31 r [] → domOn s 15 = true → s.flag .LAE_XSTAT_BUSY = false →
    s.flag .LAE_XSTAT_NONE = false → qualified s (1 - loadFeed s) = true → ∃ t, exec .xferCmd s = .next t ∧
      RomAnswered r stOk [] s t ∧ t.fget .LAE_XSTAT_BUSY = 1 ∧ t.xfer.step = 2) ∧
  (∀ (r : FyzReq) (s : State), RomAsked s 0x31 r [] → s.flag .LAE_XSTAT_BUSY = true → ∃ t, exec .xferCmd s = .next t ∧
    RomReplied r stBadState [] s t) ∧
  (∀ (r : FyzReq) (j : Fin 12) (v : List Nat) (s : State), RomAsked s 0x32 r (j.val :: v) → v.length = 4 → domOn s 15 = true →
    pairValid (s.writeNamed .LAE_PAIR_ANG (leNat v) j) j = true → ∃ t, exec .pairAng s = .next t ∧
      RomAnswered r stOk [] s t ∧ t.fget .LAE_PAIR_ANG_ALPHA j = bits (leNat v) 0 16 ∧
      t.fget .LAE_PAIR_ANG_END j = bits (leNat v) 16 16 ∧
      SameRegs (fun k => FieldsAt [.LAE_PAIR_ANG_ALPHA, .LAE_PAIR_ANG_END] j k ∨ k.f = .PMG_DOMSTAT_DIRTY) s t) ∧
  (∀ (r : FyzReq) (j : Fin 12) (s : State), RomAsked s 0x33 r [j.val, 1] → domOn s 15 = true → Regs.wf s.regs = true →
    pairValid s j = true → ∃ t, exec .pairEnCmd s = .next t ∧ RomAnswered r stOk [] s t ∧ pairEn t j = true ∧
      SameRegs (fun k => FieldsAt [.LAE_PAIR_CFG_EN] j k ∨ k.f = .PMG_DOMSTAT_DIRTY) s t) ∧
  (∀ (r : FyzReq) (m : Nat) (s : State), RomAsked s 0x44 r [m] → ∃ t, exec .noticeCfg s = .next t ∧
    RomAnswered r stOk [] s t ∧ t.fget .FYZ_PORT_CFG_NOTMASK r.port = m % 2 ^ 8 ∧
    SameRegs (fun k => FieldsAt [.FYZ_PORT_CFG_NOTMASK] r.port k ∨ k.f = .PMG_DOMSTAT_DIRTY) s t) ∧
  (∀ (r : FyzReq) (v : Fin 8) (u : List Nat) (s : State), RomAsked s 0x50 r (v.val :: u) → u.length = 4 → domOn s 0 = true →
    ∃ t, exec .budgetSet s = .next t ∧ RomAnswered r stOk [] s t ∧ t.fget .PMG_BUDGET_US v = leNat u ∧
      SameRegs (fun k => FieldsAt [.PMG_BUDGET_US] v k ∨ k.f = .PMG_DOMSTAT_DIRTY) s t) ∧
  (∀ (r : FyzReq) (set clr : Nat) (v : Fin 8) (s : State), RomAsked s 0x52 r [set, clr] → set < 256 → clr < 256 →
    domOn s 0 = true → ∃ t, exec .holdCmd s = .next t ∧ RomAnswered r stOk [] s t ∧
      t.fbit .PMG_HOLD_HOLD v = ((s.fbit .PMG_HOLD_HOLD v || bit set v) && !bit clr v)) ∧
  (∀ (r : FyzReq) (c : Fin 3) (b : List Nat) (s : State), RomAsked s 0x60 r (c.val :: b) → b.length = 11 →
    fieldAt b 9 2 < 1024 → domOn s 0 = true →
    (classOk (thermCfgOp s c (c.val :: b)) c = true → ∃ t, exec .thermCfg s = .next t ∧ RomAnswered r stOk [] s t ∧
      t.fget .CUP_CLASS_THRA_WARN c = fieldAt b 0 2 ∧ t.fget .CUP_CLASS_THRA_THROT c = fieldAt b 2 2 ∧
      t.fget .CUP_CLASS_THRB_SHUT c = fieldAt b 4 2 ∧ t.fget .CUP_CFG_GRACE = fieldAt b 9 2 ∧
      t.fget .CUP_CLASS_HYST_HW c = fieldAt b 6 1 % 2 ^ Fld.len .CUP_CLASS_HYST_HW ∧
      t.fget .CUP_CLASS_HYST_HT c = fieldAt b 7 1 % 2 ^ Fld.len .CUP_CLASS_HYST_HT ∧
      t.fget .CUP_CLASS_HYST_HS c = fieldAt b 8 1 % 2 ^ Fld.len .CUP_CLASS_HYST_HS) ∧
    (classOk (thermCfgOp s c (c.val :: b)) c = false → ∃ t, exec .thermCfg s = .next t ∧ RomReplied r stBadParam [] s t)) ∧
  (∀ (r : FyzReq) (s : State), RomAsked s 0x61 r [] → domOn s 0 = true →
    (thermClear s = true → s.flag .CUP_STAT_SHUT = true → ∃ t, exec .thermExit s = .next t ∧ RomAnswered r stOk [] s t ∧
      t.fget .CUP_STAT_SHUT = 0) ∧
    (thermClear s = false → ∃ t, exec .thermExit s = .next t ∧ RomReplied r stThermNotClear [] s t)) ∧
  (∀ (r : FyzReq) (b : Nat) (s : State), RomAsked s 0xF6 r [b] → b < 2 → domOn s 17 = true →
    ∃ t, exec .debugEn s = .next t ∧ RomAnswered r stOk [] s t ∧ t.fget .FYZ_DBG_EN = b ∧ t.fget .FYZ_STAT_DBG = b) ∧
  (∀ (r : FyzReq) (n : Nat) (v : List Nat) (s : State), RomAsked s 0x20 r (n :: v) → v.length = 6 →
    (spEnabled s n = false ∨ spInRange s n (leNat v) = false →
      ∃ t, exec .spSet s = .next t ∧ RomReplied r stBadParam [] s t) ∧
    (spEnabled s n = true → spInRange s n (leNat v) = true → s.role = roleStandby ∨ s.role = roleJoining →
      ∃ t, exec .spSet s = .next t ∧ RomReplied r stBadState [] s t) ∧
    (spEnabled s n = true → spInRange s n (leNat v) = true → s.role ≠ roleStandby → s.role ≠ roleJoining →
      domOn s (addrDomain (regAddr .LANE_CTRL (spLane s n))) = true → s.flag .LANE_CTRL_EN (spLane s n) = true →
      laneBetween s (spLane s n) = false → (s.laneAt (spLane s n)).stage.length < 16 → ∃ t, exec .spSet s = .next t ∧
        RomAnswered r stOk [] s t ∧ t.flag .LANE_CTRL_APPLY (spLane s n) = true ∧
        (t.laneAt (spLane s n)).stage = (s.laneAt (spLane s n)).stage ++ [(spReg s n, leNat v % 2 ^ 48)])) ∧
  (∀ (r : FyzReq) (n : Nat) (b : List Nat) (s : State),
    (RomAsked s 0x32 r (n :: b) → b.length = 4 → 12 ≤ n → ∃ t, exec .pairAng s = .next t ∧ RomReplied r stBadParam [] s t) ∧
    (RomAsked s 0x33 r (n :: b) → b.length = 1 → 12 ≤ n ∨ 2 ≤ b.headD 0 % 256 →
      ∃ t, exec .pairEnCmd s = .next t ∧ RomReplied r stBadParam [] s t) ∧
    (RomAsked s 0x50 r (n :: b) → b.length = 4 → 8 ≤ n → ∃ t, exec .budgetSet s = .next t ∧ RomReplied r stBadParam [] s t) ∧
    (RomAsked s 0x60 r (n :: b) → b.length = 11 → 3 ≤ n ∨ 1024 ≤ fieldAt b 9 2 →
      ∃ t, exec .thermCfg s = .next t ∧ RomReplied r stBadParam [] s t) ∧
    (RomAsked s 0xF6 r [n] → 2 ≤ n → ∃ t, exec .debugEn s = .next t ∧ RomReplied r stBadParam [] s t)) ∧
  (∀ (r : FyzReq) (j : Fin 12) (s : State), RomAsked s 0x33 r [j.val, 0] → domOn s 15 = true → Regs.wf s.regs = true →
    ∃ t, exec .pairEnCmd s = .next t ∧ RomAnswered r stOk [] s t ∧ pairEn t j = false) ∧
  (∀ (r : FyzReq) (s : State), RomAsked s 0x31 r [] → domOn s 15 = true → s.flag .LAE_XSTAT_BUSY = false →
    s.flag .LAE_XSTAT_NONE = true ∨ qualified s (1 - loadFeed s) = false → ∃ t, exec .xferCmd s = .next t ∧
      RomAnswered r stOk [] s t ∧ t.flag .LAE_XSTAT_REFUSED = true ∧ pended t 106 = true)

/-- Pairing and stops: HANDOVER begins one that R392 allows and refuses another, DETACH and ATTACH move the role (R383, R392);
RESUME sets the DRV bits, and is refused BAD_STATE without an image (R470, R476); RESET is due 1 ms later (R470); POKE stores when it is
enabled and is refused BAD_STATE else (R470). The safety state machine answers STATUS, RELEASE detaches, and is refused BAD_STATE where
there is no pair, and ESTOP clears the DRV bits of its scope with no PWM output on at the interlock; a port outside SAFEPORTS and a wrong
payload are refused (R474 to R477). -/
def Obligations.RomPairingAndSafety : Prop :=
  (∀ (r : FyzReq) (s : State), RomAsked s 0x72 r [] → domOn s 16 = true →
    (handoverOk s = true → ∃ t, exec .handoverCmd s = .next t ∧ RomAnswered r stOk [] s t ∧ t.twin.hand = true) ∧
    (handoverOk s = false → ∃ t, exec .handoverCmd s = .next t ∧ RomAnswered r stPairRefused [] s t ∧ t.twin = s.twin)) ∧
  (∀ (r : FyzReq) (s : State), RomAsked s 0x73 r [] → domOn s 16 = true →
    s.role = rolePrimary ∨ s.role = roleStandby ∨ s.role = roleJoining →
    ∃ t, exec .detachCmd s = .next t ∧ RomAnswered r stOk [] s t ∧ t.role = roleDetached) ∧
  (∀ (r : FyzReq) (s : State), RomAsked s 0x74 r [] → domOn s 16 = true → s.role = roleDetached →
    s.twin.pRole = rolePrimary → linkUp s = true →
    s.flag .CUP_STAT_SHUT = false → ∃ t, exec .attachCmd s = .next t ∧ RomAnswered r stOk [] s t ∧ t.role = roleJoining) ∧
  (∀ (r : FyzReq) (n : Nat) (s : State), RomAsked s 0xF1 r [n] → n < 4 → s.img.applied = true → domOn s 10 = true →
    domOn s 15 = true → domOn s 17 = true →
    ∃ t, exec .resumeCmd s = .next t ∧ RomAnswered r stOk [] s t ∧
      t.fget .PWM_DRIVE_DRV = (if bit n 0 then 1 else s.fget .PWM_DRIVE_DRV) ∧
      t.fget .LAE_DRIVE_DRV = (if bit n 1 then 1 else s.fget .LAE_DRIVE_DRV) ∧
      t.fget .FYZ_STAT_ESTOPPWM = (if bit n 0 then 0 else s.fget .FYZ_STAT_ESTOPPWM) ∧
      t.fget .FYZ_STAT_ESTOPLAE = (if bit n 1 then 0 else s.fget .FYZ_STAT_ESTOPLAE)) ∧
  (∀ (r : FyzReq) (s : State), RomAsked s 0xF2 r [] → ∃ t, exec .resetCmd s = .next t ∧ RomAnswered r stOk [] s t ∧
    t.fyz.resetAt = some s.now ∧ t.regs = s.regs) ∧
  (∀ (r : FyzReq) (b : List Nat) (s : State), RomAsked s 0xF4 r b → b.length = 8 →
    (s.flag .FYZ_CFG_POKEEN = true → 0x10000000 ≤ fieldAt b 0 4 → fieldAt b 0 4 + 4 ≤ 0x10400000 → fieldAt b 0 4 % 4 = 0 →
      domOn s (addrDomain (fieldAt b 0 4)) = true → mustWait s 4 (fieldAt b 0 4) = false →
      s.upsetAt (slotBaseOf (fieldAt b 0 4)) = none → ∃ t, exec .pokeCmd s = .next t ∧
        RomAnswered r stOk [] s t ∧ t.loadMem (fieldAt b 0 4) 4 = fieldAt b 4 4 ∧
        SameMem (fun a => fieldAt b 0 4 ≤ a ∧ a < fieldAt b 0 4 + 4) s t) ∧
    (s.flag .FYZ_CFG_POKEEN = false → ∃ t, exec .pokeCmd s = .next t ∧ RomReplied r stBadState [] s t)) ∧
  (∀ (r : FyzReq) (s : State), SafeAsked s 0x40 r [] → ∃ t, exec .statusCmd s = .next t ∧
    SafeAnswered r stOk (regBytes s .TTH_STAT ++ regBytes s .CUP_STAT ++ regBytes s .PMG_BOOTSTAT ++ regBytes s .LAE_XSTAT ++
      regBytes s .FYZ_STAT ++ leBytes 8 s.ltc ++ [s.fget .PWM_DRIVE_DRV + 2 * s.fget .LAE_DRIVE_DRV, 0, 0, 0]) s t ∧
    t = { s with fyz := t.fyz }) ∧
  (∀ (r : FyzReq) (s : State), SafeAsked s 0x70 r [] → safePort s r.port = true → domOn s 16 = true →
    s.role = rolePrimary ∨ s.role = roleStandby ∨ s.role = roleJoining →
    ∃ t, exec .releaseCmd s = .next t ∧ SafeAnswered r stOk [roleDetached] s t ∧ t.role = roleDetached ∧
      pended t 151 = true) ∧
  (∀ (r : FyzReq) (n m : Nat) (s : State), SafeAsked s 0xF0 r [0x5A, 0xA5, n, m] → n < 4 → m = 255 - n →
    safePort s r.port = true → domOn s 10 = true → domOn s 15 = true →
    ∃ t, exec .estopCmd s = .next t ∧ SafeAnswered r stOk [] s t ∧
      t.fget .PWM_DRIVE_DRV = (if bit n 0 then 0 else s.fget .PWM_DRIVE_DRV) ∧
      t.fget .LAE_DRIVE_DRV = (if bit n 1 then 0 else s.fget .LAE_DRIVE_DRV) ∧
      t.fget .FYZ_STAT_ESTOPPWM = (if bit n 0 then 1 else s.fget .FYZ_STAT_ESTOPPWM) ∧
      t.fget .FYZ_STAT_ESTOPLAE = (if bit n 1 then 1 else s.fget .FYZ_STAT_ESTOPLAE) ∧ pended t 150 = true ∧
      (bit n 0 = true → ∀ (x : Fin 24) (low : Bool), (outAt t x low).on = false)) ∧
  (∀ (r : FyzReq) (b : List Nat) (s : State), safePort s r.port = false →
    (SafeAsked s 0x70 r b → ∃ t, exec .releaseCmd s = .next t ∧ SafeAnswered r stPortDenied [] s t ∧
      t = { s with fyz := t.fyz }) ∧
    (SafeAsked s 0xF0 r b → ∃ t, exec .estopCmd s = .next t ∧ SafeAnswered r stPortDenied [] s t ∧
      t = { s with fyz := t.fyz })) ∧
  (∀ (r : FyzReq) (n : Nat) (s : State), RomAsked s 0xF1 r [n] →
    (4 ≤ n → ∃ t, exec .resumeCmd s = .next t ∧ RomReplied r stBadParam [] s t) ∧
    (n < 4 → s.img.applied = false → ∃ t, exec .resumeCmd s = .next t ∧ RomReplied r stBadState [] s t)) ∧
  (∀ (r : FyzReq) (b : List Nat) (s : State),
    (SafeAsked s 0x40 r b → b ≠ [] → ∃ t, exec .statusCmd s = .next t ∧ SafeAnswered r stBadLen [] s t) ∧
    (SafeAsked s 0x70 r b → safePort s r.port = true → b ≠ [] →
      ∃ t, exec .releaseCmd s = .next t ∧ SafeAnswered r stBadLen [] s t) ∧
    (SafeAsked s 0x70 r [] → safePort s r.port = true → s.role = roleSolo ∨ s.role = roleInit →
      ∃ t, exec .releaseCmd s = .next t ∧ SafeAnswered r stBadState [] s t ∧ t.role = s.role) ∧
    (SafeAsked s 0xF0 r b → safePort s r.port = true → b.length ≠ 4 ∨ b.take 2 ≠ [0x5A, 0xA5] ∨ 4 ≤ b.getD 2 0 ∨
      b.getD 3 0 ≠ 255 - b.getD 2 0 →
      ∃ t, exec .estopCmd s = .next t ∧ SafeAnswered r stBadParam [] s t ∧ t = { s with fyz := t.fyz })) ∧
  (∀ (s : State), s.fyz.safe = [] →
    exec .statusCmd s = .next s ∧ exec .releaseCmd s = .next s ∧ exec .estopCmd s = .next s) ∧
  (∀ (r : FyzReq) (s : State), domOn s 16 = true →
    (RomAsked s 0x73 r [] → s.role = roleInit ∨ s.role = roleSolo ∨ s.role = roleDetached →
      ∃ t, exec .detachCmd s = .next t ∧ RomAnswered r stOk [] s t ∧ t.role = s.role) ∧
    (RomAsked s 0x74 r [] → s.role ≠ roleDetached ∨ s.twin.pRole ≠ rolePrimary ∨ linkUp s = false ∨
      s.flag .CUP_STAT_SHUT = true → ∃ t, exec .attachCmd s = .next t ∧ RomAnswered r stOk [] s t ∧ t.role = s.role))

/-! ### Fyzal: PMBus and JTAG -/

/-- PMBus: a served read returns what R482 lists for its command and page, and changes nothing else, but that a snapshot more than 10 ms old
is first found stale; a reading the snapshot does not hold is a free value; a command or page that is not listed, and a reading
without a valid source, set STATUS_CML bit 7 and return 0xFF bytes (R482, R483), a wrong PEC sets bit 5, and with PECREQ a transaction
without PEC is not served (R481). PAGE and CLEAR_FAULTS write; ALERT_RESPONSE releases PMB_ALERTN, SMBUS_TIMEOUT resets the
interface. PMBUS_SNAPSHOT is taken each millisecond, of the sources' Saddle words once they are read; SNAPSHOT_STALE after 10 (R482).
JTAG: IDCODE is always served; EXTEST, SAMPLE, DEBUG and SYSRESET act while FYZ_DBG.EN is 1 and as BYPASS while it is 0 (R484); an end of
a debug session breaks the debugger's locks (R353). None acts while a device reset is asserted. -/
def Obligations.PmbusAndJtag : Prop :=
  (∀ (x : PmbXfer) (s : State), pmbServed s x = true → x.write = none →
    exec (.pmbCapability x) s = .next (pmbOut (staleOp s) [0xD0]) ∧ exec (.pmbRevision x) s = .next (pmbOut (staleOp s) [0x44]) ∧
    exec (.pmbMfrId x) s = .next (pmbOut (staleOp s) [5, 0x4C, 0x55, 0x41, 0x54, 0x49]) ∧
    exec (.pmbMfrModel x) s = .next (pmbOut (staleOp s) (if Config.gradeE then [7, 0x43, 0x58, 0x39, 0x36, 0x30, 0x2D, 0x45]
      else [5, 0x43, 0x58, 0x39, 0x36, 0x30])) ∧
    (∃ d : List Nat, exec (.pmbMfrRevision x) s = .next (pmbOut (staleOp s) (4 :: d)) ∧ d.length = 4 ∧
      ∀ c ∈ d, 0x30 ≤ c ∧ c ≤ 0x39) ∧
    exec (.pmbPage x) s = .next (pmbOut (staleOp s) [s.pmb.page]) ∧
    exec (.pmbStatusByte x) s = .next (pmbOut (staleOp s) [vget (staleOp s).pmb.word s.pmb.page % 256]) ∧
    exec (.pmbStatusWord x) s = .next (pmbOut (staleOp s) (leBytes 2 (vget (staleOp s).pmb.word s.pmb.page))) ∧
    exec (.pmbStatusTemperature x) s = .next (pmbOut (staleOp s) [vget s.pmb.temp s.pmb.page]) ∧
    exec (.pmbStatusCml x) s = .next (pmbOut (staleOp s) [vget (staleOp s).pmb.cml s.pmb.page]) ∧
    (2 ≤ s.pmb.page → exec (.pmbStatusIout x) s = .next (pmbOut (staleOp s) [vget s.pmb.iout s.pmb.page]) ∧
      exec (.pmbVoutMode x) s = .next (pmbOut (staleOp s) [if s.pmb.page = 2 then 0x1A else 0x17])) ∧
    (s.pmb.page < 2 → exec (.pmbStatusInput x) s = .next (pmbOut (staleOp s) [vget s.pmb.input s.pmb.page]))) ∧
  (∀ (x : PmbXfer) (v : Nat) (s : State), pmbServed s x = true → x.write = none →
    (∀ n : Fin 3, s.pmb.readings.find? (fun r => r.1 == s.pmb.page && r.2.1 == 0x8D + n.val) = some (s.pmb.page, 0x8D + n.val, v) →
      exec (.pmbReadTemperature n x) s = .next (pmbOut (staleOp s) (leBytes 2 v))) ∧
    (s.pmb.page < 2 → ∀ c, s.pmb.readings.find? (fun r => r.1 == s.pmb.page && r.2.1 == c) = some (s.pmb.page, c, v) →
      (c = 0x88 → exec (.pmbReadVin x) s = .next (pmbOut (staleOp s) (leBytes 2 v))) ∧
      (c = 0x89 → exec (.pmbReadIin x) s = .next (pmbOut (staleOp s) (leBytes 2 v))) ∧
      (c = 0x95 → exec (.pmbReadFrequency x) s = .next (pmbOut (staleOp s) (leBytes 2 v))) ∧
      (c = 0x97 → exec (.pmbReadPin x) s = .next (pmbOut (staleOp s) (leBytes 2 v)))) ∧
    (2 ≤ s.pmb.page → ∀ c, s.pmb.readings.find? (fun r => r.1 == s.pmb.page && r.2.1 == c) = some (s.pmb.page, c, v) →
      (sourcesOf s.pmb.page c).all (s.flag .FYZ_PMB_SRC_EN ·) = true →
      (c = 0x8B → exec (.pmbReadVout x) s = .next (pmbOut (staleOp s) (leBytes 2 v))) ∧
      (c = 0x8C → exec (.pmbReadIout x) s = .next (pmbOut (staleOp s) (leBytes 2 v))) ∧
      (c = 0x96 → exec (.pmbReadPout x) s = .next (pmbOut (staleOp s) (leBytes 2 v))))) ∧
  (∀ (x : PmbXfer) (code : Nat) (s : State), pmbServed s x = true → x.write = none → s.pmb.page < 4 →
    (pmbCodes.contains code = false → ∃ t, exec (.pmbUnsupported code x) s = .next t ∧
      bit (vget t.pmb.cml s.pmb.page) 7 = true ∧ bit (vget t.pmb.word s.pmb.page) 1 = true ∧
      t.pmb.out = List.replicate 32 0xFF ∧ t = { s with fyz := t.fyz }) ∧
    (s.pmb.page < 2 → ∃ t, exec (.pmbVoutMode x) s = .next t ∧ bit (vget t.pmb.cml s.pmb.page) 7 = true ∧
      t.pmb.out = List.replicate 32 0xFF)) ∧
  (∀ (x : PmbXfer) (v : Nat) (s : State), pmbServed s x = true → x.write = some [v] →
    (v < 4 → ∃ t, exec (.pmbPage x) s = .next t ∧ t.pmb.page = v ∧ t = { s with fyz := t.fyz }) ∧
    (4 ≤ v → s.pmb.page < 4 → ∃ t, exec (.pmbPage x) s = .next t ∧ t.pmb.page = s.pmb.page ∧
      bit (vget t.pmb.cml s.pmb.page) 6 = true)) ∧
  (∀ (x : PmbXfer) (s : State), pmbServed s x = true → x.write = some [] →
    ∃ t, exec (.pmbClearFaults x) s = .next t ∧ vget t.pmb.word s.pmb.page = 0 ∧ vget t.pmb.cml s.pmb.page = 0 ∧
      vget t.pmb.iout s.pmb.page = 0 ∧ vget t.pmb.input s.pmb.page = 0 ∧ vget t.pmb.temp s.pmb.page = 0 ∧
      bit t.pmb.alert s.pmb.page = false ∧ pended t 152 = true) ∧
  (∀ (x : PmbXfer) (s : State), pmbLive s = true → x.pec = some false → s.pmb.page < 4 →
    ∃ t, exec (.pmbCapability x) s = .next t ∧ bit (vget t.pmb.cml s.pmb.page) 5 = true) ∧
  (∀ (s : State), pmbLive s = true → s.pmb.alert ≠ 0 →
    ∃ t, exec .alertResponse s = .next t ∧ alertPin t = true ∧ t.pmb.out = [2 * s.fget .FYZ_PMB_CFG_ADDR] ∧
      t = { s with fyz := t.fyz }) ∧
  (∀ (s : State), exec .smbusTimeout s = .next (pmbOut s [])) ∧
  (∀ (s : State), mgmtUp s = true → s.clockOn 17 = true → s.pmb.asked = false → srcsDue s = false →
    s.pmb.snapAt.all (fun t => decide (t + msTicks ≤ s.now)) = true → pmbEnabled s = [] →
    ∃ t, exec .pmbusSnapshot s = .next t ∧ t.pmb.snapAt = some s.now ∧ t.pmb.stale = false ∧
      (s.fget .CUP_STAT_LEVEL = 3 → ∀ p : Fin 4, bit (vget t.pmb.temp p) 7 = true ∧ bit (vget t.pmb.word p) 2 = true) ∧
      t = { s with fyz := t.fyz, free := s.free + 1 }) ∧
  (∀ (a : Nat) (s : State), s.pmb.snapAt = some a → s.clockOn 17 = true → s.pmb.stale = false →
    (a + 10 * msTicks < s.now → ∃ t, exec .snapshotStale s = .next t ∧ t.pmb.stale = true ∧
      ∀ p : Fin 4, bit (vget t.pmb.cml p) 1 = true ∧ bit (vget t.pmb.word p) 8 = true) ∧
    (s.now ≤ a + 10 * msTicks → exec .snapshotStale s = .next s)) ∧
  (∀ (s : State), s.pw.rst = none →
    ∃ t, exec .jtagIdcode s = .next t ∧ t.jtag.ir = 0x02 ∧ t.jtag.dr = 0x1096054D ∧ t.jtag.debug = false) ∧
  (∀ (v : Nat) (s : State), s.pw.rst = none → s.flag .FYZ_DBG_EN = true →
    (∃ t, exec (.jtagExtest v) s = .next t ∧ t.jtag.ir = 0x00 ∧ t.jtag.boundary = v ∧ t.mem = s.mem) ∧
    (∃ t, exec (.jtagSample v) s = .next t ∧ t.jtag.ir = 0x01 ∧ t.jtag.boundary = v ∧ t.mem = s.mem) ∧
    (∃ t, exec .jtagDebug s = .next t ∧ t.jtag.ir = 0x08 ∧ t.jtag.debug = true ∧ t = { s with fyz := t.fyz }) ∧
    (∃ t, exec .jtagSysreset s = .next t ∧ t.pw.rst = some 2 ∧ outputsOff t = true)) ∧
  (∀ (v : Nat) (s : State), s.pw.rst = none → s.flag .FYZ_DBG_EN = false →
    (∃ t, exec (.jtagExtest v) s = .next t ∧ t.jtag.ir = 0x1F ∧ t.jtag.dr = 0 ∧ t.jtag.boundary = s.jtag.boundary) ∧
    (∃ t, exec .jtagSysreset s = .next t ∧ t.jtag.ir = 0x1F ∧ t.pw = s.pw)) ∧
  (∀ (s : State), s.pw.rst = none →
    ∃ t, exec (.jtagBypass 0x1F) s = .next t ∧ t.jtag.ir = 0x1F ∧ t.jtag.dr = 0 ∧ t.mem = s.mem) ∧
  (∀ (b : Bool) (s : State), s.pw.rst = none → s.jtag.debug = true →
    ∃ t, exec (.debugSessionEnd b) s = .next t ∧ t.jtag.debug = false ∧ t.fget .ADC_BANK_ACTWR = 0 ∧
      ∀ l : Fin 64, ¬(t.flag .LCK_STAT_HELD l = true ∧ t.fget .LCK_STAT_OWNMST l = 9)) ∧
  (∀ (x : PmbXfer) (n : Fin 3) (i : Instr) (s : State), i ∈ [.pmbCapability x, .pmbVoutMode x, .pmbStatusByte x, .pmbStatusWord x,
      .pmbStatusIout x, .pmbStatusInput x, .pmbStatusTemperature x, .pmbStatusCml x, .pmbReadVin x, .pmbReadIin x, .pmbReadVout x,
      .pmbReadIout x, .pmbReadTemperature n x, .pmbReadFrequency x, .pmbReadPout x, .pmbReadPin x, .pmbRevision x, .pmbMfrId x,
      .pmbMfrModel x, .pmbMfrRevision x, .pmbPage x, .pmbClearFaults x] →
    (pmbLive s = false → exec i s = .next s) ∧
    (pmbLive s = true → x.pec = some false → s.pmb.page < 4 → ∃ t, exec i s = .next t ∧
      bit (vget t.pmb.cml s.pmb.page) 5 = true ∧ (x.write = none → t.pmb.out = List.replicate 32 0xFF) ∧
      t = { s with fyz := t.fyz }) ∧
    (pmbLive s = true → x.pec = none → s.flag .FYZ_PMB_CFG_PECREQ = true → x.write = none →
      exec i s = .next (pmbOut (staleOp s) (List.replicate 32 0xFF)))) ∧
  (∀ (x : PmbXfer) (i : Instr) (s : State), pmbServed s x = true → s.pmb.page < 4 →
    (x.write ≠ none → i ∈ [.pmbCapability x, .pmbVoutMode x, .pmbStatusByte x, .pmbStatusWord x, .pmbReadVin x, .pmbReadVout x] →
      ∃ t, exec i s = .next t ∧ bit (vget t.pmb.cml s.pmb.page) 7 = true ∧ t.pmb.out = s.pmb.out ∧ t = { s with fyz := t.fyz }) ∧
    (x.write = none → 2 ≤ s.pmb.page →
      i ∈ [.pmbStatusInput x, .pmbReadVin x, .pmbReadIin x, .pmbReadFrequency x, .pmbReadPin x, .pmbClearFaults x] →
      ∃ t, exec i s = .next t ∧ bit (vget t.pmb.cml s.pmb.page) 7 = true ∧ t.pmb.out = List.replicate 32 0xFF) ∧
    (x.write = none → s.pmb.page < 2 → i ∈ [.pmbStatusIout x, .pmbReadVout x, .pmbReadIout x, .pmbReadPout x] →
      ∃ t, exec i s = .next t ∧ bit (vget t.pmb.cml s.pmb.page) 7 = true ∧ t.pmb.out = List.replicate 32 0xFF) ∧
    (x.write = none → 2 ≤ s.pmb.page → s.flag .FYZ_PMB_SRC_EN (2 * (s.pmb.page - 2)) = false →
      i ∈ [.pmbReadVout x, .pmbReadPout x] →
      ∃ t, exec i s = .next t ∧ bit (vget t.pmb.cml s.pmb.page) 7 = true ∧ t.pmb.out = List.replicate 32 0xFF) ∧
    (x.write = none → s.pmb.page < 2 → s.pmb.readings = [] →
      i ∈ [.pmbReadVin x, .pmbReadIin x, .pmbReadFrequency x, .pmbReadPin x] →
      ∃ t, exec i s = .next t ∧ t.pmb.out.length = 2)) ∧
  (∀ (s : State), mgmtUp s = true → s.clockOn 17 = true → s.pmb.asked = false → srcsDue s = false →
    s.pmb.snapAt.all (fun t => decide (t + msTicks ≤ s.now)) = true → pmbEnabled s ≠ [] →
    ∃ t, exec .pmbusSnapshot s = .next t ∧ t.pmb.asked = true ∧ srcsDue t = true ∧ t.mem = s.mem ∧ t.regs = s.regs) ∧
  (∀ (s : State), s.pmb.asked = true → srcsDue s = false → (pmbTick s).pmb.snapAt = some s.now ∧
    (pmbTick s).pmb.asked = false ∧ (pmbTick s).pmb.stale = false) ∧
  (∀ (x : PmbXfer) (code : Nat) (s : State),
    (mgmtUp s = false ∨ s.clockOn 17 = false ∨ s.pmb.asked = true ∨ srcsDue s = true ∨
      s.pmb.snapAt.any (fun t => decide (s.now < t + msTicks)) = true → exec .pmbusSnapshot s = .next s) ∧
    (pmbLive s = false ∨ s.pmb.alert = 0 → exec .alertResponse s = .next s) ∧
    (s.clockOn 17 = false ∨ s.pmb.stale = true → exec .snapshotStale s = .next s) ∧
    (pmbLive s = false → exec (.pmbUnsupported code x) s = .next s) ∧
    (pmbServed s x = true → x.write ≠ none → s.pmb.page < 4 → pmbCodes.contains code = false →
      ∃ t, exec (.pmbUnsupported code x) s = .next t ∧ bit (vget t.pmb.cml s.pmb.page) 7 = true ∧ t.pmb.out = s.pmb.out)) ∧
  (∀ (v : Nat) (b : Bool) (s : State), s.pw.rst ≠ none → exec .jtagIdcode s = .next s ∧ exec (.jtagExtest v) s = .next s ∧
    exec (.jtagSample v) s = .next s ∧ exec .jtagDebug s = .next s ∧ exec .jtagSysreset s = .next s ∧
    exec (.jtagBypass v) s = .next s ∧ exec (.debugSessionEnd b) s = .next s) ∧
  (∀ (v : Nat) (s : State), s.pw.rst = none → [0x00, 0x01, 0x02, 0x08, 0x09].contains (v % 32) = false →
    ∃ t, exec (.jtagBypass v) s = .next t ∧ t.jtag.ir = 0x1F ∧ t.jtag.dr = 0 ∧ t.jtag.debug = false)
end

