-- ==== Sys2Proof/Laws/State.lean ====
section
/-! SUPPORT. Each update of the state, field by field: what it leaves, true by unfolding. No later proof unfolds an update. -/

namespace Sys2Proof.Machine

/-! ### Derived updates, in terms of the basic ones -/

@[simp] theorem State.fput_eq (s : State) (f : Fld) (b : Bool) (i j : Nat) : s.fput f b i j = s.fset f (b2n b) i j := rfl
@[simp] theorem State.fbitSet_eq (s : State) (f : Fld) (k : Nat) (b : Bool) (i j : Nat) :
    s.fbitSet f k b i j = s.fset f (setBit (s.fget f i j) k b) i j := rfl
@[simp] theorem State.fcount_eq (s : State) (f : Fld) (i j n : Nat) :
    s.fcount f i j n = s.fset f (satInc f.len (s.fget f i j) n) i j := rfl
@[simp] theorem State.respond_eq (s : State) (m d : Nat) (e : Bool) :
    s.respond m d e = s.setPort m { s.portAt m with resp := some ⟨d, e⟩, reading := false } := rfl

/-! ### `fset` -/

@[simp] theorem State.fset_now (s : State) (f : Fld) (v i j : Nat) : (s.fset f v i j).now = s.now := rfl
@[simp] theorem State.fset_ltc (s : State) (f : Fld) (v i j : Nat) : (s.fset f v i j).ltc = s.ltc := rfl
@[simp] theorem State.fset_free (s : State) (f : Fld) (v i j : Nat) : (s.fset f v i j).free = s.free := rfl
@[simp] theorem State.fset_mem (s : State) (f : Fld) (v i j : Nat) : (s.fset f v i j).mem = s.mem := rfl
@[simp] theorem State.fset_memFree (s : State) (f : Fld) (v i j : Nat) : (s.fset f v i j).memFree = s.memFree := rfl
@[simp] theorem State.fset_upsets (s : State) (f : Fld) (v i j : Nat) : (s.fset f v i j).upsets = s.upsets := rfl
@[simp] theorem State.fset_hwSets (s : State) (f : Fld) (v i j : Nat) : (s.fset f v i j).hwSets = s.hwSets := rfl
@[simp] theorem State.fset_port (s : State) (f : Fld) (v i j : Nat) : (s.fset f v i j).port = s.port := rfl
@[simp] theorem State.fset_bank (s : State) (f : Fld) (v i j : Nat) : (s.fset f v i j).bank = s.bank := rfl
@[simp] theorem State.fset_sdlSeq (s : State) (f : Fld) (v i j : Nat) : (s.fset f v i j).sdlSeq = s.sdlSeq := rfl
@[simp] theorem State.fset_portRank (s : State) (f : Fld) (v i j : Nat) : (s.fset f v i j).portRank = s.portRank := rfl
@[simp] theorem State.fset_dma (s : State) (f : Fld) (v i j : Nat) : (s.fset f v i j).dma = s.dma := rfl
@[simp] theorem State.fset_lane (s : State) (f : Fld) (v i j : Nat) : (s.fset f v i j).lane = s.lane := rfl
@[simp] theorem State.fset_dutyq (s : State) (f : Fld) (v i j : Nat) : (s.fset f v i j).dutyq = s.dutyq := rfl
@[simp] theorem State.fset_dutyNext (s : State) (f : Fld) (v i j : Nat) : (s.fset f v i j).dutyNext = s.dutyNext := rfl
@[simp] theorem State.fset_hrn (s : State) (f : Fld) (v i j : Nat) : (s.fset f v i j).hrn = s.hrn := rfl
@[simp] theorem State.fset_core (s : State) (f : Fld) (v i j : Nat) : (s.fset f v i j).core = s.core := rfl
@[simp] theorem State.fset_shadowIn (s : State) (f : Fld) (v i j : Nat) : (s.fset f v i j).shadowIn = s.shadowIn := rfl
@[simp] theorem State.fset_syncIn (s : State) (f : Fld) (v i j : Nat) : (s.fset f v i j).syncIn = s.syncIn := rfl
@[simp] theorem State.fset_windowIn (s : State) (f : Fld) (v i j : Nat) : (s.fset f v i j).windowIn = s.windowIn := rfl
@[simp] theorem State.fset_sar (s : State) (f : Fld) (v i j : Nat) : (s.fset f v i j).sar = s.sar := rfl
@[simp] theorem State.fset_armed (s : State) (f : Fld) (v i j : Nat) : (s.fset f v i j).armed = s.armed := rfl
@[simp] theorem State.fset_occ (s : State) (f : Fld) (v i j : Nat) : (s.fset f v i j).occ = s.occ := rfl
@[simp] theorem State.fset_scaleDecl (s : State) (f : Fld) (v i j : Nat) : (s.fset f v i j).scaleDecl = s.scaleDecl := rfl
@[simp] theorem State.fset_copyEnd (s : State) (f : Fld) (v i j : Nat) : (s.fset f v i j).copyEnd = s.copyEnd := rfl
@[simp] theorem State.fset_slotHeld (s : State) (f : Fld) (v i j : Nat) : (s.fset f v i j).slotHeld = s.slotHeld := rfl
@[simp] theorem State.fset_sdmOver (s : State) (f : Fld) (v i j : Nat) : (s.fset f v i j).sdmOver = s.sdmOver := rfl
@[simp] theorem State.fset_trigs (s : State) (f : Fld) (v i j : Nat) : (s.fset f v i j).trigs = s.trigs := rfl
@[simp] theorem State.fset_meter (s : State) (f : Fld) (v i j : Nat) : (s.fset f v i j).meter = s.meter := rfl
@[simp] theorem State.fset_meterWin (s : State) (f : Fld) (v i j : Nat) : (s.fset f v i j).meterWin = s.meterWin := rfl
@[simp] theorem State.fset_energyRem (s : State) (f : Fld) (v i j : Nat) : (s.fset f v i j).energyRem = s.energyRem := rfl
@[simp] theorem State.fset_cmp (s : State) (f : Fld) (v i j : Nat) : (s.fset f v i j).cmp = s.cmp := rfl
@[simp] theorem State.fset_pairUv (s : State) (f : Fld) (v i j : Nat) : (s.fset f v i j).pairUv = s.pairUv := rfl
@[simp] theorem State.fset_trip (s : State) (f : Fld) (v i j : Nat) : (s.fset f v i j).trip = s.trip := rfl
@[simp] theorem State.fset_rawPast (s : State) (f : Fld) (v i j : Nat) : (s.fset f v i j).rawPast = s.rawPast := rfl
@[simp] theorem State.fset_pinPast (s : State) (f : Fld) (v i j : Nat) : (s.fset f v i j).pinPast = s.pinPast := rfl
@[simp] theorem State.fset_reinPast (s : State) (f : Fld) (v i j : Nat) : (s.fset f v i j).reinPast = s.reinPast := rfl
@[simp] theorem State.fset_reinTick (s : State) (f : Fld) (v i j : Nat) : (s.fset f v i j).reinTick = s.reinTick := rfl
@[simp] theorem State.fset_reinPrev (s : State) (f : Fld) (v i j : Nat) : (s.fset f v i j).reinPrev = s.reinPrev := rfl
@[simp] theorem State.fset_chan (s : State) (f : Fld) (v i j : Nat) : (s.fset f v i j).chan = s.chan := rfl
@[simp] theorem State.fset_spr (s : State) (f : Fld) (v i j : Nat) : (s.fset f v i j).spr = s.spr := rfl
@[simp] theorem State.fset_angHist (s : State) (f : Fld) (v i j : Nat) : (s.fset f v i j).angHist = s.angHist := rfl
@[simp] theorem State.fset_feed (s : State) (f : Fld) (v i j : Nat) : (s.fset f v i j).feed = s.feed := rfl
@[simp] theorem State.fset_pair (s : State) (f : Fld) (v i j : Nat) : (s.fset f v i j).pair = s.pair := rfl
@[simp] theorem State.fset_xfer (s : State) (f : Fld) (v i j : Nat) : (s.fset f v i j).xfer = s.xfer := rfl
@[simp] theorem State.fset_energised (s : State) (f : Fld) (v i j : Nat) : (s.fset f v i j).energised = s.energised := rfl
@[simp] theorem State.fset_tmr (s : State) (f : Fld) (v i j : Nat) : (s.fset f v i j).tmr = s.tmr := rfl
@[simp] theorem State.fset_routeAt (s : State) (f : Fld) (v i j : Nat) : (s.fset f v i j).routeAt = s.routeAt := rfl
@[simp] theorem State.fset_lockPast (s : State) (f : Fld) (v i j : Nat) : (s.fset f v i j).lockPast = s.lockPast := rfl
@[simp] theorem State.fset_monEdge (s : State) (f : Fld) (v i j : Nat) : (s.fset f v i j).monEdge = s.monEdge := rfl
@[simp] theorem State.fset_monArmed (s : State) (f : Fld) (v i j : Nat) : (s.fset f v i j).monArmed = s.monArmed := rfl
@[simp] theorem State.fset_monQuiet (s : State) (f : Fld) (v i j : Nat) : (s.fset f v i j).monQuiet = s.monQuiet := rfl
@[simp] theorem State.fset_snsBall (s : State) (f : Fld) (v i j : Nat) : (s.fset f v i j).snsBall = s.snsBall := rfl
@[simp] theorem State.fset_snsLevel (s : State) (f : Fld) (v i j : Nat) : (s.fset f v i j).snsLevel = s.snsLevel := rfl
@[simp] theorem State.fset_snsRun (s : State) (f : Fld) (v i j : Nat) : (s.fset f v i j).snsRun = s.snsRun := rfl
@[simp] theorem State.fset_snap (s : State) (f : Fld) (v i j : Nat) : (s.fset f v i j).snap = s.snap := rfl
@[simp] theorem State.fset_twin (s : State) (f : Fld) (v i j : Nat) : (s.fset f v i j).twin = s.twin := rfl
@[simp] theorem State.fset_img (s : State) (f : Fld) (v i j : Nat) : (s.fset f v i j).img = s.img := rfl
@[simp] theorem State.fset_partnerRd (s : State) (f : Fld) (v i j : Nat) : (s.fset f v i j).partnerRd = s.partnerRd := rfl
@[simp] theorem State.fset_pw (s : State) (f : Fld) (v i j : Nat) : (s.fset f v i j).pw = s.pw := rfl
@[simp] theorem State.fset_cupS (s : State) (f : Fld) (v i j : Nat) : (s.fset f v i j).cupS = s.cupS := rfl
@[simp] theorem State.fset_cupGrace (s : State) (f : Fld) (v i j : Nat) : (s.fset f v i j).cupGrace = s.cupGrace := rfl
@[simp] theorem State.fset_cupDefer (s : State) (f : Fld) (v i j : Nat) : (s.fset f v i j).cupDefer = s.cupDefer := rfl
@[simp] theorem State.fset_cupBelow (s : State) (f : Fld) (v i j : Nat) : (s.fset f v i j).cupBelow = s.cupBelow := rfl
@[simp] theorem State.fset_limLast (s : State) (f : Fld) (v i j : Nat) : (s.fset f v i j).limLast = s.limLast := rfl
@[simp] theorem State.fset_limNext (s : State) (f : Fld) (v i j : Nat) : (s.fset f v i j).limNext = s.limNext := rfl
@[simp] theorem State.fset_cupRec (s : State) (f : Fld) (v i j : Nat) : (s.fset f v i j).cupRec = s.cupRec := rfl
@[simp] theorem State.fset_notices (s : State) (f : Fld) (v i j : Nat) : (s.fset f v i j).notices = s.notices := rfl
@[simp] theorem State.fset_noticeSeq (s : State) (f : Fld) (v i j : Nat) : (s.fset f v i j).noticeSeq = s.noticeSeq := rfl
@[simp] theorem State.fset_logSeq (s : State) (f : Fld) (v i j : Nat) : (s.fset f v i j).logSeq = s.logSeq := rfl
@[simp] theorem State.fset_logFrom (s : State) (f : Fld) (v i j : Nat) : (s.fset f v i j).logFrom = s.logFrom := rfl
@[simp] theorem State.fset_fyz (s : State) (f : Fld) (v i j : Nat) : (s.fset f v i j).fyz = s.fyz := rfl
@[simp] theorem State.fset_pending (s : State) (f : Fld) (v i j : Nat) : (s.fset f v i j).pending = s.pending := rfl

/-! ### `resetFields` -/

@[simp] theorem State.resetFields_now (s : State) (p : FKey → Bool) : (s.resetFields p).now = s.now := rfl
@[simp] theorem State.resetFields_ltc (s : State) (p : FKey → Bool) : (s.resetFields p).ltc = s.ltc := rfl
@[simp] theorem State.resetFields_free (s : State) (p : FKey → Bool) : (s.resetFields p).free = s.free := rfl
@[simp] theorem State.resetFields_mem (s : State) (p : FKey → Bool) : (s.resetFields p).mem = s.mem := rfl
@[simp] theorem State.resetFields_memFree (s : State) (p : FKey → Bool) : (s.resetFields p).memFree = s.memFree := rfl
@[simp] theorem State.resetFields_upsets (s : State) (p : FKey → Bool) : (s.resetFields p).upsets = s.upsets := rfl
@[simp] theorem State.resetFields_hwSets (s : State) (p : FKey → Bool) : (s.resetFields p).hwSets = s.hwSets := rfl
@[simp] theorem State.resetFields_port (s : State) (p : FKey → Bool) : (s.resetFields p).port = s.port := rfl
@[simp] theorem State.resetFields_bank (s : State) (p : FKey → Bool) : (s.resetFields p).bank = s.bank := rfl
@[simp] theorem State.resetFields_sdlSeq (s : State) (p : FKey → Bool) : (s.resetFields p).sdlSeq = s.sdlSeq := rfl
@[simp] theorem State.resetFields_portRank (s : State) (p : FKey → Bool) : (s.resetFields p).portRank = s.portRank := rfl
@[simp] theorem State.resetFields_dma (s : State) (p : FKey → Bool) : (s.resetFields p).dma = s.dma := rfl
@[simp] theorem State.resetFields_lane (s : State) (p : FKey → Bool) : (s.resetFields p).lane = s.lane := rfl
@[simp] theorem State.resetFields_dutyq (s : State) (p : FKey → Bool) : (s.resetFields p).dutyq = s.dutyq := rfl
@[simp] theorem State.resetFields_dutyNext (s : State) (p : FKey → Bool) : (s.resetFields p).dutyNext = s.dutyNext := rfl
@[simp] theorem State.resetFields_hrn (s : State) (p : FKey → Bool) : (s.resetFields p).hrn = s.hrn := rfl
@[simp] theorem State.resetFields_core (s : State) (p : FKey → Bool) : (s.resetFields p).core = s.core := rfl
@[simp] theorem State.resetFields_shadowIn (s : State) (p : FKey → Bool) : (s.resetFields p).shadowIn = s.shadowIn := rfl
@[simp] theorem State.resetFields_syncIn (s : State) (p : FKey → Bool) : (s.resetFields p).syncIn = s.syncIn := rfl
@[simp] theorem State.resetFields_windowIn (s : State) (p : FKey → Bool) : (s.resetFields p).windowIn = s.windowIn := rfl
@[simp] theorem State.resetFields_sar (s : State) (p : FKey → Bool) : (s.resetFields p).sar = s.sar := rfl
@[simp] theorem State.resetFields_armed (s : State) (p : FKey → Bool) : (s.resetFields p).armed = s.armed := rfl
@[simp] theorem State.resetFields_occ (s : State) (p : FKey → Bool) : (s.resetFields p).occ = s.occ := rfl
@[simp] theorem State.resetFields_scaleDecl (s : State) (p : FKey → Bool) : (s.resetFields p).scaleDecl = s.scaleDecl := rfl
@[simp] theorem State.resetFields_copyEnd (s : State) (p : FKey → Bool) : (s.resetFields p).copyEnd = s.copyEnd := rfl
@[simp] theorem State.resetFields_slotHeld (s : State) (p : FKey → Bool) : (s.resetFields p).slotHeld = s.slotHeld := rfl
@[simp] theorem State.resetFields_sdmOver (s : State) (p : FKey → Bool) : (s.resetFields p).sdmOver = s.sdmOver := rfl
@[simp] theorem State.resetFields_trigs (s : State) (p : FKey → Bool) : (s.resetFields p).trigs = s.trigs := rfl
@[simp] theorem State.resetFields_meter (s : State) (p : FKey → Bool) : (s.resetFields p).meter = s.meter := rfl
@[simp] theorem State.resetFields_meterWin (s : State) (p : FKey → Bool) : (s.resetFields p).meterWin = s.meterWin := rfl
@[simp] theorem State.resetFields_energyRem (s : State) (p : FKey → Bool) : (s.resetFields p).energyRem = s.energyRem := rfl
@[simp] theorem State.resetFields_cmp (s : State) (p : FKey → Bool) : (s.resetFields p).cmp = s.cmp := rfl
@[simp] theorem State.resetFields_pairUv (s : State) (p : FKey → Bool) : (s.resetFields p).pairUv = s.pairUv := rfl
@[simp] theorem State.resetFields_trip (s : State) (p : FKey → Bool) : (s.resetFields p).trip = s.trip := rfl
@[simp] theorem State.resetFields_rawPast (s : State) (p : FKey → Bool) : (s.resetFields p).rawPast = s.rawPast := rfl
@[simp] theorem State.resetFields_pinPast (s : State) (p : FKey → Bool) : (s.resetFields p).pinPast = s.pinPast := rfl
@[simp] theorem State.resetFields_reinPast (s : State) (p : FKey → Bool) : (s.resetFields p).reinPast = s.reinPast := rfl
@[simp] theorem State.resetFields_reinTick (s : State) (p : FKey → Bool) : (s.resetFields p).reinTick = s.reinTick := rfl
@[simp] theorem State.resetFields_reinPrev (s : State) (p : FKey → Bool) : (s.resetFields p).reinPrev = s.reinPrev := rfl
@[simp] theorem State.resetFields_chan (s : State) (p : FKey → Bool) : (s.resetFields p).chan = s.chan := rfl
@[simp] theorem State.resetFields_spr (s : State) (p : FKey → Bool) : (s.resetFields p).spr = s.spr := rfl
@[simp] theorem State.resetFields_angHist (s : State) (p : FKey → Bool) : (s.resetFields p).angHist = s.angHist := rfl
@[simp] theorem State.resetFields_feed (s : State) (p : FKey → Bool) : (s.resetFields p).feed = s.feed := rfl
@[simp] theorem State.resetFields_pair (s : State) (p : FKey → Bool) : (s.resetFields p).pair = s.pair := rfl
@[simp] theorem State.resetFields_xfer (s : State) (p : FKey → Bool) : (s.resetFields p).xfer = s.xfer := rfl
@[simp] theorem State.resetFields_energised (s : State) (p : FKey → Bool) : (s.resetFields p).energised = s.energised := rfl
@[simp] theorem State.resetFields_tmr (s : State) (p : FKey → Bool) : (s.resetFields p).tmr = s.tmr := rfl
@[simp] theorem State.resetFields_routeAt (s : State) (p : FKey → Bool) : (s.resetFields p).routeAt = s.routeAt := rfl
@[simp] theorem State.resetFields_lockPast (s : State) (p : FKey → Bool) : (s.resetFields p).lockPast = s.lockPast := rfl
@[simp] theorem State.resetFields_monEdge (s : State) (p : FKey → Bool) : (s.resetFields p).monEdge = s.monEdge := rfl
@[simp] theorem State.resetFields_monArmed (s : State) (p : FKey → Bool) : (s.resetFields p).monArmed = s.monArmed := rfl
@[simp] theorem State.resetFields_monQuiet (s : State) (p : FKey → Bool) : (s.resetFields p).monQuiet = s.monQuiet := rfl
@[simp] theorem State.resetFields_snsBall (s : State) (p : FKey → Bool) : (s.resetFields p).snsBall = s.snsBall := rfl
@[simp] theorem State.resetFields_snsLevel (s : State) (p : FKey → Bool) : (s.resetFields p).snsLevel = s.snsLevel := rfl
@[simp] theorem State.resetFields_snsRun (s : State) (p : FKey → Bool) : (s.resetFields p).snsRun = s.snsRun := rfl
@[simp] theorem State.resetFields_snap (s : State) (p : FKey → Bool) : (s.resetFields p).snap = s.snap := rfl
@[simp] theorem State.resetFields_twin (s : State) (p : FKey → Bool) : (s.resetFields p).twin = s.twin := rfl
@[simp] theorem State.resetFields_img (s : State) (p : FKey → Bool) : (s.resetFields p).img = s.img := rfl
@[simp] theorem State.resetFields_partnerRd (s : State) (p : FKey → Bool) : (s.resetFields p).partnerRd = s.partnerRd := rfl
@[simp] theorem State.resetFields_pw (s : State) (p : FKey → Bool) : (s.resetFields p).pw = s.pw := rfl
@[simp] theorem State.resetFields_cupS (s : State) (p : FKey → Bool) : (s.resetFields p).cupS = s.cupS := rfl
@[simp] theorem State.resetFields_cupGrace (s : State) (p : FKey → Bool) : (s.resetFields p).cupGrace = s.cupGrace := rfl
@[simp] theorem State.resetFields_cupDefer (s : State) (p : FKey → Bool) : (s.resetFields p).cupDefer = s.cupDefer := rfl
@[simp] theorem State.resetFields_cupBelow (s : State) (p : FKey → Bool) : (s.resetFields p).cupBelow = s.cupBelow := rfl
@[simp] theorem State.resetFields_limLast (s : State) (p : FKey → Bool) : (s.resetFields p).limLast = s.limLast := rfl
@[simp] theorem State.resetFields_limNext (s : State) (p : FKey → Bool) : (s.resetFields p).limNext = s.limNext := rfl
@[simp] theorem State.resetFields_cupRec (s : State) (p : FKey → Bool) : (s.resetFields p).cupRec = s.cupRec := rfl
@[simp] theorem State.resetFields_notices (s : State) (p : FKey → Bool) : (s.resetFields p).notices = s.notices := rfl
@[simp] theorem State.resetFields_noticeSeq (s : State) (p : FKey → Bool) : (s.resetFields p).noticeSeq = s.noticeSeq := rfl
@[simp] theorem State.resetFields_logSeq (s : State) (p : FKey → Bool) : (s.resetFields p).logSeq = s.logSeq := rfl
@[simp] theorem State.resetFields_logFrom (s : State) (p : FKey → Bool) : (s.resetFields p).logFrom = s.logFrom := rfl
@[simp] theorem State.resetFields_fyz (s : State) (p : FKey → Bool) : (s.resetFields p).fyz = s.fyz := rfl
@[simp] theorem State.resetFields_pending (s : State) (p : FKey → Bool) : (s.resetFields p).pending = s.pending := rfl

/-! ### `setByte` -/

@[simp] theorem State.setByte_now (s : State) (a v : Nat) : (s.setByte a v).now = s.now := rfl
@[simp] theorem State.setByte_ltc (s : State) (a v : Nat) : (s.setByte a v).ltc = s.ltc := rfl
@[simp] theorem State.setByte_free (s : State) (a v : Nat) : (s.setByte a v).free = s.free := rfl
@[simp] theorem State.setByte_regs (s : State) (a v : Nat) : (s.setByte a v).regs = s.regs := rfl
@[simp] theorem State.setByte_memFree (s : State) (a v : Nat) : (s.setByte a v).memFree = s.memFree := rfl
@[simp] theorem State.setByte_upsets (s : State) (a v : Nat) : (s.setByte a v).upsets = s.upsets := rfl
@[simp] theorem State.setByte_hwSets (s : State) (a v : Nat) : (s.setByte a v).hwSets = s.hwSets := rfl
@[simp] theorem State.setByte_port (s : State) (a v : Nat) : (s.setByte a v).port = s.port := rfl
@[simp] theorem State.setByte_bank (s : State) (a v : Nat) : (s.setByte a v).bank = s.bank := rfl
@[simp] theorem State.setByte_sdlSeq (s : State) (a v : Nat) : (s.setByte a v).sdlSeq = s.sdlSeq := rfl
@[simp] theorem State.setByte_portRank (s : State) (a v : Nat) : (s.setByte a v).portRank = s.portRank := rfl
@[simp] theorem State.setByte_dma (s : State) (a v : Nat) : (s.setByte a v).dma = s.dma := rfl
@[simp] theorem State.setByte_lane (s : State) (a v : Nat) : (s.setByte a v).lane = s.lane := rfl
@[simp] theorem State.setByte_dutyq (s : State) (a v : Nat) : (s.setByte a v).dutyq = s.dutyq := rfl
@[simp] theorem State.setByte_dutyNext (s : State) (a v : Nat) : (s.setByte a v).dutyNext = s.dutyNext := rfl
@[simp] theorem State.setByte_hrn (s : State) (a v : Nat) : (s.setByte a v).hrn = s.hrn := rfl
@[simp] theorem State.setByte_core (s : State) (a v : Nat) : (s.setByte a v).core = s.core := rfl
@[simp] theorem State.setByte_shadowIn (s : State) (a v : Nat) : (s.setByte a v).shadowIn = s.shadowIn := rfl
@[simp] theorem State.setByte_syncIn (s : State) (a v : Nat) : (s.setByte a v).syncIn = s.syncIn := rfl
@[simp] theorem State.setByte_windowIn (s : State) (a v : Nat) : (s.setByte a v).windowIn = s.windowIn := rfl
@[simp] theorem State.setByte_sar (s : State) (a v : Nat) : (s.setByte a v).sar = s.sar := rfl
@[simp] theorem State.setByte_armed (s : State) (a v : Nat) : (s.setByte a v).armed = s.armed := rfl
@[simp] theorem State.setByte_occ (s : State) (a v : Nat) : (s.setByte a v).occ = s.occ := rfl
@[simp] theorem State.setByte_scaleDecl (s : State) (a v : Nat) : (s.setByte a v).scaleDecl = s.scaleDecl := rfl
@[simp] theorem State.setByte_copyEnd (s : State) (a v : Nat) : (s.setByte a v).copyEnd = s.copyEnd := rfl
@[simp] theorem State.setByte_slotHeld (s : State) (a v : Nat) : (s.setByte a v).slotHeld = s.slotHeld := rfl
@[simp] theorem State.setByte_sdmOver (s : State) (a v : Nat) : (s.setByte a v).sdmOver = s.sdmOver := rfl
@[simp] theorem State.setByte_trigs (s : State) (a v : Nat) : (s.setByte a v).trigs = s.trigs := rfl
@[simp] theorem State.setByte_meter (s : State) (a v : Nat) : (s.setByte a v).meter = s.meter := rfl
@[simp] theorem State.setByte_meterWin (s : State) (a v : Nat) : (s.setByte a v).meterWin = s.meterWin := rfl
@[simp] theorem State.setByte_energyRem (s : State) (a v : Nat) : (s.setByte a v).energyRem = s.energyRem := rfl
@[simp] theorem State.setByte_cmp (s : State) (a v : Nat) : (s.setByte a v).cmp = s.cmp := rfl
@[simp] theorem State.setByte_pairUv (s : State) (a v : Nat) : (s.setByte a v).pairUv = s.pairUv := rfl
@[simp] theorem State.setByte_trip (s : State) (a v : Nat) : (s.setByte a v).trip = s.trip := rfl
@[simp] theorem State.setByte_rawPast (s : State) (a v : Nat) : (s.setByte a v).rawPast = s.rawPast := rfl
@[simp] theorem State.setByte_pinPast (s : State) (a v : Nat) : (s.setByte a v).pinPast = s.pinPast := rfl
@[simp] theorem State.setByte_reinPast (s : State) (a v : Nat) : (s.setByte a v).reinPast = s.reinPast := rfl
@[simp] theorem State.setByte_reinTick (s : State) (a v : Nat) : (s.setByte a v).reinTick = s.reinTick := rfl
@[simp] theorem State.setByte_reinPrev (s : State) (a v : Nat) : (s.setByte a v).reinPrev = s.reinPrev := rfl
@[simp] theorem State.setByte_chan (s : State) (a v : Nat) : (s.setByte a v).chan = s.chan := rfl
@[simp] theorem State.setByte_spr (s : State) (a v : Nat) : (s.setByte a v).spr = s.spr := rfl
@[simp] theorem State.setByte_angHist (s : State) (a v : Nat) : (s.setByte a v).angHist = s.angHist := rfl
@[simp] theorem State.setByte_feed (s : State) (a v : Nat) : (s.setByte a v).feed = s.feed := rfl
@[simp] theorem State.setByte_pair (s : State) (a v : Nat) : (s.setByte a v).pair = s.pair := rfl
@[simp] theorem State.setByte_xfer (s : State) (a v : Nat) : (s.setByte a v).xfer = s.xfer := rfl
@[simp] theorem State.setByte_energised (s : State) (a v : Nat) : (s.setByte a v).energised = s.energised := rfl
@[simp] theorem State.setByte_tmr (s : State) (a v : Nat) : (s.setByte a v).tmr = s.tmr := rfl
@[simp] theorem State.setByte_routeAt (s : State) (a v : Nat) : (s.setByte a v).routeAt = s.routeAt := rfl
@[simp] theorem State.setByte_lockPast (s : State) (a v : Nat) : (s.setByte a v).lockPast = s.lockPast := rfl
@[simp] theorem State.setByte_monEdge (s : State) (a v : Nat) : (s.setByte a v).monEdge = s.monEdge := rfl
@[simp] theorem State.setByte_monArmed (s : State) (a v : Nat) : (s.setByte a v).monArmed = s.monArmed := rfl
@[simp] theorem State.setByte_monQuiet (s : State) (a v : Nat) : (s.setByte a v).monQuiet = s.monQuiet := rfl
@[simp] theorem State.setByte_snsBall (s : State) (a v : Nat) : (s.setByte a v).snsBall = s.snsBall := rfl
@[simp] theorem State.setByte_snsLevel (s : State) (a v : Nat) : (s.setByte a v).snsLevel = s.snsLevel := rfl
@[simp] theorem State.setByte_snsRun (s : State) (a v : Nat) : (s.setByte a v).snsRun = s.snsRun := rfl
@[simp] theorem State.setByte_snap (s : State) (a v : Nat) : (s.setByte a v).snap = s.snap := rfl
@[simp] theorem State.setByte_twin (s : State) (a v : Nat) : (s.setByte a v).twin = s.twin := rfl
@[simp] theorem State.setByte_img (s : State) (a v : Nat) : (s.setByte a v).img = s.img := rfl
@[simp] theorem State.setByte_partnerRd (s : State) (a v : Nat) : (s.setByte a v).partnerRd = s.partnerRd := rfl
@[simp] theorem State.setByte_pw (s : State) (a v : Nat) : (s.setByte a v).pw = s.pw := rfl
@[simp] theorem State.setByte_cupS (s : State) (a v : Nat) : (s.setByte a v).cupS = s.cupS := rfl
@[simp] theorem State.setByte_cupGrace (s : State) (a v : Nat) : (s.setByte a v).cupGrace = s.cupGrace := rfl
@[simp] theorem State.setByte_cupDefer (s : State) (a v : Nat) : (s.setByte a v).cupDefer = s.cupDefer := rfl
@[simp] theorem State.setByte_cupBelow (s : State) (a v : Nat) : (s.setByte a v).cupBelow = s.cupBelow := rfl
@[simp] theorem State.setByte_limLast (s : State) (a v : Nat) : (s.setByte a v).limLast = s.limLast := rfl
@[simp] theorem State.setByte_limNext (s : State) (a v : Nat) : (s.setByte a v).limNext = s.limNext := rfl
@[simp] theorem State.setByte_cupRec (s : State) (a v : Nat) : (s.setByte a v).cupRec = s.cupRec := rfl
@[simp] theorem State.setByte_notices (s : State) (a v : Nat) : (s.setByte a v).notices = s.notices := rfl
@[simp] theorem State.setByte_noticeSeq (s : State) (a v : Nat) : (s.setByte a v).noticeSeq = s.noticeSeq := rfl
@[simp] theorem State.setByte_logSeq (s : State) (a v : Nat) : (s.setByte a v).logSeq = s.logSeq := rfl
@[simp] theorem State.setByte_logFrom (s : State) (a v : Nat) : (s.setByte a v).logFrom = s.logFrom := rfl
@[simp] theorem State.setByte_fyz (s : State) (a v : Nat) : (s.setByte a v).fyz = s.fyz := rfl
@[simp] theorem State.setByte_pending (s : State) (a v : Nat) : (s.setByte a v).pending = s.pending := rfl

/-! ### `clearUpset` -/

@[simp] theorem State.clearUpset_now (s : State) (a : Nat) : (s.clearUpset a).now = s.now := rfl
@[simp] theorem State.clearUpset_ltc (s : State) (a : Nat) : (s.clearUpset a).ltc = s.ltc := rfl
@[simp] theorem State.clearUpset_free (s : State) (a : Nat) : (s.clearUpset a).free = s.free := rfl
@[simp] theorem State.clearUpset_regs (s : State) (a : Nat) : (s.clearUpset a).regs = s.regs := rfl
@[simp] theorem State.clearUpset_mem (s : State) (a : Nat) : (s.clearUpset a).mem = s.mem := rfl
@[simp] theorem State.clearUpset_memFree (s : State) (a : Nat) : (s.clearUpset a).memFree = s.memFree := rfl
@[simp] theorem State.clearUpset_hwSets (s : State) (a : Nat) : (s.clearUpset a).hwSets = s.hwSets := rfl
@[simp] theorem State.clearUpset_port (s : State) (a : Nat) : (s.clearUpset a).port = s.port := rfl
@[simp] theorem State.clearUpset_bank (s : State) (a : Nat) : (s.clearUpset a).bank = s.bank := rfl
@[simp] theorem State.clearUpset_sdlSeq (s : State) (a : Nat) : (s.clearUpset a).sdlSeq = s.sdlSeq := rfl
@[simp] theorem State.clearUpset_portRank (s : State) (a : Nat) : (s.clearUpset a).portRank = s.portRank := rfl
@[simp] theorem State.clearUpset_dma (s : State) (a : Nat) : (s.clearUpset a).dma = s.dma := rfl
@[simp] theorem State.clearUpset_lane (s : State) (a : Nat) : (s.clearUpset a).lane = s.lane := rfl
@[simp] theorem State.clearUpset_dutyq (s : State) (a : Nat) : (s.clearUpset a).dutyq = s.dutyq := rfl
@[simp] theorem State.clearUpset_dutyNext (s : State) (a : Nat) : (s.clearUpset a).dutyNext = s.dutyNext := rfl
@[simp] theorem State.clearUpset_hrn (s : State) (a : Nat) : (s.clearUpset a).hrn = s.hrn := rfl
@[simp] theorem State.clearUpset_core (s : State) (a : Nat) : (s.clearUpset a).core = s.core := rfl
@[simp] theorem State.clearUpset_shadowIn (s : State) (a : Nat) : (s.clearUpset a).shadowIn = s.shadowIn := rfl
@[simp] theorem State.clearUpset_syncIn (s : State) (a : Nat) : (s.clearUpset a).syncIn = s.syncIn := rfl
@[simp] theorem State.clearUpset_windowIn (s : State) (a : Nat) : (s.clearUpset a).windowIn = s.windowIn := rfl
@[simp] theorem State.clearUpset_sar (s : State) (a : Nat) : (s.clearUpset a).sar = s.sar := rfl
@[simp] theorem State.clearUpset_armed (s : State) (a : Nat) : (s.clearUpset a).armed = s.armed := rfl
@[simp] theorem State.clearUpset_occ (s : State) (a : Nat) : (s.clearUpset a).occ = s.occ := rfl
@[simp] theorem State.clearUpset_scaleDecl (s : State) (a : Nat) : (s.clearUpset a).scaleDecl = s.scaleDecl := rfl
@[simp] theorem State.clearUpset_copyEnd (s : State) (a : Nat) : (s.clearUpset a).copyEnd = s.copyEnd := rfl
@[simp] theorem State.clearUpset_slotHeld (s : State) (a : Nat) : (s.clearUpset a).slotHeld = s.slotHeld := rfl
@[simp] theorem State.clearUpset_sdmOver (s : State) (a : Nat) : (s.clearUpset a).sdmOver = s.sdmOver := rfl
@[simp] theorem State.clearUpset_trigs (s : State) (a : Nat) : (s.clearUpset a).trigs = s.trigs := rfl
@[simp] theorem State.clearUpset_meter (s : State) (a : Nat) : (s.clearUpset a).meter = s.meter := rfl
@[simp] theorem State.clearUpset_meterWin (s : State) (a : Nat) : (s.clearUpset a).meterWin = s.meterWin := rfl
@[simp] theorem State.clearUpset_energyRem (s : State) (a : Nat) : (s.clearUpset a).energyRem = s.energyRem := rfl
@[simp] theorem State.clearUpset_cmp (s : State) (a : Nat) : (s.clearUpset a).cmp = s.cmp := rfl
@[simp] theorem State.clearUpset_pairUv (s : State) (a : Nat) : (s.clearUpset a).pairUv = s.pairUv := rfl
@[simp] theorem State.clearUpset_trip (s : State) (a : Nat) : (s.clearUpset a).trip = s.trip := rfl
@[simp] theorem State.clearUpset_rawPast (s : State) (a : Nat) : (s.clearUpset a).rawPast = s.rawPast := rfl
@[simp] theorem State.clearUpset_pinPast (s : State) (a : Nat) : (s.clearUpset a).pinPast = s.pinPast := rfl
@[simp] theorem State.clearUpset_reinPast (s : State) (a : Nat) : (s.clearUpset a).reinPast = s.reinPast := rfl
@[simp] theorem State.clearUpset_reinTick (s : State) (a : Nat) : (s.clearUpset a).reinTick = s.reinTick := rfl
@[simp] theorem State.clearUpset_reinPrev (s : State) (a : Nat) : (s.clearUpset a).reinPrev = s.reinPrev := rfl
@[simp] theorem State.clearUpset_chan (s : State) (a : Nat) : (s.clearUpset a).chan = s.chan := rfl
@[simp] theorem State.clearUpset_spr (s : State) (a : Nat) : (s.clearUpset a).spr = s.spr := rfl
@[simp] theorem State.clearUpset_angHist (s : State) (a : Nat) : (s.clearUpset a).angHist = s.angHist := rfl
@[simp] theorem State.clearUpset_feed (s : State) (a : Nat) : (s.clearUpset a).feed = s.feed := rfl
@[simp] theorem State.clearUpset_pair (s : State) (a : Nat) : (s.clearUpset a).pair = s.pair := rfl
@[simp] theorem State.clearUpset_xfer (s : State) (a : Nat) : (s.clearUpset a).xfer = s.xfer := rfl
@[simp] theorem State.clearUpset_energised (s : State) (a : Nat) : (s.clearUpset a).energised = s.energised := rfl
@[simp] theorem State.clearUpset_tmr (s : State) (a : Nat) : (s.clearUpset a).tmr = s.tmr := rfl
@[simp] theorem State.clearUpset_routeAt (s : State) (a : Nat) : (s.clearUpset a).routeAt = s.routeAt := rfl
@[simp] theorem State.clearUpset_lockPast (s : State) (a : Nat) : (s.clearUpset a).lockPast = s.lockPast := rfl
@[simp] theorem State.clearUpset_monEdge (s : State) (a : Nat) : (s.clearUpset a).monEdge = s.monEdge := rfl
@[simp] theorem State.clearUpset_monArmed (s : State) (a : Nat) : (s.clearUpset a).monArmed = s.monArmed := rfl
@[simp] theorem State.clearUpset_monQuiet (s : State) (a : Nat) : (s.clearUpset a).monQuiet = s.monQuiet := rfl
@[simp] theorem State.clearUpset_snsBall (s : State) (a : Nat) : (s.clearUpset a).snsBall = s.snsBall := rfl
@[simp] theorem State.clearUpset_snsLevel (s : State) (a : Nat) : (s.clearUpset a).snsLevel = s.snsLevel := rfl
@[simp] theorem State.clearUpset_snsRun (s : State) (a : Nat) : (s.clearUpset a).snsRun = s.snsRun := rfl
@[simp] theorem State.clearUpset_snap (s : State) (a : Nat) : (s.clearUpset a).snap = s.snap := rfl
@[simp] theorem State.clearUpset_twin (s : State) (a : Nat) : (s.clearUpset a).twin = s.twin := rfl
@[simp] theorem State.clearUpset_img (s : State) (a : Nat) : (s.clearUpset a).img = s.img := rfl
@[simp] theorem State.clearUpset_partnerRd (s : State) (a : Nat) : (s.clearUpset a).partnerRd = s.partnerRd := rfl
@[simp] theorem State.clearUpset_pw (s : State) (a : Nat) : (s.clearUpset a).pw = s.pw := rfl
@[simp] theorem State.clearUpset_cupS (s : State) (a : Nat) : (s.clearUpset a).cupS = s.cupS := rfl
@[simp] theorem State.clearUpset_cupGrace (s : State) (a : Nat) : (s.clearUpset a).cupGrace = s.cupGrace := rfl
@[simp] theorem State.clearUpset_cupDefer (s : State) (a : Nat) : (s.clearUpset a).cupDefer = s.cupDefer := rfl
@[simp] theorem State.clearUpset_cupBelow (s : State) (a : Nat) : (s.clearUpset a).cupBelow = s.cupBelow := rfl
@[simp] theorem State.clearUpset_limLast (s : State) (a : Nat) : (s.clearUpset a).limLast = s.limLast := rfl
@[simp] theorem State.clearUpset_limNext (s : State) (a : Nat) : (s.clearUpset a).limNext = s.limNext := rfl
@[simp] theorem State.clearUpset_cupRec (s : State) (a : Nat) : (s.clearUpset a).cupRec = s.cupRec := rfl
@[simp] theorem State.clearUpset_notices (s : State) (a : Nat) : (s.clearUpset a).notices = s.notices := rfl
@[simp] theorem State.clearUpset_noticeSeq (s : State) (a : Nat) : (s.clearUpset a).noticeSeq = s.noticeSeq := rfl
@[simp] theorem State.clearUpset_logSeq (s : State) (a : Nat) : (s.clearUpset a).logSeq = s.logSeq := rfl
@[simp] theorem State.clearUpset_logFrom (s : State) (a : Nat) : (s.clearUpset a).logFrom = s.logFrom := rfl
@[simp] theorem State.clearUpset_fyz (s : State) (a : Nat) : (s.clearUpset a).fyz = s.fyz := rfl
@[simp] theorem State.clearUpset_pending (s : State) (a : Nat) : (s.clearUpset a).pending = s.pending := rfl

/-! ### `drawn` -/

@[simp] theorem State.drawn_now (s : State) : s.drawn.now = s.now := rfl
@[simp] theorem State.drawn_ltc (s : State) : s.drawn.ltc = s.ltc := rfl
@[simp] theorem State.drawn_regs (s : State) : s.drawn.regs = s.regs := rfl
@[simp] theorem State.drawn_mem (s : State) : s.drawn.mem = s.mem := rfl
@[simp] theorem State.drawn_memFree (s : State) : s.drawn.memFree = s.memFree := rfl
@[simp] theorem State.drawn_upsets (s : State) : s.drawn.upsets = s.upsets := rfl
@[simp] theorem State.drawn_hwSets (s : State) : s.drawn.hwSets = s.hwSets := rfl
@[simp] theorem State.drawn_port (s : State) : s.drawn.port = s.port := rfl
@[simp] theorem State.drawn_bank (s : State) : s.drawn.bank = s.bank := rfl
@[simp] theorem State.drawn_sdlSeq (s : State) : s.drawn.sdlSeq = s.sdlSeq := rfl
@[simp] theorem State.drawn_portRank (s : State) : s.drawn.portRank = s.portRank := rfl
@[simp] theorem State.drawn_dma (s : State) : s.drawn.dma = s.dma := rfl
@[simp] theorem State.drawn_lane (s : State) : s.drawn.lane = s.lane := rfl
@[simp] theorem State.drawn_dutyq (s : State) : s.drawn.dutyq = s.dutyq := rfl
@[simp] theorem State.drawn_dutyNext (s : State) : s.drawn.dutyNext = s.dutyNext := rfl
@[simp] theorem State.drawn_hrn (s : State) : s.drawn.hrn = s.hrn := rfl
@[simp] theorem State.drawn_core (s : State) : s.drawn.core = s.core := rfl
@[simp] theorem State.drawn_shadowIn (s : State) : s.drawn.shadowIn = s.shadowIn := rfl
@[simp] theorem State.drawn_syncIn (s : State) : s.drawn.syncIn = s.syncIn := rfl
@[simp] theorem State.drawn_windowIn (s : State) : s.drawn.windowIn = s.windowIn := rfl
@[simp] theorem State.drawn_sar (s : State) : s.drawn.sar = s.sar := rfl
@[simp] theorem State.drawn_armed (s : State) : s.drawn.armed = s.armed := rfl
@[simp] theorem State.drawn_occ (s : State) : s.drawn.occ = s.occ := rfl
@[simp] theorem State.drawn_scaleDecl (s : State) : s.drawn.scaleDecl = s.scaleDecl := rfl
@[simp] theorem State.drawn_copyEnd (s : State) : s.drawn.copyEnd = s.copyEnd := rfl
@[simp] theorem State.drawn_slotHeld (s : State) : s.drawn.slotHeld = s.slotHeld := rfl
@[simp] theorem State.drawn_sdmOver (s : State) : s.drawn.sdmOver = s.sdmOver := rfl
@[simp] theorem State.drawn_trigs (s : State) : s.drawn.trigs = s.trigs := rfl
@[simp] theorem State.drawn_meter (s : State) : s.drawn.meter = s.meter := rfl
@[simp] theorem State.drawn_meterWin (s : State) : s.drawn.meterWin = s.meterWin := rfl
@[simp] theorem State.drawn_energyRem (s : State) : s.drawn.energyRem = s.energyRem := rfl
@[simp] theorem State.drawn_cmp (s : State) : s.drawn.cmp = s.cmp := rfl
@[simp] theorem State.drawn_pairUv (s : State) : s.drawn.pairUv = s.pairUv := rfl
@[simp] theorem State.drawn_trip (s : State) : s.drawn.trip = s.trip := rfl
@[simp] theorem State.drawn_rawPast (s : State) : s.drawn.rawPast = s.rawPast := rfl
@[simp] theorem State.drawn_pinPast (s : State) : s.drawn.pinPast = s.pinPast := rfl
@[simp] theorem State.drawn_reinPast (s : State) : s.drawn.reinPast = s.reinPast := rfl
@[simp] theorem State.drawn_reinTick (s : State) : s.drawn.reinTick = s.reinTick := rfl
@[simp] theorem State.drawn_reinPrev (s : State) : s.drawn.reinPrev = s.reinPrev := rfl
@[simp] theorem State.drawn_chan (s : State) : s.drawn.chan = s.chan := rfl
@[simp] theorem State.drawn_spr (s : State) : s.drawn.spr = s.spr := rfl
@[simp] theorem State.drawn_angHist (s : State) : s.drawn.angHist = s.angHist := rfl
@[simp] theorem State.drawn_feed (s : State) : s.drawn.feed = s.feed := rfl
@[simp] theorem State.drawn_pair (s : State) : s.drawn.pair = s.pair := rfl
@[simp] theorem State.drawn_xfer (s : State) : s.drawn.xfer = s.xfer := rfl
@[simp] theorem State.drawn_energised (s : State) : s.drawn.energised = s.energised := rfl
@[simp] theorem State.drawn_tmr (s : State) : s.drawn.tmr = s.tmr := rfl
@[simp] theorem State.drawn_routeAt (s : State) : s.drawn.routeAt = s.routeAt := rfl
@[simp] theorem State.drawn_lockPast (s : State) : s.drawn.lockPast = s.lockPast := rfl
@[simp] theorem State.drawn_monEdge (s : State) : s.drawn.monEdge = s.monEdge := rfl
@[simp] theorem State.drawn_monArmed (s : State) : s.drawn.monArmed = s.monArmed := rfl
@[simp] theorem State.drawn_monQuiet (s : State) : s.drawn.monQuiet = s.monQuiet := rfl
@[simp] theorem State.drawn_snsBall (s : State) : s.drawn.snsBall = s.snsBall := rfl
@[simp] theorem State.drawn_snsLevel (s : State) : s.drawn.snsLevel = s.snsLevel := rfl
@[simp] theorem State.drawn_snsRun (s : State) : s.drawn.snsRun = s.snsRun := rfl
@[simp] theorem State.drawn_snap (s : State) : s.drawn.snap = s.snap := rfl
@[simp] theorem State.drawn_twin (s : State) : s.drawn.twin = s.twin := rfl
@[simp] theorem State.drawn_img (s : State) : s.drawn.img = s.img := rfl
@[simp] theorem State.drawn_partnerRd (s : State) : s.drawn.partnerRd = s.partnerRd := rfl
@[simp] theorem State.drawn_pw (s : State) : s.drawn.pw = s.pw := rfl
@[simp] theorem State.drawn_cupS (s : State) : s.drawn.cupS = s.cupS := rfl
@[simp] theorem State.drawn_cupGrace (s : State) : s.drawn.cupGrace = s.cupGrace := rfl
@[simp] theorem State.drawn_cupDefer (s : State) : s.drawn.cupDefer = s.cupDefer := rfl
@[simp] theorem State.drawn_cupBelow (s : State) : s.drawn.cupBelow = s.cupBelow := rfl
@[simp] theorem State.drawn_limLast (s : State) : s.drawn.limLast = s.limLast := rfl
@[simp] theorem State.drawn_limNext (s : State) : s.drawn.limNext = s.limNext := rfl
@[simp] theorem State.drawn_cupRec (s : State) : s.drawn.cupRec = s.cupRec := rfl
@[simp] theorem State.drawn_notices (s : State) : s.drawn.notices = s.notices := rfl
@[simp] theorem State.drawn_noticeSeq (s : State) : s.drawn.noticeSeq = s.noticeSeq := rfl
@[simp] theorem State.drawn_logSeq (s : State) : s.drawn.logSeq = s.logSeq := rfl
@[simp] theorem State.drawn_logFrom (s : State) : s.drawn.logFrom = s.logFrom := rfl
@[simp] theorem State.drawn_fyz (s : State) : s.drawn.fyz = s.fyz := rfl
@[simp] theorem State.drawn_pending (s : State) : s.drawn.pending = s.pending := rfl

/-! ### `setPort` -/

@[simp] theorem State.setPort_now (s : State) (k : Nat) (x : MasterPort) : (s.setPort k x).now = s.now := rfl
@[simp] theorem State.setPort_ltc (s : State) (k : Nat) (x : MasterPort) : (s.setPort k x).ltc = s.ltc := rfl
@[simp] theorem State.setPort_free (s : State) (k : Nat) (x : MasterPort) : (s.setPort k x).free = s.free := rfl
@[simp] theorem State.setPort_regs (s : State) (k : Nat) (x : MasterPort) : (s.setPort k x).regs = s.regs := rfl
@[simp] theorem State.setPort_mem (s : State) (k : Nat) (x : MasterPort) : (s.setPort k x).mem = s.mem := rfl
@[simp] theorem State.setPort_memFree (s : State) (k : Nat) (x : MasterPort) : (s.setPort k x).memFree = s.memFree := rfl
@[simp] theorem State.setPort_upsets (s : State) (k : Nat) (x : MasterPort) : (s.setPort k x).upsets = s.upsets := rfl
@[simp] theorem State.setPort_hwSets (s : State) (k : Nat) (x : MasterPort) : (s.setPort k x).hwSets = s.hwSets := rfl
@[simp] theorem State.setPort_bank (s : State) (k : Nat) (x : MasterPort) : (s.setPort k x).bank = s.bank := rfl
@[simp] theorem State.setPort_sdlSeq (s : State) (k : Nat) (x : MasterPort) : (s.setPort k x).sdlSeq = s.sdlSeq := rfl
@[simp] theorem State.setPort_portRank (s : State) (k : Nat) (x : MasterPort) : (s.setPort k x).portRank = s.portRank := rfl
@[simp] theorem State.setPort_dma (s : State) (k : Nat) (x : MasterPort) : (s.setPort k x).dma = s.dma := rfl
@[simp] theorem State.setPort_lane (s : State) (k : Nat) (x : MasterPort) : (s.setPort k x).lane = s.lane := rfl
@[simp] theorem State.setPort_dutyq (s : State) (k : Nat) (x : MasterPort) : (s.setPort k x).dutyq = s.dutyq := rfl
@[simp] theorem State.setPort_dutyNext (s : State) (k : Nat) (x : MasterPort) : (s.setPort k x).dutyNext = s.dutyNext := rfl
@[simp] theorem State.setPort_hrn (s : State) (k : Nat) (x : MasterPort) : (s.setPort k x).hrn = s.hrn := rfl
@[simp] theorem State.setPort_core (s : State) (k : Nat) (x : MasterPort) : (s.setPort k x).core = s.core := rfl
@[simp] theorem State.setPort_shadowIn (s : State) (k : Nat) (x : MasterPort) : (s.setPort k x).shadowIn = s.shadowIn := rfl
@[simp] theorem State.setPort_syncIn (s : State) (k : Nat) (x : MasterPort) : (s.setPort k x).syncIn = s.syncIn := rfl
@[simp] theorem State.setPort_windowIn (s : State) (k : Nat) (x : MasterPort) : (s.setPort k x).windowIn = s.windowIn := rfl
@[simp] theorem State.setPort_sar (s : State) (k : Nat) (x : MasterPort) : (s.setPort k x).sar = s.sar := rfl
@[simp] theorem State.setPort_armed (s : State) (k : Nat) (x : MasterPort) : (s.setPort k x).armed = s.armed := rfl
@[simp] theorem State.setPort_occ (s : State) (k : Nat) (x : MasterPort) : (s.setPort k x).occ = s.occ := rfl
@[simp] theorem State.setPort_scaleDecl (s : State) (k : Nat) (x : MasterPort) : (s.setPort k x).scaleDecl = s.scaleDecl := rfl
@[simp] theorem State.setPort_copyEnd (s : State) (k : Nat) (x : MasterPort) : (s.setPort k x).copyEnd = s.copyEnd := rfl
@[simp] theorem State.setPort_slotHeld (s : State) (k : Nat) (x : MasterPort) : (s.setPort k x).slotHeld = s.slotHeld := rfl
@[simp] theorem State.setPort_sdmOver (s : State) (k : Nat) (x : MasterPort) : (s.setPort k x).sdmOver = s.sdmOver := rfl
@[simp] theorem State.setPort_trigs (s : State) (k : Nat) (x : MasterPort) : (s.setPort k x).trigs = s.trigs := rfl
@[simp] theorem State.setPort_meter (s : State) (k : Nat) (x : MasterPort) : (s.setPort k x).meter = s.meter := rfl
@[simp] theorem State.setPort_meterWin (s : State) (k : Nat) (x : MasterPort) : (s.setPort k x).meterWin = s.meterWin := rfl
@[simp] theorem State.setPort_energyRem (s : State) (k : Nat) (x : MasterPort) : (s.setPort k x).energyRem = s.energyRem := rfl
@[simp] theorem State.setPort_cmp (s : State) (k : Nat) (x : MasterPort) : (s.setPort k x).cmp = s.cmp := rfl
@[simp] theorem State.setPort_pairUv (s : State) (k : Nat) (x : MasterPort) : (s.setPort k x).pairUv = s.pairUv := rfl
@[simp] theorem State.setPort_trip (s : State) (k : Nat) (x : MasterPort) : (s.setPort k x).trip = s.trip := rfl
@[simp] theorem State.setPort_rawPast (s : State) (k : Nat) (x : MasterPort) : (s.setPort k x).rawPast = s.rawPast := rfl
@[simp] theorem State.setPort_pinPast (s : State) (k : Nat) (x : MasterPort) : (s.setPort k x).pinPast = s.pinPast := rfl
@[simp] theorem State.setPort_reinPast (s : State) (k : Nat) (x : MasterPort) : (s.setPort k x).reinPast = s.reinPast := rfl
@[simp] theorem State.setPort_reinTick (s : State) (k : Nat) (x : MasterPort) : (s.setPort k x).reinTick = s.reinTick := rfl
@[simp] theorem State.setPort_reinPrev (s : State) (k : Nat) (x : MasterPort) : (s.setPort k x).reinPrev = s.reinPrev := rfl
@[simp] theorem State.setPort_chan (s : State) (k : Nat) (x : MasterPort) : (s.setPort k x).chan = s.chan := rfl
@[simp] theorem State.setPort_spr (s : State) (k : Nat) (x : MasterPort) : (s.setPort k x).spr = s.spr := rfl
@[simp] theorem State.setPort_angHist (s : State) (k : Nat) (x : MasterPort) : (s.setPort k x).angHist = s.angHist := rfl
@[simp] theorem State.setPort_feed (s : State) (k : Nat) (x : MasterPort) : (s.setPort k x).feed = s.feed := rfl
@[simp] theorem State.setPort_pair (s : State) (k : Nat) (x : MasterPort) : (s.setPort k x).pair = s.pair := rfl
@[simp] theorem State.setPort_xfer (s : State) (k : Nat) (x : MasterPort) : (s.setPort k x).xfer = s.xfer := rfl
@[simp] theorem State.setPort_energised (s : State) (k : Nat) (x : MasterPort) : (s.setPort k x).energised = s.energised := rfl
@[simp] theorem State.setPort_tmr (s : State) (k : Nat) (x : MasterPort) : (s.setPort k x).tmr = s.tmr := rfl
@[simp] theorem State.setPort_routeAt (s : State) (k : Nat) (x : MasterPort) : (s.setPort k x).routeAt = s.routeAt := rfl
@[simp] theorem State.setPort_lockPast (s : State) (k : Nat) (x : MasterPort) : (s.setPort k x).lockPast = s.lockPast := rfl
@[simp] theorem State.setPort_monEdge (s : State) (k : Nat) (x : MasterPort) : (s.setPort k x).monEdge = s.monEdge := rfl
@[simp] theorem State.setPort_monArmed (s : State) (k : Nat) (x : MasterPort) : (s.setPort k x).monArmed = s.monArmed := rfl
@[simp] theorem State.setPort_monQuiet (s : State) (k : Nat) (x : MasterPort) : (s.setPort k x).monQuiet = s.monQuiet := rfl
@[simp] theorem State.setPort_snsBall (s : State) (k : Nat) (x : MasterPort) : (s.setPort k x).snsBall = s.snsBall := rfl
@[simp] theorem State.setPort_snsLevel (s : State) (k : Nat) (x : MasterPort) : (s.setPort k x).snsLevel = s.snsLevel := rfl
@[simp] theorem State.setPort_snsRun (s : State) (k : Nat) (x : MasterPort) : (s.setPort k x).snsRun = s.snsRun := rfl
@[simp] theorem State.setPort_snap (s : State) (k : Nat) (x : MasterPort) : (s.setPort k x).snap = s.snap := rfl
@[simp] theorem State.setPort_twin (s : State) (k : Nat) (x : MasterPort) : (s.setPort k x).twin = s.twin := rfl
@[simp] theorem State.setPort_img (s : State) (k : Nat) (x : MasterPort) : (s.setPort k x).img = s.img := rfl
@[simp] theorem State.setPort_partnerRd (s : State) (k : Nat) (x : MasterPort) : (s.setPort k x).partnerRd = s.partnerRd := rfl
@[simp] theorem State.setPort_pw (s : State) (k : Nat) (x : MasterPort) : (s.setPort k x).pw = s.pw := rfl
@[simp] theorem State.setPort_cupS (s : State) (k : Nat) (x : MasterPort) : (s.setPort k x).cupS = s.cupS := rfl
@[simp] theorem State.setPort_cupGrace (s : State) (k : Nat) (x : MasterPort) : (s.setPort k x).cupGrace = s.cupGrace := rfl
@[simp] theorem State.setPort_cupDefer (s : State) (k : Nat) (x : MasterPort) : (s.setPort k x).cupDefer = s.cupDefer := rfl
@[simp] theorem State.setPort_cupBelow (s : State) (k : Nat) (x : MasterPort) : (s.setPort k x).cupBelow = s.cupBelow := rfl
@[simp] theorem State.setPort_limLast (s : State) (k : Nat) (x : MasterPort) : (s.setPort k x).limLast = s.limLast := rfl
@[simp] theorem State.setPort_limNext (s : State) (k : Nat) (x : MasterPort) : (s.setPort k x).limNext = s.limNext := rfl
@[simp] theorem State.setPort_cupRec (s : State) (k : Nat) (x : MasterPort) : (s.setPort k x).cupRec = s.cupRec := rfl
@[simp] theorem State.setPort_notices (s : State) (k : Nat) (x : MasterPort) : (s.setPort k x).notices = s.notices := rfl
@[simp] theorem State.setPort_noticeSeq (s : State) (k : Nat) (x : MasterPort) : (s.setPort k x).noticeSeq = s.noticeSeq := rfl
@[simp] theorem State.setPort_logSeq (s : State) (k : Nat) (x : MasterPort) : (s.setPort k x).logSeq = s.logSeq := rfl
@[simp] theorem State.setPort_logFrom (s : State) (k : Nat) (x : MasterPort) : (s.setPort k x).logFrom = s.logFrom := rfl
@[simp] theorem State.setPort_fyz (s : State) (k : Nat) (x : MasterPort) : (s.setPort k x).fyz = s.fyz := rfl
@[simp] theorem State.setPort_pending (s : State) (k : Nat) (x : MasterPort) : (s.setPort k x).pending = s.pending := rfl

/-! ### `setBank` -/

@[simp] theorem State.setBank_now (s : State) (k : Nat) (x : SdlBank) : (s.setBank k x).now = s.now := rfl
@[simp] theorem State.setBank_ltc (s : State) (k : Nat) (x : SdlBank) : (s.setBank k x).ltc = s.ltc := rfl
@[simp] theorem State.setBank_free (s : State) (k : Nat) (x : SdlBank) : (s.setBank k x).free = s.free := rfl
@[simp] theorem State.setBank_regs (s : State) (k : Nat) (x : SdlBank) : (s.setBank k x).regs = s.regs := rfl
@[simp] theorem State.setBank_mem (s : State) (k : Nat) (x : SdlBank) : (s.setBank k x).mem = s.mem := rfl
@[simp] theorem State.setBank_memFree (s : State) (k : Nat) (x : SdlBank) : (s.setBank k x).memFree = s.memFree := rfl
@[simp] theorem State.setBank_upsets (s : State) (k : Nat) (x : SdlBank) : (s.setBank k x).upsets = s.upsets := rfl
@[simp] theorem State.setBank_hwSets (s : State) (k : Nat) (x : SdlBank) : (s.setBank k x).hwSets = s.hwSets := rfl
@[simp] theorem State.setBank_port (s : State) (k : Nat) (x : SdlBank) : (s.setBank k x).port = s.port := rfl
@[simp] theorem State.setBank_sdlSeq (s : State) (k : Nat) (x : SdlBank) : (s.setBank k x).sdlSeq = s.sdlSeq := rfl
@[simp] theorem State.setBank_portRank (s : State) (k : Nat) (x : SdlBank) : (s.setBank k x).portRank = s.portRank := rfl
@[simp] theorem State.setBank_dma (s : State) (k : Nat) (x : SdlBank) : (s.setBank k x).dma = s.dma := rfl
@[simp] theorem State.setBank_lane (s : State) (k : Nat) (x : SdlBank) : (s.setBank k x).lane = s.lane := rfl
@[simp] theorem State.setBank_dutyq (s : State) (k : Nat) (x : SdlBank) : (s.setBank k x).dutyq = s.dutyq := rfl
@[simp] theorem State.setBank_dutyNext (s : State) (k : Nat) (x : SdlBank) : (s.setBank k x).dutyNext = s.dutyNext := rfl
@[simp] theorem State.setBank_hrn (s : State) (k : Nat) (x : SdlBank) : (s.setBank k x).hrn = s.hrn := rfl
@[simp] theorem State.setBank_core (s : State) (k : Nat) (x : SdlBank) : (s.setBank k x).core = s.core := rfl
@[simp] theorem State.setBank_shadowIn (s : State) (k : Nat) (x : SdlBank) : (s.setBank k x).shadowIn = s.shadowIn := rfl
@[simp] theorem State.setBank_syncIn (s : State) (k : Nat) (x : SdlBank) : (s.setBank k x).syncIn = s.syncIn := rfl
@[simp] theorem State.setBank_windowIn (s : State) (k : Nat) (x : SdlBank) : (s.setBank k x).windowIn = s.windowIn := rfl
@[simp] theorem State.setBank_sar (s : State) (k : Nat) (x : SdlBank) : (s.setBank k x).sar = s.sar := rfl
@[simp] theorem State.setBank_armed (s : State) (k : Nat) (x : SdlBank) : (s.setBank k x).armed = s.armed := rfl
@[simp] theorem State.setBank_occ (s : State) (k : Nat) (x : SdlBank) : (s.setBank k x).occ = s.occ := rfl
@[simp] theorem State.setBank_scaleDecl (s : State) (k : Nat) (x : SdlBank) : (s.setBank k x).scaleDecl = s.scaleDecl := rfl
@[simp] theorem State.setBank_copyEnd (s : State) (k : Nat) (x : SdlBank) : (s.setBank k x).copyEnd = s.copyEnd := rfl
@[simp] theorem State.setBank_slotHeld (s : State) (k : Nat) (x : SdlBank) : (s.setBank k x).slotHeld = s.slotHeld := rfl
@[simp] theorem State.setBank_sdmOver (s : State) (k : Nat) (x : SdlBank) : (s.setBank k x).sdmOver = s.sdmOver := rfl
@[simp] theorem State.setBank_trigs (s : State) (k : Nat) (x : SdlBank) : (s.setBank k x).trigs = s.trigs := rfl
@[simp] theorem State.setBank_meter (s : State) (k : Nat) (x : SdlBank) : (s.setBank k x).meter = s.meter := rfl
@[simp] theorem State.setBank_meterWin (s : State) (k : Nat) (x : SdlBank) : (s.setBank k x).meterWin = s.meterWin := rfl
@[simp] theorem State.setBank_energyRem (s : State) (k : Nat) (x : SdlBank) : (s.setBank k x).energyRem = s.energyRem := rfl
@[simp] theorem State.setBank_cmp (s : State) (k : Nat) (x : SdlBank) : (s.setBank k x).cmp = s.cmp := rfl
@[simp] theorem State.setBank_pairUv (s : State) (k : Nat) (x : SdlBank) : (s.setBank k x).pairUv = s.pairUv := rfl
@[simp] theorem State.setBank_trip (s : State) (k : Nat) (x : SdlBank) : (s.setBank k x).trip = s.trip := rfl
@[simp] theorem State.setBank_rawPast (s : State) (k : Nat) (x : SdlBank) : (s.setBank k x).rawPast = s.rawPast := rfl
@[simp] theorem State.setBank_pinPast (s : State) (k : Nat) (x : SdlBank) : (s.setBank k x).pinPast = s.pinPast := rfl
@[simp] theorem State.setBank_reinPast (s : State) (k : Nat) (x : SdlBank) : (s.setBank k x).reinPast = s.reinPast := rfl
@[simp] theorem State.setBank_reinTick (s : State) (k : Nat) (x : SdlBank) : (s.setBank k x).reinTick = s.reinTick := rfl
@[simp] theorem State.setBank_reinPrev (s : State) (k : Nat) (x : SdlBank) : (s.setBank k x).reinPrev = s.reinPrev := rfl
@[simp] theorem State.setBank_chan (s : State) (k : Nat) (x : SdlBank) : (s.setBank k x).chan = s.chan := rfl
@[simp] theorem State.setBank_spr (s : State) (k : Nat) (x : SdlBank) : (s.setBank k x).spr = s.spr := rfl
@[simp] theorem State.setBank_angHist (s : State) (k : Nat) (x : SdlBank) : (s.setBank k x).angHist = s.angHist := rfl
@[simp] theorem State.setBank_feed (s : State) (k : Nat) (x : SdlBank) : (s.setBank k x).feed = s.feed := rfl
@[simp] theorem State.setBank_pair (s : State) (k : Nat) (x : SdlBank) : (s.setBank k x).pair = s.pair := rfl
@[simp] theorem State.setBank_xfer (s : State) (k : Nat) (x : SdlBank) : (s.setBank k x).xfer = s.xfer := rfl
@[simp] theorem State.setBank_energised (s : State) (k : Nat) (x : SdlBank) : (s.setBank k x).energised = s.energised := rfl
@[simp] theorem State.setBank_tmr (s : State) (k : Nat) (x : SdlBank) : (s.setBank k x).tmr = s.tmr := rfl
@[simp] theorem State.setBank_routeAt (s : State) (k : Nat) (x : SdlBank) : (s.setBank k x).routeAt = s.routeAt := rfl
@[simp] theorem State.setBank_lockPast (s : State) (k : Nat) (x : SdlBank) : (s.setBank k x).lockPast = s.lockPast := rfl
@[simp] theorem State.setBank_monEdge (s : State) (k : Nat) (x : SdlBank) : (s.setBank k x).monEdge = s.monEdge := rfl
@[simp] theorem State.setBank_monArmed (s : State) (k : Nat) (x : SdlBank) : (s.setBank k x).monArmed = s.monArmed := rfl
@[simp] theorem State.setBank_monQuiet (s : State) (k : Nat) (x : SdlBank) : (s.setBank k x).monQuiet = s.monQuiet := rfl
@[simp] theorem State.setBank_snsBall (s : State) (k : Nat) (x : SdlBank) : (s.setBank k x).snsBall = s.snsBall := rfl
@[simp] theorem State.setBank_snsLevel (s : State) (k : Nat) (x : SdlBank) : (s.setBank k x).snsLevel = s.snsLevel := rfl
@[simp] theorem State.setBank_snsRun (s : State) (k : Nat) (x : SdlBank) : (s.setBank k x).snsRun = s.snsRun := rfl
@[simp] theorem State.setBank_snap (s : State) (k : Nat) (x : SdlBank) : (s.setBank k x).snap = s.snap := rfl
@[simp] theorem State.setBank_twin (s : State) (k : Nat) (x : SdlBank) : (s.setBank k x).twin = s.twin := rfl
@[simp] theorem State.setBank_img (s : State) (k : Nat) (x : SdlBank) : (s.setBank k x).img = s.img := rfl
@[simp] theorem State.setBank_partnerRd (s : State) (k : Nat) (x : SdlBank) : (s.setBank k x).partnerRd = s.partnerRd := rfl
@[simp] theorem State.setBank_pw (s : State) (k : Nat) (x : SdlBank) : (s.setBank k x).pw = s.pw := rfl
@[simp] theorem State.setBank_cupS (s : State) (k : Nat) (x : SdlBank) : (s.setBank k x).cupS = s.cupS := rfl
@[simp] theorem State.setBank_cupGrace (s : State) (k : Nat) (x : SdlBank) : (s.setBank k x).cupGrace = s.cupGrace := rfl
@[simp] theorem State.setBank_cupDefer (s : State) (k : Nat) (x : SdlBank) : (s.setBank k x).cupDefer = s.cupDefer := rfl
@[simp] theorem State.setBank_cupBelow (s : State) (k : Nat) (x : SdlBank) : (s.setBank k x).cupBelow = s.cupBelow := rfl
@[simp] theorem State.setBank_limLast (s : State) (k : Nat) (x : SdlBank) : (s.setBank k x).limLast = s.limLast := rfl
@[simp] theorem State.setBank_limNext (s : State) (k : Nat) (x : SdlBank) : (s.setBank k x).limNext = s.limNext := rfl
@[simp] theorem State.setBank_cupRec (s : State) (k : Nat) (x : SdlBank) : (s.setBank k x).cupRec = s.cupRec := rfl
@[simp] theorem State.setBank_notices (s : State) (k : Nat) (x : SdlBank) : (s.setBank k x).notices = s.notices := rfl
@[simp] theorem State.setBank_noticeSeq (s : State) (k : Nat) (x : SdlBank) : (s.setBank k x).noticeSeq = s.noticeSeq := rfl
@[simp] theorem State.setBank_logSeq (s : State) (k : Nat) (x : SdlBank) : (s.setBank k x).logSeq = s.logSeq := rfl
@[simp] theorem State.setBank_logFrom (s : State) (k : Nat) (x : SdlBank) : (s.setBank k x).logFrom = s.logFrom := rfl
@[simp] theorem State.setBank_fyz (s : State) (k : Nat) (x : SdlBank) : (s.setBank k x).fyz = s.fyz := rfl
@[simp] theorem State.setBank_pending (s : State) (k : Nat) (x : SdlBank) : (s.setBank k x).pending = s.pending := rfl

/-! ### `setDma` -/

@[simp] theorem State.setDma_now (s : State) (k : Nat) (x : Dma) : (s.setDma k x).now = s.now := rfl
@[simp] theorem State.setDma_ltc (s : State) (k : Nat) (x : Dma) : (s.setDma k x).ltc = s.ltc := rfl
@[simp] theorem State.setDma_free (s : State) (k : Nat) (x : Dma) : (s.setDma k x).free = s.free := rfl
@[simp] theorem State.setDma_regs (s : State) (k : Nat) (x : Dma) : (s.setDma k x).regs = s.regs := rfl
@[simp] theorem State.setDma_mem (s : State) (k : Nat) (x : Dma) : (s.setDma k x).mem = s.mem := rfl
@[simp] theorem State.setDma_memFree (s : State) (k : Nat) (x : Dma) : (s.setDma k x).memFree = s.memFree := rfl
@[simp] theorem State.setDma_upsets (s : State) (k : Nat) (x : Dma) : (s.setDma k x).upsets = s.upsets := rfl
@[simp] theorem State.setDma_hwSets (s : State) (k : Nat) (x : Dma) : (s.setDma k x).hwSets = s.hwSets := rfl
@[simp] theorem State.setDma_port (s : State) (k : Nat) (x : Dma) : (s.setDma k x).port = s.port := rfl
@[simp] theorem State.setDma_bank (s : State) (k : Nat) (x : Dma) : (s.setDma k x).bank = s.bank := rfl
@[simp] theorem State.setDma_sdlSeq (s : State) (k : Nat) (x : Dma) : (s.setDma k x).sdlSeq = s.sdlSeq := rfl
@[simp] theorem State.setDma_portRank (s : State) (k : Nat) (x : Dma) : (s.setDma k x).portRank = s.portRank := rfl
@[simp] theorem State.setDma_lane (s : State) (k : Nat) (x : Dma) : (s.setDma k x).lane = s.lane := rfl
@[simp] theorem State.setDma_dutyq (s : State) (k : Nat) (x : Dma) : (s.setDma k x).dutyq = s.dutyq := rfl
@[simp] theorem State.setDma_dutyNext (s : State) (k : Nat) (x : Dma) : (s.setDma k x).dutyNext = s.dutyNext := rfl
@[simp] theorem State.setDma_hrn (s : State) (k : Nat) (x : Dma) : (s.setDma k x).hrn = s.hrn := rfl
@[simp] theorem State.setDma_core (s : State) (k : Nat) (x : Dma) : (s.setDma k x).core = s.core := rfl
@[simp] theorem State.setDma_shadowIn (s : State) (k : Nat) (x : Dma) : (s.setDma k x).shadowIn = s.shadowIn := rfl
@[simp] theorem State.setDma_syncIn (s : State) (k : Nat) (x : Dma) : (s.setDma k x).syncIn = s.syncIn := rfl
@[simp] theorem State.setDma_windowIn (s : State) (k : Nat) (x : Dma) : (s.setDma k x).windowIn = s.windowIn := rfl
@[simp] theorem State.setDma_sar (s : State) (k : Nat) (x : Dma) : (s.setDma k x).sar = s.sar := rfl
@[simp] theorem State.setDma_armed (s : State) (k : Nat) (x : Dma) : (s.setDma k x).armed = s.armed := rfl
@[simp] theorem State.setDma_occ (s : State) (k : Nat) (x : Dma) : (s.setDma k x).occ = s.occ := rfl
@[simp] theorem State.setDma_scaleDecl (s : State) (k : Nat) (x : Dma) : (s.setDma k x).scaleDecl = s.scaleDecl := rfl
@[simp] theorem State.setDma_copyEnd (s : State) (k : Nat) (x : Dma) : (s.setDma k x).copyEnd = s.copyEnd := rfl
@[simp] theorem State.setDma_slotHeld (s : State) (k : Nat) (x : Dma) : (s.setDma k x).slotHeld = s.slotHeld := rfl
@[simp] theorem State.setDma_sdmOver (s : State) (k : Nat) (x : Dma) : (s.setDma k x).sdmOver = s.sdmOver := rfl
@[simp] theorem State.setDma_trigs (s : State) (k : Nat) (x : Dma) : (s.setDma k x).trigs = s.trigs := rfl
@[simp] theorem State.setDma_meter (s : State) (k : Nat) (x : Dma) : (s.setDma k x).meter = s.meter := rfl
@[simp] theorem State.setDma_meterWin (s : State) (k : Nat) (x : Dma) : (s.setDma k x).meterWin = s.meterWin := rfl
@[simp] theorem State.setDma_energyRem (s : State) (k : Nat) (x : Dma) : (s.setDma k x).energyRem = s.energyRem := rfl
@[simp] theorem State.setDma_cmp (s : State) (k : Nat) (x : Dma) : (s.setDma k x).cmp = s.cmp := rfl
@[simp] theorem State.setDma_pairUv (s : State) (k : Nat) (x : Dma) : (s.setDma k x).pairUv = s.pairUv := rfl
@[simp] theorem State.setDma_trip (s : State) (k : Nat) (x : Dma) : (s.setDma k x).trip = s.trip := rfl
@[simp] theorem State.setDma_rawPast (s : State) (k : Nat) (x : Dma) : (s.setDma k x).rawPast = s.rawPast := rfl
@[simp] theorem State.setDma_pinPast (s : State) (k : Nat) (x : Dma) : (s.setDma k x).pinPast = s.pinPast := rfl
@[simp] theorem State.setDma_reinPast (s : State) (k : Nat) (x : Dma) : (s.setDma k x).reinPast = s.reinPast := rfl
@[simp] theorem State.setDma_reinTick (s : State) (k : Nat) (x : Dma) : (s.setDma k x).reinTick = s.reinTick := rfl
@[simp] theorem State.setDma_reinPrev (s : State) (k : Nat) (x : Dma) : (s.setDma k x).reinPrev = s.reinPrev := rfl
@[simp] theorem State.setDma_chan (s : State) (k : Nat) (x : Dma) : (s.setDma k x).chan = s.chan := rfl
@[simp] theorem State.setDma_spr (s : State) (k : Nat) (x : Dma) : (s.setDma k x).spr = s.spr := rfl
@[simp] theorem State.setDma_angHist (s : State) (k : Nat) (x : Dma) : (s.setDma k x).angHist = s.angHist := rfl
@[simp] theorem State.setDma_feed (s : State) (k : Nat) (x : Dma) : (s.setDma k x).feed = s.feed := rfl
@[simp] theorem State.setDma_pair (s : State) (k : Nat) (x : Dma) : (s.setDma k x).pair = s.pair := rfl
@[simp] theorem State.setDma_xfer (s : State) (k : Nat) (x : Dma) : (s.setDma k x).xfer = s.xfer := rfl
@[simp] theorem State.setDma_energised (s : State) (k : Nat) (x : Dma) : (s.setDma k x).energised = s.energised := rfl
@[simp] theorem State.setDma_tmr (s : State) (k : Nat) (x : Dma) : (s.setDma k x).tmr = s.tmr := rfl
@[simp] theorem State.setDma_routeAt (s : State) (k : Nat) (x : Dma) : (s.setDma k x).routeAt = s.routeAt := rfl
@[simp] theorem State.setDma_lockPast (s : State) (k : Nat) (x : Dma) : (s.setDma k x).lockPast = s.lockPast := rfl
@[simp] theorem State.setDma_monEdge (s : State) (k : Nat) (x : Dma) : (s.setDma k x).monEdge = s.monEdge := rfl
@[simp] theorem State.setDma_monArmed (s : State) (k : Nat) (x : Dma) : (s.setDma k x).monArmed = s.monArmed := rfl
@[simp] theorem State.setDma_monQuiet (s : State) (k : Nat) (x : Dma) : (s.setDma k x).monQuiet = s.monQuiet := rfl
@[simp] theorem State.setDma_snsBall (s : State) (k : Nat) (x : Dma) : (s.setDma k x).snsBall = s.snsBall := rfl
@[simp] theorem State.setDma_snsLevel (s : State) (k : Nat) (x : Dma) : (s.setDma k x).snsLevel = s.snsLevel := rfl
@[simp] theorem State.setDma_snsRun (s : State) (k : Nat) (x : Dma) : (s.setDma k x).snsRun = s.snsRun := rfl
@[simp] theorem State.setDma_snap (s : State) (k : Nat) (x : Dma) : (s.setDma k x).snap = s.snap := rfl
@[simp] theorem State.setDma_twin (s : State) (k : Nat) (x : Dma) : (s.setDma k x).twin = s.twin := rfl
@[simp] theorem State.setDma_img (s : State) (k : Nat) (x : Dma) : (s.setDma k x).img = s.img := rfl
@[simp] theorem State.setDma_partnerRd (s : State) (k : Nat) (x : Dma) : (s.setDma k x).partnerRd = s.partnerRd := rfl
@[simp] theorem State.setDma_pw (s : State) (k : Nat) (x : Dma) : (s.setDma k x).pw = s.pw := rfl
@[simp] theorem State.setDma_cupS (s : State) (k : Nat) (x : Dma) : (s.setDma k x).cupS = s.cupS := rfl
@[simp] theorem State.setDma_cupGrace (s : State) (k : Nat) (x : Dma) : (s.setDma k x).cupGrace = s.cupGrace := rfl
@[simp] theorem State.setDma_cupDefer (s : State) (k : Nat) (x : Dma) : (s.setDma k x).cupDefer = s.cupDefer := rfl
@[simp] theorem State.setDma_cupBelow (s : State) (k : Nat) (x : Dma) : (s.setDma k x).cupBelow = s.cupBelow := rfl
@[simp] theorem State.setDma_limLast (s : State) (k : Nat) (x : Dma) : (s.setDma k x).limLast = s.limLast := rfl
@[simp] theorem State.setDma_limNext (s : State) (k : Nat) (x : Dma) : (s.setDma k x).limNext = s.limNext := rfl
@[simp] theorem State.setDma_cupRec (s : State) (k : Nat) (x : Dma) : (s.setDma k x).cupRec = s.cupRec := rfl
@[simp] theorem State.setDma_notices (s : State) (k : Nat) (x : Dma) : (s.setDma k x).notices = s.notices := rfl
@[simp] theorem State.setDma_noticeSeq (s : State) (k : Nat) (x : Dma) : (s.setDma k x).noticeSeq = s.noticeSeq := rfl
@[simp] theorem State.setDma_logSeq (s : State) (k : Nat) (x : Dma) : (s.setDma k x).logSeq = s.logSeq := rfl
@[simp] theorem State.setDma_logFrom (s : State) (k : Nat) (x : Dma) : (s.setDma k x).logFrom = s.logFrom := rfl
@[simp] theorem State.setDma_fyz (s : State) (k : Nat) (x : Dma) : (s.setDma k x).fyz = s.fyz := rfl
@[simp] theorem State.setDma_pending (s : State) (k : Nat) (x : Dma) : (s.setDma k x).pending = s.pending := rfl

/-! ### `setLane` -/

@[simp] theorem State.setLane_now (s : State) (k : Nat) (x : Lane) : (s.setLane k x).now = s.now := rfl
@[simp] theorem State.setLane_ltc (s : State) (k : Nat) (x : Lane) : (s.setLane k x).ltc = s.ltc := rfl
@[simp] theorem State.setLane_free (s : State) (k : Nat) (x : Lane) : (s.setLane k x).free = s.free := rfl
@[simp] theorem State.setLane_regs (s : State) (k : Nat) (x : Lane) : (s.setLane k x).regs = s.regs := rfl
@[simp] theorem State.setLane_mem (s : State) (k : Nat) (x : Lane) : (s.setLane k x).mem = s.mem := rfl
@[simp] theorem State.setLane_memFree (s : State) (k : Nat) (x : Lane) : (s.setLane k x).memFree = s.memFree := rfl
@[simp] theorem State.setLane_upsets (s : State) (k : Nat) (x : Lane) : (s.setLane k x).upsets = s.upsets := rfl
@[simp] theorem State.setLane_hwSets (s : State) (k : Nat) (x : Lane) : (s.setLane k x).hwSets = s.hwSets := rfl
@[simp] theorem State.setLane_port (s : State) (k : Nat) (x : Lane) : (s.setLane k x).port = s.port := rfl
@[simp] theorem State.setLane_bank (s : State) (k : Nat) (x : Lane) : (s.setLane k x).bank = s.bank := rfl
@[simp] theorem State.setLane_sdlSeq (s : State) (k : Nat) (x : Lane) : (s.setLane k x).sdlSeq = s.sdlSeq := rfl
@[simp] theorem State.setLane_portRank (s : State) (k : Nat) (x : Lane) : (s.setLane k x).portRank = s.portRank := rfl
@[simp] theorem State.setLane_dma (s : State) (k : Nat) (x : Lane) : (s.setLane k x).dma = s.dma := rfl
@[simp] theorem State.setLane_dutyq (s : State) (k : Nat) (x : Lane) : (s.setLane k x).dutyq = s.dutyq := rfl
@[simp] theorem State.setLane_dutyNext (s : State) (k : Nat) (x : Lane) : (s.setLane k x).dutyNext = s.dutyNext := rfl
@[simp] theorem State.setLane_hrn (s : State) (k : Nat) (x : Lane) : (s.setLane k x).hrn = s.hrn := rfl
@[simp] theorem State.setLane_core (s : State) (k : Nat) (x : Lane) : (s.setLane k x).core = s.core := rfl
@[simp] theorem State.setLane_shadowIn (s : State) (k : Nat) (x : Lane) : (s.setLane k x).shadowIn = s.shadowIn := rfl
@[simp] theorem State.setLane_syncIn (s : State) (k : Nat) (x : Lane) : (s.setLane k x).syncIn = s.syncIn := rfl
@[simp] theorem State.setLane_windowIn (s : State) (k : Nat) (x : Lane) : (s.setLane k x).windowIn = s.windowIn := rfl
@[simp] theorem State.setLane_sar (s : State) (k : Nat) (x : Lane) : (s.setLane k x).sar = s.sar := rfl
@[simp] theorem State.setLane_armed (s : State) (k : Nat) (x : Lane) : (s.setLane k x).armed = s.armed := rfl
@[simp] theorem State.setLane_occ (s : State) (k : Nat) (x : Lane) : (s.setLane k x).occ = s.occ := rfl
@[simp] theorem State.setLane_scaleDecl (s : State) (k : Nat) (x : Lane) : (s.setLane k x).scaleDecl = s.scaleDecl := rfl
@[simp] theorem State.setLane_copyEnd (s : State) (k : Nat) (x : Lane) : (s.setLane k x).copyEnd = s.copyEnd := rfl
@[simp] theorem State.setLane_slotHeld (s : State) (k : Nat) (x : Lane) : (s.setLane k x).slotHeld = s.slotHeld := rfl
@[simp] theorem State.setLane_sdmOver (s : State) (k : Nat) (x : Lane) : (s.setLane k x).sdmOver = s.sdmOver := rfl
@[simp] theorem State.setLane_trigs (s : State) (k : Nat) (x : Lane) : (s.setLane k x).trigs = s.trigs := rfl
@[simp] theorem State.setLane_meter (s : State) (k : Nat) (x : Lane) : (s.setLane k x).meter = s.meter := rfl
@[simp] theorem State.setLane_meterWin (s : State) (k : Nat) (x : Lane) : (s.setLane k x).meterWin = s.meterWin := rfl
@[simp] theorem State.setLane_energyRem (s : State) (k : Nat) (x : Lane) : (s.setLane k x).energyRem = s.energyRem := rfl
@[simp] theorem State.setLane_cmp (s : State) (k : Nat) (x : Lane) : (s.setLane k x).cmp = s.cmp := rfl
@[simp] theorem State.setLane_pairUv (s : State) (k : Nat) (x : Lane) : (s.setLane k x).pairUv = s.pairUv := rfl
@[simp] theorem State.setLane_trip (s : State) (k : Nat) (x : Lane) : (s.setLane k x).trip = s.trip := rfl
@[simp] theorem State.setLane_rawPast (s : State) (k : Nat) (x : Lane) : (s.setLane k x).rawPast = s.rawPast := rfl
@[simp] theorem State.setLane_pinPast (s : State) (k : Nat) (x : Lane) : (s.setLane k x).pinPast = s.pinPast := rfl
@[simp] theorem State.setLane_reinPast (s : State) (k : Nat) (x : Lane) : (s.setLane k x).reinPast = s.reinPast := rfl
@[simp] theorem State.setLane_reinTick (s : State) (k : Nat) (x : Lane) : (s.setLane k x).reinTick = s.reinTick := rfl
@[simp] theorem State.setLane_reinPrev (s : State) (k : Nat) (x : Lane) : (s.setLane k x).reinPrev = s.reinPrev := rfl
@[simp] theorem State.setLane_chan (s : State) (k : Nat) (x : Lane) : (s.setLane k x).chan = s.chan := rfl
@[simp] theorem State.setLane_spr (s : State) (k : Nat) (x : Lane) : (s.setLane k x).spr = s.spr := rfl
@[simp] theorem State.setLane_angHist (s : State) (k : Nat) (x : Lane) : (s.setLane k x).angHist = s.angHist := rfl
@[simp] theorem State.setLane_feed (s : State) (k : Nat) (x : Lane) : (s.setLane k x).feed = s.feed := rfl
@[simp] theorem State.setLane_pair (s : State) (k : Nat) (x : Lane) : (s.setLane k x).pair = s.pair := rfl
@[simp] theorem State.setLane_xfer (s : State) (k : Nat) (x : Lane) : (s.setLane k x).xfer = s.xfer := rfl
@[simp] theorem State.setLane_energised (s : State) (k : Nat) (x : Lane) : (s.setLane k x).energised = s.energised := rfl
@[simp] theorem State.setLane_tmr (s : State) (k : Nat) (x : Lane) : (s.setLane k x).tmr = s.tmr := rfl
@[simp] theorem State.setLane_routeAt (s : State) (k : Nat) (x : Lane) : (s.setLane k x).routeAt = s.routeAt := rfl
@[simp] theorem State.setLane_lockPast (s : State) (k : Nat) (x : Lane) : (s.setLane k x).lockPast = s.lockPast := rfl
@[simp] theorem State.setLane_monEdge (s : State) (k : Nat) (x : Lane) : (s.setLane k x).monEdge = s.monEdge := rfl
@[simp] theorem State.setLane_monArmed (s : State) (k : Nat) (x : Lane) : (s.setLane k x).monArmed = s.monArmed := rfl
@[simp] theorem State.setLane_monQuiet (s : State) (k : Nat) (x : Lane) : (s.setLane k x).monQuiet = s.monQuiet := rfl
@[simp] theorem State.setLane_snsBall (s : State) (k : Nat) (x : Lane) : (s.setLane k x).snsBall = s.snsBall := rfl
@[simp] theorem State.setLane_snsLevel (s : State) (k : Nat) (x : Lane) : (s.setLane k x).snsLevel = s.snsLevel := rfl
@[simp] theorem State.setLane_snsRun (s : State) (k : Nat) (x : Lane) : (s.setLane k x).snsRun = s.snsRun := rfl
@[simp] theorem State.setLane_snap (s : State) (k : Nat) (x : Lane) : (s.setLane k x).snap = s.snap := rfl
@[simp] theorem State.setLane_twin (s : State) (k : Nat) (x : Lane) : (s.setLane k x).twin = s.twin := rfl
@[simp] theorem State.setLane_img (s : State) (k : Nat) (x : Lane) : (s.setLane k x).img = s.img := rfl
@[simp] theorem State.setLane_partnerRd (s : State) (k : Nat) (x : Lane) : (s.setLane k x).partnerRd = s.partnerRd := rfl
@[simp] theorem State.setLane_pw (s : State) (k : Nat) (x : Lane) : (s.setLane k x).pw = s.pw := rfl
@[simp] theorem State.setLane_cupS (s : State) (k : Nat) (x : Lane) : (s.setLane k x).cupS = s.cupS := rfl
@[simp] theorem State.setLane_cupGrace (s : State) (k : Nat) (x : Lane) : (s.setLane k x).cupGrace = s.cupGrace := rfl
@[simp] theorem State.setLane_cupDefer (s : State) (k : Nat) (x : Lane) : (s.setLane k x).cupDefer = s.cupDefer := rfl
@[simp] theorem State.setLane_cupBelow (s : State) (k : Nat) (x : Lane) : (s.setLane k x).cupBelow = s.cupBelow := rfl
@[simp] theorem State.setLane_limLast (s : State) (k : Nat) (x : Lane) : (s.setLane k x).limLast = s.limLast := rfl
@[simp] theorem State.setLane_limNext (s : State) (k : Nat) (x : Lane) : (s.setLane k x).limNext = s.limNext := rfl
@[simp] theorem State.setLane_cupRec (s : State) (k : Nat) (x : Lane) : (s.setLane k x).cupRec = s.cupRec := rfl
@[simp] theorem State.setLane_notices (s : State) (k : Nat) (x : Lane) : (s.setLane k x).notices = s.notices := rfl
@[simp] theorem State.setLane_noticeSeq (s : State) (k : Nat) (x : Lane) : (s.setLane k x).noticeSeq = s.noticeSeq := rfl
@[simp] theorem State.setLane_logSeq (s : State) (k : Nat) (x : Lane) : (s.setLane k x).logSeq = s.logSeq := rfl
@[simp] theorem State.setLane_logFrom (s : State) (k : Nat) (x : Lane) : (s.setLane k x).logFrom = s.logFrom := rfl
@[simp] theorem State.setLane_fyz (s : State) (k : Nat) (x : Lane) : (s.setLane k x).fyz = s.fyz := rfl
@[simp] theorem State.setLane_pending (s : State) (k : Nat) (x : Lane) : (s.setLane k x).pending = s.pending := rfl

/-! ### `setDuty` -/

@[simp] theorem State.setDuty_now (s : State) (k : Nat) (x : List DutyEntry) : (s.setDuty k x).now = s.now := rfl
@[simp] theorem State.setDuty_ltc (s : State) (k : Nat) (x : List DutyEntry) : (s.setDuty k x).ltc = s.ltc := rfl
@[simp] theorem State.setDuty_free (s : State) (k : Nat) (x : List DutyEntry) : (s.setDuty k x).free = s.free := rfl
@[simp] theorem State.setDuty_regs (s : State) (k : Nat) (x : List DutyEntry) : (s.setDuty k x).regs = s.regs := rfl
@[simp] theorem State.setDuty_mem (s : State) (k : Nat) (x : List DutyEntry) : (s.setDuty k x).mem = s.mem := rfl
@[simp] theorem State.setDuty_memFree (s : State) (k : Nat) (x : List DutyEntry) : (s.setDuty k x).memFree = s.memFree := rfl
@[simp] theorem State.setDuty_upsets (s : State) (k : Nat) (x : List DutyEntry) : (s.setDuty k x).upsets = s.upsets := rfl
@[simp] theorem State.setDuty_hwSets (s : State) (k : Nat) (x : List DutyEntry) : (s.setDuty k x).hwSets = s.hwSets := rfl
@[simp] theorem State.setDuty_port (s : State) (k : Nat) (x : List DutyEntry) : (s.setDuty k x).port = s.port := rfl
@[simp] theorem State.setDuty_bank (s : State) (k : Nat) (x : List DutyEntry) : (s.setDuty k x).bank = s.bank := rfl
@[simp] theorem State.setDuty_sdlSeq (s : State) (k : Nat) (x : List DutyEntry) : (s.setDuty k x).sdlSeq = s.sdlSeq := rfl
@[simp] theorem State.setDuty_portRank (s : State) (k : Nat) (x : List DutyEntry) : (s.setDuty k x).portRank = s.portRank := rfl
@[simp] theorem State.setDuty_dma (s : State) (k : Nat) (x : List DutyEntry) : (s.setDuty k x).dma = s.dma := rfl
@[simp] theorem State.setDuty_lane (s : State) (k : Nat) (x : List DutyEntry) : (s.setDuty k x).lane = s.lane := rfl
@[simp] theorem State.setDuty_dutyNext (s : State) (k : Nat) (x : List DutyEntry) : (s.setDuty k x).dutyNext = s.dutyNext := rfl
@[simp] theorem State.setDuty_hrn (s : State) (k : Nat) (x : List DutyEntry) : (s.setDuty k x).hrn = s.hrn := rfl
@[simp] theorem State.setDuty_core (s : State) (k : Nat) (x : List DutyEntry) : (s.setDuty k x).core = s.core := rfl
@[simp] theorem State.setDuty_shadowIn (s : State) (k : Nat) (x : List DutyEntry) : (s.setDuty k x).shadowIn = s.shadowIn := rfl
@[simp] theorem State.setDuty_syncIn (s : State) (k : Nat) (x : List DutyEntry) : (s.setDuty k x).syncIn = s.syncIn := rfl
@[simp] theorem State.setDuty_windowIn (s : State) (k : Nat) (x : List DutyEntry) : (s.setDuty k x).windowIn = s.windowIn := rfl
@[simp] theorem State.setDuty_sar (s : State) (k : Nat) (x : List DutyEntry) : (s.setDuty k x).sar = s.sar := rfl
@[simp] theorem State.setDuty_armed (s : State) (k : Nat) (x : List DutyEntry) : (s.setDuty k x).armed = s.armed := rfl
@[simp] theorem State.setDuty_occ (s : State) (k : Nat) (x : List DutyEntry) : (s.setDuty k x).occ = s.occ := rfl
@[simp] theorem State.setDuty_scaleDecl (s : State) (k : Nat) (x : List DutyEntry) : (s.setDuty k x).scaleDecl = s.scaleDecl := rfl
@[simp] theorem State.setDuty_copyEnd (s : State) (k : Nat) (x : List DutyEntry) : (s.setDuty k x).copyEnd = s.copyEnd := rfl
@[simp] theorem State.setDuty_slotHeld (s : State) (k : Nat) (x : List DutyEntry) : (s.setDuty k x).slotHeld = s.slotHeld := rfl
@[simp] theorem State.setDuty_sdmOver (s : State) (k : Nat) (x : List DutyEntry) : (s.setDuty k x).sdmOver = s.sdmOver := rfl
@[simp] theorem State.setDuty_trigs (s : State) (k : Nat) (x : List DutyEntry) : (s.setDuty k x).trigs = s.trigs := rfl
@[simp] theorem State.setDuty_meter (s : State) (k : Nat) (x : List DutyEntry) : (s.setDuty k x).meter = s.meter := rfl
@[simp] theorem State.setDuty_meterWin (s : State) (k : Nat) (x : List DutyEntry) : (s.setDuty k x).meterWin = s.meterWin := rfl
@[simp] theorem State.setDuty_energyRem (s : State) (k : Nat) (x : List DutyEntry) : (s.setDuty k x).energyRem = s.energyRem := rfl
@[simp] theorem State.setDuty_cmp (s : State) (k : Nat) (x : List DutyEntry) : (s.setDuty k x).cmp = s.cmp := rfl
@[simp] theorem State.setDuty_pairUv (s : State) (k : Nat) (x : List DutyEntry) : (s.setDuty k x).pairUv = s.pairUv := rfl
@[simp] theorem State.setDuty_trip (s : State) (k : Nat) (x : List DutyEntry) : (s.setDuty k x).trip = s.trip := rfl
@[simp] theorem State.setDuty_rawPast (s : State) (k : Nat) (x : List DutyEntry) : (s.setDuty k x).rawPast = s.rawPast := rfl
@[simp] theorem State.setDuty_pinPast (s : State) (k : Nat) (x : List DutyEntry) : (s.setDuty k x).pinPast = s.pinPast := rfl
@[simp] theorem State.setDuty_reinPast (s : State) (k : Nat) (x : List DutyEntry) : (s.setDuty k x).reinPast = s.reinPast := rfl
@[simp] theorem State.setDuty_reinTick (s : State) (k : Nat) (x : List DutyEntry) : (s.setDuty k x).reinTick = s.reinTick := rfl
@[simp] theorem State.setDuty_reinPrev (s : State) (k : Nat) (x : List DutyEntry) : (s.setDuty k x).reinPrev = s.reinPrev := rfl
@[simp] theorem State.setDuty_chan (s : State) (k : Nat) (x : List DutyEntry) : (s.setDuty k x).chan = s.chan := rfl
@[simp] theorem State.setDuty_spr (s : State) (k : Nat) (x : List DutyEntry) : (s.setDuty k x).spr = s.spr := rfl
@[simp] theorem State.setDuty_angHist (s : State) (k : Nat) (x : List DutyEntry) : (s.setDuty k x).angHist = s.angHist := rfl
@[simp] theorem State.setDuty_feed (s : State) (k : Nat) (x : List DutyEntry) : (s.setDuty k x).feed = s.feed := rfl
@[simp] theorem State.setDuty_pair (s : State) (k : Nat) (x : List DutyEntry) : (s.setDuty k x).pair = s.pair := rfl
@[simp] theorem State.setDuty_xfer (s : State) (k : Nat) (x : List DutyEntry) : (s.setDuty k x).xfer = s.xfer := rfl
@[simp] theorem State.setDuty_energised (s : State) (k : Nat) (x : List DutyEntry) : (s.setDuty k x).energised = s.energised := rfl
@[simp] theorem State.setDuty_tmr (s : State) (k : Nat) (x : List DutyEntry) : (s.setDuty k x).tmr = s.tmr := rfl
@[simp] theorem State.setDuty_routeAt (s : State) (k : Nat) (x : List DutyEntry) : (s.setDuty k x).routeAt = s.routeAt := rfl
@[simp] theorem State.setDuty_lockPast (s : State) (k : Nat) (x : List DutyEntry) : (s.setDuty k x).lockPast = s.lockPast := rfl
@[simp] theorem State.setDuty_monEdge (s : State) (k : Nat) (x : List DutyEntry) : (s.setDuty k x).monEdge = s.monEdge := rfl
@[simp] theorem State.setDuty_monArmed (s : State) (k : Nat) (x : List DutyEntry) : (s.setDuty k x).monArmed = s.monArmed := rfl
@[simp] theorem State.setDuty_monQuiet (s : State) (k : Nat) (x : List DutyEntry) : (s.setDuty k x).monQuiet = s.monQuiet := rfl
@[simp] theorem State.setDuty_snsBall (s : State) (k : Nat) (x : List DutyEntry) : (s.setDuty k x).snsBall = s.snsBall := rfl
@[simp] theorem State.setDuty_snsLevel (s : State) (k : Nat) (x : List DutyEntry) : (s.setDuty k x).snsLevel = s.snsLevel := rfl
@[simp] theorem State.setDuty_snsRun (s : State) (k : Nat) (x : List DutyEntry) : (s.setDuty k x).snsRun = s.snsRun := rfl
@[simp] theorem State.setDuty_snap (s : State) (k : Nat) (x : List DutyEntry) : (s.setDuty k x).snap = s.snap := rfl
@[simp] theorem State.setDuty_twin (s : State) (k : Nat) (x : List DutyEntry) : (s.setDuty k x).twin = s.twin := rfl
@[simp] theorem State.setDuty_img (s : State) (k : Nat) (x : List DutyEntry) : (s.setDuty k x).img = s.img := rfl
@[simp] theorem State.setDuty_partnerRd (s : State) (k : Nat) (x : List DutyEntry) : (s.setDuty k x).partnerRd = s.partnerRd := rfl
@[simp] theorem State.setDuty_pw (s : State) (k : Nat) (x : List DutyEntry) : (s.setDuty k x).pw = s.pw := rfl
@[simp] theorem State.setDuty_cupS (s : State) (k : Nat) (x : List DutyEntry) : (s.setDuty k x).cupS = s.cupS := rfl
@[simp] theorem State.setDuty_cupGrace (s : State) (k : Nat) (x : List DutyEntry) : (s.setDuty k x).cupGrace = s.cupGrace := rfl
@[simp] theorem State.setDuty_cupDefer (s : State) (k : Nat) (x : List DutyEntry) : (s.setDuty k x).cupDefer = s.cupDefer := rfl
@[simp] theorem State.setDuty_cupBelow (s : State) (k : Nat) (x : List DutyEntry) : (s.setDuty k x).cupBelow = s.cupBelow := rfl
@[simp] theorem State.setDuty_limLast (s : State) (k : Nat) (x : List DutyEntry) : (s.setDuty k x).limLast = s.limLast := rfl
@[simp] theorem State.setDuty_limNext (s : State) (k : Nat) (x : List DutyEntry) : (s.setDuty k x).limNext = s.limNext := rfl
@[simp] theorem State.setDuty_cupRec (s : State) (k : Nat) (x : List DutyEntry) : (s.setDuty k x).cupRec = s.cupRec := rfl
@[simp] theorem State.setDuty_notices (s : State) (k : Nat) (x : List DutyEntry) : (s.setDuty k x).notices = s.notices := rfl
@[simp] theorem State.setDuty_noticeSeq (s : State) (k : Nat) (x : List DutyEntry) : (s.setDuty k x).noticeSeq = s.noticeSeq := rfl
@[simp] theorem State.setDuty_logSeq (s : State) (k : Nat) (x : List DutyEntry) : (s.setDuty k x).logSeq = s.logSeq := rfl
@[simp] theorem State.setDuty_logFrom (s : State) (k : Nat) (x : List DutyEntry) : (s.setDuty k x).logFrom = s.logFrom := rfl
@[simp] theorem State.setDuty_fyz (s : State) (k : Nat) (x : List DutyEntry) : (s.setDuty k x).fyz = s.fyz := rfl
@[simp] theorem State.setDuty_pending (s : State) (k : Nat) (x : List DutyEntry) : (s.setDuty k x).pending = s.pending := rfl

/-! ### `setCore` -/

@[simp] theorem State.setCore_now (s : State) (k : Nat) (x : Core) : (s.setCore k x).now = s.now := rfl
@[simp] theorem State.setCore_ltc (s : State) (k : Nat) (x : Core) : (s.setCore k x).ltc = s.ltc := rfl
@[simp] theorem State.setCore_free (s : State) (k : Nat) (x : Core) : (s.setCore k x).free = s.free := rfl
@[simp] theorem State.setCore_regs (s : State) (k : Nat) (x : Core) : (s.setCore k x).regs = s.regs := rfl
@[simp] theorem State.setCore_mem (s : State) (k : Nat) (x : Core) : (s.setCore k x).mem = s.mem := rfl
@[simp] theorem State.setCore_memFree (s : State) (k : Nat) (x : Core) : (s.setCore k x).memFree = s.memFree := rfl
@[simp] theorem State.setCore_upsets (s : State) (k : Nat) (x : Core) : (s.setCore k x).upsets = s.upsets := rfl
@[simp] theorem State.setCore_hwSets (s : State) (k : Nat) (x : Core) : (s.setCore k x).hwSets = s.hwSets := rfl
@[simp] theorem State.setCore_port (s : State) (k : Nat) (x : Core) : (s.setCore k x).port = s.port := rfl
@[simp] theorem State.setCore_bank (s : State) (k : Nat) (x : Core) : (s.setCore k x).bank = s.bank := rfl
@[simp] theorem State.setCore_sdlSeq (s : State) (k : Nat) (x : Core) : (s.setCore k x).sdlSeq = s.sdlSeq := rfl
@[simp] theorem State.setCore_portRank (s : State) (k : Nat) (x : Core) : (s.setCore k x).portRank = s.portRank := rfl
@[simp] theorem State.setCore_dma (s : State) (k : Nat) (x : Core) : (s.setCore k x).dma = s.dma := rfl
@[simp] theorem State.setCore_lane (s : State) (k : Nat) (x : Core) : (s.setCore k x).lane = s.lane := rfl
@[simp] theorem State.setCore_dutyq (s : State) (k : Nat) (x : Core) : (s.setCore k x).dutyq = s.dutyq := rfl
@[simp] theorem State.setCore_dutyNext (s : State) (k : Nat) (x : Core) : (s.setCore k x).dutyNext = s.dutyNext := rfl
@[simp] theorem State.setCore_hrn (s : State) (k : Nat) (x : Core) : (s.setCore k x).hrn = s.hrn := rfl
@[simp] theorem State.setCore_shadowIn (s : State) (k : Nat) (x : Core) : (s.setCore k x).shadowIn = s.shadowIn := rfl
@[simp] theorem State.setCore_syncIn (s : State) (k : Nat) (x : Core) : (s.setCore k x).syncIn = s.syncIn := rfl
@[simp] theorem State.setCore_windowIn (s : State) (k : Nat) (x : Core) : (s.setCore k x).windowIn = s.windowIn := rfl
@[simp] theorem State.setCore_sar (s : State) (k : Nat) (x : Core) : (s.setCore k x).sar = s.sar := rfl
@[simp] theorem State.setCore_armed (s : State) (k : Nat) (x : Core) : (s.setCore k x).armed = s.armed := rfl
@[simp] theorem State.setCore_occ (s : State) (k : Nat) (x : Core) : (s.setCore k x).occ = s.occ := rfl
@[simp] theorem State.setCore_scaleDecl (s : State) (k : Nat) (x : Core) : (s.setCore k x).scaleDecl = s.scaleDecl := rfl
@[simp] theorem State.setCore_copyEnd (s : State) (k : Nat) (x : Core) : (s.setCore k x).copyEnd = s.copyEnd := rfl
@[simp] theorem State.setCore_slotHeld (s : State) (k : Nat) (x : Core) : (s.setCore k x).slotHeld = s.slotHeld := rfl
@[simp] theorem State.setCore_sdmOver (s : State) (k : Nat) (x : Core) : (s.setCore k x).sdmOver = s.sdmOver := rfl
@[simp] theorem State.setCore_trigs (s : State) (k : Nat) (x : Core) : (s.setCore k x).trigs = s.trigs := rfl
@[simp] theorem State.setCore_meter (s : State) (k : Nat) (x : Core) : (s.setCore k x).meter = s.meter := rfl
@[simp] theorem State.setCore_meterWin (s : State) (k : Nat) (x : Core) : (s.setCore k x).meterWin = s.meterWin := rfl
@[simp] theorem State.setCore_energyRem (s : State) (k : Nat) (x : Core) : (s.setCore k x).energyRem = s.energyRem := rfl
@[simp] theorem State.setCore_cmp (s : State) (k : Nat) (x : Core) : (s.setCore k x).cmp = s.cmp := rfl
@[simp] theorem State.setCore_pairUv (s : State) (k : Nat) (x : Core) : (s.setCore k x).pairUv = s.pairUv := rfl
@[simp] theorem State.setCore_trip (s : State) (k : Nat) (x : Core) : (s.setCore k x).trip = s.trip := rfl
@[simp] theorem State.setCore_rawPast (s : State) (k : Nat) (x : Core) : (s.setCore k x).rawPast = s.rawPast := rfl
@[simp] theorem State.setCore_pinPast (s : State) (k : Nat) (x : Core) : (s.setCore k x).pinPast = s.pinPast := rfl
@[simp] theorem State.setCore_reinPast (s : State) (k : Nat) (x : Core) : (s.setCore k x).reinPast = s.reinPast := rfl
@[simp] theorem State.setCore_reinTick (s : State) (k : Nat) (x : Core) : (s.setCore k x).reinTick = s.reinTick := rfl
@[simp] theorem State.setCore_reinPrev (s : State) (k : Nat) (x : Core) : (s.setCore k x).reinPrev = s.reinPrev := rfl
@[simp] theorem State.setCore_chan (s : State) (k : Nat) (x : Core) : (s.setCore k x).chan = s.chan := rfl
@[simp] theorem State.setCore_spr (s : State) (k : Nat) (x : Core) : (s.setCore k x).spr = s.spr := rfl
@[simp] theorem State.setCore_angHist (s : State) (k : Nat) (x : Core) : (s.setCore k x).angHist = s.angHist := rfl
@[simp] theorem State.setCore_feed (s : State) (k : Nat) (x : Core) : (s.setCore k x).feed = s.feed := rfl
@[simp] theorem State.setCore_pair (s : State) (k : Nat) (x : Core) : (s.setCore k x).pair = s.pair := rfl
@[simp] theorem State.setCore_xfer (s : State) (k : Nat) (x : Core) : (s.setCore k x).xfer = s.xfer := rfl
@[simp] theorem State.setCore_energised (s : State) (k : Nat) (x : Core) : (s.setCore k x).energised = s.energised := rfl
@[simp] theorem State.setCore_tmr (s : State) (k : Nat) (x : Core) : (s.setCore k x).tmr = s.tmr := rfl
@[simp] theorem State.setCore_routeAt (s : State) (k : Nat) (x : Core) : (s.setCore k x).routeAt = s.routeAt := rfl
@[simp] theorem State.setCore_lockPast (s : State) (k : Nat) (x : Core) : (s.setCore k x).lockPast = s.lockPast := rfl
@[simp] theorem State.setCore_monEdge (s : State) (k : Nat) (x : Core) : (s.setCore k x).monEdge = s.monEdge := rfl
@[simp] theorem State.setCore_monArmed (s : State) (k : Nat) (x : Core) : (s.setCore k x).monArmed = s.monArmed := rfl
@[simp] theorem State.setCore_monQuiet (s : State) (k : Nat) (x : Core) : (s.setCore k x).monQuiet = s.monQuiet := rfl
@[simp] theorem State.setCore_snsBall (s : State) (k : Nat) (x : Core) : (s.setCore k x).snsBall = s.snsBall := rfl
@[simp] theorem State.setCore_snsLevel (s : State) (k : Nat) (x : Core) : (s.setCore k x).snsLevel = s.snsLevel := rfl
@[simp] theorem State.setCore_snsRun (s : State) (k : Nat) (x : Core) : (s.setCore k x).snsRun = s.snsRun := rfl
@[simp] theorem State.setCore_snap (s : State) (k : Nat) (x : Core) : (s.setCore k x).snap = s.snap := rfl
@[simp] theorem State.setCore_twin (s : State) (k : Nat) (x : Core) : (s.setCore k x).twin = s.twin := rfl
@[simp] theorem State.setCore_img (s : State) (k : Nat) (x : Core) : (s.setCore k x).img = s.img := rfl
@[simp] theorem State.setCore_partnerRd (s : State) (k : Nat) (x : Core) : (s.setCore k x).partnerRd = s.partnerRd := rfl
@[simp] theorem State.setCore_pw (s : State) (k : Nat) (x : Core) : (s.setCore k x).pw = s.pw := rfl
@[simp] theorem State.setCore_cupS (s : State) (k : Nat) (x : Core) : (s.setCore k x).cupS = s.cupS := rfl
@[simp] theorem State.setCore_cupGrace (s : State) (k : Nat) (x : Core) : (s.setCore k x).cupGrace = s.cupGrace := rfl
@[simp] theorem State.setCore_cupDefer (s : State) (k : Nat) (x : Core) : (s.setCore k x).cupDefer = s.cupDefer := rfl
@[simp] theorem State.setCore_cupBelow (s : State) (k : Nat) (x : Core) : (s.setCore k x).cupBelow = s.cupBelow := rfl
@[simp] theorem State.setCore_limLast (s : State) (k : Nat) (x : Core) : (s.setCore k x).limLast = s.limLast := rfl
@[simp] theorem State.setCore_limNext (s : State) (k : Nat) (x : Core) : (s.setCore k x).limNext = s.limNext := rfl
@[simp] theorem State.setCore_cupRec (s : State) (k : Nat) (x : Core) : (s.setCore k x).cupRec = s.cupRec := rfl
@[simp] theorem State.setCore_notices (s : State) (k : Nat) (x : Core) : (s.setCore k x).notices = s.notices := rfl
@[simp] theorem State.setCore_noticeSeq (s : State) (k : Nat) (x : Core) : (s.setCore k x).noticeSeq = s.noticeSeq := rfl
@[simp] theorem State.setCore_logSeq (s : State) (k : Nat) (x : Core) : (s.setCore k x).logSeq = s.logSeq := rfl
@[simp] theorem State.setCore_logFrom (s : State) (k : Nat) (x : Core) : (s.setCore k x).logFrom = s.logFrom := rfl
@[simp] theorem State.setCore_fyz (s : State) (k : Nat) (x : Core) : (s.setCore k x).fyz = s.fyz := rfl
@[simp] theorem State.setCore_pending (s : State) (k : Nat) (x : Core) : (s.setCore k x).pending = s.pending := rfl

/-! ### `setSar` -/

@[simp] theorem State.setSar_now (s : State) (k : Nat) (x : Sar) : (s.setSar k x).now = s.now := rfl
@[simp] theorem State.setSar_ltc (s : State) (k : Nat) (x : Sar) : (s.setSar k x).ltc = s.ltc := rfl
@[simp] theorem State.setSar_free (s : State) (k : Nat) (x : Sar) : (s.setSar k x).free = s.free := rfl
@[simp] theorem State.setSar_regs (s : State) (k : Nat) (x : Sar) : (s.setSar k x).regs = s.regs := rfl
@[simp] theorem State.setSar_mem (s : State) (k : Nat) (x : Sar) : (s.setSar k x).mem = s.mem := rfl
@[simp] theorem State.setSar_memFree (s : State) (k : Nat) (x : Sar) : (s.setSar k x).memFree = s.memFree := rfl
@[simp] theorem State.setSar_upsets (s : State) (k : Nat) (x : Sar) : (s.setSar k x).upsets = s.upsets := rfl
@[simp] theorem State.setSar_hwSets (s : State) (k : Nat) (x : Sar) : (s.setSar k x).hwSets = s.hwSets := rfl
@[simp] theorem State.setSar_port (s : State) (k : Nat) (x : Sar) : (s.setSar k x).port = s.port := rfl
@[simp] theorem State.setSar_bank (s : State) (k : Nat) (x : Sar) : (s.setSar k x).bank = s.bank := rfl
@[simp] theorem State.setSar_sdlSeq (s : State) (k : Nat) (x : Sar) : (s.setSar k x).sdlSeq = s.sdlSeq := rfl
@[simp] theorem State.setSar_portRank (s : State) (k : Nat) (x : Sar) : (s.setSar k x).portRank = s.portRank := rfl
@[simp] theorem State.setSar_dma (s : State) (k : Nat) (x : Sar) : (s.setSar k x).dma = s.dma := rfl
@[simp] theorem State.setSar_lane (s : State) (k : Nat) (x : Sar) : (s.setSar k x).lane = s.lane := rfl
@[simp] theorem State.setSar_dutyq (s : State) (k : Nat) (x : Sar) : (s.setSar k x).dutyq = s.dutyq := rfl
@[simp] theorem State.setSar_dutyNext (s : State) (k : Nat) (x : Sar) : (s.setSar k x).dutyNext = s.dutyNext := rfl
@[simp] theorem State.setSar_hrn (s : State) (k : Nat) (x : Sar) : (s.setSar k x).hrn = s.hrn := rfl
@[simp] theorem State.setSar_core (s : State) (k : Nat) (x : Sar) : (s.setSar k x).core = s.core := rfl
@[simp] theorem State.setSar_shadowIn (s : State) (k : Nat) (x : Sar) : (s.setSar k x).shadowIn = s.shadowIn := rfl
@[simp] theorem State.setSar_syncIn (s : State) (k : Nat) (x : Sar) : (s.setSar k x).syncIn = s.syncIn := rfl
@[simp] theorem State.setSar_windowIn (s : State) (k : Nat) (x : Sar) : (s.setSar k x).windowIn = s.windowIn := rfl
@[simp] theorem State.setSar_armed (s : State) (k : Nat) (x : Sar) : (s.setSar k x).armed = s.armed := rfl
@[simp] theorem State.setSar_occ (s : State) (k : Nat) (x : Sar) : (s.setSar k x).occ = s.occ := rfl
@[simp] theorem State.setSar_scaleDecl (s : State) (k : Nat) (x : Sar) : (s.setSar k x).scaleDecl = s.scaleDecl := rfl
@[simp] theorem State.setSar_copyEnd (s : State) (k : Nat) (x : Sar) : (s.setSar k x).copyEnd = s.copyEnd := rfl
@[simp] theorem State.setSar_slotHeld (s : State) (k : Nat) (x : Sar) : (s.setSar k x).slotHeld = s.slotHeld := rfl
@[simp] theorem State.setSar_sdmOver (s : State) (k : Nat) (x : Sar) : (s.setSar k x).sdmOver = s.sdmOver := rfl
@[simp] theorem State.setSar_trigs (s : State) (k : Nat) (x : Sar) : (s.setSar k x).trigs = s.trigs := rfl
@[simp] theorem State.setSar_meter (s : State) (k : Nat) (x : Sar) : (s.setSar k x).meter = s.meter := rfl
@[simp] theorem State.setSar_meterWin (s : State) (k : Nat) (x : Sar) : (s.setSar k x).meterWin = s.meterWin := rfl
@[simp] theorem State.setSar_energyRem (s : State) (k : Nat) (x : Sar) : (s.setSar k x).energyRem = s.energyRem := rfl
@[simp] theorem State.setSar_cmp (s : State) (k : Nat) (x : Sar) : (s.setSar k x).cmp = s.cmp := rfl
@[simp] theorem State.setSar_pairUv (s : State) (k : Nat) (x : Sar) : (s.setSar k x).pairUv = s.pairUv := rfl
@[simp] theorem State.setSar_trip (s : State) (k : Nat) (x : Sar) : (s.setSar k x).trip = s.trip := rfl
@[simp] theorem State.setSar_rawPast (s : State) (k : Nat) (x : Sar) : (s.setSar k x).rawPast = s.rawPast := rfl
@[simp] theorem State.setSar_pinPast (s : State) (k : Nat) (x : Sar) : (s.setSar k x).pinPast = s.pinPast := rfl
@[simp] theorem State.setSar_reinPast (s : State) (k : Nat) (x : Sar) : (s.setSar k x).reinPast = s.reinPast := rfl
@[simp] theorem State.setSar_reinTick (s : State) (k : Nat) (x : Sar) : (s.setSar k x).reinTick = s.reinTick := rfl
@[simp] theorem State.setSar_reinPrev (s : State) (k : Nat) (x : Sar) : (s.setSar k x).reinPrev = s.reinPrev := rfl
@[simp] theorem State.setSar_chan (s : State) (k : Nat) (x : Sar) : (s.setSar k x).chan = s.chan := rfl
@[simp] theorem State.setSar_spr (s : State) (k : Nat) (x : Sar) : (s.setSar k x).spr = s.spr := rfl
@[simp] theorem State.setSar_angHist (s : State) (k : Nat) (x : Sar) : (s.setSar k x).angHist = s.angHist := rfl
@[simp] theorem State.setSar_feed (s : State) (k : Nat) (x : Sar) : (s.setSar k x).feed = s.feed := rfl
@[simp] theorem State.setSar_pair (s : State) (k : Nat) (x : Sar) : (s.setSar k x).pair = s.pair := rfl
@[simp] theorem State.setSar_xfer (s : State) (k : Nat) (x : Sar) : (s.setSar k x).xfer = s.xfer := rfl
@[simp] theorem State.setSar_energised (s : State) (k : Nat) (x : Sar) : (s.setSar k x).energised = s.energised := rfl
@[simp] theorem State.setSar_tmr (s : State) (k : Nat) (x : Sar) : (s.setSar k x).tmr = s.tmr := rfl
@[simp] theorem State.setSar_routeAt (s : State) (k : Nat) (x : Sar) : (s.setSar k x).routeAt = s.routeAt := rfl
@[simp] theorem State.setSar_lockPast (s : State) (k : Nat) (x : Sar) : (s.setSar k x).lockPast = s.lockPast := rfl
@[simp] theorem State.setSar_monEdge (s : State) (k : Nat) (x : Sar) : (s.setSar k x).monEdge = s.monEdge := rfl
@[simp] theorem State.setSar_monArmed (s : State) (k : Nat) (x : Sar) : (s.setSar k x).monArmed = s.monArmed := rfl
@[simp] theorem State.setSar_monQuiet (s : State) (k : Nat) (x : Sar) : (s.setSar k x).monQuiet = s.monQuiet := rfl
@[simp] theorem State.setSar_snsBall (s : State) (k : Nat) (x : Sar) : (s.setSar k x).snsBall = s.snsBall := rfl
@[simp] theorem State.setSar_snsLevel (s : State) (k : Nat) (x : Sar) : (s.setSar k x).snsLevel = s.snsLevel := rfl
@[simp] theorem State.setSar_snsRun (s : State) (k : Nat) (x : Sar) : (s.setSar k x).snsRun = s.snsRun := rfl
@[simp] theorem State.setSar_snap (s : State) (k : Nat) (x : Sar) : (s.setSar k x).snap = s.snap := rfl
@[simp] theorem State.setSar_twin (s : State) (k : Nat) (x : Sar) : (s.setSar k x).twin = s.twin := rfl
@[simp] theorem State.setSar_img (s : State) (k : Nat) (x : Sar) : (s.setSar k x).img = s.img := rfl
@[simp] theorem State.setSar_partnerRd (s : State) (k : Nat) (x : Sar) : (s.setSar k x).partnerRd = s.partnerRd := rfl
@[simp] theorem State.setSar_pw (s : State) (k : Nat) (x : Sar) : (s.setSar k x).pw = s.pw := rfl
@[simp] theorem State.setSar_cupS (s : State) (k : Nat) (x : Sar) : (s.setSar k x).cupS = s.cupS := rfl
@[simp] theorem State.setSar_cupGrace (s : State) (k : Nat) (x : Sar) : (s.setSar k x).cupGrace = s.cupGrace := rfl
@[simp] theorem State.setSar_cupDefer (s : State) (k : Nat) (x : Sar) : (s.setSar k x).cupDefer = s.cupDefer := rfl
@[simp] theorem State.setSar_cupBelow (s : State) (k : Nat) (x : Sar) : (s.setSar k x).cupBelow = s.cupBelow := rfl
@[simp] theorem State.setSar_limLast (s : State) (k : Nat) (x : Sar) : (s.setSar k x).limLast = s.limLast := rfl
@[simp] theorem State.setSar_limNext (s : State) (k : Nat) (x : Sar) : (s.setSar k x).limNext = s.limNext := rfl
@[simp] theorem State.setSar_cupRec (s : State) (k : Nat) (x : Sar) : (s.setSar k x).cupRec = s.cupRec := rfl
@[simp] theorem State.setSar_notices (s : State) (k : Nat) (x : Sar) : (s.setSar k x).notices = s.notices := rfl
@[simp] theorem State.setSar_noticeSeq (s : State) (k : Nat) (x : Sar) : (s.setSar k x).noticeSeq = s.noticeSeq := rfl
@[simp] theorem State.setSar_logSeq (s : State) (k : Nat) (x : Sar) : (s.setSar k x).logSeq = s.logSeq := rfl
@[simp] theorem State.setSar_logFrom (s : State) (k : Nat) (x : Sar) : (s.setSar k x).logFrom = s.logFrom := rfl
@[simp] theorem State.setSar_fyz (s : State) (k : Nat) (x : Sar) : (s.setSar k x).fyz = s.fyz := rfl
@[simp] theorem State.setSar_pending (s : State) (k : Nat) (x : Sar) : (s.setSar k x).pending = s.pending := rfl

/-! ### `setCmp` -/

@[simp] theorem State.setCmp_now (s : State) (k : Nat) (x : Cmp) : (s.setCmp k x).now = s.now := rfl
@[simp] theorem State.setCmp_ltc (s : State) (k : Nat) (x : Cmp) : (s.setCmp k x).ltc = s.ltc := rfl
@[simp] theorem State.setCmp_free (s : State) (k : Nat) (x : Cmp) : (s.setCmp k x).free = s.free := rfl
@[simp] theorem State.setCmp_regs (s : State) (k : Nat) (x : Cmp) : (s.setCmp k x).regs = s.regs := rfl
@[simp] theorem State.setCmp_mem (s : State) (k : Nat) (x : Cmp) : (s.setCmp k x).mem = s.mem := rfl
@[simp] theorem State.setCmp_memFree (s : State) (k : Nat) (x : Cmp) : (s.setCmp k x).memFree = s.memFree := rfl
@[simp] theorem State.setCmp_upsets (s : State) (k : Nat) (x : Cmp) : (s.setCmp k x).upsets = s.upsets := rfl
@[simp] theorem State.setCmp_hwSets (s : State) (k : Nat) (x : Cmp) : (s.setCmp k x).hwSets = s.hwSets := rfl
@[simp] theorem State.setCmp_port (s : State) (k : Nat) (x : Cmp) : (s.setCmp k x).port = s.port := rfl
@[simp] theorem State.setCmp_bank (s : State) (k : Nat) (x : Cmp) : (s.setCmp k x).bank = s.bank := rfl
@[simp] theorem State.setCmp_sdlSeq (s : State) (k : Nat) (x : Cmp) : (s.setCmp k x).sdlSeq = s.sdlSeq := rfl
@[simp] theorem State.setCmp_portRank (s : State) (k : Nat) (x : Cmp) : (s.setCmp k x).portRank = s.portRank := rfl
@[simp] theorem State.setCmp_dma (s : State) (k : Nat) (x : Cmp) : (s.setCmp k x).dma = s.dma := rfl
@[simp] theorem State.setCmp_lane (s : State) (k : Nat) (x : Cmp) : (s.setCmp k x).lane = s.lane := rfl
@[simp] theorem State.setCmp_dutyq (s : State) (k : Nat) (x : Cmp) : (s.setCmp k x).dutyq = s.dutyq := rfl
@[simp] theorem State.setCmp_dutyNext (s : State) (k : Nat) (x : Cmp) : (s.setCmp k x).dutyNext = s.dutyNext := rfl
@[simp] theorem State.setCmp_hrn (s : State) (k : Nat) (x : Cmp) : (s.setCmp k x).hrn = s.hrn := rfl
@[simp] theorem State.setCmp_core (s : State) (k : Nat) (x : Cmp) : (s.setCmp k x).core = s.core := rfl
@[simp] theorem State.setCmp_shadowIn (s : State) (k : Nat) (x : Cmp) : (s.setCmp k x).shadowIn = s.shadowIn := rfl
@[simp] theorem State.setCmp_syncIn (s : State) (k : Nat) (x : Cmp) : (s.setCmp k x).syncIn = s.syncIn := rfl
@[simp] theorem State.setCmp_windowIn (s : State) (k : Nat) (x : Cmp) : (s.setCmp k x).windowIn = s.windowIn := rfl
@[simp] theorem State.setCmp_sar (s : State) (k : Nat) (x : Cmp) : (s.setCmp k x).sar = s.sar := rfl
@[simp] theorem State.setCmp_armed (s : State) (k : Nat) (x : Cmp) : (s.setCmp k x).armed = s.armed := rfl
@[simp] theorem State.setCmp_occ (s : State) (k : Nat) (x : Cmp) : (s.setCmp k x).occ = s.occ := rfl
@[simp] theorem State.setCmp_scaleDecl (s : State) (k : Nat) (x : Cmp) : (s.setCmp k x).scaleDecl = s.scaleDecl := rfl
@[simp] theorem State.setCmp_copyEnd (s : State) (k : Nat) (x : Cmp) : (s.setCmp k x).copyEnd = s.copyEnd := rfl
@[simp] theorem State.setCmp_slotHeld (s : State) (k : Nat) (x : Cmp) : (s.setCmp k x).slotHeld = s.slotHeld := rfl
@[simp] theorem State.setCmp_sdmOver (s : State) (k : Nat) (x : Cmp) : (s.setCmp k x).sdmOver = s.sdmOver := rfl
@[simp] theorem State.setCmp_trigs (s : State) (k : Nat) (x : Cmp) : (s.setCmp k x).trigs = s.trigs := rfl
@[simp] theorem State.setCmp_meter (s : State) (k : Nat) (x : Cmp) : (s.setCmp k x).meter = s.meter := rfl
@[simp] theorem State.setCmp_meterWin (s : State) (k : Nat) (x : Cmp) : (s.setCmp k x).meterWin = s.meterWin := rfl
@[simp] theorem State.setCmp_energyRem (s : State) (k : Nat) (x : Cmp) : (s.setCmp k x).energyRem = s.energyRem := rfl
@[simp] theorem State.setCmp_pairUv (s : State) (k : Nat) (x : Cmp) : (s.setCmp k x).pairUv = s.pairUv := rfl
@[simp] theorem State.setCmp_trip (s : State) (k : Nat) (x : Cmp) : (s.setCmp k x).trip = s.trip := rfl
@[simp] theorem State.setCmp_rawPast (s : State) (k : Nat) (x : Cmp) : (s.setCmp k x).rawPast = s.rawPast := rfl
@[simp] theorem State.setCmp_pinPast (s : State) (k : Nat) (x : Cmp) : (s.setCmp k x).pinPast = s.pinPast := rfl
@[simp] theorem State.setCmp_reinPast (s : State) (k : Nat) (x : Cmp) : (s.setCmp k x).reinPast = s.reinPast := rfl
@[simp] theorem State.setCmp_reinTick (s : State) (k : Nat) (x : Cmp) : (s.setCmp k x).reinTick = s.reinTick := rfl
@[simp] theorem State.setCmp_reinPrev (s : State) (k : Nat) (x : Cmp) : (s.setCmp k x).reinPrev = s.reinPrev := rfl
@[simp] theorem State.setCmp_chan (s : State) (k : Nat) (x : Cmp) : (s.setCmp k x).chan = s.chan := rfl
@[simp] theorem State.setCmp_spr (s : State) (k : Nat) (x : Cmp) : (s.setCmp k x).spr = s.spr := rfl
@[simp] theorem State.setCmp_angHist (s : State) (k : Nat) (x : Cmp) : (s.setCmp k x).angHist = s.angHist := rfl
@[simp] theorem State.setCmp_feed (s : State) (k : Nat) (x : Cmp) : (s.setCmp k x).feed = s.feed := rfl
@[simp] theorem State.setCmp_pair (s : State) (k : Nat) (x : Cmp) : (s.setCmp k x).pair = s.pair := rfl
@[simp] theorem State.setCmp_xfer (s : State) (k : Nat) (x : Cmp) : (s.setCmp k x).xfer = s.xfer := rfl
@[simp] theorem State.setCmp_energised (s : State) (k : Nat) (x : Cmp) : (s.setCmp k x).energised = s.energised := rfl
@[simp] theorem State.setCmp_tmr (s : State) (k : Nat) (x : Cmp) : (s.setCmp k x).tmr = s.tmr := rfl
@[simp] theorem State.setCmp_routeAt (s : State) (k : Nat) (x : Cmp) : (s.setCmp k x).routeAt = s.routeAt := rfl
@[simp] theorem State.setCmp_lockPast (s : State) (k : Nat) (x : Cmp) : (s.setCmp k x).lockPast = s.lockPast := rfl
@[simp] theorem State.setCmp_monEdge (s : State) (k : Nat) (x : Cmp) : (s.setCmp k x).monEdge = s.monEdge := rfl
@[simp] theorem State.setCmp_monArmed (s : State) (k : Nat) (x : Cmp) : (s.setCmp k x).monArmed = s.monArmed := rfl
@[simp] theorem State.setCmp_monQuiet (s : State) (k : Nat) (x : Cmp) : (s.setCmp k x).monQuiet = s.monQuiet := rfl
@[simp] theorem State.setCmp_snsBall (s : State) (k : Nat) (x : Cmp) : (s.setCmp k x).snsBall = s.snsBall := rfl
@[simp] theorem State.setCmp_snsLevel (s : State) (k : Nat) (x : Cmp) : (s.setCmp k x).snsLevel = s.snsLevel := rfl
@[simp] theorem State.setCmp_snsRun (s : State) (k : Nat) (x : Cmp) : (s.setCmp k x).snsRun = s.snsRun := rfl
@[simp] theorem State.setCmp_snap (s : State) (k : Nat) (x : Cmp) : (s.setCmp k x).snap = s.snap := rfl
@[simp] theorem State.setCmp_twin (s : State) (k : Nat) (x : Cmp) : (s.setCmp k x).twin = s.twin := rfl
@[simp] theorem State.setCmp_img (s : State) (k : Nat) (x : Cmp) : (s.setCmp k x).img = s.img := rfl
@[simp] theorem State.setCmp_partnerRd (s : State) (k : Nat) (x : Cmp) : (s.setCmp k x).partnerRd = s.partnerRd := rfl
@[simp] theorem State.setCmp_pw (s : State) (k : Nat) (x : Cmp) : (s.setCmp k x).pw = s.pw := rfl
@[simp] theorem State.setCmp_cupS (s : State) (k : Nat) (x : Cmp) : (s.setCmp k x).cupS = s.cupS := rfl
@[simp] theorem State.setCmp_cupGrace (s : State) (k : Nat) (x : Cmp) : (s.setCmp k x).cupGrace = s.cupGrace := rfl
@[simp] theorem State.setCmp_cupDefer (s : State) (k : Nat) (x : Cmp) : (s.setCmp k x).cupDefer = s.cupDefer := rfl
@[simp] theorem State.setCmp_cupBelow (s : State) (k : Nat) (x : Cmp) : (s.setCmp k x).cupBelow = s.cupBelow := rfl
@[simp] theorem State.setCmp_limLast (s : State) (k : Nat) (x : Cmp) : (s.setCmp k x).limLast = s.limLast := rfl
@[simp] theorem State.setCmp_limNext (s : State) (k : Nat) (x : Cmp) : (s.setCmp k x).limNext = s.limNext := rfl
@[simp] theorem State.setCmp_cupRec (s : State) (k : Nat) (x : Cmp) : (s.setCmp k x).cupRec = s.cupRec := rfl
@[simp] theorem State.setCmp_notices (s : State) (k : Nat) (x : Cmp) : (s.setCmp k x).notices = s.notices := rfl
@[simp] theorem State.setCmp_noticeSeq (s : State) (k : Nat) (x : Cmp) : (s.setCmp k x).noticeSeq = s.noticeSeq := rfl
@[simp] theorem State.setCmp_logSeq (s : State) (k : Nat) (x : Cmp) : (s.setCmp k x).logSeq = s.logSeq := rfl
@[simp] theorem State.setCmp_logFrom (s : State) (k : Nat) (x : Cmp) : (s.setCmp k x).logFrom = s.logFrom := rfl
@[simp] theorem State.setCmp_fyz (s : State) (k : Nat) (x : Cmp) : (s.setCmp k x).fyz = s.fyz := rfl
@[simp] theorem State.setCmp_pending (s : State) (k : Nat) (x : Cmp) : (s.setCmp k x).pending = s.pending := rfl

/-! ### `setPin` -/

@[simp] theorem State.setPin_now (s : State) (k : Nat) (x : TripPin) : (s.setPin k x).now = s.now := rfl
@[simp] theorem State.setPin_ltc (s : State) (k : Nat) (x : TripPin) : (s.setPin k x).ltc = s.ltc := rfl
@[simp] theorem State.setPin_free (s : State) (k : Nat) (x : TripPin) : (s.setPin k x).free = s.free := rfl
@[simp] theorem State.setPin_regs (s : State) (k : Nat) (x : TripPin) : (s.setPin k x).regs = s.regs := rfl
@[simp] theorem State.setPin_mem (s : State) (k : Nat) (x : TripPin) : (s.setPin k x).mem = s.mem := rfl
@[simp] theorem State.setPin_memFree (s : State) (k : Nat) (x : TripPin) : (s.setPin k x).memFree = s.memFree := rfl
@[simp] theorem State.setPin_upsets (s : State) (k : Nat) (x : TripPin) : (s.setPin k x).upsets = s.upsets := rfl
@[simp] theorem State.setPin_hwSets (s : State) (k : Nat) (x : TripPin) : (s.setPin k x).hwSets = s.hwSets := rfl
@[simp] theorem State.setPin_port (s : State) (k : Nat) (x : TripPin) : (s.setPin k x).port = s.port := rfl
@[simp] theorem State.setPin_bank (s : State) (k : Nat) (x : TripPin) : (s.setPin k x).bank = s.bank := rfl
@[simp] theorem State.setPin_sdlSeq (s : State) (k : Nat) (x : TripPin) : (s.setPin k x).sdlSeq = s.sdlSeq := rfl
@[simp] theorem State.setPin_portRank (s : State) (k : Nat) (x : TripPin) : (s.setPin k x).portRank = s.portRank := rfl
@[simp] theorem State.setPin_dma (s : State) (k : Nat) (x : TripPin) : (s.setPin k x).dma = s.dma := rfl
@[simp] theorem State.setPin_lane (s : State) (k : Nat) (x : TripPin) : (s.setPin k x).lane = s.lane := rfl
@[simp] theorem State.setPin_dutyq (s : State) (k : Nat) (x : TripPin) : (s.setPin k x).dutyq = s.dutyq := rfl
@[simp] theorem State.setPin_dutyNext (s : State) (k : Nat) (x : TripPin) : (s.setPin k x).dutyNext = s.dutyNext := rfl
@[simp] theorem State.setPin_hrn (s : State) (k : Nat) (x : TripPin) : (s.setPin k x).hrn = s.hrn := rfl
@[simp] theorem State.setPin_core (s : State) (k : Nat) (x : TripPin) : (s.setPin k x).core = s.core := rfl
@[simp] theorem State.setPin_shadowIn (s : State) (k : Nat) (x : TripPin) : (s.setPin k x).shadowIn = s.shadowIn := rfl
@[simp] theorem State.setPin_syncIn (s : State) (k : Nat) (x : TripPin) : (s.setPin k x).syncIn = s.syncIn := rfl
@[simp] theorem State.setPin_windowIn (s : State) (k : Nat) (x : TripPin) : (s.setPin k x).windowIn = s.windowIn := rfl
@[simp] theorem State.setPin_sar (s : State) (k : Nat) (x : TripPin) : (s.setPin k x).sar = s.sar := rfl
@[simp] theorem State.setPin_armed (s : State) (k : Nat) (x : TripPin) : (s.setPin k x).armed = s.armed := rfl
@[simp] theorem State.setPin_occ (s : State) (k : Nat) (x : TripPin) : (s.setPin k x).occ = s.occ := rfl
@[simp] theorem State.setPin_scaleDecl (s : State) (k : Nat) (x : TripPin) : (s.setPin k x).scaleDecl = s.scaleDecl := rfl
@[simp] theorem State.setPin_copyEnd (s : State) (k : Nat) (x : TripPin) : (s.setPin k x).copyEnd = s.copyEnd := rfl
@[simp] theorem State.setPin_slotHeld (s : State) (k : Nat) (x : TripPin) : (s.setPin k x).slotHeld = s.slotHeld := rfl
@[simp] theorem State.setPin_sdmOver (s : State) (k : Nat) (x : TripPin) : (s.setPin k x).sdmOver = s.sdmOver := rfl
@[simp] theorem State.setPin_trigs (s : State) (k : Nat) (x : TripPin) : (s.setPin k x).trigs = s.trigs := rfl
@[simp] theorem State.setPin_meter (s : State) (k : Nat) (x : TripPin) : (s.setPin k x).meter = s.meter := rfl
@[simp] theorem State.setPin_meterWin (s : State) (k : Nat) (x : TripPin) : (s.setPin k x).meterWin = s.meterWin := rfl
@[simp] theorem State.setPin_energyRem (s : State) (k : Nat) (x : TripPin) : (s.setPin k x).energyRem = s.energyRem := rfl
@[simp] theorem State.setPin_cmp (s : State) (k : Nat) (x : TripPin) : (s.setPin k x).cmp = s.cmp := rfl
@[simp] theorem State.setPin_pairUv (s : State) (k : Nat) (x : TripPin) : (s.setPin k x).pairUv = s.pairUv := rfl
@[simp] theorem State.setPin_rawPast (s : State) (k : Nat) (x : TripPin) : (s.setPin k x).rawPast = s.rawPast := rfl
@[simp] theorem State.setPin_pinPast (s : State) (k : Nat) (x : TripPin) : (s.setPin k x).pinPast = s.pinPast := rfl
@[simp] theorem State.setPin_reinPast (s : State) (k : Nat) (x : TripPin) : (s.setPin k x).reinPast = s.reinPast := rfl
@[simp] theorem State.setPin_reinTick (s : State) (k : Nat) (x : TripPin) : (s.setPin k x).reinTick = s.reinTick := rfl
@[simp] theorem State.setPin_reinPrev (s : State) (k : Nat) (x : TripPin) : (s.setPin k x).reinPrev = s.reinPrev := rfl
@[simp] theorem State.setPin_chan (s : State) (k : Nat) (x : TripPin) : (s.setPin k x).chan = s.chan := rfl
@[simp] theorem State.setPin_spr (s : State) (k : Nat) (x : TripPin) : (s.setPin k x).spr = s.spr := rfl
@[simp] theorem State.setPin_angHist (s : State) (k : Nat) (x : TripPin) : (s.setPin k x).angHist = s.angHist := rfl
@[simp] theorem State.setPin_feed (s : State) (k : Nat) (x : TripPin) : (s.setPin k x).feed = s.feed := rfl
@[simp] theorem State.setPin_pair (s : State) (k : Nat) (x : TripPin) : (s.setPin k x).pair = s.pair := rfl
@[simp] theorem State.setPin_xfer (s : State) (k : Nat) (x : TripPin) : (s.setPin k x).xfer = s.xfer := rfl
@[simp] theorem State.setPin_energised (s : State) (k : Nat) (x : TripPin) : (s.setPin k x).energised = s.energised := rfl
@[simp] theorem State.setPin_tmr (s : State) (k : Nat) (x : TripPin) : (s.setPin k x).tmr = s.tmr := rfl
@[simp] theorem State.setPin_routeAt (s : State) (k : Nat) (x : TripPin) : (s.setPin k x).routeAt = s.routeAt := rfl
@[simp] theorem State.setPin_lockPast (s : State) (k : Nat) (x : TripPin) : (s.setPin k x).lockPast = s.lockPast := rfl
@[simp] theorem State.setPin_monEdge (s : State) (k : Nat) (x : TripPin) : (s.setPin k x).monEdge = s.monEdge := rfl
@[simp] theorem State.setPin_monArmed (s : State) (k : Nat) (x : TripPin) : (s.setPin k x).monArmed = s.monArmed := rfl
@[simp] theorem State.setPin_monQuiet (s : State) (k : Nat) (x : TripPin) : (s.setPin k x).monQuiet = s.monQuiet := rfl
@[simp] theorem State.setPin_snsBall (s : State) (k : Nat) (x : TripPin) : (s.setPin k x).snsBall = s.snsBall := rfl
@[simp] theorem State.setPin_snsLevel (s : State) (k : Nat) (x : TripPin) : (s.setPin k x).snsLevel = s.snsLevel := rfl
@[simp] theorem State.setPin_snsRun (s : State) (k : Nat) (x : TripPin) : (s.setPin k x).snsRun = s.snsRun := rfl
@[simp] theorem State.setPin_snap (s : State) (k : Nat) (x : TripPin) : (s.setPin k x).snap = s.snap := rfl
@[simp] theorem State.setPin_twin (s : State) (k : Nat) (x : TripPin) : (s.setPin k x).twin = s.twin := rfl
@[simp] theorem State.setPin_img (s : State) (k : Nat) (x : TripPin) : (s.setPin k x).img = s.img := rfl
@[simp] theorem State.setPin_partnerRd (s : State) (k : Nat) (x : TripPin) : (s.setPin k x).partnerRd = s.partnerRd := rfl
@[simp] theorem State.setPin_pw (s : State) (k : Nat) (x : TripPin) : (s.setPin k x).pw = s.pw := rfl
@[simp] theorem State.setPin_cupS (s : State) (k : Nat) (x : TripPin) : (s.setPin k x).cupS = s.cupS := rfl
@[simp] theorem State.setPin_cupGrace (s : State) (k : Nat) (x : TripPin) : (s.setPin k x).cupGrace = s.cupGrace := rfl
@[simp] theorem State.setPin_cupDefer (s : State) (k : Nat) (x : TripPin) : (s.setPin k x).cupDefer = s.cupDefer := rfl
@[simp] theorem State.setPin_cupBelow (s : State) (k : Nat) (x : TripPin) : (s.setPin k x).cupBelow = s.cupBelow := rfl
@[simp] theorem State.setPin_limLast (s : State) (k : Nat) (x : TripPin) : (s.setPin k x).limLast = s.limLast := rfl
@[simp] theorem State.setPin_limNext (s : State) (k : Nat) (x : TripPin) : (s.setPin k x).limNext = s.limNext := rfl
@[simp] theorem State.setPin_cupRec (s : State) (k : Nat) (x : TripPin) : (s.setPin k x).cupRec = s.cupRec := rfl
@[simp] theorem State.setPin_notices (s : State) (k : Nat) (x : TripPin) : (s.setPin k x).notices = s.notices := rfl
@[simp] theorem State.setPin_noticeSeq (s : State) (k : Nat) (x : TripPin) : (s.setPin k x).noticeSeq = s.noticeSeq := rfl
@[simp] theorem State.setPin_logSeq (s : State) (k : Nat) (x : TripPin) : (s.setPin k x).logSeq = s.logSeq := rfl
@[simp] theorem State.setPin_logFrom (s : State) (k : Nat) (x : TripPin) : (s.setPin k x).logFrom = s.logFrom := rfl
@[simp] theorem State.setPin_fyz (s : State) (k : Nat) (x : TripPin) : (s.setPin k x).fyz = s.fyz := rfl
@[simp] theorem State.setPin_pending (s : State) (k : Nat) (x : TripPin) : (s.setPin k x).pending = s.pending := rfl

/-! ### `setChan` -/

@[simp] theorem State.setChan_now (s : State) (k : Nat) (x : Chan) : (s.setChan k x).now = s.now := rfl
@[simp] theorem State.setChan_ltc (s : State) (k : Nat) (x : Chan) : (s.setChan k x).ltc = s.ltc := rfl
@[simp] theorem State.setChan_free (s : State) (k : Nat) (x : Chan) : (s.setChan k x).free = s.free := rfl
@[simp] theorem State.setChan_regs (s : State) (k : Nat) (x : Chan) : (s.setChan k x).regs = s.regs := rfl
@[simp] theorem State.setChan_mem (s : State) (k : Nat) (x : Chan) : (s.setChan k x).mem = s.mem := rfl
@[simp] theorem State.setChan_memFree (s : State) (k : Nat) (x : Chan) : (s.setChan k x).memFree = s.memFree := rfl
@[simp] theorem State.setChan_upsets (s : State) (k : Nat) (x : Chan) : (s.setChan k x).upsets = s.upsets := rfl
@[simp] theorem State.setChan_hwSets (s : State) (k : Nat) (x : Chan) : (s.setChan k x).hwSets = s.hwSets := rfl
@[simp] theorem State.setChan_port (s : State) (k : Nat) (x : Chan) : (s.setChan k x).port = s.port := rfl
@[simp] theorem State.setChan_bank (s : State) (k : Nat) (x : Chan) : (s.setChan k x).bank = s.bank := rfl
@[simp] theorem State.setChan_sdlSeq (s : State) (k : Nat) (x : Chan) : (s.setChan k x).sdlSeq = s.sdlSeq := rfl
@[simp] theorem State.setChan_portRank (s : State) (k : Nat) (x : Chan) : (s.setChan k x).portRank = s.portRank := rfl
@[simp] theorem State.setChan_dma (s : State) (k : Nat) (x : Chan) : (s.setChan k x).dma = s.dma := rfl
@[simp] theorem State.setChan_lane (s : State) (k : Nat) (x : Chan) : (s.setChan k x).lane = s.lane := rfl
@[simp] theorem State.setChan_dutyq (s : State) (k : Nat) (x : Chan) : (s.setChan k x).dutyq = s.dutyq := rfl
@[simp] theorem State.setChan_dutyNext (s : State) (k : Nat) (x : Chan) : (s.setChan k x).dutyNext = s.dutyNext := rfl
@[simp] theorem State.setChan_hrn (s : State) (k : Nat) (x : Chan) : (s.setChan k x).hrn = s.hrn := rfl
@[simp] theorem State.setChan_core (s : State) (k : Nat) (x : Chan) : (s.setChan k x).core = s.core := rfl
@[simp] theorem State.setChan_shadowIn (s : State) (k : Nat) (x : Chan) : (s.setChan k x).shadowIn = s.shadowIn := rfl
@[simp] theorem State.setChan_syncIn (s : State) (k : Nat) (x : Chan) : (s.setChan k x).syncIn = s.syncIn := rfl
@[simp] theorem State.setChan_windowIn (s : State) (k : Nat) (x : Chan) : (s.setChan k x).windowIn = s.windowIn := rfl
@[simp] theorem State.setChan_sar (s : State) (k : Nat) (x : Chan) : (s.setChan k x).sar = s.sar := rfl
@[simp] theorem State.setChan_armed (s : State) (k : Nat) (x : Chan) : (s.setChan k x).armed = s.armed := rfl
@[simp] theorem State.setChan_occ (s : State) (k : Nat) (x : Chan) : (s.setChan k x).occ = s.occ := rfl
@[simp] theorem State.setChan_scaleDecl (s : State) (k : Nat) (x : Chan) : (s.setChan k x).scaleDecl = s.scaleDecl := rfl
@[simp] theorem State.setChan_copyEnd (s : State) (k : Nat) (x : Chan) : (s.setChan k x).copyEnd = s.copyEnd := rfl
@[simp] theorem State.setChan_slotHeld (s : State) (k : Nat) (x : Chan) : (s.setChan k x).slotHeld = s.slotHeld := rfl
@[simp] theorem State.setChan_sdmOver (s : State) (k : Nat) (x : Chan) : (s.setChan k x).sdmOver = s.sdmOver := rfl
@[simp] theorem State.setChan_trigs (s : State) (k : Nat) (x : Chan) : (s.setChan k x).trigs = s.trigs := rfl
@[simp] theorem State.setChan_meter (s : State) (k : Nat) (x : Chan) : (s.setChan k x).meter = s.meter := rfl
@[simp] theorem State.setChan_meterWin (s : State) (k : Nat) (x : Chan) : (s.setChan k x).meterWin = s.meterWin := rfl
@[simp] theorem State.setChan_energyRem (s : State) (k : Nat) (x : Chan) : (s.setChan k x).energyRem = s.energyRem := rfl
@[simp] theorem State.setChan_cmp (s : State) (k : Nat) (x : Chan) : (s.setChan k x).cmp = s.cmp := rfl
@[simp] theorem State.setChan_pairUv (s : State) (k : Nat) (x : Chan) : (s.setChan k x).pairUv = s.pairUv := rfl
@[simp] theorem State.setChan_trip (s : State) (k : Nat) (x : Chan) : (s.setChan k x).trip = s.trip := rfl
@[simp] theorem State.setChan_rawPast (s : State) (k : Nat) (x : Chan) : (s.setChan k x).rawPast = s.rawPast := rfl
@[simp] theorem State.setChan_pinPast (s : State) (k : Nat) (x : Chan) : (s.setChan k x).pinPast = s.pinPast := rfl
@[simp] theorem State.setChan_reinPast (s : State) (k : Nat) (x : Chan) : (s.setChan k x).reinPast = s.reinPast := rfl
@[simp] theorem State.setChan_reinTick (s : State) (k : Nat) (x : Chan) : (s.setChan k x).reinTick = s.reinTick := rfl
@[simp] theorem State.setChan_reinPrev (s : State) (k : Nat) (x : Chan) : (s.setChan k x).reinPrev = s.reinPrev := rfl
@[simp] theorem State.setChan_spr (s : State) (k : Nat) (x : Chan) : (s.setChan k x).spr = s.spr := rfl
@[simp] theorem State.setChan_angHist (s : State) (k : Nat) (x : Chan) : (s.setChan k x).angHist = s.angHist := rfl
@[simp] theorem State.setChan_feed (s : State) (k : Nat) (x : Chan) : (s.setChan k x).feed = s.feed := rfl
@[simp] theorem State.setChan_pair (s : State) (k : Nat) (x : Chan) : (s.setChan k x).pair = s.pair := rfl
@[simp] theorem State.setChan_xfer (s : State) (k : Nat) (x : Chan) : (s.setChan k x).xfer = s.xfer := rfl
@[simp] theorem State.setChan_energised (s : State) (k : Nat) (x : Chan) : (s.setChan k x).energised = s.energised := rfl
@[simp] theorem State.setChan_tmr (s : State) (k : Nat) (x : Chan) : (s.setChan k x).tmr = s.tmr := rfl
@[simp] theorem State.setChan_routeAt (s : State) (k : Nat) (x : Chan) : (s.setChan k x).routeAt = s.routeAt := rfl
@[simp] theorem State.setChan_lockPast (s : State) (k : Nat) (x : Chan) : (s.setChan k x).lockPast = s.lockPast := rfl
@[simp] theorem State.setChan_monEdge (s : State) (k : Nat) (x : Chan) : (s.setChan k x).monEdge = s.monEdge := rfl
@[simp] theorem State.setChan_monArmed (s : State) (k : Nat) (x : Chan) : (s.setChan k x).monArmed = s.monArmed := rfl
@[simp] theorem State.setChan_monQuiet (s : State) (k : Nat) (x : Chan) : (s.setChan k x).monQuiet = s.monQuiet := rfl
@[simp] theorem State.setChan_snsBall (s : State) (k : Nat) (x : Chan) : (s.setChan k x).snsBall = s.snsBall := rfl
@[simp] theorem State.setChan_snsLevel (s : State) (k : Nat) (x : Chan) : (s.setChan k x).snsLevel = s.snsLevel := rfl
@[simp] theorem State.setChan_snsRun (s : State) (k : Nat) (x : Chan) : (s.setChan k x).snsRun = s.snsRun := rfl
@[simp] theorem State.setChan_snap (s : State) (k : Nat) (x : Chan) : (s.setChan k x).snap = s.snap := rfl
@[simp] theorem State.setChan_twin (s : State) (k : Nat) (x : Chan) : (s.setChan k x).twin = s.twin := rfl
@[simp] theorem State.setChan_img (s : State) (k : Nat) (x : Chan) : (s.setChan k x).img = s.img := rfl
@[simp] theorem State.setChan_partnerRd (s : State) (k : Nat) (x : Chan) : (s.setChan k x).partnerRd = s.partnerRd := rfl
@[simp] theorem State.setChan_pw (s : State) (k : Nat) (x : Chan) : (s.setChan k x).pw = s.pw := rfl
@[simp] theorem State.setChan_cupS (s : State) (k : Nat) (x : Chan) : (s.setChan k x).cupS = s.cupS := rfl
@[simp] theorem State.setChan_cupGrace (s : State) (k : Nat) (x : Chan) : (s.setChan k x).cupGrace = s.cupGrace := rfl
@[simp] theorem State.setChan_cupDefer (s : State) (k : Nat) (x : Chan) : (s.setChan k x).cupDefer = s.cupDefer := rfl
@[simp] theorem State.setChan_cupBelow (s : State) (k : Nat) (x : Chan) : (s.setChan k x).cupBelow = s.cupBelow := rfl
@[simp] theorem State.setChan_limLast (s : State) (k : Nat) (x : Chan) : (s.setChan k x).limLast = s.limLast := rfl
@[simp] theorem State.setChan_limNext (s : State) (k : Nat) (x : Chan) : (s.setChan k x).limNext = s.limNext := rfl
@[simp] theorem State.setChan_cupRec (s : State) (k : Nat) (x : Chan) : (s.setChan k x).cupRec = s.cupRec := rfl
@[simp] theorem State.setChan_notices (s : State) (k : Nat) (x : Chan) : (s.setChan k x).notices = s.notices := rfl
@[simp] theorem State.setChan_noticeSeq (s : State) (k : Nat) (x : Chan) : (s.setChan k x).noticeSeq = s.noticeSeq := rfl
@[simp] theorem State.setChan_logSeq (s : State) (k : Nat) (x : Chan) : (s.setChan k x).logSeq = s.logSeq := rfl
@[simp] theorem State.setChan_logFrom (s : State) (k : Nat) (x : Chan) : (s.setChan k x).logFrom = s.logFrom := rfl
@[simp] theorem State.setChan_fyz (s : State) (k : Nat) (x : Chan) : (s.setChan k x).fyz = s.fyz := rfl
@[simp] theorem State.setChan_pending (s : State) (k : Nat) (x : Chan) : (s.setChan k x).pending = s.pending := rfl

/-! ### `setSpr` -/

@[simp] theorem State.setSpr_now (s : State) (k : Nat) (x : SprLine) : (s.setSpr k x).now = s.now := rfl
@[simp] theorem State.setSpr_ltc (s : State) (k : Nat) (x : SprLine) : (s.setSpr k x).ltc = s.ltc := rfl
@[simp] theorem State.setSpr_free (s : State) (k : Nat) (x : SprLine) : (s.setSpr k x).free = s.free := rfl
@[simp] theorem State.setSpr_regs (s : State) (k : Nat) (x : SprLine) : (s.setSpr k x).regs = s.regs := rfl
@[simp] theorem State.setSpr_mem (s : State) (k : Nat) (x : SprLine) : (s.setSpr k x).mem = s.mem := rfl
@[simp] theorem State.setSpr_memFree (s : State) (k : Nat) (x : SprLine) : (s.setSpr k x).memFree = s.memFree := rfl
@[simp] theorem State.setSpr_upsets (s : State) (k : Nat) (x : SprLine) : (s.setSpr k x).upsets = s.upsets := rfl
@[simp] theorem State.setSpr_hwSets (s : State) (k : Nat) (x : SprLine) : (s.setSpr k x).hwSets = s.hwSets := rfl
@[simp] theorem State.setSpr_port (s : State) (k : Nat) (x : SprLine) : (s.setSpr k x).port = s.port := rfl
@[simp] theorem State.setSpr_bank (s : State) (k : Nat) (x : SprLine) : (s.setSpr k x).bank = s.bank := rfl
@[simp] theorem State.setSpr_sdlSeq (s : State) (k : Nat) (x : SprLine) : (s.setSpr k x).sdlSeq = s.sdlSeq := rfl
@[simp] theorem State.setSpr_portRank (s : State) (k : Nat) (x : SprLine) : (s.setSpr k x).portRank = s.portRank := rfl
@[simp] theorem State.setSpr_dma (s : State) (k : Nat) (x : SprLine) : (s.setSpr k x).dma = s.dma := rfl
@[simp] theorem State.setSpr_lane (s : State) (k : Nat) (x : SprLine) : (s.setSpr k x).lane = s.lane := rfl
@[simp] theorem State.setSpr_dutyq (s : State) (k : Nat) (x : SprLine) : (s.setSpr k x).dutyq = s.dutyq := rfl
@[simp] theorem State.setSpr_dutyNext (s : State) (k : Nat) (x : SprLine) : (s.setSpr k x).dutyNext = s.dutyNext := rfl
@[simp] theorem State.setSpr_hrn (s : State) (k : Nat) (x : SprLine) : (s.setSpr k x).hrn = s.hrn := rfl
@[simp] theorem State.setSpr_core (s : State) (k : Nat) (x : SprLine) : (s.setSpr k x).core = s.core := rfl
@[simp] theorem State.setSpr_shadowIn (s : State) (k : Nat) (x : SprLine) : (s.setSpr k x).shadowIn = s.shadowIn := rfl
@[simp] theorem State.setSpr_syncIn (s : State) (k : Nat) (x : SprLine) : (s.setSpr k x).syncIn = s.syncIn := rfl
@[simp] theorem State.setSpr_windowIn (s : State) (k : Nat) (x : SprLine) : (s.setSpr k x).windowIn = s.windowIn := rfl
@[simp] theorem State.setSpr_sar (s : State) (k : Nat) (x : SprLine) : (s.setSpr k x).sar = s.sar := rfl
@[simp] theorem State.setSpr_armed (s : State) (k : Nat) (x : SprLine) : (s.setSpr k x).armed = s.armed := rfl
@[simp] theorem State.setSpr_occ (s : State) (k : Nat) (x : SprLine) : (s.setSpr k x).occ = s.occ := rfl
@[simp] theorem State.setSpr_scaleDecl (s : State) (k : Nat) (x : SprLine) : (s.setSpr k x).scaleDecl = s.scaleDecl := rfl
@[simp] theorem State.setSpr_copyEnd (s : State) (k : Nat) (x : SprLine) : (s.setSpr k x).copyEnd = s.copyEnd := rfl
@[simp] theorem State.setSpr_slotHeld (s : State) (k : Nat) (x : SprLine) : (s.setSpr k x).slotHeld = s.slotHeld := rfl
@[simp] theorem State.setSpr_sdmOver (s : State) (k : Nat) (x : SprLine) : (s.setSpr k x).sdmOver = s.sdmOver := rfl
@[simp] theorem State.setSpr_trigs (s : State) (k : Nat) (x : SprLine) : (s.setSpr k x).trigs = s.trigs := rfl
@[simp] theorem State.setSpr_meter (s : State) (k : Nat) (x : SprLine) : (s.setSpr k x).meter = s.meter := rfl
@[simp] theorem State.setSpr_meterWin (s : State) (k : Nat) (x : SprLine) : (s.setSpr k x).meterWin = s.meterWin := rfl
@[simp] theorem State.setSpr_energyRem (s : State) (k : Nat) (x : SprLine) : (s.setSpr k x).energyRem = s.energyRem := rfl
@[simp] theorem State.setSpr_cmp (s : State) (k : Nat) (x : SprLine) : (s.setSpr k x).cmp = s.cmp := rfl
@[simp] theorem State.setSpr_pairUv (s : State) (k : Nat) (x : SprLine) : (s.setSpr k x).pairUv = s.pairUv := rfl
@[simp] theorem State.setSpr_trip (s : State) (k : Nat) (x : SprLine) : (s.setSpr k x).trip = s.trip := rfl
@[simp] theorem State.setSpr_rawPast (s : State) (k : Nat) (x : SprLine) : (s.setSpr k x).rawPast = s.rawPast := rfl
@[simp] theorem State.setSpr_pinPast (s : State) (k : Nat) (x : SprLine) : (s.setSpr k x).pinPast = s.pinPast := rfl
@[simp] theorem State.setSpr_reinPast (s : State) (k : Nat) (x : SprLine) : (s.setSpr k x).reinPast = s.reinPast := rfl
@[simp] theorem State.setSpr_reinTick (s : State) (k : Nat) (x : SprLine) : (s.setSpr k x).reinTick = s.reinTick := rfl
@[simp] theorem State.setSpr_reinPrev (s : State) (k : Nat) (x : SprLine) : (s.setSpr k x).reinPrev = s.reinPrev := rfl
@[simp] theorem State.setSpr_chan (s : State) (k : Nat) (x : SprLine) : (s.setSpr k x).chan = s.chan := rfl
@[simp] theorem State.setSpr_angHist (s : State) (k : Nat) (x : SprLine) : (s.setSpr k x).angHist = s.angHist := rfl
@[simp] theorem State.setSpr_feed (s : State) (k : Nat) (x : SprLine) : (s.setSpr k x).feed = s.feed := rfl
@[simp] theorem State.setSpr_pair (s : State) (k : Nat) (x : SprLine) : (s.setSpr k x).pair = s.pair := rfl
@[simp] theorem State.setSpr_xfer (s : State) (k : Nat) (x : SprLine) : (s.setSpr k x).xfer = s.xfer := rfl
@[simp] theorem State.setSpr_energised (s : State) (k : Nat) (x : SprLine) : (s.setSpr k x).energised = s.energised := rfl
@[simp] theorem State.setSpr_tmr (s : State) (k : Nat) (x : SprLine) : (s.setSpr k x).tmr = s.tmr := rfl
@[simp] theorem State.setSpr_routeAt (s : State) (k : Nat) (x : SprLine) : (s.setSpr k x).routeAt = s.routeAt := rfl
@[simp] theorem State.setSpr_lockPast (s : State) (k : Nat) (x : SprLine) : (s.setSpr k x).lockPast = s.lockPast := rfl
@[simp] theorem State.setSpr_monEdge (s : State) (k : Nat) (x : SprLine) : (s.setSpr k x).monEdge = s.monEdge := rfl
@[simp] theorem State.setSpr_monArmed (s : State) (k : Nat) (x : SprLine) : (s.setSpr k x).monArmed = s.monArmed := rfl
@[simp] theorem State.setSpr_monQuiet (s : State) (k : Nat) (x : SprLine) : (s.setSpr k x).monQuiet = s.monQuiet := rfl
@[simp] theorem State.setSpr_snsBall (s : State) (k : Nat) (x : SprLine) : (s.setSpr k x).snsBall = s.snsBall := rfl
@[simp] theorem State.setSpr_snsLevel (s : State) (k : Nat) (x : SprLine) : (s.setSpr k x).snsLevel = s.snsLevel := rfl
@[simp] theorem State.setSpr_snsRun (s : State) (k : Nat) (x : SprLine) : (s.setSpr k x).snsRun = s.snsRun := rfl
@[simp] theorem State.setSpr_snap (s : State) (k : Nat) (x : SprLine) : (s.setSpr k x).snap = s.snap := rfl
@[simp] theorem State.setSpr_twin (s : State) (k : Nat) (x : SprLine) : (s.setSpr k x).twin = s.twin := rfl
@[simp] theorem State.setSpr_img (s : State) (k : Nat) (x : SprLine) : (s.setSpr k x).img = s.img := rfl
@[simp] theorem State.setSpr_partnerRd (s : State) (k : Nat) (x : SprLine) : (s.setSpr k x).partnerRd = s.partnerRd := rfl
@[simp] theorem State.setSpr_pw (s : State) (k : Nat) (x : SprLine) : (s.setSpr k x).pw = s.pw := rfl
@[simp] theorem State.setSpr_cupS (s : State) (k : Nat) (x : SprLine) : (s.setSpr k x).cupS = s.cupS := rfl
@[simp] theorem State.setSpr_cupGrace (s : State) (k : Nat) (x : SprLine) : (s.setSpr k x).cupGrace = s.cupGrace := rfl
@[simp] theorem State.setSpr_cupDefer (s : State) (k : Nat) (x : SprLine) : (s.setSpr k x).cupDefer = s.cupDefer := rfl
@[simp] theorem State.setSpr_cupBelow (s : State) (k : Nat) (x : SprLine) : (s.setSpr k x).cupBelow = s.cupBelow := rfl
@[simp] theorem State.setSpr_limLast (s : State) (k : Nat) (x : SprLine) : (s.setSpr k x).limLast = s.limLast := rfl
@[simp] theorem State.setSpr_limNext (s : State) (k : Nat) (x : SprLine) : (s.setSpr k x).limNext = s.limNext := rfl
@[simp] theorem State.setSpr_cupRec (s : State) (k : Nat) (x : SprLine) : (s.setSpr k x).cupRec = s.cupRec := rfl
@[simp] theorem State.setSpr_notices (s : State) (k : Nat) (x : SprLine) : (s.setSpr k x).notices = s.notices := rfl
@[simp] theorem State.setSpr_noticeSeq (s : State) (k : Nat) (x : SprLine) : (s.setSpr k x).noticeSeq = s.noticeSeq := rfl
@[simp] theorem State.setSpr_logSeq (s : State) (k : Nat) (x : SprLine) : (s.setSpr k x).logSeq = s.logSeq := rfl
@[simp] theorem State.setSpr_logFrom (s : State) (k : Nat) (x : SprLine) : (s.setSpr k x).logFrom = s.logFrom := rfl
@[simp] theorem State.setSpr_fyz (s : State) (k : Nat) (x : SprLine) : (s.setSpr k x).fyz = s.fyz := rfl
@[simp] theorem State.setSpr_pending (s : State) (k : Nat) (x : SprLine) : (s.setSpr k x).pending = s.pending := rfl

/-! ### `setFeed` -/

@[simp] theorem State.setFeed_now (s : State) (k : Nat) (x : LaeFeed) : (s.setFeed k x).now = s.now := rfl
@[simp] theorem State.setFeed_ltc (s : State) (k : Nat) (x : LaeFeed) : (s.setFeed k x).ltc = s.ltc := rfl
@[simp] theorem State.setFeed_free (s : State) (k : Nat) (x : LaeFeed) : (s.setFeed k x).free = s.free := rfl
@[simp] theorem State.setFeed_regs (s : State) (k : Nat) (x : LaeFeed) : (s.setFeed k x).regs = s.regs := rfl
@[simp] theorem State.setFeed_mem (s : State) (k : Nat) (x : LaeFeed) : (s.setFeed k x).mem = s.mem := rfl
@[simp] theorem State.setFeed_memFree (s : State) (k : Nat) (x : LaeFeed) : (s.setFeed k x).memFree = s.memFree := rfl
@[simp] theorem State.setFeed_upsets (s : State) (k : Nat) (x : LaeFeed) : (s.setFeed k x).upsets = s.upsets := rfl
@[simp] theorem State.setFeed_hwSets (s : State) (k : Nat) (x : LaeFeed) : (s.setFeed k x).hwSets = s.hwSets := rfl
@[simp] theorem State.setFeed_port (s : State) (k : Nat) (x : LaeFeed) : (s.setFeed k x).port = s.port := rfl
@[simp] theorem State.setFeed_bank (s : State) (k : Nat) (x : LaeFeed) : (s.setFeed k x).bank = s.bank := rfl
@[simp] theorem State.setFeed_sdlSeq (s : State) (k : Nat) (x : LaeFeed) : (s.setFeed k x).sdlSeq = s.sdlSeq := rfl
@[simp] theorem State.setFeed_portRank (s : State) (k : Nat) (x : LaeFeed) : (s.setFeed k x).portRank = s.portRank := rfl
@[simp] theorem State.setFeed_dma (s : State) (k : Nat) (x : LaeFeed) : (s.setFeed k x).dma = s.dma := rfl
@[simp] theorem State.setFeed_lane (s : State) (k : Nat) (x : LaeFeed) : (s.setFeed k x).lane = s.lane := rfl
@[simp] theorem State.setFeed_dutyq (s : State) (k : Nat) (x : LaeFeed) : (s.setFeed k x).dutyq = s.dutyq := rfl
@[simp] theorem State.setFeed_dutyNext (s : State) (k : Nat) (x : LaeFeed) : (s.setFeed k x).dutyNext = s.dutyNext := rfl
@[simp] theorem State.setFeed_hrn (s : State) (k : Nat) (x : LaeFeed) : (s.setFeed k x).hrn = s.hrn := rfl
@[simp] theorem State.setFeed_core (s : State) (k : Nat) (x : LaeFeed) : (s.setFeed k x).core = s.core := rfl
@[simp] theorem State.setFeed_shadowIn (s : State) (k : Nat) (x : LaeFeed) : (s.setFeed k x).shadowIn = s.shadowIn := rfl
@[simp] theorem State.setFeed_syncIn (s : State) (k : Nat) (x : LaeFeed) : (s.setFeed k x).syncIn = s.syncIn := rfl
@[simp] theorem State.setFeed_windowIn (s : State) (k : Nat) (x : LaeFeed) : (s.setFeed k x).windowIn = s.windowIn := rfl
@[simp] theorem State.setFeed_sar (s : State) (k : Nat) (x : LaeFeed) : (s.setFeed k x).sar = s.sar := rfl
@[simp] theorem State.setFeed_armed (s : State) (k : Nat) (x : LaeFeed) : (s.setFeed k x).armed = s.armed := rfl
@[simp] theorem State.setFeed_occ (s : State) (k : Nat) (x : LaeFeed) : (s.setFeed k x).occ = s.occ := rfl
@[simp] theorem State.setFeed_scaleDecl (s : State) (k : Nat) (x : LaeFeed) : (s.setFeed k x).scaleDecl = s.scaleDecl := rfl
@[simp] theorem State.setFeed_copyEnd (s : State) (k : Nat) (x : LaeFeed) : (s.setFeed k x).copyEnd = s.copyEnd := rfl
@[simp] theorem State.setFeed_slotHeld (s : State) (k : Nat) (x : LaeFeed) : (s.setFeed k x).slotHeld = s.slotHeld := rfl
@[simp] theorem State.setFeed_sdmOver (s : State) (k : Nat) (x : LaeFeed) : (s.setFeed k x).sdmOver = s.sdmOver := rfl
@[simp] theorem State.setFeed_trigs (s : State) (k : Nat) (x : LaeFeed) : (s.setFeed k x).trigs = s.trigs := rfl
@[simp] theorem State.setFeed_meter (s : State) (k : Nat) (x : LaeFeed) : (s.setFeed k x).meter = s.meter := rfl
@[simp] theorem State.setFeed_meterWin (s : State) (k : Nat) (x : LaeFeed) : (s.setFeed k x).meterWin = s.meterWin := rfl
@[simp] theorem State.setFeed_energyRem (s : State) (k : Nat) (x : LaeFeed) : (s.setFeed k x).energyRem = s.energyRem := rfl
@[simp] theorem State.setFeed_cmp (s : State) (k : Nat) (x : LaeFeed) : (s.setFeed k x).cmp = s.cmp := rfl
@[simp] theorem State.setFeed_pairUv (s : State) (k : Nat) (x : LaeFeed) : (s.setFeed k x).pairUv = s.pairUv := rfl
@[simp] theorem State.setFeed_trip (s : State) (k : Nat) (x : LaeFeed) : (s.setFeed k x).trip = s.trip := rfl
@[simp] theorem State.setFeed_rawPast (s : State) (k : Nat) (x : LaeFeed) : (s.setFeed k x).rawPast = s.rawPast := rfl
@[simp] theorem State.setFeed_pinPast (s : State) (k : Nat) (x : LaeFeed) : (s.setFeed k x).pinPast = s.pinPast := rfl
@[simp] theorem State.setFeed_reinPast (s : State) (k : Nat) (x : LaeFeed) : (s.setFeed k x).reinPast = s.reinPast := rfl
@[simp] theorem State.setFeed_reinTick (s : State) (k : Nat) (x : LaeFeed) : (s.setFeed k x).reinTick = s.reinTick := rfl
@[simp] theorem State.setFeed_reinPrev (s : State) (k : Nat) (x : LaeFeed) : (s.setFeed k x).reinPrev = s.reinPrev := rfl
@[simp] theorem State.setFeed_chan (s : State) (k : Nat) (x : LaeFeed) : (s.setFeed k x).chan = s.chan := rfl
@[simp] theorem State.setFeed_spr (s : State) (k : Nat) (x : LaeFeed) : (s.setFeed k x).spr = s.spr := rfl
@[simp] theorem State.setFeed_angHist (s : State) (k : Nat) (x : LaeFeed) : (s.setFeed k x).angHist = s.angHist := rfl
@[simp] theorem State.setFeed_pair (s : State) (k : Nat) (x : LaeFeed) : (s.setFeed k x).pair = s.pair := rfl
@[simp] theorem State.setFeed_xfer (s : State) (k : Nat) (x : LaeFeed) : (s.setFeed k x).xfer = s.xfer := rfl
@[simp] theorem State.setFeed_energised (s : State) (k : Nat) (x : LaeFeed) : (s.setFeed k x).energised = s.energised := rfl
@[simp] theorem State.setFeed_tmr (s : State) (k : Nat) (x : LaeFeed) : (s.setFeed k x).tmr = s.tmr := rfl
@[simp] theorem State.setFeed_routeAt (s : State) (k : Nat) (x : LaeFeed) : (s.setFeed k x).routeAt = s.routeAt := rfl
@[simp] theorem State.setFeed_lockPast (s : State) (k : Nat) (x : LaeFeed) : (s.setFeed k x).lockPast = s.lockPast := rfl
@[simp] theorem State.setFeed_monEdge (s : State) (k : Nat) (x : LaeFeed) : (s.setFeed k x).monEdge = s.monEdge := rfl
@[simp] theorem State.setFeed_monArmed (s : State) (k : Nat) (x : LaeFeed) : (s.setFeed k x).monArmed = s.monArmed := rfl
@[simp] theorem State.setFeed_monQuiet (s : State) (k : Nat) (x : LaeFeed) : (s.setFeed k x).monQuiet = s.monQuiet := rfl
@[simp] theorem State.setFeed_snsBall (s : State) (k : Nat) (x : LaeFeed) : (s.setFeed k x).snsBall = s.snsBall := rfl
@[simp] theorem State.setFeed_snsLevel (s : State) (k : Nat) (x : LaeFeed) : (s.setFeed k x).snsLevel = s.snsLevel := rfl
@[simp] theorem State.setFeed_snsRun (s : State) (k : Nat) (x : LaeFeed) : (s.setFeed k x).snsRun = s.snsRun := rfl
@[simp] theorem State.setFeed_snap (s : State) (k : Nat) (x : LaeFeed) : (s.setFeed k x).snap = s.snap := rfl
@[simp] theorem State.setFeed_twin (s : State) (k : Nat) (x : LaeFeed) : (s.setFeed k x).twin = s.twin := rfl
@[simp] theorem State.setFeed_img (s : State) (k : Nat) (x : LaeFeed) : (s.setFeed k x).img = s.img := rfl
@[simp] theorem State.setFeed_partnerRd (s : State) (k : Nat) (x : LaeFeed) : (s.setFeed k x).partnerRd = s.partnerRd := rfl
@[simp] theorem State.setFeed_pw (s : State) (k : Nat) (x : LaeFeed) : (s.setFeed k x).pw = s.pw := rfl
@[simp] theorem State.setFeed_cupS (s : State) (k : Nat) (x : LaeFeed) : (s.setFeed k x).cupS = s.cupS := rfl
@[simp] theorem State.setFeed_cupGrace (s : State) (k : Nat) (x : LaeFeed) : (s.setFeed k x).cupGrace = s.cupGrace := rfl
@[simp] theorem State.setFeed_cupDefer (s : State) (k : Nat) (x : LaeFeed) : (s.setFeed k x).cupDefer = s.cupDefer := rfl
@[simp] theorem State.setFeed_cupBelow (s : State) (k : Nat) (x : LaeFeed) : (s.setFeed k x).cupBelow = s.cupBelow := rfl
@[simp] theorem State.setFeed_limLast (s : State) (k : Nat) (x : LaeFeed) : (s.setFeed k x).limLast = s.limLast := rfl
@[simp] theorem State.setFeed_limNext (s : State) (k : Nat) (x : LaeFeed) : (s.setFeed k x).limNext = s.limNext := rfl
@[simp] theorem State.setFeed_cupRec (s : State) (k : Nat) (x : LaeFeed) : (s.setFeed k x).cupRec = s.cupRec := rfl
@[simp] theorem State.setFeed_notices (s : State) (k : Nat) (x : LaeFeed) : (s.setFeed k x).notices = s.notices := rfl
@[simp] theorem State.setFeed_noticeSeq (s : State) (k : Nat) (x : LaeFeed) : (s.setFeed k x).noticeSeq = s.noticeSeq := rfl
@[simp] theorem State.setFeed_logSeq (s : State) (k : Nat) (x : LaeFeed) : (s.setFeed k x).logSeq = s.logSeq := rfl
@[simp] theorem State.setFeed_logFrom (s : State) (k : Nat) (x : LaeFeed) : (s.setFeed k x).logFrom = s.logFrom := rfl
@[simp] theorem State.setFeed_fyz (s : State) (k : Nat) (x : LaeFeed) : (s.setFeed k x).fyz = s.fyz := rfl
@[simp] theorem State.setFeed_pending (s : State) (k : Nat) (x : LaeFeed) : (s.setFeed k x).pending = s.pending := rfl

/-! ### `setPair` -/

@[simp] theorem State.setPair_now (s : State) (k : Nat) (x : LaePair) : (s.setPair k x).now = s.now := rfl
@[simp] theorem State.setPair_ltc (s : State) (k : Nat) (x : LaePair) : (s.setPair k x).ltc = s.ltc := rfl
@[simp] theorem State.setPair_free (s : State) (k : Nat) (x : LaePair) : (s.setPair k x).free = s.free := rfl
@[simp] theorem State.setPair_regs (s : State) (k : Nat) (x : LaePair) : (s.setPair k x).regs = s.regs := rfl
@[simp] theorem State.setPair_mem (s : State) (k : Nat) (x : LaePair) : (s.setPair k x).mem = s.mem := rfl
@[simp] theorem State.setPair_memFree (s : State) (k : Nat) (x : LaePair) : (s.setPair k x).memFree = s.memFree := rfl
@[simp] theorem State.setPair_upsets (s : State) (k : Nat) (x : LaePair) : (s.setPair k x).upsets = s.upsets := rfl
@[simp] theorem State.setPair_hwSets (s : State) (k : Nat) (x : LaePair) : (s.setPair k x).hwSets = s.hwSets := rfl
@[simp] theorem State.setPair_port (s : State) (k : Nat) (x : LaePair) : (s.setPair k x).port = s.port := rfl
@[simp] theorem State.setPair_bank (s : State) (k : Nat) (x : LaePair) : (s.setPair k x).bank = s.bank := rfl
@[simp] theorem State.setPair_sdlSeq (s : State) (k : Nat) (x : LaePair) : (s.setPair k x).sdlSeq = s.sdlSeq := rfl
@[simp] theorem State.setPair_portRank (s : State) (k : Nat) (x : LaePair) : (s.setPair k x).portRank = s.portRank := rfl
@[simp] theorem State.setPair_dma (s : State) (k : Nat) (x : LaePair) : (s.setPair k x).dma = s.dma := rfl
@[simp] theorem State.setPair_lane (s : State) (k : Nat) (x : LaePair) : (s.setPair k x).lane = s.lane := rfl
@[simp] theorem State.setPair_dutyq (s : State) (k : Nat) (x : LaePair) : (s.setPair k x).dutyq = s.dutyq := rfl
@[simp] theorem State.setPair_dutyNext (s : State) (k : Nat) (x : LaePair) : (s.setPair k x).dutyNext = s.dutyNext := rfl
@[simp] theorem State.setPair_hrn (s : State) (k : Nat) (x : LaePair) : (s.setPair k x).hrn = s.hrn := rfl
@[simp] theorem State.setPair_core (s : State) (k : Nat) (x : LaePair) : (s.setPair k x).core = s.core := rfl
@[simp] theorem State.setPair_shadowIn (s : State) (k : Nat) (x : LaePair) : (s.setPair k x).shadowIn = s.shadowIn := rfl
@[simp] theorem State.setPair_syncIn (s : State) (k : Nat) (x : LaePair) : (s.setPair k x).syncIn = s.syncIn := rfl
@[simp] theorem State.setPair_windowIn (s : State) (k : Nat) (x : LaePair) : (s.setPair k x).windowIn = s.windowIn := rfl
@[simp] theorem State.setPair_sar (s : State) (k : Nat) (x : LaePair) : (s.setPair k x).sar = s.sar := rfl
@[simp] theorem State.setPair_armed (s : State) (k : Nat) (x : LaePair) : (s.setPair k x).armed = s.armed := rfl
@[simp] theorem State.setPair_occ (s : State) (k : Nat) (x : LaePair) : (s.setPair k x).occ = s.occ := rfl
@[simp] theorem State.setPair_scaleDecl (s : State) (k : Nat) (x : LaePair) : (s.setPair k x).scaleDecl = s.scaleDecl := rfl
@[simp] theorem State.setPair_copyEnd (s : State) (k : Nat) (x : LaePair) : (s.setPair k x).copyEnd = s.copyEnd := rfl
@[simp] theorem State.setPair_slotHeld (s : State) (k : Nat) (x : LaePair) : (s.setPair k x).slotHeld = s.slotHeld := rfl
@[simp] theorem State.setPair_sdmOver (s : State) (k : Nat) (x : LaePair) : (s.setPair k x).sdmOver = s.sdmOver := rfl
@[simp] theorem State.setPair_trigs (s : State) (k : Nat) (x : LaePair) : (s.setPair k x).trigs = s.trigs := rfl
@[simp] theorem State.setPair_meter (s : State) (k : Nat) (x : LaePair) : (s.setPair k x).meter = s.meter := rfl
@[simp] theorem State.setPair_meterWin (s : State) (k : Nat) (x : LaePair) : (s.setPair k x).meterWin = s.meterWin := rfl
@[simp] theorem State.setPair_energyRem (s : State) (k : Nat) (x : LaePair) : (s.setPair k x).energyRem = s.energyRem := rfl
@[simp] theorem State.setPair_cmp (s : State) (k : Nat) (x : LaePair) : (s.setPair k x).cmp = s.cmp := rfl
@[simp] theorem State.setPair_pairUv (s : State) (k : Nat) (x : LaePair) : (s.setPair k x).pairUv = s.pairUv := rfl
@[simp] theorem State.setPair_trip (s : State) (k : Nat) (x : LaePair) : (s.setPair k x).trip = s.trip := rfl
@[simp] theorem State.setPair_rawPast (s : State) (k : Nat) (x : LaePair) : (s.setPair k x).rawPast = s.rawPast := rfl
@[simp] theorem State.setPair_pinPast (s : State) (k : Nat) (x : LaePair) : (s.setPair k x).pinPast = s.pinPast := rfl
@[simp] theorem State.setPair_reinPast (s : State) (k : Nat) (x : LaePair) : (s.setPair k x).reinPast = s.reinPast := rfl
@[simp] theorem State.setPair_reinTick (s : State) (k : Nat) (x : LaePair) : (s.setPair k x).reinTick = s.reinTick := rfl
@[simp] theorem State.setPair_reinPrev (s : State) (k : Nat) (x : LaePair) : (s.setPair k x).reinPrev = s.reinPrev := rfl
@[simp] theorem State.setPair_chan (s : State) (k : Nat) (x : LaePair) : (s.setPair k x).chan = s.chan := rfl
@[simp] theorem State.setPair_spr (s : State) (k : Nat) (x : LaePair) : (s.setPair k x).spr = s.spr := rfl
@[simp] theorem State.setPair_angHist (s : State) (k : Nat) (x : LaePair) : (s.setPair k x).angHist = s.angHist := rfl
@[simp] theorem State.setPair_feed (s : State) (k : Nat) (x : LaePair) : (s.setPair k x).feed = s.feed := rfl
@[simp] theorem State.setPair_xfer (s : State) (k : Nat) (x : LaePair) : (s.setPair k x).xfer = s.xfer := rfl
@[simp] theorem State.setPair_energised (s : State) (k : Nat) (x : LaePair) : (s.setPair k x).energised = s.energised := rfl
@[simp] theorem State.setPair_tmr (s : State) (k : Nat) (x : LaePair) : (s.setPair k x).tmr = s.tmr := rfl
@[simp] theorem State.setPair_routeAt (s : State) (k : Nat) (x : LaePair) : (s.setPair k x).routeAt = s.routeAt := rfl
@[simp] theorem State.setPair_lockPast (s : State) (k : Nat) (x : LaePair) : (s.setPair k x).lockPast = s.lockPast := rfl
@[simp] theorem State.setPair_monEdge (s : State) (k : Nat) (x : LaePair) : (s.setPair k x).monEdge = s.monEdge := rfl
@[simp] theorem State.setPair_monArmed (s : State) (k : Nat) (x : LaePair) : (s.setPair k x).monArmed = s.monArmed := rfl
@[simp] theorem State.setPair_monQuiet (s : State) (k : Nat) (x : LaePair) : (s.setPair k x).monQuiet = s.monQuiet := rfl
@[simp] theorem State.setPair_snsBall (s : State) (k : Nat) (x : LaePair) : (s.setPair k x).snsBall = s.snsBall := rfl
@[simp] theorem State.setPair_snsLevel (s : State) (k : Nat) (x : LaePair) : (s.setPair k x).snsLevel = s.snsLevel := rfl
@[simp] theorem State.setPair_snsRun (s : State) (k : Nat) (x : LaePair) : (s.setPair k x).snsRun = s.snsRun := rfl
@[simp] theorem State.setPair_snap (s : State) (k : Nat) (x : LaePair) : (s.setPair k x).snap = s.snap := rfl
@[simp] theorem State.setPair_twin (s : State) (k : Nat) (x : LaePair) : (s.setPair k x).twin = s.twin := rfl
@[simp] theorem State.setPair_img (s : State) (k : Nat) (x : LaePair) : (s.setPair k x).img = s.img := rfl
@[simp] theorem State.setPair_partnerRd (s : State) (k : Nat) (x : LaePair) : (s.setPair k x).partnerRd = s.partnerRd := rfl
@[simp] theorem State.setPair_pw (s : State) (k : Nat) (x : LaePair) : (s.setPair k x).pw = s.pw := rfl
@[simp] theorem State.setPair_cupS (s : State) (k : Nat) (x : LaePair) : (s.setPair k x).cupS = s.cupS := rfl
@[simp] theorem State.setPair_cupGrace (s : State) (k : Nat) (x : LaePair) : (s.setPair k x).cupGrace = s.cupGrace := rfl
@[simp] theorem State.setPair_cupDefer (s : State) (k : Nat) (x : LaePair) : (s.setPair k x).cupDefer = s.cupDefer := rfl
@[simp] theorem State.setPair_cupBelow (s : State) (k : Nat) (x : LaePair) : (s.setPair k x).cupBelow = s.cupBelow := rfl
@[simp] theorem State.setPair_limLast (s : State) (k : Nat) (x : LaePair) : (s.setPair k x).limLast = s.limLast := rfl
@[simp] theorem State.setPair_limNext (s : State) (k : Nat) (x : LaePair) : (s.setPair k x).limNext = s.limNext := rfl
@[simp] theorem State.setPair_cupRec (s : State) (k : Nat) (x : LaePair) : (s.setPair k x).cupRec = s.cupRec := rfl
@[simp] theorem State.setPair_notices (s : State) (k : Nat) (x : LaePair) : (s.setPair k x).notices = s.notices := rfl
@[simp] theorem State.setPair_noticeSeq (s : State) (k : Nat) (x : LaePair) : (s.setPair k x).noticeSeq = s.noticeSeq := rfl
@[simp] theorem State.setPair_logSeq (s : State) (k : Nat) (x : LaePair) : (s.setPair k x).logSeq = s.logSeq := rfl
@[simp] theorem State.setPair_logFrom (s : State) (k : Nat) (x : LaePair) : (s.setPair k x).logFrom = s.logFrom := rfl
@[simp] theorem State.setPair_fyz (s : State) (k : Nat) (x : LaePair) : (s.setPair k x).fyz = s.fyz := rfl
@[simp] theorem State.setPair_pending (s : State) (k : Nat) (x : LaePair) : (s.setPair k x).pending = s.pending := rfl

/-! ### `setTmr` -/

@[simp] theorem State.setTmr_now (s : State) (k : Nat) (x : Tmr) : (s.setTmr k x).now = s.now := rfl
@[simp] theorem State.setTmr_ltc (s : State) (k : Nat) (x : Tmr) : (s.setTmr k x).ltc = s.ltc := rfl
@[simp] theorem State.setTmr_free (s : State) (k : Nat) (x : Tmr) : (s.setTmr k x).free = s.free := rfl
@[simp] theorem State.setTmr_regs (s : State) (k : Nat) (x : Tmr) : (s.setTmr k x).regs = s.regs := rfl
@[simp] theorem State.setTmr_mem (s : State) (k : Nat) (x : Tmr) : (s.setTmr k x).mem = s.mem := rfl
@[simp] theorem State.setTmr_memFree (s : State) (k : Nat) (x : Tmr) : (s.setTmr k x).memFree = s.memFree := rfl
@[simp] theorem State.setTmr_upsets (s : State) (k : Nat) (x : Tmr) : (s.setTmr k x).upsets = s.upsets := rfl
@[simp] theorem State.setTmr_hwSets (s : State) (k : Nat) (x : Tmr) : (s.setTmr k x).hwSets = s.hwSets := rfl
@[simp] theorem State.setTmr_port (s : State) (k : Nat) (x : Tmr) : (s.setTmr k x).port = s.port := rfl
@[simp] theorem State.setTmr_bank (s : State) (k : Nat) (x : Tmr) : (s.setTmr k x).bank = s.bank := rfl
@[simp] theorem State.setTmr_sdlSeq (s : State) (k : Nat) (x : Tmr) : (s.setTmr k x).sdlSeq = s.sdlSeq := rfl
@[simp] theorem State.setTmr_portRank (s : State) (k : Nat) (x : Tmr) : (s.setTmr k x).portRank = s.portRank := rfl
@[simp] theorem State.setTmr_dma (s : State) (k : Nat) (x : Tmr) : (s.setTmr k x).dma = s.dma := rfl
@[simp] theorem State.setTmr_lane (s : State) (k : Nat) (x : Tmr) : (s.setTmr k x).lane = s.lane := rfl
@[simp] theorem State.setTmr_dutyq (s : State) (k : Nat) (x : Tmr) : (s.setTmr k x).dutyq = s.dutyq := rfl
@[simp] theorem State.setTmr_dutyNext (s : State) (k : Nat) (x : Tmr) : (s.setTmr k x).dutyNext = s.dutyNext := rfl
@[simp] theorem State.setTmr_hrn (s : State) (k : Nat) (x : Tmr) : (s.setTmr k x).hrn = s.hrn := rfl
@[simp] theorem State.setTmr_core (s : State) (k : Nat) (x : Tmr) : (s.setTmr k x).core = s.core := rfl
@[simp] theorem State.setTmr_shadowIn (s : State) (k : Nat) (x : Tmr) : (s.setTmr k x).shadowIn = s.shadowIn := rfl
@[simp] theorem State.setTmr_syncIn (s : State) (k : Nat) (x : Tmr) : (s.setTmr k x).syncIn = s.syncIn := rfl
@[simp] theorem State.setTmr_windowIn (s : State) (k : Nat) (x : Tmr) : (s.setTmr k x).windowIn = s.windowIn := rfl
@[simp] theorem State.setTmr_sar (s : State) (k : Nat) (x : Tmr) : (s.setTmr k x).sar = s.sar := rfl
@[simp] theorem State.setTmr_armed (s : State) (k : Nat) (x : Tmr) : (s.setTmr k x).armed = s.armed := rfl
@[simp] theorem State.setTmr_occ (s : State) (k : Nat) (x : Tmr) : (s.setTmr k x).occ = s.occ := rfl
@[simp] theorem State.setTmr_scaleDecl (s : State) (k : Nat) (x : Tmr) : (s.setTmr k x).scaleDecl = s.scaleDecl := rfl
@[simp] theorem State.setTmr_copyEnd (s : State) (k : Nat) (x : Tmr) : (s.setTmr k x).copyEnd = s.copyEnd := rfl
@[simp] theorem State.setTmr_slotHeld (s : State) (k : Nat) (x : Tmr) : (s.setTmr k x).slotHeld = s.slotHeld := rfl
@[simp] theorem State.setTmr_sdmOver (s : State) (k : Nat) (x : Tmr) : (s.setTmr k x).sdmOver = s.sdmOver := rfl
@[simp] theorem State.setTmr_trigs (s : State) (k : Nat) (x : Tmr) : (s.setTmr k x).trigs = s.trigs := rfl
@[simp] theorem State.setTmr_meter (s : State) (k : Nat) (x : Tmr) : (s.setTmr k x).meter = s.meter := rfl
@[simp] theorem State.setTmr_meterWin (s : State) (k : Nat) (x : Tmr) : (s.setTmr k x).meterWin = s.meterWin := rfl
@[simp] theorem State.setTmr_energyRem (s : State) (k : Nat) (x : Tmr) : (s.setTmr k x).energyRem = s.energyRem := rfl
@[simp] theorem State.setTmr_cmp (s : State) (k : Nat) (x : Tmr) : (s.setTmr k x).cmp = s.cmp := rfl
@[simp] theorem State.setTmr_pairUv (s : State) (k : Nat) (x : Tmr) : (s.setTmr k x).pairUv = s.pairUv := rfl
@[simp] theorem State.setTmr_trip (s : State) (k : Nat) (x : Tmr) : (s.setTmr k x).trip = s.trip := rfl
@[simp] theorem State.setTmr_rawPast (s : State) (k : Nat) (x : Tmr) : (s.setTmr k x).rawPast = s.rawPast := rfl
@[simp] theorem State.setTmr_pinPast (s : State) (k : Nat) (x : Tmr) : (s.setTmr k x).pinPast = s.pinPast := rfl
@[simp] theorem State.setTmr_reinPast (s : State) (k : Nat) (x : Tmr) : (s.setTmr k x).reinPast = s.reinPast := rfl
@[simp] theorem State.setTmr_reinTick (s : State) (k : Nat) (x : Tmr) : (s.setTmr k x).reinTick = s.reinTick := rfl
@[simp] theorem State.setTmr_reinPrev (s : State) (k : Nat) (x : Tmr) : (s.setTmr k x).reinPrev = s.reinPrev := rfl
@[simp] theorem State.setTmr_chan (s : State) (k : Nat) (x : Tmr) : (s.setTmr k x).chan = s.chan := rfl
@[simp] theorem State.setTmr_spr (s : State) (k : Nat) (x : Tmr) : (s.setTmr k x).spr = s.spr := rfl
@[simp] theorem State.setTmr_angHist (s : State) (k : Nat) (x : Tmr) : (s.setTmr k x).angHist = s.angHist := rfl
@[simp] theorem State.setTmr_feed (s : State) (k : Nat) (x : Tmr) : (s.setTmr k x).feed = s.feed := rfl
@[simp] theorem State.setTmr_pair (s : State) (k : Nat) (x : Tmr) : (s.setTmr k x).pair = s.pair := rfl
@[simp] theorem State.setTmr_xfer (s : State) (k : Nat) (x : Tmr) : (s.setTmr k x).xfer = s.xfer := rfl
@[simp] theorem State.setTmr_energised (s : State) (k : Nat) (x : Tmr) : (s.setTmr k x).energised = s.energised := rfl
@[simp] theorem State.setTmr_routeAt (s : State) (k : Nat) (x : Tmr) : (s.setTmr k x).routeAt = s.routeAt := rfl
@[simp] theorem State.setTmr_lockPast (s : State) (k : Nat) (x : Tmr) : (s.setTmr k x).lockPast = s.lockPast := rfl
@[simp] theorem State.setTmr_monEdge (s : State) (k : Nat) (x : Tmr) : (s.setTmr k x).monEdge = s.monEdge := rfl
@[simp] theorem State.setTmr_monArmed (s : State) (k : Nat) (x : Tmr) : (s.setTmr k x).monArmed = s.monArmed := rfl
@[simp] theorem State.setTmr_monQuiet (s : State) (k : Nat) (x : Tmr) : (s.setTmr k x).monQuiet = s.monQuiet := rfl
@[simp] theorem State.setTmr_snsBall (s : State) (k : Nat) (x : Tmr) : (s.setTmr k x).snsBall = s.snsBall := rfl
@[simp] theorem State.setTmr_snsLevel (s : State) (k : Nat) (x : Tmr) : (s.setTmr k x).snsLevel = s.snsLevel := rfl
@[simp] theorem State.setTmr_snsRun (s : State) (k : Nat) (x : Tmr) : (s.setTmr k x).snsRun = s.snsRun := rfl
@[simp] theorem State.setTmr_snap (s : State) (k : Nat) (x : Tmr) : (s.setTmr k x).snap = s.snap := rfl
@[simp] theorem State.setTmr_twin (s : State) (k : Nat) (x : Tmr) : (s.setTmr k x).twin = s.twin := rfl
@[simp] theorem State.setTmr_img (s : State) (k : Nat) (x : Tmr) : (s.setTmr k x).img = s.img := rfl
@[simp] theorem State.setTmr_partnerRd (s : State) (k : Nat) (x : Tmr) : (s.setTmr k x).partnerRd = s.partnerRd := rfl
@[simp] theorem State.setTmr_pw (s : State) (k : Nat) (x : Tmr) : (s.setTmr k x).pw = s.pw := rfl
@[simp] theorem State.setTmr_cupS (s : State) (k : Nat) (x : Tmr) : (s.setTmr k x).cupS = s.cupS := rfl
@[simp] theorem State.setTmr_cupGrace (s : State) (k : Nat) (x : Tmr) : (s.setTmr k x).cupGrace = s.cupGrace := rfl
@[simp] theorem State.setTmr_cupDefer (s : State) (k : Nat) (x : Tmr) : (s.setTmr k x).cupDefer = s.cupDefer := rfl
@[simp] theorem State.setTmr_cupBelow (s : State) (k : Nat) (x : Tmr) : (s.setTmr k x).cupBelow = s.cupBelow := rfl
@[simp] theorem State.setTmr_limLast (s : State) (k : Nat) (x : Tmr) : (s.setTmr k x).limLast = s.limLast := rfl
@[simp] theorem State.setTmr_limNext (s : State) (k : Nat) (x : Tmr) : (s.setTmr k x).limNext = s.limNext := rfl
@[simp] theorem State.setTmr_cupRec (s : State) (k : Nat) (x : Tmr) : (s.setTmr k x).cupRec = s.cupRec := rfl
@[simp] theorem State.setTmr_notices (s : State) (k : Nat) (x : Tmr) : (s.setTmr k x).notices = s.notices := rfl
@[simp] theorem State.setTmr_noticeSeq (s : State) (k : Nat) (x : Tmr) : (s.setTmr k x).noticeSeq = s.noticeSeq := rfl
@[simp] theorem State.setTmr_logSeq (s : State) (k : Nat) (x : Tmr) : (s.setTmr k x).logSeq = s.logSeq := rfl
@[simp] theorem State.setTmr_logFrom (s : State) (k : Nat) (x : Tmr) : (s.setTmr k x).logFrom = s.logFrom := rfl
@[simp] theorem State.setTmr_fyz (s : State) (k : Nat) (x : Tmr) : (s.setTmr k x).fyz = s.fyz := rfl
@[simp] theorem State.setTmr_pending (s : State) (k : Nat) (x : Tmr) : (s.setTmr k x).pending = s.pending := rfl

/-! ### `setCup` -/

@[simp] theorem State.setCup_now (s : State) (k : Nat) (x : CupSensor) : (s.setCup k x).now = s.now := rfl
@[simp] theorem State.setCup_ltc (s : State) (k : Nat) (x : CupSensor) : (s.setCup k x).ltc = s.ltc := rfl
@[simp] theorem State.setCup_free (s : State) (k : Nat) (x : CupSensor) : (s.setCup k x).free = s.free := rfl
@[simp] theorem State.setCup_regs (s : State) (k : Nat) (x : CupSensor) : (s.setCup k x).regs = s.regs := rfl
@[simp] theorem State.setCup_mem (s : State) (k : Nat) (x : CupSensor) : (s.setCup k x).mem = s.mem := rfl
@[simp] theorem State.setCup_memFree (s : State) (k : Nat) (x : CupSensor) : (s.setCup k x).memFree = s.memFree := rfl
@[simp] theorem State.setCup_upsets (s : State) (k : Nat) (x : CupSensor) : (s.setCup k x).upsets = s.upsets := rfl
@[simp] theorem State.setCup_hwSets (s : State) (k : Nat) (x : CupSensor) : (s.setCup k x).hwSets = s.hwSets := rfl
@[simp] theorem State.setCup_port (s : State) (k : Nat) (x : CupSensor) : (s.setCup k x).port = s.port := rfl
@[simp] theorem State.setCup_bank (s : State) (k : Nat) (x : CupSensor) : (s.setCup k x).bank = s.bank := rfl
@[simp] theorem State.setCup_sdlSeq (s : State) (k : Nat) (x : CupSensor) : (s.setCup k x).sdlSeq = s.sdlSeq := rfl
@[simp] theorem State.setCup_portRank (s : State) (k : Nat) (x : CupSensor) : (s.setCup k x).portRank = s.portRank := rfl
@[simp] theorem State.setCup_dma (s : State) (k : Nat) (x : CupSensor) : (s.setCup k x).dma = s.dma := rfl
@[simp] theorem State.setCup_lane (s : State) (k : Nat) (x : CupSensor) : (s.setCup k x).lane = s.lane := rfl
@[simp] theorem State.setCup_dutyq (s : State) (k : Nat) (x : CupSensor) : (s.setCup k x).dutyq = s.dutyq := rfl
@[simp] theorem State.setCup_dutyNext (s : State) (k : Nat) (x : CupSensor) : (s.setCup k x).dutyNext = s.dutyNext := rfl
@[simp] theorem State.setCup_hrn (s : State) (k : Nat) (x : CupSensor) : (s.setCup k x).hrn = s.hrn := rfl
@[simp] theorem State.setCup_core (s : State) (k : Nat) (x : CupSensor) : (s.setCup k x).core = s.core := rfl
@[simp] theorem State.setCup_shadowIn (s : State) (k : Nat) (x : CupSensor) : (s.setCup k x).shadowIn = s.shadowIn := rfl
@[simp] theorem State.setCup_syncIn (s : State) (k : Nat) (x : CupSensor) : (s.setCup k x).syncIn = s.syncIn := rfl
@[simp] theorem State.setCup_windowIn (s : State) (k : Nat) (x : CupSensor) : (s.setCup k x).windowIn = s.windowIn := rfl
@[simp] theorem State.setCup_sar (s : State) (k : Nat) (x : CupSensor) : (s.setCup k x).sar = s.sar := rfl
@[simp] theorem State.setCup_armed (s : State) (k : Nat) (x : CupSensor) : (s.setCup k x).armed = s.armed := rfl
@[simp] theorem State.setCup_occ (s : State) (k : Nat) (x : CupSensor) : (s.setCup k x).occ = s.occ := rfl
@[simp] theorem State.setCup_scaleDecl (s : State) (k : Nat) (x : CupSensor) : (s.setCup k x).scaleDecl = s.scaleDecl := rfl
@[simp] theorem State.setCup_copyEnd (s : State) (k : Nat) (x : CupSensor) : (s.setCup k x).copyEnd = s.copyEnd := rfl
@[simp] theorem State.setCup_slotHeld (s : State) (k : Nat) (x : CupSensor) : (s.setCup k x).slotHeld = s.slotHeld := rfl
@[simp] theorem State.setCup_sdmOver (s : State) (k : Nat) (x : CupSensor) : (s.setCup k x).sdmOver = s.sdmOver := rfl
@[simp] theorem State.setCup_trigs (s : State) (k : Nat) (x : CupSensor) : (s.setCup k x).trigs = s.trigs := rfl
@[simp] theorem State.setCup_meter (s : State) (k : Nat) (x : CupSensor) : (s.setCup k x).meter = s.meter := rfl
@[simp] theorem State.setCup_meterWin (s : State) (k : Nat) (x : CupSensor) : (s.setCup k x).meterWin = s.meterWin := rfl
@[simp] theorem State.setCup_energyRem (s : State) (k : Nat) (x : CupSensor) : (s.setCup k x).energyRem = s.energyRem := rfl
@[simp] theorem State.setCup_cmp (s : State) (k : Nat) (x : CupSensor) : (s.setCup k x).cmp = s.cmp := rfl
@[simp] theorem State.setCup_pairUv (s : State) (k : Nat) (x : CupSensor) : (s.setCup k x).pairUv = s.pairUv := rfl
@[simp] theorem State.setCup_trip (s : State) (k : Nat) (x : CupSensor) : (s.setCup k x).trip = s.trip := rfl
@[simp] theorem State.setCup_rawPast (s : State) (k : Nat) (x : CupSensor) : (s.setCup k x).rawPast = s.rawPast := rfl
@[simp] theorem State.setCup_pinPast (s : State) (k : Nat) (x : CupSensor) : (s.setCup k x).pinPast = s.pinPast := rfl
@[simp] theorem State.setCup_reinPast (s : State) (k : Nat) (x : CupSensor) : (s.setCup k x).reinPast = s.reinPast := rfl
@[simp] theorem State.setCup_reinTick (s : State) (k : Nat) (x : CupSensor) : (s.setCup k x).reinTick = s.reinTick := rfl
@[simp] theorem State.setCup_reinPrev (s : State) (k : Nat) (x : CupSensor) : (s.setCup k x).reinPrev = s.reinPrev := rfl
@[simp] theorem State.setCup_chan (s : State) (k : Nat) (x : CupSensor) : (s.setCup k x).chan = s.chan := rfl
@[simp] theorem State.setCup_spr (s : State) (k : Nat) (x : CupSensor) : (s.setCup k x).spr = s.spr := rfl
@[simp] theorem State.setCup_angHist (s : State) (k : Nat) (x : CupSensor) : (s.setCup k x).angHist = s.angHist := rfl
@[simp] theorem State.setCup_feed (s : State) (k : Nat) (x : CupSensor) : (s.setCup k x).feed = s.feed := rfl
@[simp] theorem State.setCup_pair (s : State) (k : Nat) (x : CupSensor) : (s.setCup k x).pair = s.pair := rfl
@[simp] theorem State.setCup_xfer (s : State) (k : Nat) (x : CupSensor) : (s.setCup k x).xfer = s.xfer := rfl
@[simp] theorem State.setCup_energised (s : State) (k : Nat) (x : CupSensor) : (s.setCup k x).energised = s.energised := rfl
@[simp] theorem State.setCup_tmr (s : State) (k : Nat) (x : CupSensor) : (s.setCup k x).tmr = s.tmr := rfl
@[simp] theorem State.setCup_routeAt (s : State) (k : Nat) (x : CupSensor) : (s.setCup k x).routeAt = s.routeAt := rfl
@[simp] theorem State.setCup_lockPast (s : State) (k : Nat) (x : CupSensor) : (s.setCup k x).lockPast = s.lockPast := rfl
@[simp] theorem State.setCup_monEdge (s : State) (k : Nat) (x : CupSensor) : (s.setCup k x).monEdge = s.monEdge := rfl
@[simp] theorem State.setCup_monArmed (s : State) (k : Nat) (x : CupSensor) : (s.setCup k x).monArmed = s.monArmed := rfl
@[simp] theorem State.setCup_monQuiet (s : State) (k : Nat) (x : CupSensor) : (s.setCup k x).monQuiet = s.monQuiet := rfl
@[simp] theorem State.setCup_snsBall (s : State) (k : Nat) (x : CupSensor) : (s.setCup k x).snsBall = s.snsBall := rfl
@[simp] theorem State.setCup_snsLevel (s : State) (k : Nat) (x : CupSensor) : (s.setCup k x).snsLevel = s.snsLevel := rfl
@[simp] theorem State.setCup_snsRun (s : State) (k : Nat) (x : CupSensor) : (s.setCup k x).snsRun = s.snsRun := rfl
@[simp] theorem State.setCup_snap (s : State) (k : Nat) (x : CupSensor) : (s.setCup k x).snap = s.snap := rfl
@[simp] theorem State.setCup_twin (s : State) (k : Nat) (x : CupSensor) : (s.setCup k x).twin = s.twin := rfl
@[simp] theorem State.setCup_img (s : State) (k : Nat) (x : CupSensor) : (s.setCup k x).img = s.img := rfl
@[simp] theorem State.setCup_partnerRd (s : State) (k : Nat) (x : CupSensor) : (s.setCup k x).partnerRd = s.partnerRd := rfl
@[simp] theorem State.setCup_pw (s : State) (k : Nat) (x : CupSensor) : (s.setCup k x).pw = s.pw := rfl
@[simp] theorem State.setCup_cupGrace (s : State) (k : Nat) (x : CupSensor) : (s.setCup k x).cupGrace = s.cupGrace := rfl
@[simp] theorem State.setCup_cupDefer (s : State) (k : Nat) (x : CupSensor) : (s.setCup k x).cupDefer = s.cupDefer := rfl
@[simp] theorem State.setCup_cupBelow (s : State) (k : Nat) (x : CupSensor) : (s.setCup k x).cupBelow = s.cupBelow := rfl
@[simp] theorem State.setCup_limLast (s : State) (k : Nat) (x : CupSensor) : (s.setCup k x).limLast = s.limLast := rfl
@[simp] theorem State.setCup_limNext (s : State) (k : Nat) (x : CupSensor) : (s.setCup k x).limNext = s.limNext := rfl
@[simp] theorem State.setCup_cupRec (s : State) (k : Nat) (x : CupSensor) : (s.setCup k x).cupRec = s.cupRec := rfl
@[simp] theorem State.setCup_notices (s : State) (k : Nat) (x : CupSensor) : (s.setCup k x).notices = s.notices := rfl
@[simp] theorem State.setCup_noticeSeq (s : State) (k : Nat) (x : CupSensor) : (s.setCup k x).noticeSeq = s.noticeSeq := rfl
@[simp] theorem State.setCup_logSeq (s : State) (k : Nat) (x : CupSensor) : (s.setCup k x).logSeq = s.logSeq := rfl
@[simp] theorem State.setCup_logFrom (s : State) (k : Nat) (x : CupSensor) : (s.setCup k x).logFrom = s.logFrom := rfl
@[simp] theorem State.setCup_fyz (s : State) (k : Nat) (x : CupSensor) : (s.setCup k x).fyz = s.fyz := rfl
@[simp] theorem State.setCup_pending (s : State) (k : Nat) (x : CupSensor) : (s.setCup k x).pending = s.pending := rfl

/-! ### `setFport` -/

@[simp] theorem State.setFport_now (s : State) (k : Nat) (x : FyzPort) : (s.setFport k x).now = s.now := rfl
@[simp] theorem State.setFport_ltc (s : State) (k : Nat) (x : FyzPort) : (s.setFport k x).ltc = s.ltc := rfl
@[simp] theorem State.setFport_free (s : State) (k : Nat) (x : FyzPort) : (s.setFport k x).free = s.free := rfl
@[simp] theorem State.setFport_regs (s : State) (k : Nat) (x : FyzPort) : (s.setFport k x).regs = s.regs := rfl
@[simp] theorem State.setFport_mem (s : State) (k : Nat) (x : FyzPort) : (s.setFport k x).mem = s.mem := rfl
@[simp] theorem State.setFport_memFree (s : State) (k : Nat) (x : FyzPort) : (s.setFport k x).memFree = s.memFree := rfl
@[simp] theorem State.setFport_upsets (s : State) (k : Nat) (x : FyzPort) : (s.setFport k x).upsets = s.upsets := rfl
@[simp] theorem State.setFport_hwSets (s : State) (k : Nat) (x : FyzPort) : (s.setFport k x).hwSets = s.hwSets := rfl
@[simp] theorem State.setFport_port (s : State) (k : Nat) (x : FyzPort) : (s.setFport k x).port = s.port := rfl
@[simp] theorem State.setFport_bank (s : State) (k : Nat) (x : FyzPort) : (s.setFport k x).bank = s.bank := rfl
@[simp] theorem State.setFport_sdlSeq (s : State) (k : Nat) (x : FyzPort) : (s.setFport k x).sdlSeq = s.sdlSeq := rfl
@[simp] theorem State.setFport_portRank (s : State) (k : Nat) (x : FyzPort) : (s.setFport k x).portRank = s.portRank := rfl
@[simp] theorem State.setFport_dma (s : State) (k : Nat) (x : FyzPort) : (s.setFport k x).dma = s.dma := rfl
@[simp] theorem State.setFport_lane (s : State) (k : Nat) (x : FyzPort) : (s.setFport k x).lane = s.lane := rfl
@[simp] theorem State.setFport_dutyq (s : State) (k : Nat) (x : FyzPort) : (s.setFport k x).dutyq = s.dutyq := rfl
@[simp] theorem State.setFport_dutyNext (s : State) (k : Nat) (x : FyzPort) : (s.setFport k x).dutyNext = s.dutyNext := rfl
@[simp] theorem State.setFport_hrn (s : State) (k : Nat) (x : FyzPort) : (s.setFport k x).hrn = s.hrn := rfl
@[simp] theorem State.setFport_core (s : State) (k : Nat) (x : FyzPort) : (s.setFport k x).core = s.core := rfl
@[simp] theorem State.setFport_shadowIn (s : State) (k : Nat) (x : FyzPort) : (s.setFport k x).shadowIn = s.shadowIn := rfl
@[simp] theorem State.setFport_syncIn (s : State) (k : Nat) (x : FyzPort) : (s.setFport k x).syncIn = s.syncIn := rfl
@[simp] theorem State.setFport_windowIn (s : State) (k : Nat) (x : FyzPort) : (s.setFport k x).windowIn = s.windowIn := rfl
@[simp] theorem State.setFport_sar (s : State) (k : Nat) (x : FyzPort) : (s.setFport k x).sar = s.sar := rfl
@[simp] theorem State.setFport_armed (s : State) (k : Nat) (x : FyzPort) : (s.setFport k x).armed = s.armed := rfl
@[simp] theorem State.setFport_occ (s : State) (k : Nat) (x : FyzPort) : (s.setFport k x).occ = s.occ := rfl
@[simp] theorem State.setFport_scaleDecl (s : State) (k : Nat) (x : FyzPort) : (s.setFport k x).scaleDecl = s.scaleDecl := rfl
@[simp] theorem State.setFport_copyEnd (s : State) (k : Nat) (x : FyzPort) : (s.setFport k x).copyEnd = s.copyEnd := rfl
@[simp] theorem State.setFport_slotHeld (s : State) (k : Nat) (x : FyzPort) : (s.setFport k x).slotHeld = s.slotHeld := rfl
@[simp] theorem State.setFport_sdmOver (s : State) (k : Nat) (x : FyzPort) : (s.setFport k x).sdmOver = s.sdmOver := rfl
@[simp] theorem State.setFport_trigs (s : State) (k : Nat) (x : FyzPort) : (s.setFport k x).trigs = s.trigs := rfl
@[simp] theorem State.setFport_meter (s : State) (k : Nat) (x : FyzPort) : (s.setFport k x).meter = s.meter := rfl
@[simp] theorem State.setFport_meterWin (s : State) (k : Nat) (x : FyzPort) : (s.setFport k x).meterWin = s.meterWin := rfl
@[simp] theorem State.setFport_energyRem (s : State) (k : Nat) (x : FyzPort) : (s.setFport k x).energyRem = s.energyRem := rfl
@[simp] theorem State.setFport_cmp (s : State) (k : Nat) (x : FyzPort) : (s.setFport k x).cmp = s.cmp := rfl
@[simp] theorem State.setFport_pairUv (s : State) (k : Nat) (x : FyzPort) : (s.setFport k x).pairUv = s.pairUv := rfl
@[simp] theorem State.setFport_trip (s : State) (k : Nat) (x : FyzPort) : (s.setFport k x).trip = s.trip := rfl
@[simp] theorem State.setFport_rawPast (s : State) (k : Nat) (x : FyzPort) : (s.setFport k x).rawPast = s.rawPast := rfl
@[simp] theorem State.setFport_pinPast (s : State) (k : Nat) (x : FyzPort) : (s.setFport k x).pinPast = s.pinPast := rfl
@[simp] theorem State.setFport_reinPast (s : State) (k : Nat) (x : FyzPort) : (s.setFport k x).reinPast = s.reinPast := rfl
@[simp] theorem State.setFport_reinTick (s : State) (k : Nat) (x : FyzPort) : (s.setFport k x).reinTick = s.reinTick := rfl
@[simp] theorem State.setFport_reinPrev (s : State) (k : Nat) (x : FyzPort) : (s.setFport k x).reinPrev = s.reinPrev := rfl
@[simp] theorem State.setFport_chan (s : State) (k : Nat) (x : FyzPort) : (s.setFport k x).chan = s.chan := rfl
@[simp] theorem State.setFport_spr (s : State) (k : Nat) (x : FyzPort) : (s.setFport k x).spr = s.spr := rfl
@[simp] theorem State.setFport_angHist (s : State) (k : Nat) (x : FyzPort) : (s.setFport k x).angHist = s.angHist := rfl
@[simp] theorem State.setFport_feed (s : State) (k : Nat) (x : FyzPort) : (s.setFport k x).feed = s.feed := rfl
@[simp] theorem State.setFport_pair (s : State) (k : Nat) (x : FyzPort) : (s.setFport k x).pair = s.pair := rfl
@[simp] theorem State.setFport_xfer (s : State) (k : Nat) (x : FyzPort) : (s.setFport k x).xfer = s.xfer := rfl
@[simp] theorem State.setFport_energised (s : State) (k : Nat) (x : FyzPort) : (s.setFport k x).energised = s.energised := rfl
@[simp] theorem State.setFport_tmr (s : State) (k : Nat) (x : FyzPort) : (s.setFport k x).tmr = s.tmr := rfl
@[simp] theorem State.setFport_routeAt (s : State) (k : Nat) (x : FyzPort) : (s.setFport k x).routeAt = s.routeAt := rfl
@[simp] theorem State.setFport_lockPast (s : State) (k : Nat) (x : FyzPort) : (s.setFport k x).lockPast = s.lockPast := rfl
@[simp] theorem State.setFport_monEdge (s : State) (k : Nat) (x : FyzPort) : (s.setFport k x).monEdge = s.monEdge := rfl
@[simp] theorem State.setFport_monArmed (s : State) (k : Nat) (x : FyzPort) : (s.setFport k x).monArmed = s.monArmed := rfl
@[simp] theorem State.setFport_monQuiet (s : State) (k : Nat) (x : FyzPort) : (s.setFport k x).monQuiet = s.monQuiet := rfl
@[simp] theorem State.setFport_snsBall (s : State) (k : Nat) (x : FyzPort) : (s.setFport k x).snsBall = s.snsBall := rfl
@[simp] theorem State.setFport_snsLevel (s : State) (k : Nat) (x : FyzPort) : (s.setFport k x).snsLevel = s.snsLevel := rfl
@[simp] theorem State.setFport_snsRun (s : State) (k : Nat) (x : FyzPort) : (s.setFport k x).snsRun = s.snsRun := rfl
@[simp] theorem State.setFport_snap (s : State) (k : Nat) (x : FyzPort) : (s.setFport k x).snap = s.snap := rfl
@[simp] theorem State.setFport_twin (s : State) (k : Nat) (x : FyzPort) : (s.setFport k x).twin = s.twin := rfl
@[simp] theorem State.setFport_img (s : State) (k : Nat) (x : FyzPort) : (s.setFport k x).img = s.img := rfl
@[simp] theorem State.setFport_partnerRd (s : State) (k : Nat) (x : FyzPort) : (s.setFport k x).partnerRd = s.partnerRd := rfl
@[simp] theorem State.setFport_pw (s : State) (k : Nat) (x : FyzPort) : (s.setFport k x).pw = s.pw := rfl
@[simp] theorem State.setFport_cupS (s : State) (k : Nat) (x : FyzPort) : (s.setFport k x).cupS = s.cupS := rfl
@[simp] theorem State.setFport_cupGrace (s : State) (k : Nat) (x : FyzPort) : (s.setFport k x).cupGrace = s.cupGrace := rfl
@[simp] theorem State.setFport_cupDefer (s : State) (k : Nat) (x : FyzPort) : (s.setFport k x).cupDefer = s.cupDefer := rfl
@[simp] theorem State.setFport_cupBelow (s : State) (k : Nat) (x : FyzPort) : (s.setFport k x).cupBelow = s.cupBelow := rfl
@[simp] theorem State.setFport_limLast (s : State) (k : Nat) (x : FyzPort) : (s.setFport k x).limLast = s.limLast := rfl
@[simp] theorem State.setFport_limNext (s : State) (k : Nat) (x : FyzPort) : (s.setFport k x).limNext = s.limNext := rfl
@[simp] theorem State.setFport_cupRec (s : State) (k : Nat) (x : FyzPort) : (s.setFport k x).cupRec = s.cupRec := rfl
@[simp] theorem State.setFport_notices (s : State) (k : Nat) (x : FyzPort) : (s.setFport k x).notices = s.notices := rfl
@[simp] theorem State.setFport_noticeSeq (s : State) (k : Nat) (x : FyzPort) : (s.setFport k x).noticeSeq = s.noticeSeq := rfl
@[simp] theorem State.setFport_logSeq (s : State) (k : Nat) (x : FyzPort) : (s.setFport k x).logSeq = s.logSeq := rfl
@[simp] theorem State.setFport_logFrom (s : State) (k : Nat) (x : FyzPort) : (s.setFport k x).logFrom = s.logFrom := rfl
@[simp] theorem State.setFport_pending (s : State) (k : Nat) (x : FyzPort) : (s.setFport k x).pending = s.pending := rfl

end Sys2Proof.Machine
end

