-- ==== Sys2Proof/Laws/Memory.lean ====
section
/-! SUPPORT. Memory: a read after a write, and the canonical form under every memory operation. -/

namespace Sys2Proof.Machine

/-! ### Reading and writing one byte -/

theorem memFind_filter_same (m : List Host.Cell) (a : Nat) : memFind (m.filter fun e => e.1 ≠ a) a = none := by
  induction m with
  | nil => rfl
  | cons e t ih =>
    obtain ⟨k, v⟩ := e
    by_cases h : k = a <;> simp_all [memFind]

theorem memFind_filter_ne (m : List Host.Cell) {a b : Nat} (h : b ≠ a) :
    memFind (m.filter fun e => e.1 ≠ a) b = memFind m b := by
  induction m with
  | nil => rfl
  | cons e t ih =>
    obtain ⟨k, v⟩ := e
    by_cases hk : k = a
    · subst hk
      simp_all [memFind, Ne.symm h]
    · by_cases hb : k = b <;> simp_all [memFind]

theorem memFind_insert (m : List Host.Cell) (a : Nat) (v : BitVec 8) (b : Nat) (h : ∀ e ∈ m, e.1 ≠ a) :
    memFind (memInsert m a v) b = if a = b then some v else memFind m b := by
  induction m with
  | nil => simp [memInsert, memFind]
  | cons e t ih =>
    obtain ⟨k, w⟩ := e
    have hk : k ≠ a := h (k, w) (by simp)
    have ih := ih fun x hx => h x (by simp [hx])
    simp only [memInsert]
    split
    · simp [memFind]
    · simp only [memFind, ih]
      by_cases hb : k = b
      · subst hb; simp [Ne.symm hk]
      · simp [hb]

/-- What an address reads as, listed or not, after a byte has been put. -/
theorem memFind_put (m : List Host.Cell) (a : Nat) (v : BitVec 8) (u : Nat → BitVec 8) (b : Nat) :
    (memFind (memPut m a v (u a)) b).getD (u b) = if a = b then v else (memFind m b).getD (u b) := by
  have hm : ∀ e ∈ m.filter (fun e => e.1 ≠ a), e.1 ≠ a := fun e he => by simpa using (List.mem_filter.mp he).2
  unfold memPut
  by_cases h : a = b
  · subst h
    simp only
    split
    · rename_i hv; rw [memFind_filter_same]; simp [hv]
    · rw [memFind_insert _ _ _ _ hm]; simp
  · rw [if_neg h]
    simp only
    split
    · rw [memFind_filter_ne _ (Ne.symm h)]
    · rw [memFind_insert _ _ _ _ hm, memFind_filter_ne _ (Ne.symm h), if_neg h]

/-- A byte after a write of a byte. -/
theorem State.byteAt_setByte (s : State) (a v b : Nat) : (s.setByte a v).byteAt b = if a = b then v % 256 else s.byteAt b := by
  show ((memFind (memPut s.mem a (BitVec.ofNat 8 v) (s.unlisted a)) b).getD (s.unlisted b)).toNat = _
  rw [memFind_put]
  by_cases h : a = b <;> simp [h, State.byteAt]

@[simp] theorem State.byteAt_setByte_same (s : State) (a v : Nat) : (s.setByte a v).byteAt a = v % 256 := by
  simp [State.byteAt_setByte]

theorem State.byteAt_setByte_ne (s : State) (a v b : Nat) (h : a ≠ b) : (s.setByte a v).byteAt b = s.byteAt b := by
  simp [State.byteAt_setByte, h]

/-- A byte is below 256. -/
theorem State.byteAt_lt (s : State) (a : Nat) : s.byteAt a < 256 := ((memFind s.mem a).getD (s.unlisted a)).isLt

/-! ### Several bytes -/

/-- A store of bytes leaves every byte outside them. -/
theorem State.byteAt_storeBytes_out (s : State) (a b : Nat) (l : List Nat) (h : b < a ∨ a + l.length ≤ b) :
    (s.storeBytes a l).byteAt b = s.byteAt b := by
  induction l generalizing s a with
  | nil => rfl
  | cons x t ih =>
    have h1 : a ≠ b := by simp at h; omega
    simp only [State.storeBytes]
    rw [ih _ _ (by simp at h; omega), State.byteAt_setByte_ne _ _ _ _ h1]

/-- A byte that was stored. -/
theorem State.byteAt_storeBytes_in (s : State) (a i : Nat) (l : List Nat) (h : i < l.length) :
    (s.storeBytes a l).byteAt (a + i) = l[i] % 256 := by
  induction l generalizing s a i with
  | nil => simp at h
  | cons x t ih =>
    simp only [State.storeBytes]
    cases i with
    | zero =>
      rw [State.byteAt_storeBytes_out _ _ _ _ (by omega)]
      simp
    | succ n =>
      have := ih (s.setByte a x) (a + 1) n (by simpa using h)
      simpa [Nat.add_assoc, Nat.add_comm 1 n] using this

/-- A little-endian store is a store of its bytes. -/
theorem State.storeMem_eq (s : State) (a v n : Nat) : s.storeMem a v n = s.storeBytes a (leBytes n v) := by
  induction n generalizing s a v with
  | zero => rfl
  | succ n ih =>
    simp only [State.storeMem, leBytes, State.storeBytes, ih]
    congr 1
    show { s with mem := _ } = { s with mem := _ }
    congr 2
    apply BitVec.eq_of_toNat_eq
    simp

theorem leBytes_length (n v : Nat) : (leBytes n v).length = n := by
  induction n generalizing v with
  | zero => rfl
  | succ n ih => simp [leBytes, ih]

/-- A store of `n` bytes leaves every byte outside them. -/
theorem State.byteAt_storeMem_out (s : State) (a v n b : Nat) (h : b < a ∨ a + n ≤ b) :
    (s.storeMem a v n).byteAt b = s.byteAt b := by
  rw [State.storeMem_eq]
  exact State.byteAt_storeBytes_out _ _ _ _ (by rwa [leBytes_length])

theorem State.loadMem_congr {s t : State} {a n : Nat} (h : ∀ b, a ≤ b → b < a + n → t.byteAt b = s.byteAt b) :
    t.loadMem a n = s.loadMem a n := by
  induction n generalizing a with
  | zero => rfl
  | succ n ih =>
    simp only [State.loadMem]
    rw [h a (by omega) (by omega), ih fun b h1 h2 => h b (by omega) (by omega)]

/-- A read of `n` bytes after their write gives the value, modulo its width. -/
theorem State.loadMem_storeMem (s : State) (a v n : Nat) : (s.storeMem a v n).loadMem a n = v % 256 ^ n := by
  induction n generalizing s a v with
  | zero => simp [State.loadMem, Nat.mod_one]
  | succ n ih =>
    simp only [State.loadMem, State.storeMem, ih]
    rw [State.byteAt_storeMem_out _ _ _ _ _ (by omega), State.byteAt_setByte_same, Nat.pow_succ, Nat.mul_comm (256 ^ n) 256,
      Nat.mod_mul]

/-- A Saddle store word reads as it was written, modulo 2⁴⁸. -/
theorem State.saddle_setSaddle (s : State) (w v : Nat) : (s.setSaddle w v).saddle w = v % 2 ^ 48 := by
  have h : (s.setSaddle w v).saddle w = (s.storeMem (saddleAddr w) v 6).loadMem (saddleAddr w) 6 :=
    State.loadMem_congr fun _ _ _ => rfl
  exact h.trans (State.loadMem_storeMem s (saddleAddr w) v 6)

/-! ### The canonical form -/

/-- Every cell of a memory lies above `a`. -/
def cellsAbove (a : Nat) (m : List Host.Cell) : Bool := m.all fun e => decide (a < e.1)

theorem Memory.wf_cons (u : Nat → BitVec 8) (e : Host.Cell) (t : List Host.Cell) :
    Memory.wf u (e :: t) = true ↔ e.2 ≠ u e.1 ∧ cellsAbove e.1 t = true ∧ Memory.wf u t = true := by
  induction t generalizing e with
  | nil => simp [Memory.wf, cellsAbove]
  | cons d u ih =>
    simp only [Memory.wf, Bool.and_eq_true, cellsAbove, List.all_cons, bne_iff_ne, decide_eq_true_eq]
    constructor
    · rintro ⟨⟨h1, h2⟩, h3⟩
      refine ⟨h1, ⟨h2, ?_⟩, h3⟩
      have h4 := ((ih d).mp h3).2.1
      simp only [cellsAbove, List.all_eq_true, decide_eq_true_eq] at *
      exact fun x hx => Nat.lt_trans h2 (h4 x hx)
    · rintro ⟨h1, ⟨h2, -⟩, h3⟩
      exact ⟨⟨h1, h2⟩, h3⟩

theorem Memory.wf_filter (u : Nat → BitVec 8) (m : List Host.Cell) (p : Host.Cell → Bool) (h : Memory.wf u m = true) :
    Memory.wf u (m.filter p) = true := by
  induction m with
  | nil => rfl
  | cons e t ih =>
    obtain ⟨h1, h2, h3⟩ := (Memory.wf_cons _ e t).mp h
    simp only [List.filter_cons]
    split
    · refine (Memory.wf_cons _ _ _).mpr ⟨h1, ?_, ih h3⟩
      simp only [cellsAbove, List.all_eq_true] at *
      exact fun x hx => h2 x (List.mem_filter.mp hx).1
    · exact ih h3

theorem cellsAbove_insert {a b : Nat} {v : BitVec 8} {m : List Host.Cell} (h : b < a) (hm : cellsAbove b m = true) :
    cellsAbove b (memInsert m a v) = true := by
  induction m with
  | nil => simp [memInsert, cellsAbove, h]
  | cons e t ih =>
    obtain ⟨k, w⟩ := e
    simp only [cellsAbove, List.all_cons, Bool.and_eq_true] at hm
    simp only [memInsert]
    split
    · simp only [cellsAbove, List.all_cons, Bool.and_eq_true]
      exact ⟨by simpa using h, hm⟩
    · simp only [cellsAbove, List.all_cons, Bool.and_eq_true]
      exact ⟨hm.1, ih hm.2⟩

theorem Memory.wf_insert {u : Nat → BitVec 8} {a : Nat} {v : BitVec 8} {m : List Host.Cell} (hv : v ≠ u a) (hm : Memory.wf u m = true)
    (hn : ∀ e ∈ m, e.1 ≠ a) : Memory.wf u (memInsert m a v) = true := by
  induction m with
  | nil => simpa [memInsert, Memory.wf] using hv
  | cons e t ih =>
    obtain ⟨k, w⟩ := e
    obtain ⟨h1, h2, h3⟩ := (Memory.wf_cons _ _ _).mp hm
    have hk : k ≠ a := hn (k, w) (by simp)
    simp only [memInsert]
    split
    · rename_i hlt
      refine (Memory.wf_cons _ _ _).mpr ⟨hv, ?_, hm⟩
      simp only [cellsAbove, List.all_cons, Bool.and_eq_true, List.all_eq_true, decide_eq_true_eq] at *
      exact ⟨hlt, fun y hy => Nat.lt_trans hlt (h2 y hy)⟩
    · exact (Memory.wf_cons _ _ _).mpr ⟨h1, cellsAbove_insert (by simp only; omega) h2,
        ih h3 fun x hx => hn x (by simp [hx])⟩

/-- A write of a byte keeps the canonical form. -/
theorem Memory.wf_put {u : Nat → BitVec 8} {m : List Host.Cell} (h : Memory.wf u m = true) (a : Nat) (v : BitVec 8) :
    Memory.wf u (memPut m a v (u a)) = true := by
  have hf : Memory.wf u (m.filter fun e => e.1 ≠ a) = true := Memory.wf_filter _ _ _ h
  unfold memPut
  simp only
  split
  · exact hf
  · rename_i hv
    exact Memory.wf_insert hv hf fun e he => by simpa using (List.mem_filter.mp he).2

theorem Memory.wf_setByte {s : State} (h : Memory.wf s.unlisted s.mem = true) (a v : Nat) : Memory.wf (s.setByte a v).unlisted (s.setByte a v).mem = true :=
  Memory.wf_put h _ _

theorem Memory.wf_storeBytes {s : State} (h : Memory.wf s.unlisted s.mem = true) (a : Nat) (l : List Nat) :
    Memory.wf (s.storeBytes a l).unlisted (s.storeBytes a l).mem = true := by
  induction l generalizing s a with
  | nil => exact h
  | cons x t ih => exact ih (Memory.wf_setByte h a x) (a + 1)

theorem Memory.wf_storeMem {s : State} (h : Memory.wf s.unlisted s.mem = true) (a v n : Nat) :
    Memory.wf (s.storeMem a v n).unlisted (s.storeMem a v n).mem = true := by
  rw [State.storeMem_eq]
  exact Memory.wf_storeBytes h _ _

theorem Memory.wf_setSaddle {s : State} (h : Memory.wf s.unlisted s.mem = true) (w v : Nat) : Memory.wf (s.setSaddle w v).unlisted (s.setSaddle w v).mem = true :=
  Memory.wf_storeMem h _ _ _

theorem State.mramPush_mem (s : State) (w n : Nat) : (s.mramPush w n).mem = s.mem := by
  induction n generalizing s w with
  | zero => rfl
  | succ n ih =>
    simp only [State.mramPush]
    rw [ih]

theorem State.mramPush_unlisted (s : State) (w n : Nat) : (s.mramPush w n).unlisted = s.unlisted := by
  induction n generalizing s w with
  | zero => rfl
  | succ n ih =>
    simp only [State.mramPush]
    rw [ih]
    rfl

theorem Memory.wf_mramStore {s : State} (h : Memory.wf s.unlisted s.mem = true) (a : Nat) (l : List Nat) :
    Memory.wf (s.mramStore a l).unlisted (s.mramStore a l).mem = true := by
  unfold State.mramStore
  split
  · exact h
  · exact Memory.wf_storeBytes (by rw [State.mramPush_mem, State.mramPush_unlisted]; exact h) _ _

/-- The canonical form depends on the unlisted bytes at the listed addresses alone. -/
theorem Memory.wf_congr {u w : Nat → BitVec 8} {m : List Host.Cell} (h : ∀ e ∈ m, u e.1 = w e.1) (hu : Memory.wf u m = true) :
    Memory.wf w m = true := by
  induction m with
  | nil => rfl
  | cons e t ih =>
    obtain ⟨h1, h2, h3⟩ := (Memory.wf_cons _ _ _).mp hu
    exact (Memory.wf_cons _ _ _).mpr ⟨by rw [← h e (by simp)]; exact h1, h2, ih (fun x hx => h x (by simp [hx])) h3⟩

/-- Outside a range that has become free, an unlisted address reads as before. -/
theorem State.unlisted_freeMem (s : State) (lo hi a : Nat) (h : ¬(lo ≤ a ∧ a < hi)) :
    (s.freeMem lo hi).unlisted a = s.unlisted a := by
  have hf : ∀ l : List (Nat × Nat × Nat),
      (l.filter fun r => !(decide (lo ≤ r.1) && decide (r.2.1 ≤ hi))).find? (fun r => decide (r.1 ≤ a) && decide (a < r.2.1)) =
        l.find? fun r => decide (r.1 ≤ a) && decide (a < r.2.1) := by
    intro l
    induction l with
    | nil => rfl
    | cons r t ih =>
      by_cases hr : lo ≤ r.1 ∧ r.2.1 ≤ hi
      · have : ¬(r.1 ≤ a ∧ a < r.2.1) := fun x => h ⟨by omega, by omega⟩
        rw [List.filter_cons_of_neg (by simpa using hr), List.find?_cons_of_neg (by simpa using this), ih]
      · rw [List.filter_cons_of_pos (by simp; omega)]
        by_cases hx : r.1 ≤ a ∧ a < r.2.1
        · rw [List.find?_cons_of_pos (by simpa using hx), List.find?_cons_of_pos (by simpa using hx)]
        · rw [List.find?_cons_of_neg (by simpa using hx), List.find?_cons_of_neg (by simpa using hx), ih]
  unfold State.unlisted State.freeMem
  simp only
  rw [List.find?_cons_of_neg (by simpa using h), hf]

/-- A range that becomes free keeps the canonical form. -/
theorem Memory.wf_freeMem {s : State} (h : Memory.wf s.unlisted s.mem = true) (lo hi : Nat) :
    Memory.wf (s.freeMem lo hi).unlisted (s.freeMem lo hi).mem = true := by
  refine Memory.wf_congr (u := s.unlisted) (fun e he => ?_) (Memory.wf_filter _ _ _ h)
  have := (List.mem_filter.mp he).2
  exact (State.unlisted_freeMem s lo hi e.1 (by simp at this; omega)).symm

end Sys2Proof.Machine
end

