-- ==== Sys2Proof/Laws/Read.lean ====
section
/-! SUPPORT. The readers of the state after each update of something else, and the parts of the state by index after an update of
the same part. -/

namespace Sys2Proof
open Sys2Proof.Machine

/-- A vector's element after it has been put. -/
theorem vget_vput_same {α : Type} [Inhabited α] {n : Nat} (v : Vector α n) (k : Nat) (x : α) (h : k < n) :
    vget (vput v k x) k = x := by
  simp [vget, vput, h]

/-- The other elements stay. -/
theorem vget_vput_ne {α : Type} [Inhabited α] {n : Nat} (v : Vector α n) (k j : Nat) (x : α) (h : j ≠ k) :
    vget (vput v k x) j = vget v j := by
  simp [vget, vput, Ne.symm h]

/-- Every element of a vector of equal ones, and the default outside it. -/
theorem vget_replicate {α : Type} [Inhabited α] {n : Nat} (x : α) (k : Nat) :
    vget (Vector.replicate n x) k = if k < n then x else default := by
  simp only [vget, Vector.getElem?_replicate]
  split <;> rfl

namespace Machine

theorem State.setPort_portAt_same (s : State) (k : Nat) (x : MasterPort) (h : k < 10) : (s.setPort k x).portAt k = x :=
  vget_vput_same _ _ _ h
theorem State.setPort_portAt_ne (s : State) (k j : Nat) (x : MasterPort) (h : j ≠ k) : (s.setPort k x).portAt j = s.portAt j :=
  vget_vput_ne _ _ _ _ h
theorem State.setBank_bankAt_same (s : State) (k : Nat) (x : SdlBank) (h : k < 4) : (s.setBank k x).bankAt k = x :=
  vget_vput_same _ _ _ h
theorem State.setBank_bankAt_ne (s : State) (k j : Nat) (x : SdlBank) (h : j ≠ k) : (s.setBank k x).bankAt j = s.bankAt j :=
  vget_vput_ne _ _ _ _ h
theorem State.setDma_dmaAt_same (s : State) (k : Nat) (x : Dma) (h : k < 2) : (s.setDma k x).dmaAt k = x :=
  vget_vput_same _ _ _ h
theorem State.setDma_dmaAt_ne (s : State) (k j : Nat) (x : Dma) (h : j ≠ k) : (s.setDma k x).dmaAt j = s.dmaAt j :=
  vget_vput_ne _ _ _ _ h
theorem State.setLane_laneAt_same (s : State) (k : Nat) (x : Lane) (h : k < 32) : (s.setLane k x).laneAt k = x :=
  vget_vput_same _ _ _ h
theorem State.setLane_laneAt_ne (s : State) (k j : Nat) (x : Lane) (h : j ≠ k) : (s.setLane k x).laneAt j = s.laneAt j :=
  vget_vput_ne _ _ _ _ h
theorem State.setDuty_dutyAt_same (s : State) (k : Nat) (x : List DutyEntry) (h : k < 4) : (s.setDuty k x).dutyAt k = x :=
  vget_vput_same _ _ _ h
theorem State.setDuty_dutyAt_ne (s : State) (k j : Nat) (x : List DutyEntry) (h : j ≠ k) : (s.setDuty k x).dutyAt j = s.dutyAt j :=
  vget_vput_ne _ _ _ _ h
theorem State.setCore_coreAt_same (s : State) (k : Nat) (x : Core) (h : k < 5) : (s.setCore k x).coreAt k = x :=
  vget_vput_same _ _ _ h
theorem State.setCore_coreAt_ne (s : State) (k j : Nat) (x : Core) (h : j ≠ k) : (s.setCore k x).coreAt j = s.coreAt j :=
  vget_vput_ne _ _ _ _ h
theorem State.setSar_sarAt_same (s : State) (k : Nat) (x : Sar) (h : k < 16) : (s.setSar k x).sarAt k = x :=
  vget_vput_same _ _ _ h
theorem State.setSar_sarAt_ne (s : State) (k j : Nat) (x : Sar) (h : j ≠ k) : (s.setSar k x).sarAt j = s.sarAt j :=
  vget_vput_ne _ _ _ _ h
theorem State.setCmp_cmpAt_same (s : State) (k : Nat) (x : Cmp) (h : k < 48) : (s.setCmp k x).cmpAt k = x :=
  vget_vput_same _ _ _ h
theorem State.setCmp_cmpAt_ne (s : State) (k j : Nat) (x : Cmp) (h : j ≠ k) : (s.setCmp k x).cmpAt j = s.cmpAt j :=
  vget_vput_ne _ _ _ _ h
theorem State.setPin_pinAt_same (s : State) (k : Nat) (x : TripPin) (h : k < 16) : (s.setPin k x).pinAt k = x :=
  vget_vput_same _ _ _ h
theorem State.setPin_pinAt_ne (s : State) (k j : Nat) (x : TripPin) (h : j ≠ k) : (s.setPin k x).pinAt j = s.pinAt j :=
  vget_vput_ne _ _ _ _ h
theorem State.setChan_chanAt_same (s : State) (k : Nat) (x : Chan) (h : k < 24) : (s.setChan k x).chanAt k = x :=
  vget_vput_same _ _ _ h
theorem State.setChan_chanAt_ne (s : State) (k j : Nat) (x : Chan) (h : j ≠ k) : (s.setChan k x).chanAt j = s.chanAt j :=
  vget_vput_ne _ _ _ _ h
theorem State.setSpr_sprAt_same (s : State) (k : Nat) (x : SprLine) (h : k < 48) : (s.setSpr k x).sprAt k = x :=
  vget_vput_same _ _ _ h
theorem State.setSpr_sprAt_ne (s : State) (k j : Nat) (x : SprLine) (h : j ≠ k) : (s.setSpr k x).sprAt j = s.sprAt j :=
  vget_vput_ne _ _ _ _ h
theorem State.setFeed_feedAt_same (s : State) (k : Nat) (x : LaeFeed) (h : k < 2) : (s.setFeed k x).feedAt k = x :=
  vget_vput_same _ _ _ h
theorem State.setFeed_feedAt_ne (s : State) (k j : Nat) (x : LaeFeed) (h : j ≠ k) : (s.setFeed k x).feedAt j = s.feedAt j :=
  vget_vput_ne _ _ _ _ h
theorem State.setPair_pairAt_same (s : State) (k : Nat) (x : LaePair) (h : k < 12) : (s.setPair k x).pairAt k = x :=
  vget_vput_same _ _ _ h
theorem State.setPair_pairAt_ne (s : State) (k j : Nat) (x : LaePair) (h : j ≠ k) : (s.setPair k x).pairAt j = s.pairAt j :=
  vget_vput_ne _ _ _ _ h
theorem State.setTmr_tmrAt_same (s : State) (k : Nat) (x : Tmr) (h : k < 16) : (s.setTmr k x).tmrAt k = x :=
  vget_vput_same _ _ _ h
theorem State.setTmr_tmrAt_ne (s : State) (k j : Nat) (x : Tmr) (h : j ≠ k) : (s.setTmr k x).tmrAt j = s.tmrAt j :=
  vget_vput_ne _ _ _ _ h
theorem State.setCup_cupAt_same (s : State) (k : Nat) (x : CupSensor) (h : k < 22) : (s.setCup k x).cupAt k = x :=
  vget_vput_same _ _ _ h
theorem State.setCup_cupAt_ne (s : State) (k j : Nat) (x : CupSensor) (h : j ≠ k) : (s.setCup k x).cupAt j = s.cupAt j :=
  vget_vput_ne _ _ _ _ h
theorem State.setFport_fport_same (s : State) (k : Nat) (x : FyzPort) (h : k < 5) : (s.setFport k x).fport k = x :=
  vget_vput_same _ _ _ h
theorem State.setFport_fport_ne (s : State) (k j : Nat) (x : FyzPort) (h : j ≠ k) : (s.setFport k x).fport j = s.fport j :=
  vget_vput_ne _ _ _ _ h

/-! ### Readers after `fset` -/

@[simp] theorem State.fset_byteAt (s : State) (f : Fld) (v i j : Nat) (c : Nat) : (s.fset f v i j).byteAt c = s.byteAt c := rfl
@[simp] theorem State.fset_upsetAt (s : State) (f : Fld) (v i j : Nat) (c : Nat) : (s.fset f v i j).upsetAt c = s.upsetAt c := rfl
@[simp] theorem State.fset_portAt (s : State) (f : Fld) (v i j : Nat) (c : Nat) : (s.fset f v i j).portAt c = s.portAt c := rfl
@[simp] theorem State.fset_bankAt (s : State) (f : Fld) (v i j : Nat) (c : Nat) : (s.fset f v i j).bankAt c = s.bankAt c := rfl
@[simp] theorem State.fset_dmaAt (s : State) (f : Fld) (v i j : Nat) (c : Nat) : (s.fset f v i j).dmaAt c = s.dmaAt c := rfl
@[simp] theorem State.fset_laneAt (s : State) (f : Fld) (v i j : Nat) (c : Nat) : (s.fset f v i j).laneAt c = s.laneAt c := rfl
@[simp] theorem State.fset_dutyAt (s : State) (f : Fld) (v i j : Nat) (c : Nat) : (s.fset f v i j).dutyAt c = s.dutyAt c := rfl
@[simp] theorem State.fset_coreAt (s : State) (f : Fld) (v i j : Nat) (c : Nat) : (s.fset f v i j).coreAt c = s.coreAt c := rfl
@[simp] theorem State.fset_sarAt (s : State) (f : Fld) (v i j : Nat) (c : Nat) : (s.fset f v i j).sarAt c = s.sarAt c := rfl
@[simp] theorem State.fset_cmpAt (s : State) (f : Fld) (v i j : Nat) (c : Nat) : (s.fset f v i j).cmpAt c = s.cmpAt c := rfl
@[simp] theorem State.fset_pinAt (s : State) (f : Fld) (v i j : Nat) (c : Nat) : (s.fset f v i j).pinAt c = s.pinAt c := rfl
@[simp] theorem State.fset_chanAt (s : State) (f : Fld) (v i j : Nat) (c : Nat) : (s.fset f v i j).chanAt c = s.chanAt c := rfl
@[simp] theorem State.fset_sprAt (s : State) (f : Fld) (v i j : Nat) (c : Nat) : (s.fset f v i j).sprAt c = s.sprAt c := rfl
@[simp] theorem State.fset_feedAt (s : State) (f : Fld) (v i j : Nat) (c : Nat) : (s.fset f v i j).feedAt c = s.feedAt c := rfl
@[simp] theorem State.fset_pairAt (s : State) (f : Fld) (v i j : Nat) (c : Nat) : (s.fset f v i j).pairAt c = s.pairAt c := rfl
@[simp] theorem State.fset_tmrAt (s : State) (f : Fld) (v i j : Nat) (c : Nat) : (s.fset f v i j).tmrAt c = s.tmrAt c := rfl
@[simp] theorem State.fset_cupAt (s : State) (f : Fld) (v i j : Nat) (c : Nat) : (s.fset f v i j).cupAt c = s.cupAt c := rfl
@[simp] theorem State.fset_fport (s : State) (f : Fld) (v i j : Nat) (c : Nat) : (s.fset f v i j).fport c = s.fport c := rfl

/-! ### Readers after `resetFields` -/

@[simp] theorem State.resetFields_byteAt (s : State) (p : FKey → Bool) (c : Nat) : (s.resetFields p).byteAt c = s.byteAt c := rfl
@[simp] theorem State.resetFields_upsetAt (s : State) (p : FKey → Bool) (c : Nat) : (s.resetFields p).upsetAt c = s.upsetAt c := rfl
@[simp] theorem State.resetFields_portAt (s : State) (p : FKey → Bool) (c : Nat) : (s.resetFields p).portAt c = s.portAt c := rfl
@[simp] theorem State.resetFields_bankAt (s : State) (p : FKey → Bool) (c : Nat) : (s.resetFields p).bankAt c = s.bankAt c := rfl
@[simp] theorem State.resetFields_dmaAt (s : State) (p : FKey → Bool) (c : Nat) : (s.resetFields p).dmaAt c = s.dmaAt c := rfl
@[simp] theorem State.resetFields_laneAt (s : State) (p : FKey → Bool) (c : Nat) : (s.resetFields p).laneAt c = s.laneAt c := rfl
@[simp] theorem State.resetFields_dutyAt (s : State) (p : FKey → Bool) (c : Nat) : (s.resetFields p).dutyAt c = s.dutyAt c := rfl
@[simp] theorem State.resetFields_coreAt (s : State) (p : FKey → Bool) (c : Nat) : (s.resetFields p).coreAt c = s.coreAt c := rfl
@[simp] theorem State.resetFields_sarAt (s : State) (p : FKey → Bool) (c : Nat) : (s.resetFields p).sarAt c = s.sarAt c := rfl
@[simp] theorem State.resetFields_cmpAt (s : State) (p : FKey → Bool) (c : Nat) : (s.resetFields p).cmpAt c = s.cmpAt c := rfl
@[simp] theorem State.resetFields_pinAt (s : State) (p : FKey → Bool) (c : Nat) : (s.resetFields p).pinAt c = s.pinAt c := rfl
@[simp] theorem State.resetFields_chanAt (s : State) (p : FKey → Bool) (c : Nat) : (s.resetFields p).chanAt c = s.chanAt c := rfl
@[simp] theorem State.resetFields_sprAt (s : State) (p : FKey → Bool) (c : Nat) : (s.resetFields p).sprAt c = s.sprAt c := rfl
@[simp] theorem State.resetFields_feedAt (s : State) (p : FKey → Bool) (c : Nat) : (s.resetFields p).feedAt c = s.feedAt c := rfl
@[simp] theorem State.resetFields_pairAt (s : State) (p : FKey → Bool) (c : Nat) : (s.resetFields p).pairAt c = s.pairAt c := rfl
@[simp] theorem State.resetFields_tmrAt (s : State) (p : FKey → Bool) (c : Nat) : (s.resetFields p).tmrAt c = s.tmrAt c := rfl
@[simp] theorem State.resetFields_cupAt (s : State) (p : FKey → Bool) (c : Nat) : (s.resetFields p).cupAt c = s.cupAt c := rfl
@[simp] theorem State.resetFields_fport (s : State) (p : FKey → Bool) (c : Nat) : (s.resetFields p).fport c = s.fport c := rfl

/-! ### Readers after `setByte` -/

@[simp] theorem State.setByte_fget (s : State) (a v : Nat) (g : Fld) (y z : Nat) : (s.setByte a v).fget g y z = s.fget g y z := rfl
@[simp] theorem State.setByte_flag (s : State) (a v : Nat) (g : Fld) (y z : Nat) : (s.setByte a v).flag g y z = s.flag g y z := rfl
@[simp] theorem State.setByte_fbit (s : State) (a v : Nat) (g : Fld) (c y z : Nat) : (s.setByte a v).fbit g c y z = s.fbit g c y z := rfl
@[simp] theorem State.setByte_upsetAt (s : State) (a v : Nat) (c : Nat) : (s.setByte a v).upsetAt c = s.upsetAt c := rfl
@[simp] theorem State.setByte_portAt (s : State) (a v : Nat) (c : Nat) : (s.setByte a v).portAt c = s.portAt c := rfl
@[simp] theorem State.setByte_bankAt (s : State) (a v : Nat) (c : Nat) : (s.setByte a v).bankAt c = s.bankAt c := rfl
@[simp] theorem State.setByte_dmaAt (s : State) (a v : Nat) (c : Nat) : (s.setByte a v).dmaAt c = s.dmaAt c := rfl
@[simp] theorem State.setByte_laneAt (s : State) (a v : Nat) (c : Nat) : (s.setByte a v).laneAt c = s.laneAt c := rfl
@[simp] theorem State.setByte_dutyAt (s : State) (a v : Nat) (c : Nat) : (s.setByte a v).dutyAt c = s.dutyAt c := rfl
@[simp] theorem State.setByte_coreAt (s : State) (a v : Nat) (c : Nat) : (s.setByte a v).coreAt c = s.coreAt c := rfl
@[simp] theorem State.setByte_sarAt (s : State) (a v : Nat) (c : Nat) : (s.setByte a v).sarAt c = s.sarAt c := rfl
@[simp] theorem State.setByte_cmpAt (s : State) (a v : Nat) (c : Nat) : (s.setByte a v).cmpAt c = s.cmpAt c := rfl
@[simp] theorem State.setByte_pinAt (s : State) (a v : Nat) (c : Nat) : (s.setByte a v).pinAt c = s.pinAt c := rfl
@[simp] theorem State.setByte_chanAt (s : State) (a v : Nat) (c : Nat) : (s.setByte a v).chanAt c = s.chanAt c := rfl
@[simp] theorem State.setByte_sprAt (s : State) (a v : Nat) (c : Nat) : (s.setByte a v).sprAt c = s.sprAt c := rfl
@[simp] theorem State.setByte_feedAt (s : State) (a v : Nat) (c : Nat) : (s.setByte a v).feedAt c = s.feedAt c := rfl
@[simp] theorem State.setByte_pairAt (s : State) (a v : Nat) (c : Nat) : (s.setByte a v).pairAt c = s.pairAt c := rfl
@[simp] theorem State.setByte_tmrAt (s : State) (a v : Nat) (c : Nat) : (s.setByte a v).tmrAt c = s.tmrAt c := rfl
@[simp] theorem State.setByte_cupAt (s : State) (a v : Nat) (c : Nat) : (s.setByte a v).cupAt c = s.cupAt c := rfl
@[simp] theorem State.setByte_fport (s : State) (a v : Nat) (c : Nat) : (s.setByte a v).fport c = s.fport c := rfl

/-! ### Readers after `clearUpset` -/

@[simp] theorem State.clearUpset_fget (s : State) (a : Nat) (g : Fld) (y z : Nat) : (s.clearUpset a).fget g y z = s.fget g y z := rfl
@[simp] theorem State.clearUpset_flag (s : State) (a : Nat) (g : Fld) (y z : Nat) : (s.clearUpset a).flag g y z = s.flag g y z := rfl
@[simp] theorem State.clearUpset_fbit (s : State) (a : Nat) (g : Fld) (c y z : Nat) : (s.clearUpset a).fbit g c y z = s.fbit g c y z := rfl
@[simp] theorem State.clearUpset_byteAt (s : State) (a : Nat) (c : Nat) : (s.clearUpset a).byteAt c = s.byteAt c := rfl
@[simp] theorem State.clearUpset_portAt (s : State) (a : Nat) (c : Nat) : (s.clearUpset a).portAt c = s.portAt c := rfl
@[simp] theorem State.clearUpset_bankAt (s : State) (a : Nat) (c : Nat) : (s.clearUpset a).bankAt c = s.bankAt c := rfl
@[simp] theorem State.clearUpset_dmaAt (s : State) (a : Nat) (c : Nat) : (s.clearUpset a).dmaAt c = s.dmaAt c := rfl
@[simp] theorem State.clearUpset_laneAt (s : State) (a : Nat) (c : Nat) : (s.clearUpset a).laneAt c = s.laneAt c := rfl
@[simp] theorem State.clearUpset_dutyAt (s : State) (a : Nat) (c : Nat) : (s.clearUpset a).dutyAt c = s.dutyAt c := rfl
@[simp] theorem State.clearUpset_coreAt (s : State) (a : Nat) (c : Nat) : (s.clearUpset a).coreAt c = s.coreAt c := rfl
@[simp] theorem State.clearUpset_sarAt (s : State) (a : Nat) (c : Nat) : (s.clearUpset a).sarAt c = s.sarAt c := rfl
@[simp] theorem State.clearUpset_cmpAt (s : State) (a : Nat) (c : Nat) : (s.clearUpset a).cmpAt c = s.cmpAt c := rfl
@[simp] theorem State.clearUpset_pinAt (s : State) (a : Nat) (c : Nat) : (s.clearUpset a).pinAt c = s.pinAt c := rfl
@[simp] theorem State.clearUpset_chanAt (s : State) (a : Nat) (c : Nat) : (s.clearUpset a).chanAt c = s.chanAt c := rfl
@[simp] theorem State.clearUpset_sprAt (s : State) (a : Nat) (c : Nat) : (s.clearUpset a).sprAt c = s.sprAt c := rfl
@[simp] theorem State.clearUpset_feedAt (s : State) (a : Nat) (c : Nat) : (s.clearUpset a).feedAt c = s.feedAt c := rfl
@[simp] theorem State.clearUpset_pairAt (s : State) (a : Nat) (c : Nat) : (s.clearUpset a).pairAt c = s.pairAt c := rfl
@[simp] theorem State.clearUpset_tmrAt (s : State) (a : Nat) (c : Nat) : (s.clearUpset a).tmrAt c = s.tmrAt c := rfl
@[simp] theorem State.clearUpset_cupAt (s : State) (a : Nat) (c : Nat) : (s.clearUpset a).cupAt c = s.cupAt c := rfl
@[simp] theorem State.clearUpset_fport (s : State) (a : Nat) (c : Nat) : (s.clearUpset a).fport c = s.fport c := rfl

/-! ### Readers after `drawn` -/

@[simp] theorem State.drawn_fget (s : State) (g : Fld) (y z : Nat) : s.drawn.fget g y z = s.fget g y z := rfl
@[simp] theorem State.drawn_flag (s : State) (g : Fld) (y z : Nat) : s.drawn.flag g y z = s.flag g y z := rfl
@[simp] theorem State.drawn_fbit (s : State) (g : Fld) (c y z : Nat) : s.drawn.fbit g c y z = s.fbit g c y z := rfl
@[simp] theorem State.drawn_byteAt (s : State) (c : Nat) : s.drawn.byteAt c = s.byteAt c := rfl
@[simp] theorem State.drawn_upsetAt (s : State) (c : Nat) : s.drawn.upsetAt c = s.upsetAt c := rfl
@[simp] theorem State.drawn_portAt (s : State) (c : Nat) : s.drawn.portAt c = s.portAt c := rfl
@[simp] theorem State.drawn_bankAt (s : State) (c : Nat) : s.drawn.bankAt c = s.bankAt c := rfl
@[simp] theorem State.drawn_dmaAt (s : State) (c : Nat) : s.drawn.dmaAt c = s.dmaAt c := rfl
@[simp] theorem State.drawn_laneAt (s : State) (c : Nat) : s.drawn.laneAt c = s.laneAt c := rfl
@[simp] theorem State.drawn_dutyAt (s : State) (c : Nat) : s.drawn.dutyAt c = s.dutyAt c := rfl
@[simp] theorem State.drawn_coreAt (s : State) (c : Nat) : s.drawn.coreAt c = s.coreAt c := rfl
@[simp] theorem State.drawn_sarAt (s : State) (c : Nat) : s.drawn.sarAt c = s.sarAt c := rfl
@[simp] theorem State.drawn_cmpAt (s : State) (c : Nat) : s.drawn.cmpAt c = s.cmpAt c := rfl
@[simp] theorem State.drawn_pinAt (s : State) (c : Nat) : s.drawn.pinAt c = s.pinAt c := rfl
@[simp] theorem State.drawn_chanAt (s : State) (c : Nat) : s.drawn.chanAt c = s.chanAt c := rfl
@[simp] theorem State.drawn_sprAt (s : State) (c : Nat) : s.drawn.sprAt c = s.sprAt c := rfl
@[simp] theorem State.drawn_feedAt (s : State) (c : Nat) : s.drawn.feedAt c = s.feedAt c := rfl
@[simp] theorem State.drawn_pairAt (s : State) (c : Nat) : s.drawn.pairAt c = s.pairAt c := rfl
@[simp] theorem State.drawn_tmrAt (s : State) (c : Nat) : s.drawn.tmrAt c = s.tmrAt c := rfl
@[simp] theorem State.drawn_cupAt (s : State) (c : Nat) : s.drawn.cupAt c = s.cupAt c := rfl
@[simp] theorem State.drawn_fport (s : State) (c : Nat) : s.drawn.fport c = s.fport c := rfl

/-! ### Readers after `setPort` -/

@[simp] theorem State.setPort_fget (s : State) (k : Nat) (x : MasterPort) (g : Fld) (y z : Nat) : (s.setPort k x).fget g y z = s.fget g y z := rfl
@[simp] theorem State.setPort_flag (s : State) (k : Nat) (x : MasterPort) (g : Fld) (y z : Nat) : (s.setPort k x).flag g y z = s.flag g y z := rfl
@[simp] theorem State.setPort_fbit (s : State) (k : Nat) (x : MasterPort) (g : Fld) (c y z : Nat) : (s.setPort k x).fbit g c y z = s.fbit g c y z := rfl
@[simp] theorem State.setPort_byteAt (s : State) (k : Nat) (x : MasterPort) (c : Nat) : (s.setPort k x).byteAt c = s.byteAt c := rfl
@[simp] theorem State.setPort_upsetAt (s : State) (k : Nat) (x : MasterPort) (c : Nat) : (s.setPort k x).upsetAt c = s.upsetAt c := rfl
@[simp] theorem State.setPort_bankAt (s : State) (k : Nat) (x : MasterPort) (c : Nat) : (s.setPort k x).bankAt c = s.bankAt c := rfl
@[simp] theorem State.setPort_dmaAt (s : State) (k : Nat) (x : MasterPort) (c : Nat) : (s.setPort k x).dmaAt c = s.dmaAt c := rfl
@[simp] theorem State.setPort_laneAt (s : State) (k : Nat) (x : MasterPort) (c : Nat) : (s.setPort k x).laneAt c = s.laneAt c := rfl
@[simp] theorem State.setPort_dutyAt (s : State) (k : Nat) (x : MasterPort) (c : Nat) : (s.setPort k x).dutyAt c = s.dutyAt c := rfl
@[simp] theorem State.setPort_coreAt (s : State) (k : Nat) (x : MasterPort) (c : Nat) : (s.setPort k x).coreAt c = s.coreAt c := rfl
@[simp] theorem State.setPort_sarAt (s : State) (k : Nat) (x : MasterPort) (c : Nat) : (s.setPort k x).sarAt c = s.sarAt c := rfl
@[simp] theorem State.setPort_cmpAt (s : State) (k : Nat) (x : MasterPort) (c : Nat) : (s.setPort k x).cmpAt c = s.cmpAt c := rfl
@[simp] theorem State.setPort_pinAt (s : State) (k : Nat) (x : MasterPort) (c : Nat) : (s.setPort k x).pinAt c = s.pinAt c := rfl
@[simp] theorem State.setPort_chanAt (s : State) (k : Nat) (x : MasterPort) (c : Nat) : (s.setPort k x).chanAt c = s.chanAt c := rfl
@[simp] theorem State.setPort_sprAt (s : State) (k : Nat) (x : MasterPort) (c : Nat) : (s.setPort k x).sprAt c = s.sprAt c := rfl
@[simp] theorem State.setPort_feedAt (s : State) (k : Nat) (x : MasterPort) (c : Nat) : (s.setPort k x).feedAt c = s.feedAt c := rfl
@[simp] theorem State.setPort_pairAt (s : State) (k : Nat) (x : MasterPort) (c : Nat) : (s.setPort k x).pairAt c = s.pairAt c := rfl
@[simp] theorem State.setPort_tmrAt (s : State) (k : Nat) (x : MasterPort) (c : Nat) : (s.setPort k x).tmrAt c = s.tmrAt c := rfl
@[simp] theorem State.setPort_cupAt (s : State) (k : Nat) (x : MasterPort) (c : Nat) : (s.setPort k x).cupAt c = s.cupAt c := rfl
@[simp] theorem State.setPort_fport (s : State) (k : Nat) (x : MasterPort) (c : Nat) : (s.setPort k x).fport c = s.fport c := rfl

/-! ### Readers after `setBank` -/

@[simp] theorem State.setBank_fget (s : State) (k : Nat) (x : SdlBank) (g : Fld) (y z : Nat) : (s.setBank k x).fget g y z = s.fget g y z := rfl
@[simp] theorem State.setBank_flag (s : State) (k : Nat) (x : SdlBank) (g : Fld) (y z : Nat) : (s.setBank k x).flag g y z = s.flag g y z := rfl
@[simp] theorem State.setBank_fbit (s : State) (k : Nat) (x : SdlBank) (g : Fld) (c y z : Nat) : (s.setBank k x).fbit g c y z = s.fbit g c y z := rfl
@[simp] theorem State.setBank_byteAt (s : State) (k : Nat) (x : SdlBank) (c : Nat) : (s.setBank k x).byteAt c = s.byteAt c := rfl
@[simp] theorem State.setBank_upsetAt (s : State) (k : Nat) (x : SdlBank) (c : Nat) : (s.setBank k x).upsetAt c = s.upsetAt c := rfl
@[simp] theorem State.setBank_portAt (s : State) (k : Nat) (x : SdlBank) (c : Nat) : (s.setBank k x).portAt c = s.portAt c := rfl
@[simp] theorem State.setBank_dmaAt (s : State) (k : Nat) (x : SdlBank) (c : Nat) : (s.setBank k x).dmaAt c = s.dmaAt c := rfl
@[simp] theorem State.setBank_laneAt (s : State) (k : Nat) (x : SdlBank) (c : Nat) : (s.setBank k x).laneAt c = s.laneAt c := rfl
@[simp] theorem State.setBank_dutyAt (s : State) (k : Nat) (x : SdlBank) (c : Nat) : (s.setBank k x).dutyAt c = s.dutyAt c := rfl
@[simp] theorem State.setBank_coreAt (s : State) (k : Nat) (x : SdlBank) (c : Nat) : (s.setBank k x).coreAt c = s.coreAt c := rfl
@[simp] theorem State.setBank_sarAt (s : State) (k : Nat) (x : SdlBank) (c : Nat) : (s.setBank k x).sarAt c = s.sarAt c := rfl
@[simp] theorem State.setBank_cmpAt (s : State) (k : Nat) (x : SdlBank) (c : Nat) : (s.setBank k x).cmpAt c = s.cmpAt c := rfl
@[simp] theorem State.setBank_pinAt (s : State) (k : Nat) (x : SdlBank) (c : Nat) : (s.setBank k x).pinAt c = s.pinAt c := rfl
@[simp] theorem State.setBank_chanAt (s : State) (k : Nat) (x : SdlBank) (c : Nat) : (s.setBank k x).chanAt c = s.chanAt c := rfl
@[simp] theorem State.setBank_sprAt (s : State) (k : Nat) (x : SdlBank) (c : Nat) : (s.setBank k x).sprAt c = s.sprAt c := rfl
@[simp] theorem State.setBank_feedAt (s : State) (k : Nat) (x : SdlBank) (c : Nat) : (s.setBank k x).feedAt c = s.feedAt c := rfl
@[simp] theorem State.setBank_pairAt (s : State) (k : Nat) (x : SdlBank) (c : Nat) : (s.setBank k x).pairAt c = s.pairAt c := rfl
@[simp] theorem State.setBank_tmrAt (s : State) (k : Nat) (x : SdlBank) (c : Nat) : (s.setBank k x).tmrAt c = s.tmrAt c := rfl
@[simp] theorem State.setBank_cupAt (s : State) (k : Nat) (x : SdlBank) (c : Nat) : (s.setBank k x).cupAt c = s.cupAt c := rfl
@[simp] theorem State.setBank_fport (s : State) (k : Nat) (x : SdlBank) (c : Nat) : (s.setBank k x).fport c = s.fport c := rfl

/-! ### Readers after `setDma` -/

@[simp] theorem State.setDma_fget (s : State) (k : Nat) (x : Dma) (g : Fld) (y z : Nat) : (s.setDma k x).fget g y z = s.fget g y z := rfl
@[simp] theorem State.setDma_flag (s : State) (k : Nat) (x : Dma) (g : Fld) (y z : Nat) : (s.setDma k x).flag g y z = s.flag g y z := rfl
@[simp] theorem State.setDma_fbit (s : State) (k : Nat) (x : Dma) (g : Fld) (c y z : Nat) : (s.setDma k x).fbit g c y z = s.fbit g c y z := rfl
@[simp] theorem State.setDma_byteAt (s : State) (k : Nat) (x : Dma) (c : Nat) : (s.setDma k x).byteAt c = s.byteAt c := rfl
@[simp] theorem State.setDma_upsetAt (s : State) (k : Nat) (x : Dma) (c : Nat) : (s.setDma k x).upsetAt c = s.upsetAt c := rfl
@[simp] theorem State.setDma_portAt (s : State) (k : Nat) (x : Dma) (c : Nat) : (s.setDma k x).portAt c = s.portAt c := rfl
@[simp] theorem State.setDma_bankAt (s : State) (k : Nat) (x : Dma) (c : Nat) : (s.setDma k x).bankAt c = s.bankAt c := rfl
@[simp] theorem State.setDma_laneAt (s : State) (k : Nat) (x : Dma) (c : Nat) : (s.setDma k x).laneAt c = s.laneAt c := rfl
@[simp] theorem State.setDma_dutyAt (s : State) (k : Nat) (x : Dma) (c : Nat) : (s.setDma k x).dutyAt c = s.dutyAt c := rfl
@[simp] theorem State.setDma_coreAt (s : State) (k : Nat) (x : Dma) (c : Nat) : (s.setDma k x).coreAt c = s.coreAt c := rfl
@[simp] theorem State.setDma_sarAt (s : State) (k : Nat) (x : Dma) (c : Nat) : (s.setDma k x).sarAt c = s.sarAt c := rfl
@[simp] theorem State.setDma_cmpAt (s : State) (k : Nat) (x : Dma) (c : Nat) : (s.setDma k x).cmpAt c = s.cmpAt c := rfl
@[simp] theorem State.setDma_pinAt (s : State) (k : Nat) (x : Dma) (c : Nat) : (s.setDma k x).pinAt c = s.pinAt c := rfl
@[simp] theorem State.setDma_chanAt (s : State) (k : Nat) (x : Dma) (c : Nat) : (s.setDma k x).chanAt c = s.chanAt c := rfl
@[simp] theorem State.setDma_sprAt (s : State) (k : Nat) (x : Dma) (c : Nat) : (s.setDma k x).sprAt c = s.sprAt c := rfl
@[simp] theorem State.setDma_feedAt (s : State) (k : Nat) (x : Dma) (c : Nat) : (s.setDma k x).feedAt c = s.feedAt c := rfl
@[simp] theorem State.setDma_pairAt (s : State) (k : Nat) (x : Dma) (c : Nat) : (s.setDma k x).pairAt c = s.pairAt c := rfl
@[simp] theorem State.setDma_tmrAt (s : State) (k : Nat) (x : Dma) (c : Nat) : (s.setDma k x).tmrAt c = s.tmrAt c := rfl
@[simp] theorem State.setDma_cupAt (s : State) (k : Nat) (x : Dma) (c : Nat) : (s.setDma k x).cupAt c = s.cupAt c := rfl
@[simp] theorem State.setDma_fport (s : State) (k : Nat) (x : Dma) (c : Nat) : (s.setDma k x).fport c = s.fport c := rfl

/-! ### Readers after `setLane` -/

@[simp] theorem State.setLane_fget (s : State) (k : Nat) (x : Lane) (g : Fld) (y z : Nat) : (s.setLane k x).fget g y z = s.fget g y z := rfl
@[simp] theorem State.setLane_flag (s : State) (k : Nat) (x : Lane) (g : Fld) (y z : Nat) : (s.setLane k x).flag g y z = s.flag g y z := rfl
@[simp] theorem State.setLane_fbit (s : State) (k : Nat) (x : Lane) (g : Fld) (c y z : Nat) : (s.setLane k x).fbit g c y z = s.fbit g c y z := rfl
@[simp] theorem State.setLane_byteAt (s : State) (k : Nat) (x : Lane) (c : Nat) : (s.setLane k x).byteAt c = s.byteAt c := rfl
@[simp] theorem State.setLane_upsetAt (s : State) (k : Nat) (x : Lane) (c : Nat) : (s.setLane k x).upsetAt c = s.upsetAt c := rfl
@[simp] theorem State.setLane_portAt (s : State) (k : Nat) (x : Lane) (c : Nat) : (s.setLane k x).portAt c = s.portAt c := rfl
@[simp] theorem State.setLane_bankAt (s : State) (k : Nat) (x : Lane) (c : Nat) : (s.setLane k x).bankAt c = s.bankAt c := rfl
@[simp] theorem State.setLane_dmaAt (s : State) (k : Nat) (x : Lane) (c : Nat) : (s.setLane k x).dmaAt c = s.dmaAt c := rfl
@[simp] theorem State.setLane_dutyAt (s : State) (k : Nat) (x : Lane) (c : Nat) : (s.setLane k x).dutyAt c = s.dutyAt c := rfl
@[simp] theorem State.setLane_coreAt (s : State) (k : Nat) (x : Lane) (c : Nat) : (s.setLane k x).coreAt c = s.coreAt c := rfl
@[simp] theorem State.setLane_sarAt (s : State) (k : Nat) (x : Lane) (c : Nat) : (s.setLane k x).sarAt c = s.sarAt c := rfl
@[simp] theorem State.setLane_cmpAt (s : State) (k : Nat) (x : Lane) (c : Nat) : (s.setLane k x).cmpAt c = s.cmpAt c := rfl
@[simp] theorem State.setLane_pinAt (s : State) (k : Nat) (x : Lane) (c : Nat) : (s.setLane k x).pinAt c = s.pinAt c := rfl
@[simp] theorem State.setLane_chanAt (s : State) (k : Nat) (x : Lane) (c : Nat) : (s.setLane k x).chanAt c = s.chanAt c := rfl
@[simp] theorem State.setLane_sprAt (s : State) (k : Nat) (x : Lane) (c : Nat) : (s.setLane k x).sprAt c = s.sprAt c := rfl
@[simp] theorem State.setLane_feedAt (s : State) (k : Nat) (x : Lane) (c : Nat) : (s.setLane k x).feedAt c = s.feedAt c := rfl
@[simp] theorem State.setLane_pairAt (s : State) (k : Nat) (x : Lane) (c : Nat) : (s.setLane k x).pairAt c = s.pairAt c := rfl
@[simp] theorem State.setLane_tmrAt (s : State) (k : Nat) (x : Lane) (c : Nat) : (s.setLane k x).tmrAt c = s.tmrAt c := rfl
@[simp] theorem State.setLane_cupAt (s : State) (k : Nat) (x : Lane) (c : Nat) : (s.setLane k x).cupAt c = s.cupAt c := rfl
@[simp] theorem State.setLane_fport (s : State) (k : Nat) (x : Lane) (c : Nat) : (s.setLane k x).fport c = s.fport c := rfl

/-! ### Readers after `setDuty` -/

@[simp] theorem State.setDuty_fget (s : State) (k : Nat) (x : List DutyEntry) (g : Fld) (y z : Nat) : (s.setDuty k x).fget g y z = s.fget g y z := rfl
@[simp] theorem State.setDuty_flag (s : State) (k : Nat) (x : List DutyEntry) (g : Fld) (y z : Nat) : (s.setDuty k x).flag g y z = s.flag g y z := rfl
@[simp] theorem State.setDuty_fbit (s : State) (k : Nat) (x : List DutyEntry) (g : Fld) (c y z : Nat) : (s.setDuty k x).fbit g c y z = s.fbit g c y z := rfl
@[simp] theorem State.setDuty_byteAt (s : State) (k : Nat) (x : List DutyEntry) (c : Nat) : (s.setDuty k x).byteAt c = s.byteAt c := rfl
@[simp] theorem State.setDuty_upsetAt (s : State) (k : Nat) (x : List DutyEntry) (c : Nat) : (s.setDuty k x).upsetAt c = s.upsetAt c := rfl
@[simp] theorem State.setDuty_portAt (s : State) (k : Nat) (x : List DutyEntry) (c : Nat) : (s.setDuty k x).portAt c = s.portAt c := rfl
@[simp] theorem State.setDuty_bankAt (s : State) (k : Nat) (x : List DutyEntry) (c : Nat) : (s.setDuty k x).bankAt c = s.bankAt c := rfl
@[simp] theorem State.setDuty_dmaAt (s : State) (k : Nat) (x : List DutyEntry) (c : Nat) : (s.setDuty k x).dmaAt c = s.dmaAt c := rfl
@[simp] theorem State.setDuty_laneAt (s : State) (k : Nat) (x : List DutyEntry) (c : Nat) : (s.setDuty k x).laneAt c = s.laneAt c := rfl
@[simp] theorem State.setDuty_coreAt (s : State) (k : Nat) (x : List DutyEntry) (c : Nat) : (s.setDuty k x).coreAt c = s.coreAt c := rfl
@[simp] theorem State.setDuty_sarAt (s : State) (k : Nat) (x : List DutyEntry) (c : Nat) : (s.setDuty k x).sarAt c = s.sarAt c := rfl
@[simp] theorem State.setDuty_cmpAt (s : State) (k : Nat) (x : List DutyEntry) (c : Nat) : (s.setDuty k x).cmpAt c = s.cmpAt c := rfl
@[simp] theorem State.setDuty_pinAt (s : State) (k : Nat) (x : List DutyEntry) (c : Nat) : (s.setDuty k x).pinAt c = s.pinAt c := rfl
@[simp] theorem State.setDuty_chanAt (s : State) (k : Nat) (x : List DutyEntry) (c : Nat) : (s.setDuty k x).chanAt c = s.chanAt c := rfl
@[simp] theorem State.setDuty_sprAt (s : State) (k : Nat) (x : List DutyEntry) (c : Nat) : (s.setDuty k x).sprAt c = s.sprAt c := rfl
@[simp] theorem State.setDuty_feedAt (s : State) (k : Nat) (x : List DutyEntry) (c : Nat) : (s.setDuty k x).feedAt c = s.feedAt c := rfl
@[simp] theorem State.setDuty_pairAt (s : State) (k : Nat) (x : List DutyEntry) (c : Nat) : (s.setDuty k x).pairAt c = s.pairAt c := rfl
@[simp] theorem State.setDuty_tmrAt (s : State) (k : Nat) (x : List DutyEntry) (c : Nat) : (s.setDuty k x).tmrAt c = s.tmrAt c := rfl
@[simp] theorem State.setDuty_cupAt (s : State) (k : Nat) (x : List DutyEntry) (c : Nat) : (s.setDuty k x).cupAt c = s.cupAt c := rfl
@[simp] theorem State.setDuty_fport (s : State) (k : Nat) (x : List DutyEntry) (c : Nat) : (s.setDuty k x).fport c = s.fport c := rfl

/-! ### Readers after `setCore` -/

@[simp] theorem State.setCore_fget (s : State) (k : Nat) (x : Core) (g : Fld) (y z : Nat) : (s.setCore k x).fget g y z = s.fget g y z := rfl
@[simp] theorem State.setCore_flag (s : State) (k : Nat) (x : Core) (g : Fld) (y z : Nat) : (s.setCore k x).flag g y z = s.flag g y z := rfl
@[simp] theorem State.setCore_fbit (s : State) (k : Nat) (x : Core) (g : Fld) (c y z : Nat) : (s.setCore k x).fbit g c y z = s.fbit g c y z := rfl
@[simp] theorem State.setCore_byteAt (s : State) (k : Nat) (x : Core) (c : Nat) : (s.setCore k x).byteAt c = s.byteAt c := rfl
@[simp] theorem State.setCore_upsetAt (s : State) (k : Nat) (x : Core) (c : Nat) : (s.setCore k x).upsetAt c = s.upsetAt c := rfl
@[simp] theorem State.setCore_portAt (s : State) (k : Nat) (x : Core) (c : Nat) : (s.setCore k x).portAt c = s.portAt c := rfl
@[simp] theorem State.setCore_bankAt (s : State) (k : Nat) (x : Core) (c : Nat) : (s.setCore k x).bankAt c = s.bankAt c := rfl
@[simp] theorem State.setCore_dmaAt (s : State) (k : Nat) (x : Core) (c : Nat) : (s.setCore k x).dmaAt c = s.dmaAt c := rfl
@[simp] theorem State.setCore_laneAt (s : State) (k : Nat) (x : Core) (c : Nat) : (s.setCore k x).laneAt c = s.laneAt c := rfl
@[simp] theorem State.setCore_dutyAt (s : State) (k : Nat) (x : Core) (c : Nat) : (s.setCore k x).dutyAt c = s.dutyAt c := rfl
@[simp] theorem State.setCore_sarAt (s : State) (k : Nat) (x : Core) (c : Nat) : (s.setCore k x).sarAt c = s.sarAt c := rfl
@[simp] theorem State.setCore_cmpAt (s : State) (k : Nat) (x : Core) (c : Nat) : (s.setCore k x).cmpAt c = s.cmpAt c := rfl
@[simp] theorem State.setCore_pinAt (s : State) (k : Nat) (x : Core) (c : Nat) : (s.setCore k x).pinAt c = s.pinAt c := rfl
@[simp] theorem State.setCore_chanAt (s : State) (k : Nat) (x : Core) (c : Nat) : (s.setCore k x).chanAt c = s.chanAt c := rfl
@[simp] theorem State.setCore_sprAt (s : State) (k : Nat) (x : Core) (c : Nat) : (s.setCore k x).sprAt c = s.sprAt c := rfl
@[simp] theorem State.setCore_feedAt (s : State) (k : Nat) (x : Core) (c : Nat) : (s.setCore k x).feedAt c = s.feedAt c := rfl
@[simp] theorem State.setCore_pairAt (s : State) (k : Nat) (x : Core) (c : Nat) : (s.setCore k x).pairAt c = s.pairAt c := rfl
@[simp] theorem State.setCore_tmrAt (s : State) (k : Nat) (x : Core) (c : Nat) : (s.setCore k x).tmrAt c = s.tmrAt c := rfl
@[simp] theorem State.setCore_cupAt (s : State) (k : Nat) (x : Core) (c : Nat) : (s.setCore k x).cupAt c = s.cupAt c := rfl
@[simp] theorem State.setCore_fport (s : State) (k : Nat) (x : Core) (c : Nat) : (s.setCore k x).fport c = s.fport c := rfl

/-! ### Readers after `setSar` -/

@[simp] theorem State.setSar_fget (s : State) (k : Nat) (x : Sar) (g : Fld) (y z : Nat) : (s.setSar k x).fget g y z = s.fget g y z := rfl
@[simp] theorem State.setSar_flag (s : State) (k : Nat) (x : Sar) (g : Fld) (y z : Nat) : (s.setSar k x).flag g y z = s.flag g y z := rfl
@[simp] theorem State.setSar_fbit (s : State) (k : Nat) (x : Sar) (g : Fld) (c y z : Nat) : (s.setSar k x).fbit g c y z = s.fbit g c y z := rfl
@[simp] theorem State.setSar_byteAt (s : State) (k : Nat) (x : Sar) (c : Nat) : (s.setSar k x).byteAt c = s.byteAt c := rfl
@[simp] theorem State.setSar_upsetAt (s : State) (k : Nat) (x : Sar) (c : Nat) : (s.setSar k x).upsetAt c = s.upsetAt c := rfl
@[simp] theorem State.setSar_portAt (s : State) (k : Nat) (x : Sar) (c : Nat) : (s.setSar k x).portAt c = s.portAt c := rfl
@[simp] theorem State.setSar_bankAt (s : State) (k : Nat) (x : Sar) (c : Nat) : (s.setSar k x).bankAt c = s.bankAt c := rfl
@[simp] theorem State.setSar_dmaAt (s : State) (k : Nat) (x : Sar) (c : Nat) : (s.setSar k x).dmaAt c = s.dmaAt c := rfl
@[simp] theorem State.setSar_laneAt (s : State) (k : Nat) (x : Sar) (c : Nat) : (s.setSar k x).laneAt c = s.laneAt c := rfl
@[simp] theorem State.setSar_dutyAt (s : State) (k : Nat) (x : Sar) (c : Nat) : (s.setSar k x).dutyAt c = s.dutyAt c := rfl
@[simp] theorem State.setSar_coreAt (s : State) (k : Nat) (x : Sar) (c : Nat) : (s.setSar k x).coreAt c = s.coreAt c := rfl
@[simp] theorem State.setSar_cmpAt (s : State) (k : Nat) (x : Sar) (c : Nat) : (s.setSar k x).cmpAt c = s.cmpAt c := rfl
@[simp] theorem State.setSar_pinAt (s : State) (k : Nat) (x : Sar) (c : Nat) : (s.setSar k x).pinAt c = s.pinAt c := rfl
@[simp] theorem State.setSar_chanAt (s : State) (k : Nat) (x : Sar) (c : Nat) : (s.setSar k x).chanAt c = s.chanAt c := rfl
@[simp] theorem State.setSar_sprAt (s : State) (k : Nat) (x : Sar) (c : Nat) : (s.setSar k x).sprAt c = s.sprAt c := rfl
@[simp] theorem State.setSar_feedAt (s : State) (k : Nat) (x : Sar) (c : Nat) : (s.setSar k x).feedAt c = s.feedAt c := rfl
@[simp] theorem State.setSar_pairAt (s : State) (k : Nat) (x : Sar) (c : Nat) : (s.setSar k x).pairAt c = s.pairAt c := rfl
@[simp] theorem State.setSar_tmrAt (s : State) (k : Nat) (x : Sar) (c : Nat) : (s.setSar k x).tmrAt c = s.tmrAt c := rfl
@[simp] theorem State.setSar_cupAt (s : State) (k : Nat) (x : Sar) (c : Nat) : (s.setSar k x).cupAt c = s.cupAt c := rfl
@[simp] theorem State.setSar_fport (s : State) (k : Nat) (x : Sar) (c : Nat) : (s.setSar k x).fport c = s.fport c := rfl

/-! ### Readers after `setCmp` -/

@[simp] theorem State.setCmp_fget (s : State) (k : Nat) (x : Cmp) (g : Fld) (y z : Nat) : (s.setCmp k x).fget g y z = s.fget g y z := rfl
@[simp] theorem State.setCmp_flag (s : State) (k : Nat) (x : Cmp) (g : Fld) (y z : Nat) : (s.setCmp k x).flag g y z = s.flag g y z := rfl
@[simp] theorem State.setCmp_fbit (s : State) (k : Nat) (x : Cmp) (g : Fld) (c y z : Nat) : (s.setCmp k x).fbit g c y z = s.fbit g c y z := rfl
@[simp] theorem State.setCmp_byteAt (s : State) (k : Nat) (x : Cmp) (c : Nat) : (s.setCmp k x).byteAt c = s.byteAt c := rfl
@[simp] theorem State.setCmp_upsetAt (s : State) (k : Nat) (x : Cmp) (c : Nat) : (s.setCmp k x).upsetAt c = s.upsetAt c := rfl
@[simp] theorem State.setCmp_portAt (s : State) (k : Nat) (x : Cmp) (c : Nat) : (s.setCmp k x).portAt c = s.portAt c := rfl
@[simp] theorem State.setCmp_bankAt (s : State) (k : Nat) (x : Cmp) (c : Nat) : (s.setCmp k x).bankAt c = s.bankAt c := rfl
@[simp] theorem State.setCmp_dmaAt (s : State) (k : Nat) (x : Cmp) (c : Nat) : (s.setCmp k x).dmaAt c = s.dmaAt c := rfl
@[simp] theorem State.setCmp_laneAt (s : State) (k : Nat) (x : Cmp) (c : Nat) : (s.setCmp k x).laneAt c = s.laneAt c := rfl
@[simp] theorem State.setCmp_dutyAt (s : State) (k : Nat) (x : Cmp) (c : Nat) : (s.setCmp k x).dutyAt c = s.dutyAt c := rfl
@[simp] theorem State.setCmp_coreAt (s : State) (k : Nat) (x : Cmp) (c : Nat) : (s.setCmp k x).coreAt c = s.coreAt c := rfl
@[simp] theorem State.setCmp_sarAt (s : State) (k : Nat) (x : Cmp) (c : Nat) : (s.setCmp k x).sarAt c = s.sarAt c := rfl
@[simp] theorem State.setCmp_pinAt (s : State) (k : Nat) (x : Cmp) (c : Nat) : (s.setCmp k x).pinAt c = s.pinAt c := rfl
@[simp] theorem State.setCmp_chanAt (s : State) (k : Nat) (x : Cmp) (c : Nat) : (s.setCmp k x).chanAt c = s.chanAt c := rfl
@[simp] theorem State.setCmp_sprAt (s : State) (k : Nat) (x : Cmp) (c : Nat) : (s.setCmp k x).sprAt c = s.sprAt c := rfl
@[simp] theorem State.setCmp_feedAt (s : State) (k : Nat) (x : Cmp) (c : Nat) : (s.setCmp k x).feedAt c = s.feedAt c := rfl
@[simp] theorem State.setCmp_pairAt (s : State) (k : Nat) (x : Cmp) (c : Nat) : (s.setCmp k x).pairAt c = s.pairAt c := rfl
@[simp] theorem State.setCmp_tmrAt (s : State) (k : Nat) (x : Cmp) (c : Nat) : (s.setCmp k x).tmrAt c = s.tmrAt c := rfl
@[simp] theorem State.setCmp_cupAt (s : State) (k : Nat) (x : Cmp) (c : Nat) : (s.setCmp k x).cupAt c = s.cupAt c := rfl
@[simp] theorem State.setCmp_fport (s : State) (k : Nat) (x : Cmp) (c : Nat) : (s.setCmp k x).fport c = s.fport c := rfl

/-! ### Readers after `setPin` -/

@[simp] theorem State.setPin_fget (s : State) (k : Nat) (x : TripPin) (g : Fld) (y z : Nat) : (s.setPin k x).fget g y z = s.fget g y z := rfl
@[simp] theorem State.setPin_flag (s : State) (k : Nat) (x : TripPin) (g : Fld) (y z : Nat) : (s.setPin k x).flag g y z = s.flag g y z := rfl
@[simp] theorem State.setPin_fbit (s : State) (k : Nat) (x : TripPin) (g : Fld) (c y z : Nat) : (s.setPin k x).fbit g c y z = s.fbit g c y z := rfl
@[simp] theorem State.setPin_byteAt (s : State) (k : Nat) (x : TripPin) (c : Nat) : (s.setPin k x).byteAt c = s.byteAt c := rfl
@[simp] theorem State.setPin_upsetAt (s : State) (k : Nat) (x : TripPin) (c : Nat) : (s.setPin k x).upsetAt c = s.upsetAt c := rfl
@[simp] theorem State.setPin_portAt (s : State) (k : Nat) (x : TripPin) (c : Nat) : (s.setPin k x).portAt c = s.portAt c := rfl
@[simp] theorem State.setPin_bankAt (s : State) (k : Nat) (x : TripPin) (c : Nat) : (s.setPin k x).bankAt c = s.bankAt c := rfl
@[simp] theorem State.setPin_dmaAt (s : State) (k : Nat) (x : TripPin) (c : Nat) : (s.setPin k x).dmaAt c = s.dmaAt c := rfl
@[simp] theorem State.setPin_laneAt (s : State) (k : Nat) (x : TripPin) (c : Nat) : (s.setPin k x).laneAt c = s.laneAt c := rfl
@[simp] theorem State.setPin_dutyAt (s : State) (k : Nat) (x : TripPin) (c : Nat) : (s.setPin k x).dutyAt c = s.dutyAt c := rfl
@[simp] theorem State.setPin_coreAt (s : State) (k : Nat) (x : TripPin) (c : Nat) : (s.setPin k x).coreAt c = s.coreAt c := rfl
@[simp] theorem State.setPin_sarAt (s : State) (k : Nat) (x : TripPin) (c : Nat) : (s.setPin k x).sarAt c = s.sarAt c := rfl
@[simp] theorem State.setPin_cmpAt (s : State) (k : Nat) (x : TripPin) (c : Nat) : (s.setPin k x).cmpAt c = s.cmpAt c := rfl
@[simp] theorem State.setPin_chanAt (s : State) (k : Nat) (x : TripPin) (c : Nat) : (s.setPin k x).chanAt c = s.chanAt c := rfl
@[simp] theorem State.setPin_sprAt (s : State) (k : Nat) (x : TripPin) (c : Nat) : (s.setPin k x).sprAt c = s.sprAt c := rfl
@[simp] theorem State.setPin_feedAt (s : State) (k : Nat) (x : TripPin) (c : Nat) : (s.setPin k x).feedAt c = s.feedAt c := rfl
@[simp] theorem State.setPin_pairAt (s : State) (k : Nat) (x : TripPin) (c : Nat) : (s.setPin k x).pairAt c = s.pairAt c := rfl
@[simp] theorem State.setPin_tmrAt (s : State) (k : Nat) (x : TripPin) (c : Nat) : (s.setPin k x).tmrAt c = s.tmrAt c := rfl
@[simp] theorem State.setPin_cupAt (s : State) (k : Nat) (x : TripPin) (c : Nat) : (s.setPin k x).cupAt c = s.cupAt c := rfl
@[simp] theorem State.setPin_fport (s : State) (k : Nat) (x : TripPin) (c : Nat) : (s.setPin k x).fport c = s.fport c := rfl

/-! ### Readers after `setChan` -/

@[simp] theorem State.setChan_fget (s : State) (k : Nat) (x : Chan) (g : Fld) (y z : Nat) : (s.setChan k x).fget g y z = s.fget g y z := rfl
@[simp] theorem State.setChan_flag (s : State) (k : Nat) (x : Chan) (g : Fld) (y z : Nat) : (s.setChan k x).flag g y z = s.flag g y z := rfl
@[simp] theorem State.setChan_fbit (s : State) (k : Nat) (x : Chan) (g : Fld) (c y z : Nat) : (s.setChan k x).fbit g c y z = s.fbit g c y z := rfl
@[simp] theorem State.setChan_byteAt (s : State) (k : Nat) (x : Chan) (c : Nat) : (s.setChan k x).byteAt c = s.byteAt c := rfl
@[simp] theorem State.setChan_upsetAt (s : State) (k : Nat) (x : Chan) (c : Nat) : (s.setChan k x).upsetAt c = s.upsetAt c := rfl
@[simp] theorem State.setChan_portAt (s : State) (k : Nat) (x : Chan) (c : Nat) : (s.setChan k x).portAt c = s.portAt c := rfl
@[simp] theorem State.setChan_bankAt (s : State) (k : Nat) (x : Chan) (c : Nat) : (s.setChan k x).bankAt c = s.bankAt c := rfl
@[simp] theorem State.setChan_dmaAt (s : State) (k : Nat) (x : Chan) (c : Nat) : (s.setChan k x).dmaAt c = s.dmaAt c := rfl
@[simp] theorem State.setChan_laneAt (s : State) (k : Nat) (x : Chan) (c : Nat) : (s.setChan k x).laneAt c = s.laneAt c := rfl
@[simp] theorem State.setChan_dutyAt (s : State) (k : Nat) (x : Chan) (c : Nat) : (s.setChan k x).dutyAt c = s.dutyAt c := rfl
@[simp] theorem State.setChan_coreAt (s : State) (k : Nat) (x : Chan) (c : Nat) : (s.setChan k x).coreAt c = s.coreAt c := rfl
@[simp] theorem State.setChan_sarAt (s : State) (k : Nat) (x : Chan) (c : Nat) : (s.setChan k x).sarAt c = s.sarAt c := rfl
@[simp] theorem State.setChan_cmpAt (s : State) (k : Nat) (x : Chan) (c : Nat) : (s.setChan k x).cmpAt c = s.cmpAt c := rfl
@[simp] theorem State.setChan_pinAt (s : State) (k : Nat) (x : Chan) (c : Nat) : (s.setChan k x).pinAt c = s.pinAt c := rfl
@[simp] theorem State.setChan_sprAt (s : State) (k : Nat) (x : Chan) (c : Nat) : (s.setChan k x).sprAt c = s.sprAt c := rfl
@[simp] theorem State.setChan_feedAt (s : State) (k : Nat) (x : Chan) (c : Nat) : (s.setChan k x).feedAt c = s.feedAt c := rfl
@[simp] theorem State.setChan_pairAt (s : State) (k : Nat) (x : Chan) (c : Nat) : (s.setChan k x).pairAt c = s.pairAt c := rfl
@[simp] theorem State.setChan_tmrAt (s : State) (k : Nat) (x : Chan) (c : Nat) : (s.setChan k x).tmrAt c = s.tmrAt c := rfl
@[simp] theorem State.setChan_cupAt (s : State) (k : Nat) (x : Chan) (c : Nat) : (s.setChan k x).cupAt c = s.cupAt c := rfl
@[simp] theorem State.setChan_fport (s : State) (k : Nat) (x : Chan) (c : Nat) : (s.setChan k x).fport c = s.fport c := rfl

/-! ### Readers after `setSpr` -/

@[simp] theorem State.setSpr_fget (s : State) (k : Nat) (x : SprLine) (g : Fld) (y z : Nat) : (s.setSpr k x).fget g y z = s.fget g y z := rfl
@[simp] theorem State.setSpr_flag (s : State) (k : Nat) (x : SprLine) (g : Fld) (y z : Nat) : (s.setSpr k x).flag g y z = s.flag g y z := rfl
@[simp] theorem State.setSpr_fbit (s : State) (k : Nat) (x : SprLine) (g : Fld) (c y z : Nat) : (s.setSpr k x).fbit g c y z = s.fbit g c y z := rfl
@[simp] theorem State.setSpr_byteAt (s : State) (k : Nat) (x : SprLine) (c : Nat) : (s.setSpr k x).byteAt c = s.byteAt c := rfl
@[simp] theorem State.setSpr_upsetAt (s : State) (k : Nat) (x : SprLine) (c : Nat) : (s.setSpr k x).upsetAt c = s.upsetAt c := rfl
@[simp] theorem State.setSpr_portAt (s : State) (k : Nat) (x : SprLine) (c : Nat) : (s.setSpr k x).portAt c = s.portAt c := rfl
@[simp] theorem State.setSpr_bankAt (s : State) (k : Nat) (x : SprLine) (c : Nat) : (s.setSpr k x).bankAt c = s.bankAt c := rfl
@[simp] theorem State.setSpr_dmaAt (s : State) (k : Nat) (x : SprLine) (c : Nat) : (s.setSpr k x).dmaAt c = s.dmaAt c := rfl
@[simp] theorem State.setSpr_laneAt (s : State) (k : Nat) (x : SprLine) (c : Nat) : (s.setSpr k x).laneAt c = s.laneAt c := rfl
@[simp] theorem State.setSpr_dutyAt (s : State) (k : Nat) (x : SprLine) (c : Nat) : (s.setSpr k x).dutyAt c = s.dutyAt c := rfl
@[simp] theorem State.setSpr_coreAt (s : State) (k : Nat) (x : SprLine) (c : Nat) : (s.setSpr k x).coreAt c = s.coreAt c := rfl
@[simp] theorem State.setSpr_sarAt (s : State) (k : Nat) (x : SprLine) (c : Nat) : (s.setSpr k x).sarAt c = s.sarAt c := rfl
@[simp] theorem State.setSpr_cmpAt (s : State) (k : Nat) (x : SprLine) (c : Nat) : (s.setSpr k x).cmpAt c = s.cmpAt c := rfl
@[simp] theorem State.setSpr_pinAt (s : State) (k : Nat) (x : SprLine) (c : Nat) : (s.setSpr k x).pinAt c = s.pinAt c := rfl
@[simp] theorem State.setSpr_chanAt (s : State) (k : Nat) (x : SprLine) (c : Nat) : (s.setSpr k x).chanAt c = s.chanAt c := rfl
@[simp] theorem State.setSpr_feedAt (s : State) (k : Nat) (x : SprLine) (c : Nat) : (s.setSpr k x).feedAt c = s.feedAt c := rfl
@[simp] theorem State.setSpr_pairAt (s : State) (k : Nat) (x : SprLine) (c : Nat) : (s.setSpr k x).pairAt c = s.pairAt c := rfl
@[simp] theorem State.setSpr_tmrAt (s : State) (k : Nat) (x : SprLine) (c : Nat) : (s.setSpr k x).tmrAt c = s.tmrAt c := rfl
@[simp] theorem State.setSpr_cupAt (s : State) (k : Nat) (x : SprLine) (c : Nat) : (s.setSpr k x).cupAt c = s.cupAt c := rfl
@[simp] theorem State.setSpr_fport (s : State) (k : Nat) (x : SprLine) (c : Nat) : (s.setSpr k x).fport c = s.fport c := rfl

/-! ### Readers after `setFeed` -/

@[simp] theorem State.setFeed_fget (s : State) (k : Nat) (x : LaeFeed) (g : Fld) (y z : Nat) : (s.setFeed k x).fget g y z = s.fget g y z := rfl
@[simp] theorem State.setFeed_flag (s : State) (k : Nat) (x : LaeFeed) (g : Fld) (y z : Nat) : (s.setFeed k x).flag g y z = s.flag g y z := rfl
@[simp] theorem State.setFeed_fbit (s : State) (k : Nat) (x : LaeFeed) (g : Fld) (c y z : Nat) : (s.setFeed k x).fbit g c y z = s.fbit g c y z := rfl
@[simp] theorem State.setFeed_byteAt (s : State) (k : Nat) (x : LaeFeed) (c : Nat) : (s.setFeed k x).byteAt c = s.byteAt c := rfl
@[simp] theorem State.setFeed_upsetAt (s : State) (k : Nat) (x : LaeFeed) (c : Nat) : (s.setFeed k x).upsetAt c = s.upsetAt c := rfl
@[simp] theorem State.setFeed_portAt (s : State) (k : Nat) (x : LaeFeed) (c : Nat) : (s.setFeed k x).portAt c = s.portAt c := rfl
@[simp] theorem State.setFeed_bankAt (s : State) (k : Nat) (x : LaeFeed) (c : Nat) : (s.setFeed k x).bankAt c = s.bankAt c := rfl
@[simp] theorem State.setFeed_dmaAt (s : State) (k : Nat) (x : LaeFeed) (c : Nat) : (s.setFeed k x).dmaAt c = s.dmaAt c := rfl
@[simp] theorem State.setFeed_laneAt (s : State) (k : Nat) (x : LaeFeed) (c : Nat) : (s.setFeed k x).laneAt c = s.laneAt c := rfl
@[simp] theorem State.setFeed_dutyAt (s : State) (k : Nat) (x : LaeFeed) (c : Nat) : (s.setFeed k x).dutyAt c = s.dutyAt c := rfl
@[simp] theorem State.setFeed_coreAt (s : State) (k : Nat) (x : LaeFeed) (c : Nat) : (s.setFeed k x).coreAt c = s.coreAt c := rfl
@[simp] theorem State.setFeed_sarAt (s : State) (k : Nat) (x : LaeFeed) (c : Nat) : (s.setFeed k x).sarAt c = s.sarAt c := rfl
@[simp] theorem State.setFeed_cmpAt (s : State) (k : Nat) (x : LaeFeed) (c : Nat) : (s.setFeed k x).cmpAt c = s.cmpAt c := rfl
@[simp] theorem State.setFeed_pinAt (s : State) (k : Nat) (x : LaeFeed) (c : Nat) : (s.setFeed k x).pinAt c = s.pinAt c := rfl
@[simp] theorem State.setFeed_chanAt (s : State) (k : Nat) (x : LaeFeed) (c : Nat) : (s.setFeed k x).chanAt c = s.chanAt c := rfl
@[simp] theorem State.setFeed_sprAt (s : State) (k : Nat) (x : LaeFeed) (c : Nat) : (s.setFeed k x).sprAt c = s.sprAt c := rfl
@[simp] theorem State.setFeed_pairAt (s : State) (k : Nat) (x : LaeFeed) (c : Nat) : (s.setFeed k x).pairAt c = s.pairAt c := rfl
@[simp] theorem State.setFeed_tmrAt (s : State) (k : Nat) (x : LaeFeed) (c : Nat) : (s.setFeed k x).tmrAt c = s.tmrAt c := rfl
@[simp] theorem State.setFeed_cupAt (s : State) (k : Nat) (x : LaeFeed) (c : Nat) : (s.setFeed k x).cupAt c = s.cupAt c := rfl
@[simp] theorem State.setFeed_fport (s : State) (k : Nat) (x : LaeFeed) (c : Nat) : (s.setFeed k x).fport c = s.fport c := rfl

/-! ### Readers after `setPair` -/

@[simp] theorem State.setPair_fget (s : State) (k : Nat) (x : LaePair) (g : Fld) (y z : Nat) : (s.setPair k x).fget g y z = s.fget g y z := rfl
@[simp] theorem State.setPair_flag (s : State) (k : Nat) (x : LaePair) (g : Fld) (y z : Nat) : (s.setPair k x).flag g y z = s.flag g y z := rfl
@[simp] theorem State.setPair_fbit (s : State) (k : Nat) (x : LaePair) (g : Fld) (c y z : Nat) : (s.setPair k x).fbit g c y z = s.fbit g c y z := rfl
@[simp] theorem State.setPair_byteAt (s : State) (k : Nat) (x : LaePair) (c : Nat) : (s.setPair k x).byteAt c = s.byteAt c := rfl
@[simp] theorem State.setPair_upsetAt (s : State) (k : Nat) (x : LaePair) (c : Nat) : (s.setPair k x).upsetAt c = s.upsetAt c := rfl
@[simp] theorem State.setPair_portAt (s : State) (k : Nat) (x : LaePair) (c : Nat) : (s.setPair k x).portAt c = s.portAt c := rfl
@[simp] theorem State.setPair_bankAt (s : State) (k : Nat) (x : LaePair) (c : Nat) : (s.setPair k x).bankAt c = s.bankAt c := rfl
@[simp] theorem State.setPair_dmaAt (s : State) (k : Nat) (x : LaePair) (c : Nat) : (s.setPair k x).dmaAt c = s.dmaAt c := rfl
@[simp] theorem State.setPair_laneAt (s : State) (k : Nat) (x : LaePair) (c : Nat) : (s.setPair k x).laneAt c = s.laneAt c := rfl
@[simp] theorem State.setPair_dutyAt (s : State) (k : Nat) (x : LaePair) (c : Nat) : (s.setPair k x).dutyAt c = s.dutyAt c := rfl
@[simp] theorem State.setPair_coreAt (s : State) (k : Nat) (x : LaePair) (c : Nat) : (s.setPair k x).coreAt c = s.coreAt c := rfl
@[simp] theorem State.setPair_sarAt (s : State) (k : Nat) (x : LaePair) (c : Nat) : (s.setPair k x).sarAt c = s.sarAt c := rfl
@[simp] theorem State.setPair_cmpAt (s : State) (k : Nat) (x : LaePair) (c : Nat) : (s.setPair k x).cmpAt c = s.cmpAt c := rfl
@[simp] theorem State.setPair_pinAt (s : State) (k : Nat) (x : LaePair) (c : Nat) : (s.setPair k x).pinAt c = s.pinAt c := rfl
@[simp] theorem State.setPair_chanAt (s : State) (k : Nat) (x : LaePair) (c : Nat) : (s.setPair k x).chanAt c = s.chanAt c := rfl
@[simp] theorem State.setPair_sprAt (s : State) (k : Nat) (x : LaePair) (c : Nat) : (s.setPair k x).sprAt c = s.sprAt c := rfl
@[simp] theorem State.setPair_feedAt (s : State) (k : Nat) (x : LaePair) (c : Nat) : (s.setPair k x).feedAt c = s.feedAt c := rfl
@[simp] theorem State.setPair_tmrAt (s : State) (k : Nat) (x : LaePair) (c : Nat) : (s.setPair k x).tmrAt c = s.tmrAt c := rfl
@[simp] theorem State.setPair_cupAt (s : State) (k : Nat) (x : LaePair) (c : Nat) : (s.setPair k x).cupAt c = s.cupAt c := rfl
@[simp] theorem State.setPair_fport (s : State) (k : Nat) (x : LaePair) (c : Nat) : (s.setPair k x).fport c = s.fport c := rfl

/-! ### Readers after `setTmr` -/

@[simp] theorem State.setTmr_fget (s : State) (k : Nat) (x : Tmr) (g : Fld) (y z : Nat) : (s.setTmr k x).fget g y z = s.fget g y z := rfl
@[simp] theorem State.setTmr_flag (s : State) (k : Nat) (x : Tmr) (g : Fld) (y z : Nat) : (s.setTmr k x).flag g y z = s.flag g y z := rfl
@[simp] theorem State.setTmr_fbit (s : State) (k : Nat) (x : Tmr) (g : Fld) (c y z : Nat) : (s.setTmr k x).fbit g c y z = s.fbit g c y z := rfl
@[simp] theorem State.setTmr_byteAt (s : State) (k : Nat) (x : Tmr) (c : Nat) : (s.setTmr k x).byteAt c = s.byteAt c := rfl
@[simp] theorem State.setTmr_upsetAt (s : State) (k : Nat) (x : Tmr) (c : Nat) : (s.setTmr k x).upsetAt c = s.upsetAt c := rfl
@[simp] theorem State.setTmr_portAt (s : State) (k : Nat) (x : Tmr) (c : Nat) : (s.setTmr k x).portAt c = s.portAt c := rfl
@[simp] theorem State.setTmr_bankAt (s : State) (k : Nat) (x : Tmr) (c : Nat) : (s.setTmr k x).bankAt c = s.bankAt c := rfl
@[simp] theorem State.setTmr_dmaAt (s : State) (k : Nat) (x : Tmr) (c : Nat) : (s.setTmr k x).dmaAt c = s.dmaAt c := rfl
@[simp] theorem State.setTmr_laneAt (s : State) (k : Nat) (x : Tmr) (c : Nat) : (s.setTmr k x).laneAt c = s.laneAt c := rfl
@[simp] theorem State.setTmr_dutyAt (s : State) (k : Nat) (x : Tmr) (c : Nat) : (s.setTmr k x).dutyAt c = s.dutyAt c := rfl
@[simp] theorem State.setTmr_coreAt (s : State) (k : Nat) (x : Tmr) (c : Nat) : (s.setTmr k x).coreAt c = s.coreAt c := rfl
@[simp] theorem State.setTmr_sarAt (s : State) (k : Nat) (x : Tmr) (c : Nat) : (s.setTmr k x).sarAt c = s.sarAt c := rfl
@[simp] theorem State.setTmr_cmpAt (s : State) (k : Nat) (x : Tmr) (c : Nat) : (s.setTmr k x).cmpAt c = s.cmpAt c := rfl
@[simp] theorem State.setTmr_pinAt (s : State) (k : Nat) (x : Tmr) (c : Nat) : (s.setTmr k x).pinAt c = s.pinAt c := rfl
@[simp] theorem State.setTmr_chanAt (s : State) (k : Nat) (x : Tmr) (c : Nat) : (s.setTmr k x).chanAt c = s.chanAt c := rfl
@[simp] theorem State.setTmr_sprAt (s : State) (k : Nat) (x : Tmr) (c : Nat) : (s.setTmr k x).sprAt c = s.sprAt c := rfl
@[simp] theorem State.setTmr_feedAt (s : State) (k : Nat) (x : Tmr) (c : Nat) : (s.setTmr k x).feedAt c = s.feedAt c := rfl
@[simp] theorem State.setTmr_pairAt (s : State) (k : Nat) (x : Tmr) (c : Nat) : (s.setTmr k x).pairAt c = s.pairAt c := rfl
@[simp] theorem State.setTmr_cupAt (s : State) (k : Nat) (x : Tmr) (c : Nat) : (s.setTmr k x).cupAt c = s.cupAt c := rfl
@[simp] theorem State.setTmr_fport (s : State) (k : Nat) (x : Tmr) (c : Nat) : (s.setTmr k x).fport c = s.fport c := rfl

/-! ### Readers after `setCup` -/

@[simp] theorem State.setCup_fget (s : State) (k : Nat) (x : CupSensor) (g : Fld) (y z : Nat) : (s.setCup k x).fget g y z = s.fget g y z := rfl
@[simp] theorem State.setCup_flag (s : State) (k : Nat) (x : CupSensor) (g : Fld) (y z : Nat) : (s.setCup k x).flag g y z = s.flag g y z := rfl
@[simp] theorem State.setCup_fbit (s : State) (k : Nat) (x : CupSensor) (g : Fld) (c y z : Nat) : (s.setCup k x).fbit g c y z = s.fbit g c y z := rfl
@[simp] theorem State.setCup_byteAt (s : State) (k : Nat) (x : CupSensor) (c : Nat) : (s.setCup k x).byteAt c = s.byteAt c := rfl
@[simp] theorem State.setCup_upsetAt (s : State) (k : Nat) (x : CupSensor) (c : Nat) : (s.setCup k x).upsetAt c = s.upsetAt c := rfl
@[simp] theorem State.setCup_portAt (s : State) (k : Nat) (x : CupSensor) (c : Nat) : (s.setCup k x).portAt c = s.portAt c := rfl
@[simp] theorem State.setCup_bankAt (s : State) (k : Nat) (x : CupSensor) (c : Nat) : (s.setCup k x).bankAt c = s.bankAt c := rfl
@[simp] theorem State.setCup_dmaAt (s : State) (k : Nat) (x : CupSensor) (c : Nat) : (s.setCup k x).dmaAt c = s.dmaAt c := rfl
@[simp] theorem State.setCup_laneAt (s : State) (k : Nat) (x : CupSensor) (c : Nat) : (s.setCup k x).laneAt c = s.laneAt c := rfl
@[simp] theorem State.setCup_dutyAt (s : State) (k : Nat) (x : CupSensor) (c : Nat) : (s.setCup k x).dutyAt c = s.dutyAt c := rfl
@[simp] theorem State.setCup_coreAt (s : State) (k : Nat) (x : CupSensor) (c : Nat) : (s.setCup k x).coreAt c = s.coreAt c := rfl
@[simp] theorem State.setCup_sarAt (s : State) (k : Nat) (x : CupSensor) (c : Nat) : (s.setCup k x).sarAt c = s.sarAt c := rfl
@[simp] theorem State.setCup_cmpAt (s : State) (k : Nat) (x : CupSensor) (c : Nat) : (s.setCup k x).cmpAt c = s.cmpAt c := rfl
@[simp] theorem State.setCup_pinAt (s : State) (k : Nat) (x : CupSensor) (c : Nat) : (s.setCup k x).pinAt c = s.pinAt c := rfl
@[simp] theorem State.setCup_chanAt (s : State) (k : Nat) (x : CupSensor) (c : Nat) : (s.setCup k x).chanAt c = s.chanAt c := rfl
@[simp] theorem State.setCup_sprAt (s : State) (k : Nat) (x : CupSensor) (c : Nat) : (s.setCup k x).sprAt c = s.sprAt c := rfl
@[simp] theorem State.setCup_feedAt (s : State) (k : Nat) (x : CupSensor) (c : Nat) : (s.setCup k x).feedAt c = s.feedAt c := rfl
@[simp] theorem State.setCup_pairAt (s : State) (k : Nat) (x : CupSensor) (c : Nat) : (s.setCup k x).pairAt c = s.pairAt c := rfl
@[simp] theorem State.setCup_tmrAt (s : State) (k : Nat) (x : CupSensor) (c : Nat) : (s.setCup k x).tmrAt c = s.tmrAt c := rfl
@[simp] theorem State.setCup_fport (s : State) (k : Nat) (x : CupSensor) (c : Nat) : (s.setCup k x).fport c = s.fport c := rfl

/-! ### Readers after `setFport` -/

@[simp] theorem State.setFport_fget (s : State) (k : Nat) (x : FyzPort) (g : Fld) (y z : Nat) : (s.setFport k x).fget g y z = s.fget g y z := rfl
@[simp] theorem State.setFport_flag (s : State) (k : Nat) (x : FyzPort) (g : Fld) (y z : Nat) : (s.setFport k x).flag g y z = s.flag g y z := rfl
@[simp] theorem State.setFport_fbit (s : State) (k : Nat) (x : FyzPort) (g : Fld) (c y z : Nat) : (s.setFport k x).fbit g c y z = s.fbit g c y z := rfl
@[simp] theorem State.setFport_byteAt (s : State) (k : Nat) (x : FyzPort) (c : Nat) : (s.setFport k x).byteAt c = s.byteAt c := rfl
@[simp] theorem State.setFport_upsetAt (s : State) (k : Nat) (x : FyzPort) (c : Nat) : (s.setFport k x).upsetAt c = s.upsetAt c := rfl
@[simp] theorem State.setFport_portAt (s : State) (k : Nat) (x : FyzPort) (c : Nat) : (s.setFport k x).portAt c = s.portAt c := rfl
@[simp] theorem State.setFport_bankAt (s : State) (k : Nat) (x : FyzPort) (c : Nat) : (s.setFport k x).bankAt c = s.bankAt c := rfl
@[simp] theorem State.setFport_dmaAt (s : State) (k : Nat) (x : FyzPort) (c : Nat) : (s.setFport k x).dmaAt c = s.dmaAt c := rfl
@[simp] theorem State.setFport_laneAt (s : State) (k : Nat) (x : FyzPort) (c : Nat) : (s.setFport k x).laneAt c = s.laneAt c := rfl
@[simp] theorem State.setFport_dutyAt (s : State) (k : Nat) (x : FyzPort) (c : Nat) : (s.setFport k x).dutyAt c = s.dutyAt c := rfl
@[simp] theorem State.setFport_coreAt (s : State) (k : Nat) (x : FyzPort) (c : Nat) : (s.setFport k x).coreAt c = s.coreAt c := rfl
@[simp] theorem State.setFport_sarAt (s : State) (k : Nat) (x : FyzPort) (c : Nat) : (s.setFport k x).sarAt c = s.sarAt c := rfl
@[simp] theorem State.setFport_cmpAt (s : State) (k : Nat) (x : FyzPort) (c : Nat) : (s.setFport k x).cmpAt c = s.cmpAt c := rfl
@[simp] theorem State.setFport_pinAt (s : State) (k : Nat) (x : FyzPort) (c : Nat) : (s.setFport k x).pinAt c = s.pinAt c := rfl
@[simp] theorem State.setFport_chanAt (s : State) (k : Nat) (x : FyzPort) (c : Nat) : (s.setFport k x).chanAt c = s.chanAt c := rfl
@[simp] theorem State.setFport_sprAt (s : State) (k : Nat) (x : FyzPort) (c : Nat) : (s.setFport k x).sprAt c = s.sprAt c := rfl
@[simp] theorem State.setFport_feedAt (s : State) (k : Nat) (x : FyzPort) (c : Nat) : (s.setFport k x).feedAt c = s.feedAt c := rfl
@[simp] theorem State.setFport_pairAt (s : State) (k : Nat) (x : FyzPort) (c : Nat) : (s.setFport k x).pairAt c = s.pairAt c := rfl
@[simp] theorem State.setFport_tmrAt (s : State) (k : Nat) (x : FyzPort) (c : Nat) : (s.setFport k x).tmrAt c = s.tmrAt c := rfl
@[simp] theorem State.setFport_cupAt (s : State) (k : Nat) (x : FyzPort) (c : Nat) : (s.setFport k x).cupAt c = s.cupAt c := rfl

end Machine
end Sys2Proof
end

