-- ==== Sys2Proof/Laws/Regs.lean ====
section
/-! SUPPORT. The register store: a read after a write, the bound of a field, and its canonical form under every update. -/

namespace Sys2Proof

/-! ### The order of keys -/

theorem FKey.lt_irrefl (a : FKey) : a.lt a = false := by simp [FKey.lt]

theorem FKey.lt_trans {a b c : FKey} (h : a.lt b = true) (k : b.lt c = true) : a.lt c = true := by
  simp only [FKey.lt, Bool.or_eq_true, Bool.and_eq_true, decide_eq_true_eq, beq_iff_eq] at *
  omega

theorem FKey.eq_of_not_lt {a b : FKey} (h : a.lt b = false) (k : b.lt a = false) : a = b := by
  have hf : a.f.ctorIdx = b.f.ctorIdx ∧ a.i = b.i ∧ a.j = b.j := by
    simp only [FKey.lt, Bool.or_eq_false_iff, Bool.and_eq_false_iff, decide_eq_false_iff_not, beq_eq_false_iff_ne] at *
    omega
  obtain ⟨x, y, z⟩ := hf
  have hx : a.f = b.f := by
    have := congrArg Fld.ofNat x
    simpa [Fld.ofNat_ctorIdx] using this
  cases a; cases b; simp_all

namespace Machine

/-! ### Reading and writing one key -/

theorem regFind_erase_same (r : List (FKey × Nat)) (x : FKey) : regFind (regErase r x) x = none := by
  induction r with
  | nil => rfl
  | cons e t ih =>
    obtain ⟨k, v⟩ := e
    by_cases h : k = x <;> simp_all [regErase, regFind]

theorem regFind_erase_ne (r : List (FKey × Nat)) {x y : FKey} (h : y ≠ x) : regFind (regErase r x) y = regFind r y := by
  induction r with
  | nil => rfl
  | cons e t ih =>
    obtain ⟨k, v⟩ := e
    by_cases hk : k = x
    · subst hk
      simp_all [regErase, regFind, Ne.symm h]
    · by_cases hy : k = y <;> simp_all [regErase, regFind]

theorem regFind_insert (r : List (FKey × Nat)) (x : FKey) (v : Nat) (y : FKey) (h : regFind r x = none) :
    regFind (regInsert r x v) y = if x = y then some v else regFind r y := by
  induction r with
  | nil => simp [regInsert, regFind]
  | cons e t ih =>
    obtain ⟨k, w⟩ := e
    have hk : k ≠ x := fun c => by simp [regFind, c] at h
    have ht : regFind t x = none := by simpa [regFind, hk] using h
    simp only [regInsert]
    split
    · simp [regFind]
    · simp only [regFind, ih ht]
      by_cases hy : k = y
      · subst hy; simp [Ne.symm hk]
      · simp [hy]

/-- The value a key has in a store (its reset value when it is not listed). -/
def regVal (r : List (FKey × Nat)) (x : FKey) : Nat := (regFind r x).getD (x.f.reset x.i x.j)

theorem State.fget_eq (s : State) (f : Fld) (i j : Nat) : s.fget f i j = regVal s.regs ⟨f, i, j⟩ := rfl

theorem regVal_put (r : List (FKey × Nat)) (x y : FKey) (v : Nat) :
    regVal (regPut r x v) y = if x = y then v else regVal r y := by
  by_cases h : x = y
  · subst h
    unfold regVal regPut
    split
    · simp [regFind_erase_same, *]
    · simp [regFind_insert _ _ _ _ (regFind_erase_same r x)]
  · unfold regVal regPut
    split
    · simp [regFind_erase_ne _ (Ne.symm h)]
    · simp [regFind_insert _ _ _ _ (regFind_erase_same r x), regFind_erase_ne _ (Ne.symm h), h]

/-- A field after any write of a field. -/
theorem State.fget_fset (s : State) (f g : Fld) (v i j a b : Nat) :
    (s.fset f v i j).fget g a b = if f = g ∧ i = a ∧ j = b then v % 2 ^ f.len else s.fget g a b := by
  rw [State.fget_eq]
  show regVal (regPut s.regs ⟨f, i, j⟩ (v % 2 ^ f.len)) ⟨g, a, b⟩ = _
  rw [regVal_put]
  simp [State.fget_eq]

/-- A note of what hardware has set changes no field. -/
@[simp] theorem State.fget_noteSet (s : State) (f g : Fld) (v i j a b : Nat) : (s.noteSet f v i j).fget g a b = s.fget g a b := rfl

/-- A field after hardware has set one. -/
theorem State.fget_hset (s : State) (f g : Fld) (v i j a b : Nat) :
    (s.hset f v i j).fget g a b = if f = g ∧ i = a ∧ j = b then v % 2 ^ f.len else s.fget g a b := State.fget_fset s f g v i j a b

/-- A field reads what was written, modulo its length. -/
@[simp] theorem State.fget_fset_same (s : State) (f : Fld) (v i j : Nat) : (s.fset f v i j).fget f i j = v % 2 ^ f.len := by
  simp [State.fget_fset]

/-- Another field stays. -/
theorem State.fget_fset_ne (s : State) (f g : Fld) (v i j a b : Nat) (h : f ≠ g) :
    (s.fset f v i j).fget g a b = s.fget g a b := by
  simp [State.fget_fset, h]

/-- The same field of another register stays. -/
theorem State.fget_fset_index (s : State) (f : Fld) (v i j a b : Nat) (h : ¬(i = a ∧ j = b)) :
    (s.fset f v i j).fget f a b = s.fget f a b := by
  simp [State.fget_fset, h]

theorem regFind_filter (r : List (FKey × Nat)) (p : FKey → Bool) (x : FKey) :
    regFind (r.filter fun e => p e.1) x = if p x then regFind r x else none := by
  induction r with
  | nil => simp [regFind]
  | cons e t ih =>
    obtain ⟨k, v⟩ := e
    by_cases hk : k = x
    · subst hk
      cases hp : p k <;> simp_all [regFind]
    · cases hp : p k <;> simp_all [regFind]

/-- Every field of a predicate is at its reset value, every other stays. -/
theorem State.fget_resetFields (s : State) (p : FKey → Bool) (f : Fld) (i j : Nat) :
    (s.resetFields p).fget f i j = if p ⟨f, i, j⟩ then f.reset i j else s.fget f i j := by
  show (regFind (s.regs.filter fun e => !p e.1) ⟨f, i, j⟩).getD _ = _
  rw [regFind_filter s.regs (fun k => !p k)]
  cases hp : p ⟨f, i, j⟩ <;> simp [State.fget]

/-! ### The canonical form -/

/-- Every key of a store lies above `x`. -/
def above (x : FKey) (r : List (FKey × Nat)) : Bool := r.all fun e => x.lt e.1

theorem Regs.wf_cons (e : FKey × Nat) (t : List (FKey × Nat)) :
    Regs.wf (e :: t) = true ↔ fieldOk e = true ∧ above e.1 t = true ∧ Regs.wf t = true := by
  induction t generalizing e with
  | nil => simp [Regs.wf, above]
  | cons d u ih =>
    simp only [Regs.wf, Bool.and_eq_true, above, List.all_cons]
    constructor
    · rintro ⟨⟨h1, h2⟩, h3⟩
      refine ⟨h1, ⟨h2, ?_⟩, h3⟩
      have h4 := ((ih d).mp h3).2.1
      simp only [above, List.all_eq_true] at *
      exact fun x hx => FKey.lt_trans h2 (h4 x hx)
    · rintro ⟨h1, ⟨h2, -⟩, h3⟩
      exact ⟨⟨h1, h2⟩, h3⟩

theorem Regs.wf_filter (r : List (FKey × Nat)) (p : FKey × Nat → Bool) (h : Regs.wf r = true) :
    Regs.wf (r.filter p) = true := by
  induction r with
  | nil => rfl
  | cons e t ih =>
    obtain ⟨h1, h2, h3⟩ := (Regs.wf_cons e t).mp h
    simp only [List.filter_cons]
    split
    · refine (Regs.wf_cons _ _).mpr ⟨h1, ?_, ih h3⟩
      simp only [above, List.all_eq_true] at *
      exact fun x hx => h2 x (List.mem_filter.mp hx).1
    · exact ih h3

theorem above_insert {x y : FKey} {v : Nat} {r : List (FKey × Nat)} (h : y.lt x = true) (hr : above y r = true) :
    above y (regInsert r x v) = true := by
  induction r with
  | nil => simp [regInsert, above, h]
  | cons e t ih =>
    obtain ⟨k, w⟩ := e
    simp only [above, List.all_cons, Bool.and_eq_true] at hr
    simp only [regInsert]
    split
    · simp only [above, List.all_cons, Bool.and_eq_true]
      exact ⟨h, hr⟩
    · simp only [above, List.all_cons, Bool.and_eq_true]
      exact ⟨hr.1, ih hr.2⟩

theorem Regs.wf_insert {x : FKey} {v : Nat} {r : List (FKey × Nat)} (hx : fieldOk (x, v) = true) (hr : Regs.wf r = true)
    (hn : regFind r x = none) : Regs.wf (regInsert r x v) = true := by
  induction r with
  | nil => simp [regInsert, Regs.wf, hx]
  | cons e t ih =>
    obtain ⟨k, w⟩ := e
    obtain ⟨h1, h2, h3⟩ := (Regs.wf_cons _ _).mp hr
    have hk : k ≠ x := fun c => by simp [regFind, c] at hn
    have ht : regFind t x = none := by simpa [regFind, hk] using hn
    simp only [regInsert]
    split
    · rename_i hlt
      refine (Regs.wf_cons _ _).mpr ⟨hx, ?_, hr⟩
      simp only [above, List.all_cons, Bool.and_eq_true, List.all_eq_true] at *
      exact ⟨hlt, fun y hy => FKey.lt_trans hlt (h2 y hy)⟩
    · rename_i hlt
      have hgt : k.lt x = true := by
        cases c : k.lt x
        · exact absurd (FKey.eq_of_not_lt c (by simpa using hlt)) hk
        · rfl
      exact (Regs.wf_cons _ _).mpr ⟨h1, above_insert hgt h2, ih h3 ht⟩

theorem Regs.wf_put {x : FKey} {v : Nat} {r : List (FKey × Nat)} (hv : v < 2 ^ x.f.len) (h : Regs.wf r = true) :
    Regs.wf (regPut r x v) = true := by
  have he : Regs.wf (regErase r x) = true := Regs.wf_filter _ _ h
  unfold regPut
  split
  · exact he
  · rename_i hne
    exact Regs.wf_insert (by simp [fieldOk, hv, hne]) he (regFind_erase_same r x)

/-- A write of a field keeps the canonical form. -/
theorem Regs.wf_fset {s : State} (h : Regs.wf s.regs = true) (f : Fld) (v i j : Nat) : Regs.wf (s.fset f v i j).regs = true :=
  Regs.wf_put (x := ⟨f, i, j⟩) (Nat.mod_lt _ (Nat.two_pow_pos _)) h

/-- A reset of fields keeps the canonical form. -/
theorem Regs.wf_resetFields {s : State} (h : Regs.wf s.regs = true) (p : FKey → Bool) :
    Regs.wf (s.resetFields p).regs = true :=
  Regs.wf_filter _ _ h

theorem regFind_lt {r : List (FKey × Nat)} (h : Regs.wf r = true) {x : FKey} {v : Nat} (hv : regFind r x = some v) :
    v < 2 ^ x.f.len := by
  induction r with
  | nil => simp [regFind] at hv
  | cons e t ih =>
    obtain ⟨k, w⟩ := e
    obtain ⟨h1, -, h3⟩ := (Regs.wf_cons _ _).mp h
    simp only [regFind] at hv
    split at hv
    · rename_i hk
      subst hk
      simp only [fieldOk, Bool.and_eq_true, decide_eq_true_eq, Option.some.injEq] at *
      omega
    · exact ih h3 hv

/-! ### The bound of a field -/

/-- Only four fields have reset values that depend on the index of their register. -/
theorem reset_index (f : Fld) (i j : Nat)
    (h : f ≠ .CUP_CLASS_THRA_WARN ∧ f ≠ .CUP_CLASS_THRA_THROT ∧ f ≠ .CUP_CLASS_THRB_SHUT ∧ f ≠ .CUP_SNS_CFG_EN) :
    f.reset i j = f.reset 0 0 := by
  cases f <;> first | rfl | simp at h

theorem reset_base : (List.range 1024).all (fun n => decide ((Fld.ofNat n).reset 0 0 < 2 ^ (Fld.ofNat n).len)) = true := by
  decide +kernel

theorem ctorIdx_lt (f : Fld) : f.ctorIdx < 1024 := by cases f <;> decide

/-- A reset value fits its field. -/
theorem reset_lt (f : Fld) (i j : Nat) : f.reset i j < 2 ^ f.len := by
  by_cases h : f ≠ .CUP_CLASS_THRA_WARN ∧ f ≠ .CUP_CLASS_THRA_THROT ∧ f ≠ .CUP_CLASS_THRB_SHUT ∧ f ≠ .CUP_SNS_CFG_EN
  · rw [reset_index f i j h]
    have := List.all_eq_true.mp reset_base f.ctorIdx (List.mem_range.mpr (ctorIdx_lt f))
    simpa [Fld.ofNat_ctorIdx] using this
  · have h : f = .CUP_CLASS_THRA_WARN ∨ f = .CUP_CLASS_THRA_THROT ∨ f = .CUP_CLASS_THRB_SHUT ∨ f = .CUP_SNS_CFG_EN :=
      Decidable.byContradiction fun c => h (by simpa only [not_or] using c)
    rcases h with rfl | rfl | rfl | rfl
    · show (if i = 0 then 0x690 else if i = 1 then 0x640 else 0x5A0) < 2 ^ 16
      repeat' (first | decide | split)
    · show (if i = 0 then 0x760 else if i = 1 then 0x6E0 else 0x640) < 2 ^ 16
      repeat' (first | decide | split)
    · show (if i = 0 then 0x820 else if i = 1 then 0x780 else 0x6E0) < 2 ^ 16
      repeat' (first | decide | split)
    · show (if i ≤ 9 then 1 else 0) < 2 ^ 1
      split <;> decide

/-- In a sound store every field fits its length. -/
theorem State.fget_lt {s : State} (h : Regs.wf s.regs = true) (f : Fld) (i j : Nat) : s.fget f i j < 2 ^ f.len := by
  unfold State.fget
  cases hv : regFind s.regs ⟨f, i, j⟩ with
  | none => exact reset_lt f i j
  | some v => exact regFind_lt h hv

end Machine
end Sys2Proof
end

