-- ==== Sys2Proof/Laws/Table.lean ====
section
/-! SUPPORT. The register table: no address belongs to two registers, so a register that locates an address is the one found. -/

namespace Sys2Proof.Machine

/-! ### Registers whose addresses are apart -/

/-- Bytes of one instance of a register, of one of its rows, and of the whole array. -/
def regBytesOne (d : RegDesc) : Nat := if 32 < d.width then 8 else 4
def regBytesRow (d : RegDesc) : Nat := (max d.n2 1 - 1) * d.s2 + regBytesOne d
def regBytesAll (d : RegDesc) : Nat := (max d.n1 1 - 1) * d.s1 + regBytesRow d

/-- Two intervals of offsets modulo a stride are apart. -/
def offsetsApart (s a n b m : Nat) : Bool :=
  decide (a % s + n ≤ s) && decide (b % s + m ≤ s) && (decide (a % s + n ≤ b % s) || decide (b % s + m ≤ a % s))

/-- Two registers are apart: by their ranges, by their offsets in a common outer stride, or in a common inner stride. -/
def regsApart (d e : RegDesc) : Bool :=
  decide (d.base + regBytesAll d ≤ e.base) || decide (e.base + regBytesAll e ≤ d.base) ||
    (d.s1 == e.s1 && offsetsApart d.s1 d.base (regBytesRow d) e.base (regBytesRow e)) ||
    (d.s1 == e.s1 && d.s2 == e.s2 && d.s1 % d.s2 == 0 && offsetsApart d.s2 d.base (regBytesOne d) e.base (regBytesOne e))

/-- Every register is apart from those after it. -/
def allApart : List RegDesc → Bool
  | [] => true
  | d :: t => t.all (regsApart d) && allApart t

/-- The registers of the table are apart. -/
theorem regTable_apart : allApart regTable = true := by decide +kernel

/-- Where a located address lies. -/
theorem regLocate_some {d : RegDesc} {a i j o : Nat} (h : regLocate d a = some (i, j, o)) :
    a = d.base + i * d.s1 + j * d.s2 + o ∧ i < max d.n1 1 ∧ j < max d.n2 1 ∧ o < regBytesOne d := by
  unfold regLocate at h
  by_cases hb : a < d.base
  · rw [if_pos hb] at h; cases h
  rw [if_neg hb] at h
  dsimp only at h
  generalize hX : a - d.base = X at h
  generalize hI : (if d.n1 = 0 then 0 else X / d.s1) = I at h
  generalize hR : (if d.n1 = 0 then X else X % d.s1) = R at h
  generalize hJ : (if d.n2 = 0 then 0 else R / d.s2) = J at h
  generalize hO : (if d.n2 = 0 then R else R % d.s2) = O at h
  by_cases hc : I < max d.n1 1 ∧ J < max d.n2 1 ∧ (O = 0 ∨ (O = 4 ∧ 32 < d.width))
  · rw [if_pos hc, Option.some.injEq, Prod.mk.injEq, Prod.mk.injEq] at h
    obtain ⟨rfl, rfl, rfl⟩ := h
    obtain ⟨h1, h2, h3⟩ := hc
    have hx : X = I * d.s1 + R := by
      rw [← hI, ← hR]
      split
      · simp
      · exact (Nat.div_add_mod' _ _).symm
    have hr : R = J * d.s2 + O := by
      rw [← hJ, ← hO]
      split
      · simp
      · exact (Nat.div_add_mod' _ _).symm
    refine ⟨by omega, h1, h2, ?_⟩
    unfold regBytesOne
    split <;> omega
  · rw [if_neg hc] at h; cases h

theorem row_lt {d : RegDesc} {j o : Nat} (hj : j < max d.n2 1) (ho : o < regBytesOne d) : j * d.s2 + o < regBytesRow d := by
  have : j * d.s2 ≤ (max d.n2 1 - 1) * d.s2 := Nat.mul_le_mul_right _ (by omega)
  unfold regBytesRow
  omega

theorem all_lt {d : RegDesc} {i j o : Nat} (hi : i < max d.n1 1) (hj : j < max d.n2 1) (ho : o < regBytesOne d) :
    i * d.s1 + (j * d.s2 + o) < regBytesAll d := by
  have h1 : i * d.s1 ≤ (max d.n1 1 - 1) * d.s1 := Nat.mul_le_mul_right _ (by omega)
  have h2 := row_lt hj ho
  unfold regBytesAll
  omega

/-- The offset of an address in its stride. -/
theorem mod_offset {s a k r n : Nat} (h : a % s + n ≤ s) (hr : r < n) : (a + k * s + r) % s = a % s + r := by
  have h1 : (a + k * s + r) % s = (a % s + r) % s := by
    rw [Nat.add_right_comm, Nat.add_mul_mod_self_right, Nat.add_mod, Nat.mod_add_mod, Nat.add_mod, Nat.mod_mod]
    simp [Nat.add_mod]
  rw [h1, Nat.mod_eq_of_lt (by omega)]

theorem offsets_disjoint {s a n b m k l r q : Nat} (h : offsetsApart s a n b m = true) (hr : r < n) (hq : q < m)
    (he : a + k * s + r = b + l * s + q) : False := by
  simp only [offsetsApart, Bool.and_eq_true, Bool.or_eq_true, decide_eq_true_eq] at h
  obtain ⟨⟨h1, h2⟩, h3⟩ := h
  have h4 := mod_offset (k := k) h1 hr
  have h5 := mod_offset (k := l) h2 hq
  rw [he, h5] at h4
  omega

/-- Registers that are apart share no address. -/
theorem regsApart_disjoint {d e : RegDesc} {a : Nat} {x y : Nat × Nat × Nat} (h : regsApart d e = true)
    (hx : regLocate d a = some x) (hy : regLocate e a = some y) : False := by
  obtain ⟨i, j, o⟩ := x
  obtain ⟨k, l, q⟩ := y
  obtain ⟨h1, h2, h3, h4⟩ := regLocate_some hx
  obtain ⟨g1, g2, g3, g4⟩ := regLocate_some hy
  have ha := all_lt h2 h3 h4
  have hb := all_lt g2 g3 g4
  simp only [regsApart, Bool.or_eq_true, Bool.and_eq_true, decide_eq_true_eq, beq_iff_eq] at h
  rcases h with ((h | h) | ⟨h, hc⟩) | ⟨⟨⟨h, h'⟩, hm⟩, hc⟩
  · omega
  · omega
  · rw [← h] at g1
    exact offsets_disjoint (k := i) (l := k) hc (row_lt h3 h4) (row_lt g3 g4) (by omega)
  · have hs : d.s1 = d.s1 / d.s2 * d.s2 := (Nat.div_mul_cancel (Nat.dvd_of_mod_eq_zero hm)).symm
    rw [← h, ← h'] at g1
    refine offsets_disjoint (k := i * (d.s1 / d.s2) + j) (l := k * (d.s1 / d.s2) + l) hc h4 g4 ?_
    rw [Nat.add_mul, Nat.add_mul, Nat.mul_assoc, Nat.mul_assoc, ← hs]
    omega

theorem findSome_locate {t : List RegDesc} {d : RegDesc} {a : Nat} {x : Nat × Nat × Nat} (ht : allApart t = true)
    (hd : d ∈ t) (hx : regLocate d a = some x) :
    t.findSome? (fun d => (regLocate d a).map fun x => (d, x)) = some (d, x) := by
  induction t with
  | nil => cases hd
  | cons e u ih =>
    simp only [allApart, Bool.and_eq_true, List.all_eq_true] at ht
    rcases List.mem_cons.mp hd with rfl | hd
    · simp [List.findSome?, hx]
    · have : regLocate e a = none := by
        cases he : regLocate e a with
        | none => rfl
        | some y => exact (regsApart_disjoint (ht.1 d hd) he hx).elim
      simp [List.findSome?, this, ih ht.2 hd]

/-- A register of the table that locates an address is the register at that address. -/
theorem regAt_of_locate {d : RegDesc} {a : Nat} {x : Nat × Nat × Nat} (hd : d ∈ regTable) (hx : regLocate d a = some x) :
    regAt a = some (d, x) :=
  findSome_locate regTable_apart hd hx

/-- An instance of a register is located at its own address. -/
theorem regLocate_addr {d : RegDesc} {i j : Nat} (hi : i < max d.n1 1) (hj : j < max d.n2 1)
    (hr : d.n1 ≠ 0 → regBytesRow d ≤ d.s1) (h2 : d.n2 ≠ 0 → 0 < d.s2) :
    regLocate d (d.base + i * d.s1 + j * d.s2) = some (i, j, 0) := by
  have hrow : j * d.s2 < regBytesRow d := by
    have := row_lt (o := 0) hj (by unfold regBytesOne; split <;> omega)
    omega
  have hi' : (if d.n1 = 0 then 0 else (i * d.s1 + j * d.s2) / d.s1) = i := by
    split
    · omega
    · rename_i h
      have := hr h
      rw [Nat.add_comm, Nat.add_mul_div_right _ _ (by omega), Nat.div_eq_of_lt (by omega)]
      omega
  have hr' : (if d.n1 = 0 then i * d.s1 + j * d.s2 else (i * d.s1 + j * d.s2) % d.s1) = j * d.s2 := by
    split
    · have : i = 0 := by omega
      subst this; simp
    · rename_i h
      have := hr h
      rw [Nat.add_comm, Nat.add_mul_mod_self_right, Nat.mod_eq_of_lt (by omega)]
  have hj' : (if d.n2 = 0 then 0 else j * d.s2 / d.s2) = j := by
    split
    · omega
    · rename_i h
      exact Nat.mul_div_cancel _ (h2 h)
  have ho' : (if d.n2 = 0 then j * d.s2 else j * d.s2 % d.s2) = 0 := by
    split
    · have : j = 0 := by omega
      subst this; simp
    · exact Nat.mul_mod_left _ _
  unfold regLocate
  have hx : d.base + i * d.s1 + j * d.s2 - d.base = i * d.s1 + j * d.s2 := by omega
  simp only [hx, hi', hr', hj', ho']
  rw [if_neg (by omega), if_pos ⟨hi, hj, Or.inl trivial⟩]

/-- The strides of the table fit its rows. -/
theorem regTable_strides : (regTable.all fun d => (d.n1 == 0 || decide (regBytesRow d ≤ d.s1)) && (d.n2 == 0 || decide (0 < d.s2))) = true := by
  decide +kernel

/-- The register at the address of an instance of a register of the table. -/
theorem regAt_instance {d : RegDesc} {i j : Nat} (hd : d ∈ regTable) (hi : i < max d.n1 1) (hj : j < max d.n2 1) :
    regAt (d.base + i * d.s1 + j * d.s2) = some (d, i, j, 0) := by
  have h := List.all_eq_true.mp regTable_strides d hd
  simp only [Bool.and_eq_true, Bool.or_eq_true, beq_iff_eq, decide_eq_true_eq] at h
  exact regAt_of_locate hd (regLocate_addr hi hj (fun c => h.1.resolve_left c) (fun c => h.2.resolve_left c))

theorem regDesc_found : (List.range 272).all (fun k => (regTable.find? fun d => d.name = RegName.ofNat k).isSome) = true := by
  decide +kernel

theorem regName_ctorIdx_lt (n : RegName) : n.ctorIdx < 272 := by cases n <;> decide

/-- Every register name has its row in the table. -/
theorem regDesc_mem (n : RegName) : regDesc n ∈ regTable := by
  have h := List.all_eq_true.mp regDesc_found n.ctorIdx (List.mem_range.mpr (regName_ctorIdx_lt n))
  rw [RegName.ofNat_ctorIdx] at h
  obtain ⟨d, hd⟩ := Option.isSome_iff_exists.mp h
  unfold regDesc
  rw [hd]
  exact List.mem_of_find?_eq_some hd

/-- The register at the address a register name gives. -/
theorem regAt_regAddr (n : RegName) {i j : Nat} (hi : i < max (regDesc n).n1 1) (hj : j < max (regDesc n).n2 1) :
    regAt (regAddr n i j) = some (regDesc n, i, j, 0) :=
  regAt_instance (regDesc_mem n) hi hj

end Sys2Proof.Machine
end

