-- ==== Sys2Proof/Laws/Ops.lean ====
section
/-! SUPPORT. What the shared operations can do: soundness under each update, the frame of a register write, of a ring and of an
error record, and a fabric write or read that reaches a register. -/

namespace Sys2Proof.Machine

/-! ### Soundness -/

/-- Soundness depends on the memory and the register store alone. -/
theorem Sound.of_eq {s t : State} (h : Sound s) (hm : t.mem = s.mem) (hf : t.memFree = s.memFree) (hr : t.regs = s.regs) :
    Sound t := by
  have hu : t.unlisted = s.unlisted := by funext a; unfold State.unlisted; rw [hf]
  unfold Sound at *; rw [hu, hm, hr]; exact h

theorem Sound.fset {s : State} (h : Sound s) (f : Fld) (v i j : Nat) : Sound (s.fset f v i j) :=
  ⟨h.1, Regs.wf_fset h.2 f v i j⟩

theorem Sound.noteSet {s : State} (h : Sound s) (f : Fld) (v i j : Nat) : Sound (s.noteSet f v i j) := Sound.of_eq h rfl rfl rfl

theorem Sound.hset {s : State} (h : Sound s) (f : Fld) (v i j : Nat) : Sound (s.hset f v i j) := (h.fset f v i j).noteSet f v i j

theorem Sound.fput {s : State} (h : Sound s) (f : Fld) (b : Bool) (i j : Nat) : Sound (s.fput f b i j) := h.fset _ _ _ _

theorem Sound.fbitSet {s : State} (h : Sound s) (f : Fld) (n : Nat) (b : Bool) (i j : Nat) : Sound (s.fbitSet f n b i j) :=
  h.fset _ _ _ _

theorem Sound.hbit {s : State} (h : Sound s) (f : Fld) (n i j : Nat) : Sound (s.hbit f n i j) := (h.fbitSet f n true i j).noteSet _ _ _ _

theorem Sound.clearBits {s : State} (h : Sound s) (f : Fld) (x i j : Nat) : Sound (s.clearBits f x i j) := h.fset _ _ _ _

theorem Sound.fcount {s : State} (h : Sound s) (f : Fld) (i j : Nat) : Sound (s.fcount f i j) := h.fset _ _ _ _

theorem Sound.resetFields {s : State} (h : Sound s) (p : FKey → Bool) : Sound (s.resetFields p) :=
  ⟨h.1, Regs.wf_resetFields h.2 p⟩

theorem Sound.setByte {s : State} (h : Sound s) (a v : Nat) : Sound (s.setByte a v) := ⟨Memory.wf_setByte h.1 a v, h.2⟩

theorem storeBytes_regs (s : State) (a : Nat) (l : List Nat) : (s.storeBytes a l).regs = s.regs := by
  induction l generalizing s a with
  | nil => rfl
  | cons b t ih => simp only [State.storeBytes, ih]; rfl

theorem Sound.storeBytes {s : State} (h : Sound s) (a : Nat) (l : List Nat) : Sound (s.storeBytes a l) :=
  ⟨Memory.wf_storeBytes h.1 a l, by rw [storeBytes_regs]; exact h.2⟩

theorem Sound.storeMem {s : State} (h : Sound s) (a v n : Nat) : Sound (s.storeMem a v n) := by
  rw [State.storeMem_eq]; exact h.storeBytes _ _

theorem Sound.setSaddle {s : State} (h : Sound s) (w v : Nat) : Sound (s.setSaddle w v) :=
  Sound.of_eq (h.storeMem (saddleAddr w) v 6) rfl rfl rfl

theorem Sound.writeField {s : State} (h : Sound s) (i j v : Nat) (f : FieldDesc) : Sound (s.writeField i j v f) := by
  unfold State.writeField
  split <;> first | exact h | exact h.fset _ _ _ _

theorem Sound.writeReg {s : State} (h : Sound s) (d : RegDesc) (i j v : Nat) : Sound (s.writeReg d i j v) := by
  unfold State.writeReg
  induction d.fields generalizing s with
  | nil => exact h
  | cons f t ih => exact ih (h.writeField i j v f)

theorem Sound.clearRc {s : State} (h : Sound s) (d : RegDesc) (i j : Nat) : Sound (s.clearRc d i j) := by
  unfold State.clearRc
  induction d.fields generalizing s with
  | nil => exact h
  | cons f t ih =>
    simp only [List.foldl_cons]
    split
    · exact ih (h.fset _ _ _ _)
    · exact ih h

theorem Sound.ring {s : State} (h : Sound s) (n : Nat) : Sound (s.ring n) := by
  unfold State.ring
  split
  · exact (h.fcount _ _ _).noteSet _ _ _ _
  · exact h.hbit _ _ _ _

theorem Sound.ringIf {s : State} (h : Sound s) (c : Bool) (n : Nat) : Sound (s.ringIf c n) := by
  unfold State.ringIf
  split
  · exact h.ring n
  · exact h

theorem Sound.addEvent {s : State} (h : Sound s) (e : HrnEvent) : Sound (s.addEvent e) := by
  unfold State.addEvent
  split
  · exact h
  · exact Sound.of_eq h rfl rfl rfl

theorem Sound.recordError {s : State} (h : Sound s) (k : ErrKind) (m a : Nat) : Sound (s.recordError k m a) := by
  unfold State.recordError
  have h2 : Sound (match k with
    | .unmapped => (s.fcount .FAB_ERRCNT_COUNT).hset .FAB_ERRSTAT_UNMAPPED 1
    | .width => (s.fcount .FAB_ERRCNT_COUNT).hset .FAB_ERRSTAT_WIDTH 1
    | .partner => (s.fcount .FAB_ERRCNT_COUNT).hset .FAB_ERRSTAT_PARTNER 1) := by
    cases k <;> exact (h.fcount _ _ _).hset _ _ _ _
  dsimp only
  split
  · exact h2.hset _ _ _ _
  · exact (h2.fset _ _ _ _).fset _ _ _ _

theorem Sound.markDirty {s : State} (h : Sound s) (m a : Nat) : Sound (markDirty s m a) := by
  unfold Sys2Proof.Machine.markDirty
  split
  · exact h.hset _ _ _ _
  · exact h

theorem Sound.respond {s : State} (h : Sound s) (m v : Nat) (e : Bool) : Sound (s.respond m v e) := Sound.of_eq h rfl rfl rfl

theorem Sound.takeException {s : State} (h : Sound s) (c pc cause tval : Nat) : Sound (s.takeException c pc cause tval) :=
  Sound.of_eq h rfl rfl rfl

/-! ### Frames of the operations on the register store -/

/-- Nothing but the register store, and the note of what hardware has set in this cycle, differs. -/
def OnlyRegs (s t : State) : Prop := t = { s with regs := t.regs, hwSets := t.hwSets }

theorem OnlyRegs.refl (s : State) : OnlyRegs s s := rfl

theorem OnlyRegs.trans {s t u : State} (h : OnlyRegs s t) (k : OnlyRegs t u) : OnlyRegs s u := by
  unfold OnlyRegs at h k ⊢
  generalize t.regs = x at h
  generalize t.hwSets = v at h
  generalize u.regs = y at k
  generalize u.hwSets = w at k
  subst h
  subst k
  rfl

theorem OnlyRegs.fset {s t : State} (h : OnlyRegs s t) (f : Fld) (v i j : Nat) : OnlyRegs s (t.fset f v i j) :=
  h.trans rfl

theorem OnlyRegs.hset {s t : State} (h : OnlyRegs s t) (f : Fld) (v i j : Nat) : OnlyRegs s (t.hset f v i j) :=
  h.trans rfl

theorem OnlyRegs.writeField {s t : State} (h : OnlyRegs s t) (i j v : Nat) (f : FieldDesc) : OnlyRegs s (t.writeField i j v f) := by
  unfold State.writeField
  split <;> first | exact h | exact h.fset _ _ _ _

/-- A write of a register changes the register store alone. -/
theorem writeReg_onlyRegs (s : State) (d : RegDesc) (i j v : Nat) : OnlyRegs s (s.writeReg d i j v) := by
  have h : ∀ (l : List FieldDesc) (t : State), OnlyRegs s t → OnlyRegs s (l.foldl (fun t f => t.writeField i j v f) t) := by
    intro l
    induction l with
    | nil => exact fun t h => h
    | cons f u ih => exact fun t h => ih _ (h.writeField i j v f)
  exact h _ s (OnlyRegs.refl s)

/-- A field that a register does not hold, and every field of its other instances, stays in a write of the register. -/
theorem fget_writeReg (s : State) (d : RegDesc) (i j v : Nat) (f : Fld) (a b : Nat)
    (h : (∀ x ∈ d.fields, x.fld ≠ f) ∨ ¬(i = a ∧ j = b)) : (s.writeReg d i j v).fget f a b = s.fget f a b := by
  unfold State.writeReg
  generalize d.fields = l at h
  induction l generalizing s with
  | nil => rfl
  | cons x t ih =>
    simp only [List.foldl_cons]
    rw [ih _ (h.imp_left fun c y hy => c y (List.mem_cons_of_mem x hy))]
    have hx : ∀ w, (s.fset x.fld w i j).fget f a b = s.fget f a b := by
      intro w
      rw [State.fget_fset, if_neg]
      rintro ⟨e, g⟩
      exact h.elim (fun c => c x List.mem_cons_self e) (fun c => c g)
    unfold State.writeField
    split <;> first | exact hx _ | rfl

/-- A ring touches Belfry's pending bits and its merge count alone. -/
theorem fget_ring (s : State) (n : Nat) (f : Fld) (i j : Nat) (h : f ≠ .BFY_PEND_W) (k : f ≠ .BFY_MERGECNT_COUNT) :
    (s.ring n).fget f i j = s.fget f i j := by
  unfold State.ring
  split
  · exact State.fget_fset_ne _ _ _ _ _ _ _ _ (Ne.symm k)
  · exact State.fget_fset_ne _ _ _ _ _ _ _ _ (Ne.symm h)

/-- A ring changes the register store, and the note of hardware's sets, alone. -/
theorem ring_onlyRegs (s : State) (n : Nat) : OnlyRegs s (s.ring n) := by
  unfold State.ring
  split <;> rfl

/-- The fields an error record may touch (R24). -/
def errorFields : List Fld :=
  [.FAB_ERRCNT_COUNT, .FAB_ERRSTAT_UNMAPPED, .FAB_ERRSTAT_WIDTH, .FAB_ERRSTAT_PARTNER, .FAB_ERRSTAT_OVERRUN, .FAB_ERRSTAT_MASTER,
    .FAB_ERRADDR_ADDR]

/-- An error record touches the error registers alone. -/
theorem fget_recordError (s : State) (k : ErrKind) (m a : Nat) (f : Fld) (i j : Nat) (h : f ∉ errorFields) :
    (s.recordError k m a).fget f i j = s.fget f i j := by
  simp only [errorFields, List.mem_cons, List.not_mem_nil, or_false, not_or] at h
  obtain ⟨h1, h2, h3, h4, h5, h6, h7⟩ := h
  unfold State.recordError
  cases k <;> dsimp only <;> split <;>
    simp [State.fcount_eq, State.fget_hset, State.fget_fset, Ne.symm h1, Ne.symm h2, Ne.symm h3, Ne.symm h4, Ne.symm h5, Ne.symm h6, Ne.symm h7]

/-- An error record changes the register store, and the note of hardware's sets, alone. -/
theorem recordError_onlyRegs (s : State) (k : ErrKind) (m a : Nat) : OnlyRegs s (s.recordError k m a) := by
  have h1 : OnlyRegs s (s.fcount .FAB_ERRCNT_COUNT) := (OnlyRegs.refl s).fset _ _ _ _
  unfold State.recordError
  generalize s.fcount .FAB_ERRCNT_COUNT = t at h1
  cases k <;> dsimp only <;> split <;>
    first
    | exact (h1.hset _ _ _ _).hset _ _ _ _
    | exact ((h1.hset _ _ _ _).fset _ _ _ _).fset _ _ _ _

/-! ### Fabric accesses -/

/-- A fabric write that meets no error, waits for no earlier access, and is in a range and domain that admit it, reaches its target and
draws a good response. -/
theorem fabricWrite_local {s : State} {m a n v : Nat} (hm : Reaches s m a) (he : writeError m a n = none)
    (hr : regionOf a = .regs ∨ regionOf a = .sram ∨ regionOf a = .sdl)
    (hh : sramhiOff s a = false) (hw : ¬(a = resumeAddr ∧ m = 4)) :
    fabricWrite s m a n v = (targetWrite s m a n v).respond m 0 := by
  have hl : localWrite s m a n v = (false, targetWrite s m a n v) := by
    have hk : mramWaits s a true = false := by rcases hr with h | h | h <;> simp [mramWaits, h]
    have hs : ¬(regionOf a = .saddle ∧ m < 5) := by rintro ⟨c, -⟩; rcases hr with h | h | h <;> rw [h] at c <;> cases c
    simp only [localWrite, hm.2.2, hk, Bool.or_self, Bool.false_eq_true, if_false, hs, hh, hm.2.1, if_true]
  have ha : accessWrite s m a n v = (false, targetWrite s m a n v) := by
    unfold accessWrite
    rw [he]
    rcases hr with h | h | h <;> simp only [h, if_neg hw, hl]
  unfold fabricWrite
  rw [if_pos hm.1, ha]
  rfl

/-- Outside the high SRAM domain no access meets the range's error. -/
theorem sramhiOff_false {s : State} {a : Nat} (h : addrDomain a ≠ 19) : sramhiOff s a = false := by
  simp [sramhiOff, h]

/-- A fabric write of a register that the master reaches (R14, R24, R404): its domain may become DIRTY, the register takes the write,
the response is good. -/
theorem fabricWrite_reg {s : State} {m a v : Nat} {d : RegDesc} {i j : Nat} (hm : Reaches s m a) (he : writeError m a 4 = none)
    (hr : regionOf a = .regs ∨ regionOf a = .sdl) (hh : addrDomain a ≠ 19) (hn : addrDomain a ≠ 18) (hw : ¬(a = resumeAddr ∧ m = 4))
    (hg : regAt a = some (d, i, j, 0)) (h32 : d.width ≤ 32) :
    fabricWrite s m a 4 v = (regLand (markDirty s m a) m d i j (v % 2 ^ 32)).respond m 0 := by
  rw [fabricWrite_local hm he (hr.elim Or.inl fun h => Or.inr (Or.inr h)) (sramhiOff_false hh) hw]
  unfold targetWrite
  have hx : noteAccess (markDirty s m a) a = markDirty s m a := if_neg (by simp [hh, hn])
  rw [hx]
  have ht : regsWrite (markDirty s m a) m a 4 v = regLand (markDirty s m a) m d i j (v % 2 ^ 32) := by
    unfold regsWrite
    rw [hg]
    simp only [show ¬(4 = 8) from by decide, if_false, Nat.not_lt.mpr h32]
  rcases hr with h | h <;> simp only [h, ht]

/-- A fabric write that meets an error is recorded and draws an error response; the exception it may raise is the core's (R24). -/
theorem fabricWrite_error {s : State} {m a n v : Nat} {k : ErrKind} (hm : masterActs s m = true) (he : writeError m a n = some k) :
    fabricWrite s m a n v = accessFault ((s.recordError k m a).respond m 0 true) m causeStoreFault a := by
  unfold fabricWrite accessWrite
  rw [if_pos hm, he]
  rfl

/-- No access fault is raised for a master that is no core. -/
theorem accessFault_other {s : State} {m cause a : Nat} (h : 5 ≤ m) : accessFault s m cause a = s := by
  unfold accessFault
  dsimp only
  rw [if_neg (by omega)]

end Sys2Proof.Machine
end

