-- ==== Sys2Proof/Laws/Step.lean ====
section
/-! SUPPORT. One step, by what the queue holds. -/

namespace Sys2Proof.Machine

/-- With no command waiting a step is a tick (log entry 6). -/
theorem step_nil {s : State} (h : s.pending = []) : step s = .next (tick s) := by
  unfold step; rw [h]

/-- With a command in front a step is the command's execution with the queue's rest. -/
theorem step_front {s : State} {c : Instr} {rest : List Instr} (h : s.pending = c :: rest) :
    step s = exec c { s with pending := rest } := by
  unfold step; rw [h]

end Sys2Proof.Machine
end

