-- ==== Sys2Proof/Tests/Base.lean ====
section
/-! SUPPORT. Small states for the tests. -/

namespace Sys2Proof.Tests
open Sys2Proof.Machine

/-- The machine after reset. -/
abbrev s0 : State := State.reset

/-- After reset, with 5,000 ticks of time behind it. -/
def sNow : State := { s0 with now := 5000, ltc := 5000 }

/-- Channel 23 enabled in Team 7, which runs; its count is `c` of the length `len`. -/
def sChan (c len : Nat) : State :=
  let s := (((sNow.fset .PWM_CH_CFG_EN 1 23).fset .PWM_CH_CFG_TEAM 7 23).fset .PWM_TEAMRUN_RUN 128).fset .PWM_CH_STAT_RUN 1 23
  s.setChan 23 { s.chanAt 23 with cnt := c, len := len, live := true }

/-- Lane 31 executes the word `w` at address 0. -/
def sLane (w : Nat) : State :=
  let s := ((sNow.fset .LANE_CTRL_EN 1 31).fset .LANE_STAT_STATE laneRunning 31).fset .LANE_PMEM_INSTR w 31 0
  s.setLane 31 { s.laneAt 31 with active := true }

/-- A lane instruction with its fields. -/
def ins (mn : LaneMn) (rd rs1 rs2 rs3 imm : Nat) : LaneWord := ⟨(laneRow mn).op, rd, rs1, rs2, rs3, imm⟩

/-- Lane 31 executes the instruction `f` at address 0. -/
def sOp (f : LaneWord) : State := sLane (laneJoin f)

/-- A running channel 23 whose low output is demanded, its complement off since 4,900. -/
def sTurn : State :=
  let s := ((sChan 5 8).fset .PWM_DRIVE_DRV 1).fset .TTH_STAT_OWNED 1
  let c := s.chanAt 23
  s.setChan 23 { c with outL := { c.outL with dem := some 639999 }, outH := { c.outH with offAt := some 620000 } }

/-- Pair 11 of feed 1, enabled, with its feed locked and carrying the load, its angle at 100. -/
def sGate : State :=
  let s := ((((sNow.fset .LAE_CTRL_ENB 1).fset .LAE_FEED_STAT_LOCK 1 1).fset .LAE_XSTAT_NONE 0).fset .LAE_XSTAT_ACTIVE 1).fset
    .LAE_PAIR_CFG_EN 1 11
  let t := (s.fset .LAE_PAIR_CFG_FEED 1 11).fset .LAE_PAIR_PULSE_TON 5 11
  (t.setFeed 1 { t.feedAt 1 with pub := 100 }).setPair 11 { t.pairAt 11 with eff := some 100 }

/-- The management core runs at the address 0x100, with its register 31 at the last granule of SRAM. -/
def sCore : State :=
  let s := sNow.fset .FAB_CORE_CTRL_RST 0 4
  s.setCore 4 ({ s.coreAt 4 with phase := .running, pc := 0x100 }.setX 31 0x103FFFF8)

/-- Role `r`, with Tether trained. -/
def sRole (r : Nat) : State := (sNow.fset .TTH_STAT_TETHER 1).fset .TTH_STAT_ROLE r

/-- The pair's hidden state replaced. -/
def tw (s : State) (f : Twin → Twin) : State := { s with twin := f s.twin }

/-- The power manager's hidden state replaced. -/
def pw (s : State) (f : Power → Power) : State := { s with pw := f s.pw }

/-- A smallest image (R423 to R425): an empty LIVE START section, signed with the private key 2 and the nonce 1. -/
def image : List Nat := beBytes 240
  0x544c5a4e01006009f0000000000000000000010000000000000000000000000000000000000000000000000000000000000000000000000000000000000000007cf27b188d034f7e8a52380304b51ac3c08969e277f21b35a60b48fc4766997807775510db8ed040293d9ac69f7430dbba7dade63ce982299e04b79d227873d16b17d1f2e12c4247f8bce6e563a440f277037d812deb33a0f4a13945d898c296f8dbfb03d3f31029d179525dadce7b9bafef5d3a1923f8a4d782a7aa85b3beee03010000f00000000000000000000000e3b0c44298fc1c149afbf4c8996fb92427ae41e4649b934ca495991b7852b855

/-- The SHA-256 of the public key of `image`. -/
def imageKey : List Nat := beBytes 32 0xd07aeb134840b15242e12d4a06ce3ab493cbd020ebc3bd5aaecd822f51e0c3d8

/-- The cells of bytes from an address on. -/
def cells (a : Nat) (b : List Nat) : List Host.Cell := (b.zipIdx.filter (·.1 != 0)).map fun e => (a + e.2, e.1)

/-- `image` in slot `n` with the slot's STATE, and its key record 0 with its state. -/
def sImg (n slot key : Nat) (s : State) : State :=
  { s with mem := cells 0x30001000 imageKey ++ cells 0x30001020 [key] ++ cells (slotBase n) [slot] ++ cells (imgBase n) image }

/-- Slot `n` with the STATE `st` holds an unsigned image of `len` bytes whose START section sets PWM_DRIVE.DRV. -/
def sDrv (n st len : Nat) (s : State) : State :=
  let b := imgBase n
  ((((s.storeBytes (slotBase n) [st]).storeBytes (b + 8) [len]).storeBytes (b + 18) [1]).storeBytes (b + 192)
    ([3, 1, 0, 0] ++ leBytes 4 240 ++ leBytes 4 8)).storeBytes (b + 240) (leBytes 4 (regAddr .PWM_DRIVE) ++ [1, 0, 0, 0])

/-- Port `p`'s hidden state replaced. -/
def fp (s : State) (p : Nat) (f : FyzPort → FyzPort) : State := s.setFport p (f (s.fport p))

/-- The ports enabled, the management core up, an image applied. -/
def sHost : State :=
  let s := (List.range 5).foldl (fun t p => t.fset .FYZ_PORT_CFG_EN 1 p) sCore
  { s with img := { s.img with applied := true } }

/-- A request at port 4 with the payload `b`, its MAC accepted. -/
def rq (op : Nat) (b : List Nat) : FyzReq :=
  ⟨4, packetOf op 7 4 (b ++ List.replicate 20 0), 5000, some (List.replicate 32 1, 1)⟩

/-- The same without a MAC. -/
def rqs (op : Nat) (b : List Nat) : FyzReq := ⟨4, packetOf op 7 0 b, 5000, none⟩

/-- A request packet whose CTR is `ctr` and whose TAG is made with `key`. -/
def macPkt (key : List Nat) (op ctr : Nat) (b : List Nat) : List Nat :=
  let len := b.length + 20
  packetOf op 7 4 (b ++ leBytes 4 ctr ++ tagOf key ctr [0xC5, 0x01, op, 7, len % 256, len / 256, 4] b)

/-- The ROM's queue holds `r`, and its port has a session with its key. -/
def rom (r : FyzReq) : State :=
  let s := fp sHost 4 fun x => { x with session := some ⟨List.replicate 32 1, 9, 1, 5000, 0⟩ }
  { s with fyz := { s.fyz with reqs := [r] } }

/-- The safety state machine's queue holds `r`, which carries no MAC. -/
def safe (r : FyzReq) : State := { sHost with fyz := { sHost.fyz with safe := [r] } }

/-- The PMBus responder enabled, its hidden state replaced. -/
def pmb (f : Pmbus → Pmbus) : State :=
  let s := sHost.fset .FYZ_PMB_CFG_EN 1
  { s with fyz := { s.fyz with pmb := f s.fyz.pmb } }

/-- An image from the partner has been received into slot 1, whose image is spoilt, while that of slot 0 is applied. -/
def sBack : State :=
  let s := tw (sNow.fset .TTH_STAT_ROLE 4) fun w => { w with join := 1, imgGot := [(0, 240)] }
  ((sImg 0 4 1 { s with img := { s.img with applied := true } }).storeBytes (slotBase 1) [1]).storeBytes (imgBase 1 + 8) [240]

end Sys2Proof.Tests
end

