-- ==== Sys2Proof/WellFormed.lean ====
section
/-! DEFINITION. Commands whose operands are in the ranges that the spec gives them. -/

namespace Sys2Proof

/-- A value of at most `n` bits. -/
def fits (n v : Nat) : Bool := decide (v < 2 ^ n)

/-- A list of bytes. -/
def bytesOk (l : List Nat) : Bool := l.all (fits 8)

/-- A width of an access in bits (R23, R24). -/
def widthGiven (w : Nat) : Bool := [8, 16, 32, 64].contains w

/-- A command is well formed: its values have their widths, its bytes are bytes, a slot's address is a slot's. -/
def Instr.wellFormed (i : Instr) : Bool :=
  match i with
  | .registerWrite _ addr width value => fits 32 addr && widthGiven width && fits width value
  | .readClear _ addr width => fits 32 addr && widthGiven width
  | .slotLowWrite _ addr value => fits 32 addr && addr % 8 == 0 && fits 32 value
  | .slotHighWrite _ addr value => fits 32 addr && addr % 8 == 0 && fits 32 value
  | .slotLowRead _ addr => fits 32 addr && addr % 8 == 0
  | .slotHighRead _ addr => fits 32 addr && addr % 8 == 0
  | .partnerRead _ x width => fits 31 x && widthGiven width
  | .partnerAccessTimeout _ => true
  | .dmaStart _ _ value => fits 32 value
  | .dmaAccessDone _ => true
  | .dmaDisable _ _ value => fits 32 value
  | .saddleDecision _ upsets => upsets.all fun e => e.1 % 8 == 0
  | .eccWriteback _ => true
  | .sarHoldEdge _ code _ => fits 16 code
  | .resultPresent _ => true
  | .adcSlotW0Write _ _ value => fits 32 value
  | .adcSlotW1Write _ _ value => fits 32 value
  | .adcSlotactWrite _ _ _ value => fits 32 value
  | .swapReq _ => true
  | .bankCopy _ => true
  | .copyEnd => true
  | .converterDisable _ _ => true
  | .fastSample _ v => fits 18 v
  | .sdmOverrange _ _ => true
  | .meterSample _ v => fits 24 v
  | .meterPublish _ => true
  | .energyLowRead _ _ _ _ => true
  | .sdmDisable _ _ => true
  | .comparatorCrossing _ _ => true
  | .filterOutputChange _ => true
  | .cmpCfgWrite _ _ value => fits 32 value
  | .settleEnd _ => true
  | .cmpThrWrite _ _ value => fits 32 value
  | .latchSoftClear _ _ value => fits 32 value
  | .periodClearAttempt _ => true
  | .comparatorDisable _ _ value => fits 32 value
  | .tripPinEdge _ _ => true
  | .tripFilterChange _ => true
  | .pincfgWrite _ _ value => fits 32 value
  | .swtripWrite _ value => fits 32 value
  | .reinActive _ _ => true
  | .teamStart _ _ value => fits 32 value
  | .teamStop _ _ value => fits 32 value
  | .teamRestart _ _ value => fits 32 value
  | .channelEnable _ _ value => fits 32 value
  | .channelDisable _ _ value => fits 32 value
  | .pwmWrap _ => true
  | .refreshEnd _ => true
  | .compareMatch _ _ => true
  | .periodEvent _ => true
  | .deadtimeTurnOn _ _ => true
  | .preloadWrite _ _ _ value => fits 32 value
  | .loadAll _ value => fits 32 value
  | .forceWrite _ _ value => fits 32 value
  | .esclClear _ _ value => fits 32 value
  | .spireMeasurement _ stage => fits 9 stage
  | .calibrationGroupDone _ => true
  | .tableInstall _ => true
  | .spireLock _ => true
  | .spireFault _ => true
  | .spireFaultClear _ _ value => fits 32 value
  | .starvedTimeout _ => true
  | .activationEnqueue _ => true
  | .dispatch _ => true
  | .laneNop _ => true
  | .laneEnd _ => true
  | .laneMov _ => true
  | .laneLdi _ => true
  | .laneMovs _ => true
  | .laneAng _ => true
  | .laneAdd _ => true
  | .laneSub _ => true
  | .laneNeg _ => true
  | .laneAbs _ => true
  | .laneMul _ => true
  | .laneMadd _ => true
  | .laneMsub _ => true
  | .laneAsh _ => true
  | .laneMin _ => true
  | .laneMax _ => true
  | .laneClmp _ => true
  | .laneSlew _ => true
  | .laneAnd _ => true
  | .laneOr _ => true
  | .laneXor _ => true
  | .laneCmp _ => true
  | .laneAclr _ => true
  | .laneAld _ => true
  | .laneAmac _ => true
  | .laneAmsu _ => true
  | .laneArd _ => true
  | .laneClarke _ => true
  | .laneIclarke _ => true
  | .lanePark _ => true
  | .laneIpark _ => true
  | .laneSincos _ => true
  | .laneLd _ => true
  | .loadDataReturn _ => true
  | .laneSt _ => true
  | .laneDuty _ => true
  | .laneCommit _ => true
  | .dutyLanding _ => true
  | .laneEvt _ => true
  | .laneSend _ => true
  | .laneDbl _ => true
  | .laneBr _ => true
  | .laneCall _ => true
  | .laneRet _ => true
  | .illegalInstruction _ => true
  | .pcOverflow _ => true
  | .budgetExpiry _ => true
  | .disableBoundExpiry _ => true
  | .lregWrite _ _ _ value => fits 48 value
  | .laneApply _ _ => true
  | .applyExecute _ => true
  | .pmemWrite _ _ _ _ value => fits 32 value
  | .post _ _ value => fits 32 value
  | .laneEnable _ _ => true
  | .laneDisable _ _ => true
  | .laneFaultClear _ _ => true
  | .laeSample _ => true
  | .crossingTimeout _ => true
  | .angleEvent _ _ => true
  | .gateFire _ _ => true
  | .thirdPhaseFire _ => true
  | .pulseEnd _ _ => true
  | .picketPulse _ _ => true
  | .misfireTimeout _ _ => true
  | .windowClose _ _ => true
  | .currentZeroTimeout _ => true
  | .rampUpdate _ => true
  | .pairDisable _ _ value => fits 32 value
  | .sagEntry _ => true
  | .sagExit _ => true
  | .feedQualified _ => true
  | .transferRequest _ value => fits 32 value
  | .autoReturn => true
  | .transferZeros => true
  | .transferComplete => true
  | .transferDeadline => true
  | .timerStep _ => true
  | .timerEnable _ _ value => fits 32 value
  | .timerDisable _ _ value => fits 32 value
  | .timerGo _ value => fits 32 value
  | .timerHalt _ value => fits 32 value
  | .timerCntWrite _ _ value => fits 32 value
  | .timerPinWrite _ _ value => fits 32 value
  | .chainStagedWrite _ _ _ value => fits 32 value
  | .wideReadLow _ _ => true
  | .wideReadHigh _ _ => true
  | .harnessArrival => true
  | .softwareEvent _ value => fits 32 value
  | .nextRouteWrite _ _ value => fits 32 value
  | .routeApplyRequest _ value => fits 32 value
  | .routeApplyCancel _ value => fits 32 value
  | .coreInstruction _ word => fits 32 word
  | .coreLr _ _ _ => true
  | .coreSc _ _ _ _ => true
  | .coreAmo _ _ _ _ _ => true
  | .reservationExpiry _ => true
  | .coreFence _ => true
  | .coreFenceI _ => true
  | .coreIret _ => true
  | .exitReturn _ => true
  | .lockstepMismatch _ _ => true
  | .coreRelease _ _ => true
  | .coreReset _ _ => true
  | .doorbellRing _ value => fits 32 value
  | .partnerRing value => fits 32 value
  | .pendSet _ _ value => fits 32 value
  | .pendClr _ _ value => fits 32 value
  | .maskSet _ _ value => fits 32 value
  | .maskClr _ _ value => fits 32 value
  | .deliveryDecision => true
  | .handlerStart _ => true
  | .complete _ value => fits 32 value
  | .bankdataAccess _ write _ => fits 32 (write.getD 0)
  | .lockAcquire _ _ => true
  | .lockRelease _ _ => true
  | .lockBreak _ value => fits 32 value
  | .ownClaim => true
  | .ownershipGain => true
  | .ownRelease => true
  | .ownDeassert => true
  | .ownInChange _ _ => true
  | .keepaliveExpiry => true
  | .stateSend => true
  | .trainingStart => true
  | .trainingStepDone _ => true
  | .trainingTimeout => true
  | .laneLockLoss _ _ => true
  | .healthTimeout => true
  | .laneDisableDetach _ value => fits 32 value
  | .tetherRetrain _ value => fits 32 value
  | .healthTx => true
  | .healthRx body _ => bytesOk body
  | .stateRx body _ => bytesOk body
  | .ctrlDetachRx body => bytesOk body
  | .ctrlAttachRx body => bytesOk body
  | .ctrlHandoverRx body => bytesOk body
  | .pingRx body => bytesOk body
  | .pongRx body _ => bytesOk body
  | .rdreqRx body => bytesOk body
  | .rdrspRx body => bytesOk body
  | .bellRx body => bytesOk body
  | .bulkRx body => bytesOk body
  | .ackRx body => bytesOk body
  | .bulkRetransmit => true
  | .bridleCellTx => true
  | .bridleWordRx highs => highs.length == 16
  | .bridleEdgeTimeout => true
  | .discWindowEnd => true
  | .discErrorExpiry => true
  | .teamRealign _ => true
  | .prefseatWaitExpiry => true
  | .waitbExpiry => true
  | .snsEdge _ => true
  | .ownConflictTimeout => true
  | .detachWrite _ value => fits 32 value
  | .attachWrite _ value => fits 32 value
  | .handoverWrite _ value => fits 32 value
  | .handoverFilterExpiry => true
  | .suppliesValid => true
  | .supplyDrop _ _ => true
  | .pinReset _ => true
  | .deviceResetRelease _ => true
  | .watchdogKick _ value => fits 32 value
  | .watchdogExpiry => true
  | .budgetWrite _ _ value => fits 32 value
  | .holdWrite _ value => fits 32 value
  | .dirtyClear _ _ value => fits 32 value
  | .domainEntry _ => true
  | .domainWake _ => true
  | .domainOn _ => true
  | .pllLock cal => cal.length == 16
  | .imageBoot => true
  | .nonliveSectionsDone => true
  | .imageApplyInPlace => true
  | .mramWordProgrammed _ => true
  | .cupolaBurstStart _ => true
  | .sensorSample _ _ _ => true
  | .sensorStale _ => true
  | .graceExpiry _ => true
  | .enforcementEnd _ => true
  | .limitRampWrite => true
  | .shutdownRecord => true
  | .thermalExitWrite _ value => fits 32 value
  | .spiTransaction _ mosi => bytesOk mosi
  | .canFragment _ id data => fits 11 id && bytesOk data && decide (data.length ≤ 64)
  | .fragmentTimeout _ => true
  | .uartByte byte _ => fits 8 byte
  | .uartGapTimeout => true
  | .packetReceived _ => true
  | .mgmtDownTimeout _ => true
  | .hello => true
  | .openSession => true
  | .closeSession => true
  | .hkeySet => true
  | .hkeyRevoke => true
  | .imgKeySet => true
  | .imgKeyRevoke => true
  | .secverSet => true
  | .imgInfo => true
  | .imgBegin => true
  | .imgWrite => true
  | .imgEnd => true
  | .imgConfirm => true
  | .imgErase => true
  | .spSet => true
  | .spGet => true
  | .laeStat => true
  | .xferCmd => true
  | .pairAng => true
  | .pairEnCmd => true
  | .statusCmd => true
  | .meterCmd => true
  | .thermCmd => true
  | .noticeCfg => true
  | .budgetSet => true
  | .budgetGet => true
  | .holdCmd => true
  | .thermCfg => true
  | .thermExit => true
  | .shutRec => true
  | .releaseCmd => true
  | .pairStat => true
  | .handoverCmd => true
  | .detachCmd => true
  | .attachCmd => true
  | .logInfo => true
  | .logRead => true
  | .logClear => true
  | .estopCmd => true
  | .resumeCmd => true
  | .resumeWrite _ value => fits 32 value
  | .resetCmd => true
  | .hostResetDue => true
  | .peekCmd => true
  | .pokeCmd => true
  | .echoCmd => true
  | .debugEn => true
  | .sessionIdleExpiry _ => true
  | .lockoutExpiry _ => true
  | .pmbusSnapshot => true
  | .pmbPage x => bytesOk (x.write.getD [])
  | .pmbClearFaults x => bytesOk (x.write.getD [])
  | .pmbCapability x => bytesOk (x.write.getD [])
  | .pmbVoutMode x => bytesOk (x.write.getD [])
  | .pmbStatusByte x => bytesOk (x.write.getD [])
  | .pmbStatusWord x => bytesOk (x.write.getD [])
  | .pmbStatusIout x => bytesOk (x.write.getD [])
  | .pmbStatusInput x => bytesOk (x.write.getD [])
  | .pmbStatusTemperature x => bytesOk (x.write.getD [])
  | .pmbStatusCml x => bytesOk (x.write.getD [])
  | .pmbReadVin x => bytesOk (x.write.getD [])
  | .pmbReadIin x => bytesOk (x.write.getD [])
  | .pmbReadVout x => bytesOk (x.write.getD [])
  | .pmbReadIout x => bytesOk (x.write.getD [])
  | .pmbReadTemperature _ x => bytesOk (x.write.getD [])
  | .pmbReadFrequency x => bytesOk (x.write.getD [])
  | .pmbReadPout x => bytesOk (x.write.getD [])
  | .pmbReadPin x => bytesOk (x.write.getD [])
  | .pmbRevision x => bytesOk (x.write.getD [])
  | .pmbMfrId x => bytesOk (x.write.getD [])
  | .pmbMfrModel x => bytesOk (x.write.getD [])
  | .pmbMfrRevision x => bytesOk (x.write.getD [])
  | .pmbUnsupported code x => fits 8 code && bytesOk (x.write.getD [])
  | .alertResponse => true
  | .smbusTimeout => true
  | .jtagExtest _ => true
  | .jtagSample _ => true
  | .jtagIdcode => true
  | .jtagDebug => true
  | .jtagSysreset => true
  | .jtagBypass code => fits 5 code
  | .debugSessionEnd _ => true
  | .crossingComparatorEdge _ _ => true
  | .packetTransmitted _ => true
  | .canBusError _ tec rec => fits 9 tec && fits 9 rec
  | .busOffRecovery _ => true
  | .snapshotStale => true

end Sys2Proof
end

