-- ==== Sys2Proof/Tests/Slice0.lean ====
section
/-! SUPPORT. Tests: ill-formed commands are refused, lane instruction words written out from R209 to R211 decode, worked
examples of the spec; and for every statement a state and operands that meet its hypotheses. -/

namespace Sys2Proof.Tests
open Sys2Proof.Machine

set_option Elab.async false

/-! ### Well-formedness: an ill-formed term for each check -/

theorem test_wf_address : (Instr.registerWrite 4 (2 ^ 32) 32 0).wellFormed = false := by decide
theorem test_wf_width : (Instr.registerWrite 4 0 24 0).wellFormed = false := by decide
theorem test_wf_value : (Instr.registerWrite 4 0 8 256).wellFormed = false := by decide
theorem test_wf_slot_address : (Instr.slotLowWrite 4 0x40000004 0).wellFormed = false := by decide
theorem test_wf_partner_offset : (Instr.partnerRead 4 (2 ^ 31) 32).wellFormed = false := by decide
theorem test_wf_word : (Instr.dmaStart 4 0 (2 ^ 32)).wellFormed = false := by decide
theorem test_wf_upsets : (Instr.saddleDecision 0 [(4, true)]).wellFormed = false := by decide
theorem test_wf_code : (Instr.sarHoldEdge 0 65536 false).wellFormed = false := by decide
theorem test_wf_fast_sample : (Instr.fastSample 0 (2 ^ 18)).wellFormed = false := by decide
theorem test_wf_meter_sample : (Instr.meterSample 0 (2 ^ 24)).wellFormed = false := by decide
theorem test_wf_stage : (Instr.spireMeasurement 0 512).wellFormed = false := by decide
theorem test_wf_lane_value : (Instr.lregWrite 4 0 0 (2 ^ 48)).wellFormed = false := by decide
theorem test_wf_body : (Instr.ackRx [256]).wellFormed = false := by decide
theorem test_wf_bridle : (Instr.bridleWordRx [2 ^ 32]).wellFormed = false := by decide
theorem test_wf_calibration : (Instr.pllLock []).wellFormed = false := by decide
theorem test_wf_can_id : (Instr.canFragment 0 2048 []).wellFormed = false := by decide
theorem test_wf_can_length : (Instr.canFragment 0 0 (List.replicate 65 0)).wellFormed = false := by decide
theorem test_wf_uart : (Instr.uartByte 256 false).wellFormed = false := by decide
theorem test_wf_pmbus : (Instr.pmbPage ⟨some [256], none⟩).wellFormed = false := by decide
theorem test_wf_pmbus_code : (Instr.pmbUnsupported 256 ⟨none, none⟩).wellFormed = false := by decide
theorem test_wf_jtag : (Instr.jtagBypass 32).wellFormed = false := by decide
theorem test_wf_can_counter : (Instr.canBusError 0 512 0).wellFormed = false := by decide
theorem test_wf_good : (Instr.registerWrite 4 0x40260000 32 0xFFFFFFFF).wellFormed = true := by decide

/-! ### Lane instruction words (R209 to R211) -/

/-- The program of spec/06_control_lanes.md's worked example, as the manual prints its words. -/
theorem test_lane_program :
    [0x1120100000000000, 0x1510320400000000, 0x1A10418500000000, 0x1524220400000000, 0x1A24918500000000, 0x142891C000000000,
      0x5000A00000000040, 0x5100000000000001, 0x0100000000000000].map laneDecode =
    [some (.sub, ⟨0x11, 8, 1, 0, 0, 0⟩), some (.madd, ⟨0x15, 4, 3, 8, 4, 0⟩), some (.clmp, ⟨0x1A, 4, 4, 6, 5, 0⟩),
      some (.madd, ⟨0x15, 9, 2, 8, 4, 0⟩), some (.clmp, ⟨0x1A, 9, 9, 6, 5, 0⟩), some (.mul, ⟨0x14, 10, 9, 7, 0, 0⟩),
      some (.duty, ⟨0x50, 0, 10, 0, 0, 0x40⟩), some (.commit, ⟨0x51, 0, 0, 0, 0, 1⟩), some (.end_, ⟨0x01, 0, 0, 0, 0, 0⟩)] := by
  decide

/-- LDI of a high half into L63, MOVS 5, ANG 1, AMAC of A1, PARK, SINCOS: OP 63–56, RD 55–50, RS1 49–44, RS2 43–38, RS3 37–32. -/
theorem test_lane_words_a :
    [0x03FC0080DEADBEEF, 0x0404000000000005, 0x0508000000000001, 0x2200384000000008, 0x3210620000000000, 0x341CA00000000000].map
      laneDecode =
    [some (.ldi, ⟨0x03, 63, 0, 2, 0, 0xDEADBEEF⟩), some (.movs, ⟨0x04, 1, 0, 0, 0, 5⟩), some (.ang, ⟨0x05, 2, 0, 0, 0, 1⟩),
      some (.amac, ⟨0x22, 0, 3, 33, 0, 8⟩), some (.park, ⟨0x32, 4, 6, 8, 0, 0⟩), some (.sincos, ⟨0x34, 7, 10, 0, 0, 0⟩)] := by
  decide

/-- LD of eight words, ST, EVT, SEND, DBL, BR, CALL, RET. -/
theorem test_lane_words_b :
    [0x40A03007000103E8, 0x41200000000000FF, 0x5800000000000001, 0x590010000000021F, 0x5A00000000000007, 0x6000000A000001FF,
      0x6100000000000010, 0x6200000000000000].map laneDecode =
    [some (.ld, ⟨0x40, 40, 3, 0, 7, 0x103E8⟩), some (.st, ⟨0x41, 8, 0, 0, 0, 0xFF⟩), some (.evt, ⟨0x58, 0, 0, 0, 0, 1⟩),
      some (.send, ⟨0x59, 0, 1, 0, 0, 0x21F⟩), some (.dbl, ⟨0x5A, 0, 0, 0, 0, 7⟩), some (.br, ⟨0x60, 0, 0, 0, 10, 511⟩),
      some (.call, ⟨0x61, 0, 0, 0, 0, 16⟩), some (.ret, ⟨0x62, 0, 0, 0, 0, 0⟩)] := by
  decide

/-- Illegal words: an opcode with no row, a bit no row lists, a condition above 10, channel 24, a pair past L63 (R210). -/
theorem test_lane_illegal :
    [0x0600000000000000, 0x0100000000000001, 0x6000000B00000000, 0x5000000000000018, 0x34FC000000000000].map laneDecode =
      [none, none, none, none, none] := by
  decide

/-! ### Worked examples -/

/-- R8's encodings: −0.25 is 0xFFFF_C000_0000 and the least value is −32,768. -/
theorem test_s48 : sext 48 0xFFFFC0000000 = -(2 ^ 30) ∧ sext 48 0x800000000000 = -(32768 * 2 ^ 32) := by decide

/-- The slot entry of spec/02_sensing_converters.md: W0 0x3004_0003, W1 0x0001_2501, with scaling 4 declared. -/
theorem test_slot_fields :
    [w0Trig 0x30040003, w0Dly 0x30040003, w0Conv 0x30040003, w0Osr 0x30040003, w1Scale 0x12501, w1Lane 0x12501, w1Occ 0x12501] =
      [3, 0, 2, 0, 4, 5, 1] ∧
    w0En 0x30040003 = true ∧ w0Every 0x30040003 = true ∧ w1Deliv 0x12501 = true ∧
    slotInvalid 16 0x30040003 0x12501 = false ∧ slotInvalid 0 0x30040003 0x12501 = true := by decide

/-- Its operand: code 5,374 at 83.333 A/V is 24.6002 A. -/
theorem test_sar_operand :
    sarOperand (s0.fset .ADC_SCALE_GAIN_GAIN 0x5355555555 4) ⟨0, 0, 0x30040003, 0x12501, 0, 0, 0, 5374 * 2 ^ 24, 5374, false⟩ / 2 ^ 32
      = 24 ∧
    (sarOperand (s0.fset .ADC_SCALE_GAIN_GAIN 0x5355555555 4) ⟨0, 0, 0x30040003, 0x12501, 0, 0, 0, 5374 * 2 ^ 24, 5374, false⟩ %
      2 ^ 32) * 10000 / 2 ^ 32 = 6002 := by decide +kernel

/-- SUB of the worked program: 30.0 − 24.600 2 is 5.399 8 (in units of 2⁻³²). -/
theorem test_lane_sub :
    (match exec (.laneSub 31) ((sOp (ins .sub 8 1 0 0 0)).setLreg 31 1 0x1E00000000 |>.setLreg 31 0 0x1899A6B50B) with
      | .next t => t.lreg 31 8
      | .refused _ => 0) = 0x566594AF5 := by decide +kernel

/-- Core `c` executes. -/
def run (c : Nat) (s : State) : State := s.setCore c { s.coreAt c with phase := .running }

/-- The worked acquire of spec/10_cores_belfry.md: 0x203, then HELD 0x208. -/
theorem test_lock_acquire :
    (match exec (.lockAcquire 2 9) ((run 2 (run 3 s0)).fset .LCK_STAT_BROKEN 1 9) with
      | .next t => ((t.portAt 2).resp.map (·.data), match exec (.lockAcquire 3 9) t with
        | .next u => (u.portAt 3).resp.map (·.data)
        | .refused _ => none)
      | .refused _ => (none, none)) = (some 0x203, some 0x208) := by decide +kernel

/-- ... and once it is released, core 3 at level 5 receives 0x351. -/
theorem test_lock_level :
    (match exec (.lockAcquire 3 9) ((s0.setCore 3 { s0.coreAt 3 with level := 5, phase := .running }).fset .LCK_STAT_BROKEN 0 9) with
      | .next t => (t.portAt 3).resp.map (·.data)
      | .refused _ => none) = some 0x351 := by decide +kernel

/-- The worked ESTOP of spec/14_fyzal_host.md: the CRC-8 of its header is 0xA5. -/
theorem test_crc8 : crc8 0x07 0x00 [0xC5, 0x01, 0xF0, 0x12, 0x04, 0x00, 0x00] = 0xA5 := by decide +kernel

/-- The check values of the standards R448 and R416 name, for "123456789" and "abc". -/
theorem test_crc32c : crc32c [0x31, 0x32, 0x33, 0x34, 0x35, 0x36, 0x37, 0x38, 0x39] = 0xE3069283 := by decide +kernel
theorem test_sha256 : beNat (sha256 [0x61, 0x62, 0x63]) =
    0xba7816bf8f01cfea414140de5dae2223b00361a396177a9cb410ff61f20015ad := by decide +kernel

/-- The worked example of spec/12_power_startup.md: the states chosen for LANEGRP0, LANEGRP1, LANEGRP2, CORE2, CORE3, SRAMHI, MRAM
and SDM under its budgets. -/
def sBudgets : State :=
  let s := [(0, 40), (1, 0), (2, 5000), (3, 0), (4, 0), (5, 10), (6, 100), (7, 0)].foldl
    (fun t (e : Nat × Nat) => t.fset .PMG_BUDGET_US e.2 e.1) s0
  let s := [(6, 31), (7, 28), (9, 28), (3, 23), (4, 23), (19, 9), (18, 8)].foldl
    (fun t (e : Nat × Nat) => t.fset .PMG_DOMSTAT_OFFEXIT e.2 e.1) s
  let s := (s.fset .LANE_CTRL_EN 1 16).fset .SDM_CTRL_EN 1
  { s with img := { s.img with applied := true } }

theorem test_domain_choice : [6, 7, 8, 3, 4, 19, 18, 13].map (domTarget sBudgets) = [3, 3, 0, 2, 2, 3, 3, 0] := by decide +kernel

/-! ### What the witnesses need beside evaluation -/

/-- After reset every level is 0. -/
theorem levels_s0 : levelsOk s0 := by
  intro c
  have h : s0.coreAt c = {} := by
    unfold State.coreAt vget
    rw [show s0.core = Vector.replicate 5 {} from rfl, Vector.getElem?_replicate]
    split <;> rfl
  rw [h]
  refine ⟨by decide, by decide, by decide, fun l => ?_⟩
  unfold vget
  rw [show ({} : Core).linkLvl = Vector.replicate 16 0 from rfl, Vector.getElem?_replicate]
  split <;> decide

/-- The worked ESTOP on CAN FD: 17 bytes in a frame of 20 (R477); the 17th fragment of a packet of 1,036 bytes: FCNT 0, a frame of
32 bytes (R458). -/
theorem test_can_estop : canFrame [0xC5, 1, 0xF0, 0x12, 4, 0, 0, 0xA5, 0x5A, 0xA5, 3, 0xFC, 1, 2, 3, 4] 0 =
    [0xC0, 0xC5, 1, 0xF0, 0x12, 4, 0, 0, 0xA5, 0x5A, 0xA5, 3, 0xFC, 1, 2, 3, 4, 0, 0, 0] := by decide
theorem test_can_last : canFrame (List.replicate 1036 7) 16 = 0x40 :: List.replicate 28 7 ++ [0, 0, 0] := by decide +kernel

/-- An inequality whose terms vanish whatever the free real functions are. -/
theorem open_sum {x y z : Rat} (h : x = 0 ∧ y = 0 ∧ z = 0) (a b : Rat) : a * x - y ≤ z * b := by
  obtain ⟨rfl, rfl, rfl⟩ := h
  rw [Rat.mul_zero, Rat.zero_mul]
  decide +kernel

/-- What is absent meets any premise about what is there. -/
theorem none_imp {α : Type} {o : Option α} {x : α} {p : Prop} (h : o = none) (e : o = some x) : p := by
  rw [h] at e
  cases e

/-- An attempt on a slot succeeds when each of its steps does. -/
theorem tryImage_ok {s : State} {n : Nat} (h0 : headerReason s n = 0)
    (h1 : (((sections s n).filter (·.live)).foldl (takeSection n) ⟨0, s⟩).reason = 0)
    (h2 : imageConsistent (((sections s n).filter (·.live)).foldl (takeSection n) ⟨0, s⟩).st n = true)
    (h3 : loopFree (((sections s n).filter (·.live)).foldl (takeSection n) ⟨0, s⟩).st n = true)
    (h4 : (takeStart n (((sections s n).filter (·.live)).foldl (takeSection n) ⟨0, s⟩)).reason = 0) :
    (tryImage s n).reason = 0 := by
  simp only [tryImage, h0, h1, h2, h3]
  simpa using h4

/-- ... and then the attempt is one that succeeds. -/
theorem attempt_ok {s : State} {n : Nat} (h : (tryImage s n).reason = 0) : (attempt s n).1 = true := by
  simp [attempt, h]

/-- The state after the failed attempt on the spoilt slot of sBack. -/
def sBackTried : State := (attempt (applyStart sBack) (spareSlot sBack)).2

/-- From it the attempt on the old slot succeeds. -/
theorem sBackTried_applies : (tryImage sBackTried sBack.img.slot).reason = 0 :=
  tryImage_ok (by decide +kernel) (by decide +kernel)
    (by unfold imageConsistent cupolaOk classOk; generalize Config.gradeE = g; cases g <;> decide +kernel)
    (by decide +kernel) (by decide +kernel)

theorem back_applies : (attempt (attempt (applyStart sBack) (spareSlot sBack)).2 sBack.img.slot).1 = true :=
  attempt_ok sBackTried_applies

/-- The witnesses of IMAGE_BOOT and IMAGE_APPLY_IN_PLACE: an image whose attempt succeeds. -/
def sBoot : State := pw (sImg 0 4 1 sNow) fun p => { p with bootDue := true }
def sSecond : State := pw (sImg 1 4 1 sNow) fun p => { p with slotsLeft := some (false, [1]) }
def sInPlace : State := sImg 1 1 1 (tw (sNow.fset .TTH_STAT_ROLE 4) fun w => { w with join := 1, imgGot := [(0, 240)] })

theorem sBoot_applies : (tryImage (bootCleared sBoot) 0).reason = 0 :=
  tryImage_ok (by decide +kernel) (by decide +kernel)
    (by unfold imageConsistent cupolaOk classOk; generalize Config.gradeE = g; cases g <;> decide +kernel)
    (by decide +kernel) (by decide +kernel)

theorem sSecond_applies : (tryImage { sSecond with pw := { sSecond.pw with slotsLeft := none } } (1 : Fin 2)).reason = 0 :=
  tryImage_ok (by decide +kernel) (by decide +kernel)
    (by unfold imageConsistent cupolaOk classOk; generalize Config.gradeE = g; cases g <;> decide +kernel)
    (by decide +kernel) (by decide +kernel)

theorem sInPlace_applies : (tryImage (applyStart sInPlace) (spareSlot sInPlace)).reason = 0 :=
  tryImage_ok (by decide +kernel) (by decide +kernel)
    (by unfold imageConsistent cupolaOk classOk; generalize Config.gradeE = g; cases g <;> decide +kernel)
    (by decide +kernel) (by decide +kernel)


/-! ### A state and operands for the hypotheses of every clause of every statement -/

/-- The hypotheses of ResetAndIdle are met. -/
theorem witness_ResetAndIdle :
    (∃ (s : State), s.pending = [] ∧ s.pw.rst.isSome = true) :=
  ⟨{ s0 with pw := { s0.pw with rst := some 1 } }, by decide +kernel⟩

/-- The hypotheses of StepKeepsSound are met. -/
theorem witness_StepKeepsSound :
    (∃ (s : State) (t : State), Sound s ∧ step s = .next t) :=
  ⟨{ s0 with pending := [.coreFence 4] }, { s0 with pending := [] }, by unfold Sound; decide +kernel, rfl⟩

/-- The hypotheses of LaneCodec are met. -/
theorem witness_LaneCodec :
    (∃ (mn : LaneMn) (f : LaneWord), laneLegal mn f = true) ∧
    (∃ (w : Nat) (mn : LaneMn) (f : LaneWord), w < 2 ^ 64 ∧ laneDecode w = some (mn, f)) :=
  ⟨⟨.ard, ins .ard 63 0 0 0 0x3F0B, by decide +kernel⟩,
   ⟨0x24FC000000003F0B, .ard, ins .ard 63 0 0 0 0x3F0B, by decide +kernel⟩⟩

/-- The hypotheses of RegisterAccesses are met. -/
theorem witness_RegisterAccesses :
    (∃ (m : Fin 10) (n : Fin 2) (s : State), Reaches s m (regAddr .FAB_DMA_SRC n)) ∧
    (∃ (m : Fin 10) (s : State), Reaches s m (regAddr .SDL_ECCADDR) ∧ s.fget .SDL_ECCADDR_VALID = 1 ∧ s.setNow
      .SDL_ECCADDR_VALID 0 0 = 0) ∧
    (∃ (m : Fin 10) (a : Nat) (w : Nat) (s : State), w ∈ [1, 2, 4, 8] ∧ a % w = 0 ∧ 0x10000000 ≤ a ∧ a + w ≤ 0x10400000 ∧
      Reaches s m a) ∧
    (∃ (m : Fin 10) (a : Nat) (s : State), 5 ≤ m.val ∧ masterActs s m = true ∧ a < 2 ^ 32 ∧ regionOf a = .none ∧ s.flag
      .FAB_ERRSTAT_UNMAPPED = false ∧ s.flag .FAB_ERRSTAT_WIDTH = false ∧ s.flag .FAB_ERRSTAT_PARTNER = false) ∧
    (∃ (m : Fin 10) (s : State), (s.coreAt m).wait = none ∧ Reaches s m (regAddr .SDL_ECCCOR)) ∧
    (∃ (m : Fin 10) (i : Fin 32) (s : State), Reaches s m (regAddr .ADC_SCALE_GAIN i)) ∧
    (∃ (m : Fin 10) (i : Fin 32) (lo : Nat) (s : State), Reaches s m (regAddr .ADC_SCALE_GAIN i) ∧ (s.portAt m).wstage = some
      (regAddr .ADC_SCALE_GAIN i, lo) ∧ lo < 2 ^ 32) ∧
    (∃ (m : Fin 10) (i : Fin 32) (s : State), (s.coreAt m).wait = none ∧ Reaches s m (regAddr .ADC_SCALE_GAIN i)) ∧
    (∃ (m : Fin 10) (i : Fin 32) (u : Nat) (s : State), (s.coreAt m).wait = none ∧ Reaches s m (regAddr .ADC_SCALE_GAIN i) ∧
      (s.portAt m).rhold = some (regAddr .ADC_SCALE_GAIN i, u)) ∧
    (∃ (m : Fin 10) (w : Nat) (s : State), 5 ≤ m.val ∧ masterActs s m = true ∧ (w = 8 ∨ w = 16) ∧ s.flag .FAB_ERRSTAT_UNMAPPED
      = false ∧ s.flag .FAB_ERRSTAT_WIDTH = false ∧ s.flag .FAB_ERRSTAT_PARTNER = false) ∧
    (∃ (m : Fin 10) (s : State), Reaches s m (regAddr .SDL_ECCADDR) ∧ s.fget .SDL_ECCADDR_VALID = 1 ∧ s.setNow
      .SDL_ECCADDR_VALID 0 0 = 1) ∧
    (∃ (m : Fin 10) (i : Fin 32) (s : State), Reaches s m (regAddr .ADC_SCALE_GAIN i) ∧ (s.portAt m).wstage = none) ∧
    (∃ (m : Fin 10) (i : Fin 32) (s : State), (s.coreAt m).wait = none ∧ Reaches s m (regAddr .ADC_SCALE_GAIN i) ∧ (s.portAt
      m).rhold = none) ∧
    (∃ (m : Fin 5) (w : Fin 65536) (s : State), Reaches s m (saddleAddr w)) ∧
    (∃ (m : Fin 5) (w : Fin 65536) (lo : Nat) (s : State), Reaches s m (saddleAddr w) ∧ (s.portAt m).wstage = some (saddleAddr
      w, lo)) ∧
    (∃ (m : Fin 5) (w : Fin 65536) (s : State), Reaches s m (saddleAddr w) ∧ (s.portAt m).wstage = none) ∧
    (∃ (m : Fin 5) (w : Fin 65536) (s : State), Reaches s m (saddleAddr w)) ∧
    (∃ (m : Fin 5) (w : Fin 65536) (u : Nat) (s : State), (s.coreAt m).wait = none ∧ Reaches s m (saddleAddr w) ∧ (s.portAt
      m).rhold = some (saddleAddr w, u)) ∧
    (∃ (m : Fin 5) (w : Fin 65536) (s : State), Reaches s m (saddleAddr w) ∧ (s.portAt m).rhold = none) ∧
    (∃ (m : Fin 5) (a : Nat) (s : State), masterActs s m = true ∧ (s.coreAt m).phase = .running ∧ regionOf a = .none) :=
  ⟨⟨8, 1, State.reset, by unfold Reaches; decide +kernel⟩,
   ⟨8, s0.fset .SDL_ECCADDR_VALID 1, by unfold Reaches; decide +kernel⟩,
   ⟨8, 0x103FFFF8, 8, State.reset, by unfold Reaches; decide +kernel⟩,
   ⟨8, 0x7FFFFFFC, State.reset, by decide +kernel⟩,
   ⟨8, s0.fset .SDL_ECCCOR_COUNT 5, by unfold Reaches; decide +kernel⟩,
   ⟨8, 31, State.reset, by unfold Reaches; decide +kernel⟩,
   ⟨8, 31, 0xFFFFFFFF, s0.setPort 8 { s0.portAt 8 with wstage := some (regAddr .ADC_SCALE_GAIN 31, 0xFFFFFFFF) },
      by unfold Reaches; decide +kernel⟩,
   ⟨8, 31, s0.fset .ADC_SCALE_GAIN_GAIN 0x8765FEDCBA98 31, by unfold Reaches; decide +kernel⟩,
   ⟨8, 31, 0x8000, s0.setPort 8 { s0.portAt 8 with rhold := some (regAddr .ADC_SCALE_GAIN 31, 0x8000) },
      by unfold Reaches; decide +kernel⟩,
   ⟨8, 16, State.reset, by decide +kernel⟩,
   ⟨4, (sCore.fset .SDL_ECCADDR_VALID 1).hset .SDL_ECCADDR_VALID 1 0 0, by unfold Reaches; decide +kernel⟩,
   ⟨8, 31, State.reset, by unfold Reaches; decide +kernel⟩,
   ⟨8, 31, State.reset, by unfold Reaches; decide +kernel⟩,
   ⟨4, 65535, sCore, by unfold Reaches; decide +kernel⟩,
   ⟨4, 65535, 0xFFFFFFFF, sCore.setPort 4 { sCore.portAt 4 with wstage := some (0x2007FFF8, 0xFFFFFFFF) },
      by unfold Reaches; decide +kernel⟩,
   ⟨4, 65535, sCore, by unfold Reaches; decide +kernel⟩,
   ⟨4, 65535, sCore, by unfold Reaches; decide +kernel⟩,
   ⟨4, 65535, 0x8000, sCore.setPort 4 { sCore.portAt 4 with rhold := some (0x2007FFF8, 0x8000) },
      by unfold Reaches; decide +kernel⟩,
   ⟨4, 65535, sCore, by unfold Reaches; decide +kernel⟩,
   ⟨4, 0x103FFFFF + 1, sCore, by decide +kernel⟩⟩

/-- The hypotheses of PartnerWindowAndDma are met. -/
theorem witness_PartnerWindowAndDma :
    (∃ (m : Fin 10) (x : Nat) (s : State), masterActs s m = true ∧ linkUp s = false ∧ 0x10000000 ≤ x ∧ x + 4 ≤ 0x10400000 ∧ x %
      4 = 0) ∧
    (∃ (m : Fin 10) (x : Nat) (w : Nat) (s : State), (s.coreAt m).wait = none ∧ linkUp s = false ∧ vget s.partnerRd m = some
      (x, w) ∧ s.flag .FAB_ERRSTAT_UNMAPPED = false ∧ s.flag .FAB_ERRSTAT_WIDTH = false ∧ s.flag .FAB_ERRSTAT_PARTNER = false) ∧
    (∃ (m : Fin 10) (n : Fin 2) (v : Nat) (s : State), Reaches s m (regAddr .FAB_DMA_CTRL n) ∧ v < 2 ^ 32 ∧ s.flag
      .FAB_DMA_CTRL_BUSY n = false ∧ bit v 20 = true ∧ bit v 24 = true ∧ v % 65536 ≠ 0) ∧
    (∃ (m : Fin 10) (n : Fin 2) (v : Nat) (s : State), Reaches s m (regAddr .FAB_DMA_CTRL n) ∧ v < 2 ^ 32 ∧ s.flag
      .FAB_DMA_CTRL_BUSY n = true ∧ bit v 24 = false) ∧
    (∃ (n : Fin 2) (s : State), s.flag .FAB_DMA_CTRL_BUSY n = true ∧ (s.dmaAt n).arrived = true ∧ (s.dmaAt n).err = true) ∧
    (∃ (m : Fin 10) (x : Nat) (s : State), masterActs s m = true ∧ linkUp s = true ∧ 0x10000000 ≤ x ∧ x + 4 ≤ 0x10400000 ∧ x %
      4 = 0) ∧
    (∃ (m : Fin 10) (x : Nat) (u : Nat) (s : State), masterActs s m = true ∧ linkUp s = true ∧ (s.coreAt m).wait = none ∧ m.val
      ≠ 5 ∧ m.val ≠ 6 ∧ 0x20000000 ≤ x ∧ x < 0x20080000 ∧ x % 8 = 4 ∧ (s.portAt m).rhold = some (0x80000000 + x - 4, u)) ∧
    (∃ (n : Fin 2) (s : State), s.flag .FAB_DMA_CTRL_BUSY n = true ∧ (s.dmaAt n).arrived = true ∧ (s.dmaAt n).err = false ∧
      (s.dmaAt n).toRead = 0 ∧ (s.dmaAt n).buf = [] ∧ (s.dmaAt n).left = 0 ∧ (s.dmaAt n).stopping = false) ∧
    (∃ (n : Fin 2) (s : State), s.flag .FAB_DMA_CTRL_BUSY n = true ∧ (s.dmaAt n).arrived = true ∧ (s.dmaAt n).err = false ∧
      (s.dmaAt n).toRead = 0 ∧ (s.dmaAt n).buf = [] ∧ (s.dmaAt n).stopping = true) ∧
    (∃ (n : Fin 2) (s : State), s.flag .FAB_DMA_CTRL_BUSY n = true ∧ (s.dmaAt n).arrived = false ∧ (s.dmaAt n).parts = 0 ∧
      (s.dmaAt n).asked = false ∧ 2 ≤ (s.dmaAt n).toRead ∧ 0x10000000 ≤ (s.dmaAt n).src ∧ (s.dmaAt n).src + 8 ≤ 0x10400000 ∧
      (s.dmaAt n).src % 8 = 0 ∧ domOn s (addrDomain (s.dmaAt n).src) = true ∧ s.pw.held = [] ∧ s.upsetAt (s.dmaAt n).src ≠ some
      true) ∧
    (∃ (n : Fin 2) (v : Nat) (rest : List Nat) (s : State), s.flag .FAB_DMA_CTRL_BUSY n = true ∧ (s.dmaAt n).arrived = false ∧
      (s.dmaAt n).parts = 0 ∧ (s.dmaAt n).asked = false ∧ (s.dmaAt n).toRead = 0 ∧ (s.dmaAt n).buf = v :: rest ∧ rest ≠ [] ∧
      0x10000000 ≤ (s.dmaAt n).dst ∧ (s.dmaAt n).dst + 8 ≤ 0x10400000 ∧ (s.dmaAt n).dst % 8 = 0 ∧ domOn s (addrDomain (s.dmaAt
      n).dst) = true ∧ s.pw.held = []) :=
  ⟨⟨8, 0x103FFFFC, State.reset, by decide +kernel⟩,
   ⟨8, 0x103FFFFC, 4, { s0 with partnerRd := vput s0.partnerRd 8 (some (0x103FFFFC, 4)) }, by decide +kernel⟩,
   ⟨8, 1, 0x0117FFFF, (s0.fset .FAB_DMA_SRC_ADDR 0x2000000 1).fset .FAB_DMA_DST_ADDR 0x2000100 1,
      by unfold Reaches; decide +kernel⟩,
   ⟨8, 1, 0, (s0.fset .FAB_DMA_CTRL_BUSY 1 1).fset .FAB_DMA_CTRL_EN 1 1, by unfold Reaches; decide +kernel⟩,
   ⟨1, (s0.fset .FAB_DMA_CTRL_BUSY 1 1).setDma 1 { s0.dmaAt 1 with arrived := true, err := true }, by decide +kernel⟩,
   ⟨4, 0x103FFFFC, (sCore.fset .TTH_STAT_TETHER 1), by decide +kernel⟩,
   ⟨4, 0x2007FFFC, 0x8000, (fun t => t.setPort 4 { t.portAt 4 with rhold := some (0xA007FFF8, 0x8000) }) (sCore.fset
      .TTH_STAT_TETHER 1), by decide +kernel⟩,
   ⟨1, (sNow.fset .FAB_DMA_CTRL_BUSY 1 1).setDma 1 { sNow.dmaAt 1 with arrived := true }, by decide +kernel⟩,
   ⟨1, (sNow.fset .FAB_DMA_CTRL_BUSY 1 1).setDma 1 { sNow.dmaAt 1 with arrived := true, stopping := true, left := 3 },
      by decide +kernel⟩,
   ⟨1, (sNow.fset .FAB_DMA_CTRL_BUSY 1 1).setDma 1 { sNow.dmaAt 1 with src := 0x103FFFF8, toRead := 2 }, by decide +kernel⟩,
   ⟨1, 2 ^ 64 - 1, [5], (sNow.fset .FAB_DMA_CTRL_BUSY 1 1).setDma 1
      { sNow.dmaAt 1 with dst := 0x103FFFF8, buf := [2 ^ 64 - 1, 5] }, by decide +kernel⟩⟩

/-- The hypotheses of SaddleStore are met. -/
theorem witness_SaddleStore :
    (∃ (b : Fin 4) (r : SdlReq) (s : State), s.pw.rst = none ∧ decisionEdge s b = true ∧ (s.bankAt b).req = [r] ∧ r.asserted =
      true ∧ r.who < 16 ∧ ((∀ k : Fin 4, r.who ∈ vget (s.bankAt b).rank k))) ∧
    (∃ (b : Fin 4) (w : Nat) (rest : List Nat) (s : State), (s.bankAt b).writeback = w :: rest ∧ (s.bankAt b).beatAt ≠ some
      s.laneEdge) ∧
    (∃ (b : Nat) (c : Nat) (w : Nat) (v : Nat) (r : SdlReq) (s : State), (s.bankAt b).cur = some r ∧ (s.bankAt b).done = 0 ∧
      r.beats = 1 ∧ r.word = w ∧ r.data = [v] ∧ r.use = .coreWrite c ∧ b < 4 ∧ w / 16384 = b ∧ v < 2 ^ 48 ∧ c < 10 ∧ (s.portAt
      c).reading = false) ∧
    (∃ (b : Fin 4) (s : State), decisionEdge s b = false) ∧
    (∃ (b : Fin 4) (s : State), (s.bankAt b).beatAt = some s.laneEdge) :=
  ⟨⟨3, ⟨12, 0, 65535, 1, true, [0xFFFFFFFFFFFF], .coreWrite 4, 0, false, false, true⟩, sNow.setBank 3
      { sNow.bankAt 3 with req := [⟨12, 0, 65535, 1, true, [0xFFFFFFFFFFFF], .coreWrite 4, 0, false, false, true⟩] },
      by decide +kernel⟩,
   ⟨3, 65535, [49152],
      { sNow.setBank 3 { sNow.bankAt 3 with writeback := [65535, 49152] } with upsets := [(saddleAddr 65535, false)] },
      by decide +kernel⟩,
   ⟨3, 9, 65535, 2 ^ 48 - 1, ⟨12, 0, 65535, 1, true, [2 ^ 48 - 1], .coreWrite 9, 0, false, false, true⟩, sNow.setBank 3
      { sNow.bankAt 3 with cur := some ⟨12, 0, 65535, 1, true, [2 ^ 48 - 1], .coreWrite 9, 0, false, false, true⟩ },
      by decide +kernel⟩,
   ⟨3, sNow.setBank 3
      { sNow.bankAt 3 with cur := some ⟨12, 0, 65535, 1, true, [2 ^ 48 - 1], .coreWrite 4, 0, false, false, true⟩ },
      by decide +kernel⟩,
   ⟨3, sNow.setBank 3 { sNow.bankAt 3 with beatAt := some sNow.laneEdge, writeback := [65535] }, by decide +kernel⟩⟩

/-- The hypotheses of SarConverters are met. -/
theorem witness_SarConverters :
    (∃ (c : Fin 16) (v : SarVisit) (s : State), (s.sarAt c).visit = some v ∧ v.holdAt ≤ s.now ∧ v.left = 1) ∧
    (∃ (c : Fin 16) (v : SarVisit) (s : State), (s.sarAt c).visit = some v ∧ v.holdAt ≤ s.now ∧ 1 < v.left) ∧
    (∃ (c : Fin 16) (r : SarResult) (rest : List SarResult) (s : State), (s.sarAt c).results = r :: rest ∧ r.readyAt ≤ s.now ∧
      w1Deliv r.visit.w1 = false ∧ (w0Input r.visit.w0 < 5 ∨ s.flag .ADC_CAL_AUTOCAL c = false)) ∧
    (∃ (c : Fin 16) (r : SarResult) (rest : List SarResult) (s : State), (s.sarAt c).results = r :: rest ∧ r.readyAt ≤ s.now ∧
      w1Deliv r.visit.w1 = true) ∧
    (∃ (c : Fin 16) (r : SarResult) (rest : List SarResult) (s : State), (s.sarAt c).results = r :: rest ∧ r.readyAt ≤ s.now ∧
      w1Deliv r.visit.w1 = false) :=
  ⟨⟨15, ⟨95, 0, 0, 0, 0, 5000, 1, 0, 0, false⟩, sNow.setSar 15
      { sNow.sarAt 15 with visit := some ⟨95, 0, 0, 0, 0, 5000, 1, 0, 0, false⟩ }, by decide +kernel⟩,
   ⟨15, ⟨95, 0, 0, 0, 0, 5000, 256, 0, 0, false⟩, sNow.setSar 15
      { sNow.sarAt 15 with visit := some ⟨95, 0, 0, 0, 0, 5000, 256, 0, 0, false⟩ }, by decide +kernel⟩,
   ⟨15, ⟨⟨95, 0, 4 * 2 ^ 21, 0, 0, 0, 0, 0, 65535, true⟩, 5000⟩, [], sNow.setSar 15
      { sNow.sarAt 15 with results := [⟨⟨95, 0, 4 * 2 ^ 21, 0, 0, 0, 0, 0, 65535, true⟩, 5000⟩] }, by decide +kernel⟩,
   ⟨15, ⟨⟨95, 0, 4 * 2 ^ 21, 0x7FE000, 0, 0, 0, 0, 65535, true⟩, 5000⟩, [], sNow.setSar 15
      { sNow.sarAt 15 with results := [⟨⟨95, 0, 4 * 2 ^ 21, 0x7FE000, 0, 0, 0, 0, 65535, true⟩, 5000⟩] }, by decide +kernel⟩,
   ⟨15, ⟨⟨0, 0, 0, 0, 0, 0, 0, 5 * 2 ^ 24, 5, false⟩, 5000⟩, [], sNow.setSar 15
      { sNow.sarAt 15 with results := [⟨⟨0, 0, 0, 0, 0, 0, 0, 5 * 2 ^ 24, 5, false⟩, 5000⟩] }, by decide +kernel⟩⟩

/-- The hypotheses of SlotTable are met. -/
theorem witness_SlotTable :
    (∃ (m : Fin 10) (e : Fin 96) (s : State), Reaches s m (regAddr .ADC_SLOT_W0 e) ∧ s.flag .ADC_BANK_COPYBUSY = false) ∧
    (∃ (m : Fin 10) (e : Fin 96) (w : Nat) (s : State), Reaches s m (regAddr .ADC_SLOT_W1 e) ∧ m.val ≠ 7 ∧ s.flag
      .ADC_BANK_COPYBUSY = false ∧ s.fget .ADC_BANK_ACTIVE ≤ 1 ∧ w = stagedOr (s.portAt m).slotW0 e (slotW0 s e (inactiveBank
      s))) ∧
    (∃ (m : Fin 10) (e : Fin 96) (s : State), Reaches s m (regAddr .ADC_SLOT_W1 e) ∧ s.flag .ADC_BANK_COPYBUSY = true) ∧
    (∃ (m : Fin 10) (e : Fin 96) (w1 : Bool) (s : State), Reaches s m (regAddr (if w1 then .ADC_SLOTACT_W1 else
      .ADC_SLOTACT_W0) e) ∧ actWritable s = false) ∧
    (∃ (m : Fin 10) (e : Fin 96) (v : Nat) (s : State), Reaches s m (regAddr .ADC_SLOTACT_W1 e) ∧ actWritable s = true ∧
      slotInvalid s.scaleDecl (stagedOr (s.portAt m).slotActW0 e (slotW0 s e (activeBank s))) (v % 2 ^ 32) = false) ∧
    (∃ (m : Fin 10) (s : State), Reaches s m (regAddr .ADC_BANK)) ∧
    (∃ (m : Fin 10) (s : State), Reaches s m (regAddr .ADC_BANK) ∧ s.flag .ADC_BANK_SWAPREQ = false ∧ s.flag .ADC_BANK_COPYBUSY
      = false) ∧
    (∃ (s : State), s.flag .ADC_BANK_COPYBUSY = true ∧ s.copyEnd ≤ s.now ∧ s.slotHeld = [] ∧ s.fget .ADC_BANK_ACTIVE ≤ 1 ∧
      Regs.wf s.regs = true) ∧
    (∃ (m : Fin 10) (e : Fin 96) (s : State), Reaches s m (regAddr .ADC_SLOT_W0 e) ∧ s.flag .ADC_BANK_COPYBUSY = true) ∧
    (∃ (m : Fin 10) (e : Fin 96) (s : State), Reaches s m (regAddr .ADC_SLOTACT_W0 e) ∧ actWritable s = true) ∧
    (∃ (m : Fin 10) (s : State), Reaches s m (regAddr .ADC_BANK) ∧ (s.flag .ADC_BANK_SWAPREQ = true ∨ s.flag .ADC_BANK_COPYBUSY
      = true)) ∧
    (∃ (m : Fin 10) (e : Fin 96) (v : Nat) (s : State), s.flag .ADC_BANK_COPYBUSY = true ∧ s.copyEnd ≤ s.now ∧ s.slotHeld =
      [⟨m, e, true, v⟩] ∧ (s.portAt m).slotW0 = none ∧ s.fget .ADC_BANK_ACTIVE ≤ 1 ∧ Regs.wf s.regs = true) ∧
    (∃ (s : State), s.flag .ADC_BANK_SWAPREQ = true ∧ s.flag .ADC_BANK_COPYBUSY = false ∧ s.fget .ADC_BANK_ACTIVE ≤ 1) :=
  ⟨⟨8, 95, State.reset, by unfold Reaches; decide +kernel⟩,
   ⟨8, 95, 207, s0.setPort 8 { s0.portAt 8 with slotW0 := some (95, 207) }, by unfold Reaches; decide +kernel⟩,
   ⟨8, 95, s0.fset .ADC_BANK_COPYBUSY 1, by unfold Reaches; decide +kernel⟩,
   ⟨8, 95, true, State.reset, by unfold Reaches; decide +kernel⟩,
   ⟨8, 95, 0x7C000, { s0.fset .ADC_BANK_ACTWR 1 with fyz := { s0.fyz with jtag := { s0.fyz.jtag with debug := true } } },
      by unfold Reaches; decide +kernel⟩,
   ⟨8, State.reset, by unfold Reaches; decide +kernel⟩,
   ⟨8, State.reset, by unfold Reaches; decide +kernel⟩,
   ⟨{ sNow.fset .ADC_BANK_COPYBUSY 1 with copyEnd := 5000 }, by decide +kernel⟩,
   ⟨8, 95, s0.fset .ADC_BANK_COPYBUSY 1, by unfold Reaches; decide +kernel⟩,
   ⟨8, 95, { s0.fset .ADC_BANK_ACTWR 1 with fyz := { s0.fyz with jtag := { s0.fyz.jtag with debug := true } } },
      by unfold Reaches; decide +kernel⟩,
   ⟨8, s0.fset .ADC_BANK_COPYBUSY 1, by unfold Reaches; decide +kernel⟩,
   ⟨8, 95, 0x07800000, { sNow.fset .ADC_BANK_COPYBUSY 1 with copyEnd := 5000, slotHeld := [⟨8, 95, true, 0x07800000⟩] },
      by decide +kernel⟩,
   ⟨s0.fset .ADC_BANK_SWAPREQ 1, by decide +kernel⟩⟩

/-- The hypotheses of SigmaDelta are met. -/
theorem witness_SigmaDelta :
    (∃ (m : Fin 12) (v : Nat) (s : State), s.fbit .SDM_CTRL_EN m = true ∧ vget s.sdmOver m = false ∧ v < 2 ^ 18) ∧
    (∃ (m : Fin 12) (s : State), s.fbit .SDM_CTRL_EN m = true ∧ vget s.sdmOver m = true) ∧
    (∃ (m : Fin 12) (s : State), s.fbit .SDM_CTRL_EN m = false) ∧
    (∃ (s : State), s.clockOn 13 = true) ∧
    (∃ (m : Fin 12) (s : State), s.flag .SDM_CTRL_MET_EN = true ∧ s.fbit .SDM_CTRL_EN m = true ∧ ((∀ e ∈ (vget s.meter
      m).head?, e.1 + meterPeriod ≤ s.now))) ∧
    (∃ (f : Fin 2) (s : State), s.flag .SDM_CTRL_MET_EN = true ∧ windowOver s f = true) ∧
    (∃ (m : Fin 10) (f : Fin 2) (p : Fin 3) (x : Bool) (s : State), (s.coreAt m).wait = none ∧ Reaches s m (energyAddr f p x)) ∧
    (∃ (m : Fin 10) (c : Fin 16) (s : State), Reaches s m (regAddr .ADC_CTRL) ∧ s.fbit .ADC_CTRL_EN c = true) ∧
    (∃ (m : Fin 10) (n : Fin 12) (s : State), Reaches s m (regAddr .SDM_CTRL) ∧ s.fbit .SDM_CTRL_EN n = true ∧ Regs.wf s.regs =
      true) ∧
    (∃ (m : Fin 12) (s : State), s.fbit .SDM_CTRL_EN m = false) ∧
    (∃ (f : Fin 2) (s : State), s.flag .SDM_CTRL_MET_EN = true ∧ windowOver s f = true ∧ s.flag .LAE_FEED_STAT_LOCK f = false) :=
  ⟨⟨11, 0x3FFFF, s0.fset .SDM_CTRL_EN 0x800, by decide +kernel⟩,
   ⟨11, { s0.fset .SDM_CTRL_EN 0x800 with sdmOver := vput s0.sdmOver 11 true }, by decide +kernel⟩,
   ⟨11, State.reset, by decide +kernel⟩,
   ⟨State.reset, by decide +kernel⟩,
   ⟨11, (s0.fset .SDM_CTRL_EN 0x800).fset .SDM_CTRL_MET_EN 1, by decide +kernel⟩,
   ⟨1,
      { (s0.fset .SDM_CTRL_EN 0xFFF).fset .SDM_CTRL_MET_EN 1 with meter := Vector.replicate 12 [(3, 1), (2, 2)], now := 1000000000 },
      by decide +kernel⟩,
   ⟨8, 1, 2, true, s0.fset .SDM_RES_EEXP_V 0x123456789ABC 1 2, by unfold Reaches; decide +kernel⟩,
   ⟨8, 15, (s0.fset .ADC_CTRL_EN 0xFFFF), by unfold Reaches; decide +kernel⟩,
   ⟨8, 11, (s0.fset .SDM_CTRL_EN 0xFFF), by unfold Reaches; decide +kernel⟩,
   ⟨11, State.reset, by decide +kernel⟩,
   ⟨1, { sNow.fset .SDM_CTRL_MET_EN 1 with now := 1000000000 }, by decide +kernel⟩⟩

/-- The hypotheses of ComparatorOutputs are met. -/
theorem witness_ComparatorOutputs :
    (∃ (k : Fin 48) (s : State), (s.flag .CMP_CFG_EN k = false ∨ s.flag .CMP_STAT_SETTLING k = true ∨ s.flag .CMP_CFG_INSRC k =
      true)) ∧
    (∃ (k : Fin 48) (s : State), s.flag .CMP_CFG_EN k = true ∧ s.flag .CMP_STAT_SETTLING k = false ∧ s.flag .CMP_CFG_INSRC k =
      false ∧ s.flag .CMP_CFG_BYP k = true) ∧
    (∃ (k : Fin 48) (s : State), s.flag .CMP_CFG_EN k = true ∧ s.flag .CMP_CFG_BYP k = false ∧ s.flag .CMP_STAT_SETTLING k =
      false) ∧
    (∃ (k : Fin 48) (s : State), s.flag .CMP_STAT_SETTLING k = true) ∧
    (∃ (k : Fin 48) (s : State), s.flag .CMP_CFG_EN k = true ∧ s.flag .CMP_STAT_SETTLING k = false ∧ s.flag .CMP_CFG_BYP k =
      false) ∧
    (∃ (k : Fin 48) (s : State), (s.flag .CMP_CFG_EN k = false ∨ s.flag .CMP_STAT_SETTLING k = true ∨ s.flag .CMP_CFG_INSRC k =
      false)) ∧
    (∃ (k : Fin 48) (s : State), s.flag .CMP_CFG_EN k = true ∧ s.flag .CMP_STAT_SETTLING k = false ∧ s.flag .CMP_CFG_INSRC k =
      true ∧ s.flag .CMP_CFG_BYP k = true) :=
  ⟨⟨47, State.reset, by decide +kernel⟩,
   ⟨47, (s0.fset .CMP_CFG_EN 1 47).fset .CMP_CFG_BYP 1 47, by decide +kernel⟩,
   ⟨47, ((s0.fset .CMP_CFG_EN 1 47).fset .CMP_CFG_BYP 0 47).setCmp 47 { s0.cmpAt 47 with hist := [true, true, true] },
      by decide +kernel⟩,
   ⟨47, (s0.fset .CMP_CFG_EN 1 47).fset .CMP_STAT_SETTLING 1 47, by decide +kernel⟩,
   ⟨47, s0.fset .CMP_CFG_EN 1 47 |>.fset .CMP_CFG_BYP 0 47, by decide +kernel⟩,
   ⟨47, State.reset, by decide +kernel⟩,
   ⟨47, (s0.fset .CMP_CFG_EN 1 47).fset .CMP_CFG_INSRC 1 47, by decide +kernel⟩⟩

/-- The hypotheses of ComparatorLatches are met. -/
theorem witness_ComparatorLatches :
    (∃ (m : Fin 10) (k : Fin 48) (v : Nat) (s : State), Reaches s m (regAddr .CMP_CFG k) ∧ s.flag .CMP_CFG_EN k = false ∧ bit v
      0 = true) ∧
    (∃ (m : Fin 10) (k : Fin 48) (v : Nat) (s : State), Reaches s m (regAddr .CMP_CFG k) ∧ bit v 0 = false) ∧
    (∃ (m : Fin 10) (k : Fin 48) (s : State), Reaches s m (regAddr .CMP_THR k) ∧ (s.flag .CMP_CFG_THRUPD k = false ∨ teamRuns s
      (s.fget .CMP_CFG_TEAM k) = false)) ∧
    (∃ (m : Fin 10) (k : Fin 48) (v : Nat) (s : State), Reaches s m (regAddr (if 32 ≤ k.val then .CMP_LATCHHI else
      .CMP_LATCHLO)) ∧ bit v (k.val % 32) = false) ∧
    (∃ (m : Fin 10) (k : Fin 48) (s : State), Reaches s m (regAddr (if 32 ≤ k.val then .CMP_LATCHHI else .CMP_LATCHLO)) ∧
      latchSetQ s k = true ∧ latchInput s k = true) ∧
    (∃ (m : Fin 10) (k : Fin 48) (s : State), Reaches s m (regAddr (if 32 ≤ k.val then .CMP_LATCHHI else .CMP_LATCHLO)) ∧
      latchSetQ s k = true ∧ latchInput s k = false ∧ (s.cmpAt k).inTick = false) ∧
    (∃ (k : Fin 48) (n : Nat) (s : State), leading s (s.fget .CMP_CFG_TEAM k) = some n ∧ s.flag .CMP_CFG_CLRM k = true ∧
      (s.chanAt n).cnt + 2 = (s.chanAt n).len ∧ latchSetQ s k = true ∧ latchInput s k = false ∧ (s.cmpAt k).inTick = false) ∧
    (∃ (m : Fin 10) (k : Fin 48) (v : Nat) (s : State), Reaches s m (regAddr .CMP_CFG k) ∧ s.flag .CMP_CFG_EN k = true ∧ bit v
      0 = true ∧ (bits v 1 2 ≠ s.fget .CMP_CFG_MODE k ∨ bit v 3 ≠ s.flag .CMP_CFG_INSRC k) ∧ bit v 8 = false ∧ filterValid v =
      true) ∧
    (∃ (m : Fin 10) (k : Fin 48) (s : State), Reaches s m (regAddr .CMP_THR k) ∧ s.flag .CMP_CFG_THRUPD k = true ∧ teamRuns s
      (s.fget .CMP_CFG_TEAM k) = true) ∧
    (∃ (k : Fin 48) (n : Nat) (s : State), leading s (s.fget .CMP_CFG_TEAM k) = some n ∧ s.flag .CMP_CFG_CLRM k = true ∧
      (s.chanAt n).cnt + 2 = (s.chanAt n).len ∧ latchSetQ s k = true ∧ latchInput s k = true) :=
  ⟨⟨8, 47, 0xFFFFFFFF, State.reset, by unfold Reaches; decide +kernel⟩,
   ⟨8, 47, 0xFFFE, (s0.fset .CMP_CFG_EN 1 47).fset .CMP_LATCHHI_LATCH 0xFFFF, by unfold Reaches; decide +kernel⟩,
   ⟨8, 47, State.reset, by unfold Reaches; decide +kernel⟩,
   ⟨8, 47, 0x7FFF, s0.fset .CMP_LATCHHI_LATCH 0xFFFF, by unfold Reaches; decide +kernel⟩,
   ⟨8, 47, (s0.fset .CMP_LATCHHI_LATCH 0x8000).fset .CMP_STAT_FILT 1 47, by unfold Reaches; decide +kernel⟩,
   ⟨8, 47, s0.fset .CMP_LATCHHI_LATCH 0x8000, by unfold Reaches; decide +kernel⟩,
   ⟨47, 23, (((sChan 6 8).fset .CMP_CFG_TEAM 7 47).fset .CMP_CFG_CLRM 1 47).fset .CMP_LATCHHI_LATCH 0x8000, by decide +kernel⟩,
   ⟨8, 47, 0x2203, s0.fset .CMP_CFG_EN 1 47, by unfold Reaches; decide +kernel⟩,
   ⟨8, 47, ((sChan 5 8).fset .CMP_CFG_THRUPD 1 47).fset .CMP_CFG_TEAM 7 47, by unfold Reaches; decide +kernel⟩,
   ⟨47, 23, (((((sChan 6 8).fset .CMP_CFG_EN 1 47).fset .CMP_CFG_CLRM 1 47).fset .CMP_CFG_TEAM 7 47).fset .CMP_LATCHHI_LATCH
      0x8000).fset .CMP_STAT_FILT 1 47, by decide +kernel⟩⟩

/-- The hypotheses of TripPinsAndReins are met. -/
theorem witness_TripPinsAndReins :
    (∃ (p : Fin 16) (s : State), s.fget .REIN_PINCFG_LEN p = 0 ∧ pinsLive s = true) ∧
    (∃ (p : Fin 16) (s : State), s.fget .REIN_PINCFG_LEN p ≠ 0 ∧ s.fget .REIN_PINCFG_LEN p ≤ (s.pinAt p).run) ∧
    (∃ (m : Fin 10) (p : Fin 16) (v : Nat) (s : State), Reaches s m (regAddr .REIN_PINCFG p) ∧ bits v 0 8 = 0 ∧ s.fget
      .REIN_PINCFG_LEN p ≠ 0) ∧
    (∃ (m : Fin 10) (v : Nat) (r : Fin 16) (s : State), Reaches s m (regAddr .REIN_SWTRIP) ∧ latches s = 0 ∧ s.fget
      .REIN_PINSTAT_STATE = 0 ∧ bit v r = false) ∧
    (∃ (r : Fin 16) (n : Fin 24) (s : State), reinLevel s r = true ∧ s.fbit .REIN_STAT_ACTIVE r = false ∧ s.fbit
      .PWM_CH_TRIPMASK_MASK r n = true ∧ s.flag .PWM_CH_STAT_CUT n = false) ∧
    (∃ (p : Fin 16) (s : State), s.fget .REIN_PINCFG_LEN p ≠ 0) ∧
    (∃ (m : Fin 10) (p : Fin 16) (v : Nat) (s : State), Reaches s m (regAddr .REIN_PINCFG p) ∧ bits v 0 8 ≠ 0 ∧ (bits v 0 8 ≠
      s.fget .REIN_PINCFG_LEN p ∨ bit v 8 ≠ s.flag .REIN_PINCFG_POL p)) ∧
    (∃ (m : Fin 10) (p : Fin 16) (v : Nat) (s : State), Reaches s m (regAddr .REIN_PINCFG p) ∧ bits v 0 8 = s.fget
      .REIN_PINCFG_LEN p ∧ bit v 8 = s.flag .REIN_PINCFG_POL p) ∧
    (∃ (m : Fin 10) (v : Nat) (r : Fin 16) (s : State), Reaches s m (regAddr .REIN_SWTRIP) ∧ bit v r = true) ∧
    (∃ (r : Fin 16) (s : State), reinLevel s r = true ∧ s.fbit .REIN_STAT_ACTIVE r = false ∧ s.fbit .REIN_DBELL_EN r = true) :=
  ⟨⟨15, State.reset, by decide +kernel⟩,
   ⟨15, (s0.fset .REIN_PINCFG_LEN 255 15).setPin 15 { s0.pinAt 15 with past2 := false, run := 255 }, by decide +kernel⟩,
   ⟨8, 15, 0x100, (s0.fset .REIN_PINCFG_LEN 255 15), by unfold Reaches; decide +kernel⟩,
   ⟨8, 0x7FFF, 15, s0.fset .REIN_STAT_ACTIVE 0xFFFF, by unfold Reaches; decide +kernel⟩,
   ⟨15, 23, (s0.fset .REIN_SWTRIP_FORCE 0x8000).fset .PWM_CH_TRIPMASK_MASK 0x8000 23, by decide +kernel⟩,
   ⟨15, s0.fset .REIN_PINCFG_LEN 255 15, by decide +kernel⟩,
   ⟨8, 15, 0x1FF, State.reset, by unfold Reaches; decide +kernel⟩,
   ⟨8, 15, 0, State.reset, by unfold Reaches; decide +kernel⟩,
   ⟨8, 0xFFFF, 15, State.reset, by unfold Reaches; decide +kernel⟩,
   ⟨15, (s0.fset .REIN_SWTRIP_FORCE 0x8000).fset .REIN_DBELL_EN 0x8000, by decide +kernel⟩⟩

/-- The hypotheses of TeamsAndChannels are met. -/
theorem witness_TeamsAndChannels :
    (∃ (m : Fin 10) (t : Fin 8) (v : Nat) (n : Fin 24) (s : State), Reaches s m (regAddr .PWM_TEAMRUN) ∧ bit v t = true ∧
      teamOn s t = false ∧ teamRuns s t = false ∧ chEn s n = true ∧ chTeam s n = t.val) ∧
    (∃ (m : Fin 10) (t : Fin 8) (v : Nat) (n : Fin 24) (s : State), Reaches s m (regAddr .PWM_TEAMRUN) ∧ bit v t = true ∧
      teamOn s t = false ∧ teamRuns s t = true ∧ chEn s n = true ∧ chTeam s n = t.val) ∧
    (∃ (m : Fin 10) (t : Fin 8) (v : Nat) (n : Fin 24) (s : State), Reaches s m (regAddr .PWM_TEAMRUN) ∧ bit v t = false ∧
      teamOn s t = true ∧ chRun s n = true ∧ chTeam s n = t.val) ∧
    (∃ (m : Fin 10) (n : Fin 24) (v : Nat) (s : State), Reaches s m (regAddr .PWM_CH_CFG n) ∧ bit v 0 = true ∧ bits v 4 2 < 2 ∧
      chEn s n = false ∧ teamOn s (bits v 1 3) = false) ∧
    (∃ (m : Fin 10) (n : Fin 24) (v : Nat) (s : State), Reaches s m (regAddr .PWM_CH_CFG n) ∧ bit v 0 = false ∧ chEn s n =
      true) ∧
    (∃ (s : State), Regs.wf s.regs = true) ∧
    (∃ (m : Fin 10) (n : Fin 24) (x : Fin 24) (v : Nat) (s : State), Reaches s m (regAddr .PWM_CH_CFG n) ∧ bit v 0 = true ∧
      bits v 4 2 < 2 ∧ chEn s n = false ∧ teamOn s (bits v 1 3) = true ∧ x ≠ n ∧ chEn s x = true ∧ chTeam s x = bits v 1 3 ∧
      chRun s x = true) ∧
    (∃ (m : Fin 10) (n : Fin 24) (v : Nat) (s : State), Reaches s m (regAddr .PWM_CH_CFG n) ∧ bit v 0 = true ∧ bits v 4 2 < 2 ∧
      chEn s n = false ∧ teamOn s (bits v 1 3) = true ∧ teamRuns s (bits v 1 3) = false) ∧
    (∃ (m : Fin 10) (n : Fin 24) (v : Nat) (s : State), Reaches s m (regAddr .PWM_CH_CFG n) ∧ bit v 0 = true ∧ (2 ≤ bits v 4 2
      ∨ chEn s n = true)) ∧
    (∃ (s : State), Regs.wf s.regs = true) :=
  ⟨⟨8, 7, 128, 23, (s0.fset .PWM_CH_CFG_EN 1 23).fset .PWM_CH_CFG_TEAM 7 23, by unfold Reaches; decide +kernel⟩,
   ⟨8, 7, 128, 23, (sChan 5 8).fset .PWM_TEAMRUN_RUN 0, by unfold Reaches; decide +kernel⟩,
   ⟨8, 7, 127, 23, sChan 5 8, by unfold Reaches; decide +kernel⟩,
   ⟨8, 23, 0x1F, State.reset, by unfold Reaches; decide +kernel⟩,
   ⟨8, 23, 0, sChan 5 8, by unfold Reaches; decide +kernel⟩,
   ⟨State.reset, by decide +kernel⟩,
   ⟨8, 23, 22, 0x0F, (((s0.fset .PWM_CH_CFG_EN 1 22).fset .PWM_CH_CFG_TEAM 7 22).fset .PWM_CH_STAT_RUN 1 22).fset
      .PWM_TEAMRUN_RUN 128, by unfold Reaches; decide +kernel⟩,
   ⟨8, 23, 0x0F, s0.fset .PWM_TEAMRUN_RUN 128, by unfold Reaches; decide +kernel⟩,
   ⟨8, 23, 0x31, State.reset, by unfold Reaches; decide +kernel⟩,
   ⟨State.reset, by decide +kernel⟩⟩

/-- The hypotheses of PwmPeriods are met. -/
theorem witness_PwmPeriods :
    (∃ (n : Fin 24) (s : State), chRun s n = true ∧ (s.chanAt n).len ≤ (s.chanAt n).cnt ∧ (s.chanAt n).stopAt = none ∧ leading
      s (chTeam s n) ≠ some n.val) ∧
    (∃ (n : Fin 24) (w : Nat) (s : State), chRun s n = true ∧ (s.chanAt n).len ≤ (s.chanAt n).cnt ∧ (s.chanAt n).stopAt = some
      w ∧ w < s.now) ∧
    (∃ (n : Fin 24) (x : Fin 4) (s : State), chRun s n = true ∧ (s.chanAt n).live = true ∧ (edgeActs s n (active s n (2 +
      x))).1 = (s.chanAt n).cnt ∧ (s.chanAt n).cnt < (s.chanAt n).len ∧ bit (s.chanAt n).done x = false ∧ (s.chanAt n).acts =
      [] ∧ actionOf s n (1 + x) = 2) ∧
    (∃ (n : Fin 24) (s : State), chRun s n = true ∧ (s.chanAt n).live = true ∧ (s.chanAt n).cnt + 1 = (s.chanAt n).len ∧
      (s.chanAt n).prdAt ≠ some s.now ∧ s.fbit .PWM_CH_EVCFG_EN 1 n = true ∧ vget (s.chanAt n).psc 1 = 0) ∧
    (∃ (n : Fin 24) (e : Nat) (s : State), (s.chanAt n).refrEnd = some e ∧ e ≤ s.now) ∧
    (∃ (n : Fin 24) (s : State), chRun s n = true ∧ (s.chanAt n).len ≤ (s.chanAt n).cnt ∧ (s.chanAt n).stopAt = none) ∧
    (∃ (n : Fin 24) (s : State), chRun s n = true ∧ (s.chanAt n).len ≤ (s.chanAt n).cnt ∧ (s.chanAt n).stopAt = none ∧ leading
      s (chTeam s n) ≠ some n.val ∧ s.flag .PWM_CH_STAT_PEND n = true ∧ (s.chanAt n).loadAt ≠ some s.now ∧ (s.chanAt n).wrote =
      [] ∧ Regs.wf s.regs = true) ∧
    (∃ (n : Fin 24) (s : State), chRun s n = true ∧ (s.chanAt n).len ≤ (s.chanAt n).cnt ∧ (s.chanAt n).stopAt = none ∧ leading
      s (chTeam s n) ≠ some n.val) ∧
    (∃ (n : Fin 24) (s : State), chRun s n = true ∧ (s.chanAt n).len ≤ (s.chanAt n).cnt ∧ (s.chanAt n).stopAt = none ∧ leading
      s (chTeam s n) ≠ some n.val ∧ (s.chanAt n).cutIn = true ∧ s.fget .PWM_CH_CFG_ESC n ≠ 0 ∧ s.fget .PWM_CH_CFG_ESC n ≤
      s.fget .PWM_CH_STAT_CUTCNT n + 1 ∧ s.fget .PWM_CH_STAT_CUTCNT n < 255) ∧
    (∃ (n : Fin 24) (x : Fin 4) (s : State), chRun s n = true ∧ (s.chanAt n).live = true ∧ (edgeActs s n (active s n (2 +
      x))).1 = (s.chanAt n).cnt ∧ (s.chanAt n).cnt < (s.chanAt n).len ∧ bit (s.chanAt n).done x = false) :=
  ⟨⟨23, (((sChan 8 8).fset .PWM_CH_CFG_EN 1 22).fset .PWM_CH_CFG_TEAM 7 22).fset .PWM_CH_STAT_RUN 1 22, by decide +kernel⟩,
   ⟨23, 4999, (sChan 8 8).setChan 23 { (sChan 8 8).chanAt 23 with stopAt := some 4999 }, by decide +kernel⟩,
   ⟨23, 3, ((sChan 7 16).fset .PWM_CH_ACMPD_COARSE 7 23).fset .PWM_CH_ACT_D 2 23, by decide +kernel⟩,
   ⟨23, (sChan 7 8).fset .PWM_CH_EVCFG_EN 2 23, by decide +kernel⟩,
   ⟨23, 5000, (sChan 5 8).setChan 23 { (sChan 5 8).chanAt 23 with refrEnd := some 5000 }, by decide +kernel⟩,
   ⟨23, sChan 8 8, by decide +kernel⟩,
   ⟨23, ((((sChan 8 8).fset .PWM_CH_CFG_EN 1 22).fset .PWM_CH_CFG_TEAM 7 22).fset .PWM_CH_STAT_RUN 1 22).fset
      .PWM_CH_STAT_PEND 1 23, by decide +kernel⟩,
   ⟨23, ((((sChan 8 8).fset .PWM_CH_CFG_EN 1 22).fset .PWM_CH_CFG_TEAM 7 22).fset .PWM_CH_STAT_RUN 1 22).fset .PWM_CH_STAT_CUT
      1 23, by decide +kernel⟩,
   ⟨23, (fun t => t.setChan 23 { t.chanAt 23 with cutIn := true }) (((((sChan 8 8).fset .PWM_CH_CFG_EN 1 22).fset
      .PWM_CH_CFG_TEAM 7 22).fset .PWM_CH_STAT_RUN 1 22).fset .PWM_CH_STAT_CUTCNT 254 23 |>.fset .PWM_CH_CFG_ESC 7 23),
      by decide +kernel⟩,
   ⟨23, 3, sChan 0 8, by decide +kernel⟩⟩

/-- The hypotheses of DeadTimeAndForce are met. -/
theorem witness_DeadTimeAndForce :
    (∃ (n : Fin 24) (low : Bool) (p : Nat) (s : State), turnOnAt s n low = some p ∧ p < 128 * (s.now + 1) ∧ wanted s n low =
      true) ∧
    (∃ (m : Fin 10) (n : Fin 24) (s : State), Reaches s m (regAddr .PWM_CH_FORCE n)) ∧
    (∃ (m : Fin 10) (n : Fin 24) (v : Nat) (s : State), Reaches s m (regAddr .PWM_CH_STAT n) ∧ bit v 4 = true ∧ s.fget
      .PWM_CH_STAT_ESCL n = 1 ∧ s.setNow .PWM_CH_STAT_ESCL n 0 = 0) :=
  ⟨⟨23, true, 639999, sTurn, by decide +kernel⟩,
   ⟨8, 23, State.reset, by unfold Reaches; decide +kernel⟩,
   ⟨8, 23, 0x10, (s0.fset .PWM_CH_STAT_ESCL 1 23).fset .PWM_CH_STAT_CUTCNT 9 23, by unfold Reaches; decide +kernel⟩⟩

/-- The hypotheses of PreloadsAndDutyPort are met. -/
theorem witness_PreloadsAndDutyPort :
    (∃ (m : Fin 10) (n : Fin 24) (s : State), Reaches s m (regAddr .PWM_CH_PRD n) ∧ (s.chanAt n).wrote = [] ∧ (s.chanAt
      n).xferAt ≠ some s.now) ∧
    (∃ (m : Fin 10) (n : Fin 24) (s : State), Reaches s m (regAddr .PWM_CH_CMPA n) ∧ (s.chanAt n).wrote = [] ∧ (s.chanAt
      n).xferAt ≠ some s.now) ∧
    (∃ (m : Fin 10) (v : Nat) (n : Fin 24) (s : State), Reaches s m (regAddr .PWM_TEAMLOAD) ∧ chEn s n = true ∧ bit v (chTeam s
      n) = true ∧ chTeam s n < 8 ∧ (s.chanAt n).wrapAt ≠ some s.now) ∧
    (∃ (k : Fin 32) (f : LaneWord) (s : State), laneFetch s k .duty = some f ∧ s.fbit .LANE_DUTYMASK_CH (f.imm % 32) k = true ∧
      dutyFull s k = false) ∧
    (∃ (g : Fin 4) (e : Nat) (l : Nat) (v : Nat) (ch : Fin 24) (q : List DutyEntry) (s : State), s.dutyAt g = .duty e l ch 7 v
      :: q ∧ e + 3 ≤ s.ltc ∧ vget s.dutyNext g ≤ s.now ∧ (s.chanAt ch).wrote = [] ∧ (s.chanAt ch).xferAt ≠ some s.now) ∧
    (∃ (g : Fin 4) (e : Nat) (l : Nat) (ch : Nat) (r : Nat) (v : Nat) (q : List DutyEntry) (s : State), s.dutyAt g = .duty e l
      ch r v :: q ∧ (s.ltc < e + 3 ∨ s.now < vget s.dutyNext g)) ∧
    (∃ (m : Fin 10) (n : Fin 24) (r : Fin 8) (s : State), Reaches s m (regAddr (preloadReg r) n) ∧ (s.chanAt n).wrote.filter
      (fun w => w.1 = r.val) = [] ∧ (s.chanAt n).xferAt ≠ some s.now) ∧
    (∃ (m : Fin 10) (n : Fin 24) (s : State), Reaches s m (regAddr .PWM_CH_PRD n) ∧ chRun s n = true ∧ s.flag
      .PWM_CH_CFG_PRDIMM n = true ∧ (s.chanAt n).wrote = []) ∧
    (∃ (m : Fin 10) (n : Fin 24) (r : Fin 8) (g : Nat) (old : Nat) (s : State), Reaches s m (regAddr (preloadReg r) n) ∧
      (s.chanAt n).wrote = [(r.val, g, old)] ∧ g < 4) ∧
    (∃ (m : Fin 10) (n : Fin 24) (r : Fin 8) (s : State), Reaches s m (regAddr (preloadReg r) n) ∧ (s.chanAt n).wrote = [] ∧
      (s.chanAt n).xferAt = some s.now) ∧
    (∃ (m : Fin 10) (v : Nat) (n : Fin 24) (s : State), Reaches s m (regAddr .PWM_TEAMLOAD) ∧ chEn s n = true ∧ bit v (chTeam s
      n) = true ∧ chTeam s n < 8 ∧ (s.chanAt n).wrapAt = some s.now) ∧
    (∃ (k : Fin 32) (f : LaneWord) (s : State), laneFetch s k .duty = some f ∧ s.fbit .LANE_DUTYMASK_CH (f.imm % 32) k = true ∧
      dutyFull s k = true) ∧
    (∃ (g : Fin 4) (e : Nat) (l : Nat) (v : Nat) (ch : Fin 24) (r : Fin 8) (q : List DutyEntry) (s : State), s.dutyAt g = .duty
      e l ch r v :: q ∧ e + 3 ≤ s.ltc ∧ vget s.dutyNext g ≤ s.now ∧ (s.chanAt ch).wrote = [] ∧ (s.chanAt ch).xferAt ≠ some
      s.now) :=
  ⟨⟨8, 23, State.reset, by unfold Reaches; decide +kernel⟩,
   ⟨8, 23, State.reset, by unfold Reaches; decide +kernel⟩,
   ⟨8, 128, 23, sChan 5 8, by unfold Reaches; decide +kernel⟩,
   ⟨31, ins .duty 0 62 0 0 0xFF7, (sOp (ins .duty 0 62 0 0 0xFF7)).fset .LANE_DUTYMASK_CH 0x00800000 31, by decide +kernel⟩,
   ⟨3, 4997, 31, 65535, 23, [], sNow.setDuty 3 [.duty 4997 31 23 7 65535], by decide +kernel⟩,
   ⟨3, 4998, 31, 23, 7, 65535, [], sNow.setDuty 3 [.duty 4998 31 23 7 65535], by decide +kernel⟩,
   ⟨8, 23, 7, State.reset, by unfold Reaches; decide +kernel⟩,
   ⟨8, 23, (sChan 5 8).fset .PWM_CH_CFG_PRDIMM 1 23, by unfold Reaches; decide +kernel⟩,
   ⟨8, 23, 7, 3, 0, s0.setChan 23 { s0.chanAt 23 with wrote := [(7, 3, 0)] }, by unfold Reaches; decide +kernel⟩,
   ⟨8, 23, 7, sNow.setChan 23 { s0.chanAt 23 with xferAt := some 5000 }, by unfold Reaches; decide +kernel⟩,
   ⟨8, 0x80, 23, (fun t => t.setChan 23 { t.chanAt 23 with wrapAt := some 5000 }) (sChan 0 8),
      by unfold Reaches; decide +kernel⟩,
   ⟨31, ins .duty 0 62 0 0 0xFF7, (fun t => (t.fset .LANE_DUTYMASK_CH 0xFFFFFF 31).setLane 31 (t.laneAt 31)) (sOp (ins .duty 0
      62 0 0 0xFF7)) |> fun t => { t with dutyq := Vector.replicate 4 (List.replicate 16 (.commit 0 0 0)) }, by decide +kernel⟩,
   ⟨3, 4997, 31, 0xFFFFFFFF, 23, 7, [.commit 0 0 0],
      { sNow with dutyq := Vector.replicate 4 [.duty 4997 31 23 7 0xFFFFFFFF, .commit 0 0 0] }, by decide +kernel⟩⟩

/-- The hypotheses of SpireLines are met. -/
theorem witness_SpireLines :
    (∃ (i : Fin 48) (s : State), s.clockOn 11 = true ∧ lineIdle s i s.now = true ∧ ((∀ t ∈ (s.sprAt i).lastMeas, t + (if
      lineLocked s i then 8 else 1) ≤ s.now)) ∧ lineFault s i = false ∧ (s.sprAt i).count < (if lineLocked s i then 256 else
      2048)) ∧
    (∃ (i : Fin 48) (s : State), measured s (s.sprAt i) = true ∧ lineLocked s i = true ∧ (s.sprAt i).count = 256 ∧ s.flag
      .SPR_CTRL_CALHOLD = false) ∧
    (∃ (i : Fin 48) (s : State), measured s (s.sprAt i) = true ∧ lineLocked s i = true ∧ (s.sprAt i).count = 256 ∧ s.flag
      .SPR_CTRL_CALHOLD = true) ∧
    (∃ (i : Fin 48) (v : Nat) (s : State), s.clockOn 11 = true ∧ (s.sprAt i).next = some v ∧ lineIdle s i s.now = true ∧
      lineIdle s i (s.now - 1) = true ∧ s.flag .SPR_CTRL_CALHOLD = false) ∧
    (∃ (i : Fin 48) (s : State), measured s (s.sprAt i) = true ∧ lineLocked s i = false ∧ lineFault s i = false ∧ (s.sprAt
      i).count = 2048) ∧
    (∃ (i : Fin 48) (s : State), measured s (s.sprAt i) = true ∧ 16 ≤ (s.sprAt i).bad ∧ lineFault s i = false) ∧
    (∃ (m : Fin 10) (i : Fin 48) (s : State), Reaches s m (regAddr (if 32 ≤ i.val then .SPR_FAULTHI else .SPR_FAULTLO)) ∧
      lineFault s i = true ∧ s.setNow (if 32 ≤ i.val then .SPR_FAULTHI_FAULT else .SPR_FAULTLO_FAULT) 0 0 = 0) ∧
    (∃ (i : Fin 48) (s : State), s.clockOn 11 = true ∧ (s.sprAt i).lastUpd + 80000 ≤ s.now) ∧
    (∃ (d : Nat) (j : Nat), j < 128 ∧ d ≤ 4) :=
  ⟨⟨47, sNow.setSpr 47 { sNow.sprAt 47 with count := 255 }, by decide +kernel⟩,
   ⟨47, (sNow.fset .SPR_LOCKHI_LOCK 0x8000).setSpr 47 { sNow.sprAt 47 with count := 256, sum := 51200 }, by decide +kernel⟩,
   ⟨47, ((sNow.fset .SPR_LOCKHI_LOCK 0x8000).fset .SPR_CTRL_CALHOLD 1).setSpr 47
      { sNow.sprAt 47 with count := 256, sum := 51200 }, by decide +kernel⟩,
   ⟨47, 3200, sNow.setSpr 47 { sNow.sprAt 47 with next := some 3200 }, by decide +kernel⟩,
   ⟨47, sNow.setSpr 47 { sNow.sprAt 47 with count := 2048, sum := 409600 }, by decide +kernel⟩,
   ⟨47, sNow.setSpr 47 { sNow.sprAt 47 with bad := 16 }, by decide +kernel⟩,
   ⟨8, 47, s0.fset .SPR_FAULTHI_FAULT 0x8000, by unfold Reaches; decide +kernel⟩,
   ⟨47, { s0 with now := 80000 }, by decide +kernel⟩,
   ⟨0, 0, by decide +kernel⟩⟩

/-- The hypotheses of ActivationCourse are met. -/
theorem witness_ActivationCourse :
    (∃ (k : Fin 32) (e : Nat) (a : Activation) (s : State), (s.laneAt k).arriving = [(e, a)] ∧ e ≤ s.ltc ∧ (s.fget
      .LANE_STAT_STATE k = laneIdle ∨ s.fget .LANE_STAT_STATE k = laneRunning) ∧ (s.laneAt k).queue.length < 32) ∧
    (∃ (k : Fin 32) (e : Nat) (a : Activation) (s : State), (s.laneAt k).arriving = [(e, a)] ∧ e ≤ s.ltc ∧ (s.fget
      .LANE_STAT_STATE k = laneIdle ∨ s.fget .LANE_STAT_STATE k = laneRunning) ∧ 32 ≤ (s.laneAt k).queue.length) ∧
    (∃ (k : Fin 32) (a : Activation) (rest : List Activation) (s : State), (s.laneAt k).queue = a :: rest ∧ mayDispatch s k =
      true ∧ s.flag .LANE_CTRL_APPLY k = false) ∧
    (∃ (k : Fin 32) (f : LaneWord) (s : State), laneFetch s k .end_ = some f ∧ (s.laneAt k).loads = [] ∧ s.flag .LANE_CTRL_EN k
      = true ∧ (s.laneAt k).queue = []) ∧
    (∃ (k : Fin 32) (s : State), (s.laneAt k).loads ≠ []) ∧
    (∃ (k : Fin 32) (f : LaneWord) (s : State), laneFetch s k .nop = some f) ∧
    (∃ (k : Fin 32) (e : Nat) (s : State), firstEdge (s.laneAt k).arriving = some e ∧ e ≤ s.ltc ∧ (s.fget .LANE_STAT_STATE k =
      laneIdle ∨ s.fget .LANE_STAT_STATE k = laneRunning) ∧ (s.laneAt k).queue.length + ((s.laneAt k).arriving.filter (fun x =>
      x.1 == e)).length ≤ 32) ∧
    (∃ (k : Fin 32) (a : Activation) (rest : List Activation) (s : State), (s.laneAt k).queue = a :: rest ∧ mayDispatch s k =
      true ∧ s.flag .LANE_CTRL_APPLY k = true) ∧
    (∃ (k : Fin 32) (f : LaneWord) (s : State), laneFetch s k .end_ = some f ∧ (s.laneAt k).loads = [] ∧ s.flag .LANE_CTRL_EN k
      = true ∧ (s.laneAt k).queue ≠ []) ∧
    (∃ (k : Fin 32) (f : LaneWord) (s : State), laneFetch s k .end_ = some f ∧ (s.laneAt k).loads = [] ∧ s.flag .LANE_CTRL_EN k
      = false) ∧
    (∃ (k : Fin 32) (mn : LaneMn) (f : LaneWord) (s : State), (s.laneAt k).active = true ∧ laneReady s k = true ∧ overdue s k =
      false ∧ (s.laneAt k).pc < 512 ∧ wordReadable s k = true ∧ laneDecode (s.pmem k (s.laneAt k).pc) = some (mn, f) ∧ ((∀ r ∈
      laneSources mn f ++ laneDests mn f, r ∉ pendingRegs (s.laneAt k))) ∧ ((∀ r ∈ laneSources mn f, unready s k r = false))) :=
  ⟨⟨31, 4998, ⟨0, false, 15, 0, 96⟩, (sNow.fset .LANE_STAT_STATE laneRunning 31).setLane 31
      { sNow.laneAt 31 with arriving := [(4998, ⟨0, false, 15, 0, 96⟩)], queue := List.replicate 31 ⟨1, true, 0, 0, 0⟩ },
      by decide +kernel⟩,
   ⟨31, 4998, ⟨0, false, 15, 0, 96⟩, (sNow.fset .LANE_STAT_STATE laneIdle 31).setLane 31
      { sNow.laneAt 31 with arriving := [(4998, ⟨0, false, 15, 0, 96⟩)], queue := List.replicate 32 ⟨1, true, 0, 0, 0⟩ },
      by decide +kernel⟩,
   ⟨31, ⟨0xFFFFFFFFFFFF, true, 15, 0, 96⟩, [], (((sNow.fset .LANE_CTRL_EN 1 31).fset .LANE_STAT_STATE laneIdle 31).fset
      .LANE_VEC_ENTRY 511 31 15).setLane 31 { sNow.laneAt 31 with queue := [⟨0xFFFFFFFFFFFF, true, 15, 0, 96⟩] },
      by decide +kernel⟩,
   ⟨31, ins .end_ 0 0 0 0 0, sOp (ins .end_ 0 0 0 0 0), by decide +kernel⟩,
   ⟨31, sNow.setLane 31 { (sOp (ins .end_ 0 0 0 0 0)).laneAt 31 with loads := [⟨0, [1], []⟩] }, by decide +kernel⟩,
   ⟨31, ins .nop 0 0 0 0 0, sOp (ins .nop 0 0 0 0 0), by decide +kernel⟩,
   ⟨31, 5000, (fun t => t.setLane 31
      { t.laneAt 31 with arriving := [(5000, ⟨7, true, 3, 0, 0⟩), (5002, ⟨8, true, 2, 0, 0⟩)], queue := List.replicate 31 ⟨0, false, 0, 0, 0⟩ })
      (sNow.fset .LANE_STAT_STATE laneIdle 31), by decide +kernel⟩,
   ⟨31, ⟨7, true, 3, 0, 0⟩, [], (fun t => t.setLane 31 { t.laneAt 31 with queue := [⟨7, true, 3, 0, 0⟩], stage := [(63, 5)] })
      ((((sNow.fset .LANE_STAT_STATE laneIdle 31).fset .LANE_CTRL_APPLY 1 31).fset .LANE_CTRL_EN 1 31)), by decide +kernel⟩,
   ⟨31, ins .end_ 0 0 0 0 0, (fun t => t.setLane 31 { t.laneAt 31 with queue := [⟨7, true, 3, 0, 0⟩] }) (sOp (ins .end_ 0 0 0
      0 0)), by decide +kernel⟩,
   ⟨31, ins .end_ 0 0 0 0 0, (sOp (ins .end_ 0 0 0 0 0)).fset .LANE_CTRL_EN 0 31, by decide +kernel⟩,
   ⟨31, .add, ins .add 63 62 61 0 0, sOp (ins .add 63 62 61 0 0), by decide +kernel⟩⟩

/-- The hypotheses of DisabledLaneDiscards are met. -/
theorem witness_DisabledLaneDiscards :
    (∃ (k : Fin 32) (e : Nat) (s : State), firstEdge (s.laneAt k).arriving = some e ∧ e ≤ s.ltc ∧ (s.fget .LANE_STAT_STATE k =
      laneDisabled ∨ s.fget .LANE_STAT_STATE k = laneFaulted)) :=
  ⟨31, 4998, (sNow.fset .LANE_DISCCNT_COUNT 65534 31).setLane 31
      { sNow.laneAt 31 with arriving := [(5000, ⟨0, false, 1, 0, 96⟩), (4998, ⟨0, false, 2, 0, 97⟩), (4998, ⟨0, false, 3, 0, 64⟩)] },
      by decide +kernel⟩

/-- The hypotheses of LaneMovesLimitsLogic are met. -/
theorem witness_LaneMovesLimitsLogic :
    (∃ (k : Fin 32) (f : LaneWord) (s : State), laneFetch s k .mov = some f) ∧
    (∃ (k : Fin 32) (f : LaneWord) (s : State), laneFetch s k .ldi = some f) ∧
    (∃ (k : Fin 32) (f : LaneWord) (s : State), laneFetch s k .movs = some f) ∧
    (∃ (k : Fin 32) (f : LaneWord) (s : State), laneFetch s k .ang = some f) ∧
    (∃ (k : Fin 32) (f : LaneWord) (s : State), laneFetch s k .min = some f) ∧
    (∃ (k : Fin 32) (f : LaneWord) (s : State), laneFetch s k .max = some f) ∧
    (∃ (k : Fin 32) (f : LaneWord) (s : State), laneFetch s k .clmp = some f) ∧
    (∃ (k : Fin 32) (f : LaneWord) (s : State), laneFetch s k .slew = some f) ∧
    (∃ (k : Fin 32) (f : LaneWord) (s : State), laneFetch s k .cmp = some f) ∧
    (∃ (k : Fin 32) (f : LaneWord) (s : State), laneFetch s k .and = some f) ∧
    (∃ (k : Fin 32) (f : LaneWord) (s : State), laneFetch s k .or = some f) ∧
    (∃ (k : Fin 32) (f : LaneWord) (s : State), laneFetch s k .xor = some f) :=
  ⟨⟨31, ins .mov 63 62 0 0 0, sOp (ins .mov 63 62 0 0 0), by decide +kernel⟩,
   ⟨31, ins .ldi 63 0 2 0 0xFFFFFFFF, sOp (ins .ldi 63 0 2 0 0xFFFFFFFF), by decide +kernel⟩,
   ⟨31, ins .movs 63 0 0 0 5, sOp (ins .movs 63 0 0 0 5), by decide +kernel⟩,
   ⟨31, ins .ang 63 0 0 0 1, sOp (ins .ang 63 0 0 0 1), by decide +kernel⟩,
   ⟨31, ins .min 63 62 61 0 0, sOp (ins .min 63 62 61 0 0), by decide +kernel⟩,
   ⟨31, ins .max 63 62 61 0 0, sOp (ins .max 63 62 61 0 0), by decide +kernel⟩,
   ⟨31, ins .clmp 63 62 61 60 0, sOp (ins .clmp 63 62 61 60 0), by decide +kernel⟩,
   ⟨31, ins .slew 63 62 61 60 0, sOp (ins .slew 63 62 61 60 0), by decide +kernel⟩,
   ⟨31, ins .cmp 0 62 61 0 0, sOp (ins .cmp 0 62 61 0 0), by decide +kernel⟩,
   ⟨31, ins .and 63 62 61 0 0, sOp (ins .and 63 62 61 0 0), by decide +kernel⟩,
   ⟨31, ins .or 63 62 61 0 0, sOp (ins .or 63 62 61 0 0), by decide +kernel⟩,
   ⟨31, ins .xor 63 62 61 0 0, sOp (ins .xor 63 62 61 0 0), by decide +kernel⟩⟩

/-- The hypotheses of LaneArithmetic are met. -/
theorem witness_LaneArithmetic :
    (∃ (k : Fin 32) (f : LaneWord) (s : State), laneFetch s k .add = some f ∧ bit f.imm 2 = false) ∧
    (∃ (k : Fin 32) (f : LaneWord) (s : State), laneFetch s k .add = some f ∧ bit f.imm 2 = true) ∧
    (∃ (k : Fin 32) (f : LaneWord) (s : State), laneFetch s k .sub = some f ∧ bit f.imm 2 = false) ∧
    (∃ (k : Fin 32) (f : LaneWord) (s : State), laneFetch s k .neg = some f) ∧
    (∃ (k : Fin 32) (f : LaneWord) (s : State), laneFetch s k .abs = some f) ∧
    (∃ (k : Fin 32) (f : LaneWord) (s : State), laneFetch s k .mul = some f) ∧
    (∃ (k : Fin 32) (f : LaneWord) (s : State), laneFetch s k .madd = some f) ∧
    (∃ (k : Fin 32) (f : LaneWord) (s : State), laneFetch s k .msub = some f) ∧
    (∃ (k : Fin 32) (f : LaneWord) (s : State), laneFetch s k .ash = some f) ∧
    (∃ (k : Fin 32) (f : LaneWord) (s : State), laneFetch s k .sub = some f ∧ bit f.imm 2 = true) :=
  ⟨⟨31, ins .add 63 62 61 0 0, sOp (ins .add 63 62 61 0 0), by decide +kernel⟩,
   ⟨31, ins .add 63 62 61 0 4, sOp (ins .add 63 62 61 0 4), by decide +kernel⟩,
   ⟨31, ins .sub 63 62 61 0 0, sOp (ins .sub 63 62 61 0 0), by decide +kernel⟩,
   ⟨31, ins .neg 63 62 0 0 0, sOp (ins .neg 63 62 0 0 0), by decide +kernel⟩,
   ⟨31, ins .abs 63 62 0 0 0, sOp (ins .abs 63 62 0 0 0), by decide +kernel⟩,
   ⟨31, ins .mul 63 62 61 0 3, sOp (ins .mul 63 62 61 0 3), by decide +kernel⟩,
   ⟨31, ins .madd 63 62 61 60 2, sOp (ins .madd 63 62 61 60 2), by decide +kernel⟩,
   ⟨31, ins .msub 63 62 61 60 1, sOp (ins .msub 63 62 61 60 1), by decide +kernel⟩,
   ⟨31, ins .ash 63 62 0 0 0x2003, sOp (ins .ash 63 62 0 0 0x2003), by decide +kernel⟩,
   ⟨31, ins .sub 63 62 61 0 4, sOp (ins .sub 63 62 61 0 4), by decide +kernel⟩⟩

/-- The hypotheses of LaneAccumulators are met. -/
theorem witness_LaneAccumulators :
    (∃ (k : Fin 32) (f : LaneWord) (s : State), laneFetch s k .aclr = some f) ∧
    (∃ (k : Fin 32) (f : LaneWord) (s : State), laneFetch s k .ald = some f) ∧
    (∃ (k : Fin 32) (f : LaneWord) (s : State), laneFetch s k .amac = some f) ∧
    (∃ (k : Fin 32) (f : LaneWord) (s : State), laneFetch s k .amsu = some f) ∧
    (∃ (k : Fin 32) (f : LaneWord) (s : State), laneFetch s k .ard = some f) :=
  ⟨⟨31, ins .aclr 0 0 0 0 8, sOp (ins .aclr 0 0 0 0 8), by decide +kernel⟩,
   ⟨31, ins .ald 0 63 0 0 8, sOp (ins .ald 0 63 0 0 8), by decide +kernel⟩,
   ⟨31, ins .amac 0 62 61 0 8, sOp (ins .amac 0 62 61 0 8), by decide +kernel⟩,
   ⟨31, ins .amsu 0 62 61 0 0, sOp (ins .amsu 0 62 61 0 0), by decide +kernel⟩,
   ⟨31, ins .ard 63 0 0 0 0x2009, sOp (ins .ard 63 0 0 0 0x2009), by decide +kernel⟩⟩

/-- The hypotheses of LaneTransforms are met. -/
theorem witness_LaneTransforms :
    (∃ (k : Fin 32) (f : LaneWord) (s : State), laneFetch s k .clarke = some f) ∧
    (∃ (k : Fin 32) (f : LaneWord) (s : State), laneFetch s k .iclarke = some f) ∧
    (∃ (k : Fin 32) (f : LaneWord) (s : State), laneFetch s k .park = some f) ∧
    (∃ (k : Fin 32) (f : LaneWord) (s : State), laneFetch s k .ipark = some f) ∧
    (∃ (k : Fin 32) (f : LaneWord) (s : State), laneFetch s k .sincos = some f) ∧
    (∃ (a : Nat), a % 2 ^ 32 ≠ 2 ^ 30 ∧ a % 2 ^ 32 ≠ 3 * 2 ^ 30) ∧
    (∃ (a : Nat), a % 2 ^ 32 = 2 ^ 30) ∧
    (∃ (a : Nat), a % 2 ^ 32 = 3 * 2 ^ 30) :=
  ⟨⟨31, ins .clarke 62 61 0 0 0, sOp (ins .clarke 62 61 0 0 0), by decide +kernel⟩,
   ⟨31, ins .iclarke 61 62 0 0 0, sOp (ins .iclarke 61 62 0 0 0), by decide +kernel⟩,
   ⟨31, ins .park 62 60 58 0 0, sOp (ins .park 62 60 58 0 0), by decide +kernel⟩,
   ⟨31, ins .ipark 62 60 58 0 0, sOp (ins .ipark 62 60 58 0 0), by decide +kernel⟩,
   ⟨31, ins .sincos 62 63 0 0 0, sOp (ins .sincos 62 63 0 0 0), by decide +kernel⟩,
   ⟨0, by decide +kernel⟩,
   ⟨2 ^ 30, by decide +kernel⟩,
   ⟨3 * 2 ^ 30, by decide +kernel⟩⟩

/-- The hypotheses of LaneMemory are met. -/
theorem witness_LaneMemory :
    (∃ (k : Fin 32) (f : LaneWord) (s : State), laneFetch s k .ld = some f ∧ (s.laneAt k).loads.length < 2 ∧ laneWordIndex s k
      f % 16384 + f.rs3 < 16384) ∧
    (∃ (k : Fin 32) (f : LaneWord) (s : State), laneFetch s k .st = some f ∧ (s.laneAt k).stores < 4 ∧ laneWordIndex s k f %
      16384 + f.rs3 < 16384) ∧
    (∃ (k : Fin 32) (s : State), 2 ≤ (s.laneAt k).loads.length) ∧
    (∃ (k : Fin 32) (s : State), 4 ≤ (s.laneAt k).stores) ∧
    (∃ (k : Fin 32) (r : Nat) (v : Nat) (e : Nat) (s : State), nextReturn s.laneEdge (s.laneAt k).loads = some ⟨r, v, false, e⟩
      ∧ (s.laneAt k).faultWait = none) ∧
    (∃ (k : Fin 32) (r : Nat) (v : Nat) (e : Nat) (s : State), nextReturn s.laneEdge (s.laneAt k).loads = some ⟨r, v, true, e⟩
      ∧ (s.laneAt k).active = true ∧ s.flag .LANE_STAT_FAULT k = false) ∧
    (∃ (k : Fin 32) (f : LaneWord) (s : State), laneFetch s k .ld = some f ∧ (s.laneAt k).loads.length < 2 ∧ 16384 ≤
      laneWordIndex s k f % 16384 + f.rs3) ∧
    (∃ (k : Fin 32) (f : LaneWord) (s : State), laneFetch s k .st = some f ∧ (s.laneAt k).stores < 4 ∧ 16384 ≤ laneWordIndex s
      k f % 16384 + f.rs3) ∧
    (∃ (k : Fin 32) (r : Nat) (v : Nat) (e : Nat) (s : State), nextReturn s.laneEdge (s.laneAt k).loads = some ⟨r, v, true, e⟩
      ∧ (s.laneAt k).active = false ∧ (s.laneAt k).faultWait = none) ∧
    (∃ (k : Fin 32) (w : LaneWordIn) (c : Nat) (p : Nat) (s : State), nextReturn s.laneEdge (s.laneAt k).loads = some w ∧
      (s.laneAt k).active = false ∧ (s.laneAt k).faultWait = some (c, p) ∧ c < 16 ∧ p < 512 ∧ dropReturn w.reg (s.laneAt
      k).loads = [] ∧ s.flag .LANE_STAT_FAULT k = false) :=
  ⟨⟨31, ins .ld 56 55 0 7 0x1FFF8, sOp (ins .ld 56 55 0 7 0x1FFF8), by decide +kernel⟩,
   ⟨31, ins .st 56 55 0 7 0x1FFF8, sOp (ins .st 56 55 0 7 0x1FFF8), by decide +kernel⟩,
   ⟨31, sNow.setLane 31 { (sOp (ins .ld 1 0 0 0 0)).laneAt 31 with loads := [⟨0, [1], []⟩, ⟨1, [2], []⟩] }, by decide +kernel⟩,
   ⟨31, sNow.setLane 31 { (sOp (ins .st 1 0 0 0 0)).laneAt 31 with stores := 4 }, by decide +kernel⟩,
   ⟨31, 63, 0xFFFFFFFFFFFF, 5000, (sOp (ins .nop 0 0 0 0 0)).setLane 31
      { (sOp (ins .nop 0 0 0 0 0)).laneAt 31 with loads := [⟨0, [63], [⟨63, 0xFFFFFFFFFFFF, false, 5000⟩]⟩] },
      by decide +kernel⟩,
   ⟨31, 63, 0xFFFFFFFFFFFF, 5000, (sOp (ins .nop 0 0 0 0 0)).setLane 31
      { (sOp (ins .nop 0 0 0 0 0)).laneAt 31 with loads := [⟨0, [63], [⟨63, 0xFFFFFFFFFFFF, true, 5000⟩]⟩] },
      by decide +kernel⟩,
   ⟨31, ins .ld 56 55 0 7 0xFFFC, sOp (ins .ld 56 55 0 7 0xFFFC), by decide +kernel⟩,
   ⟨31, ins .st 56 55 0 7 0xFFFC, sOp (ins .st 56 55 0 7 0xFFFC), by decide +kernel⟩,
   ⟨31, 63, 5, 5000, sNow.setLane 31 { sNow.laneAt 31 with loads := [⟨0, [63], [⟨63, 5, true, 5000⟩]⟩] }, by decide +kernel⟩,
   ⟨31, ⟨63, 5, true, 5000⟩, 15, 511, sNow.setLane 31
      { sNow.laneAt 31 with loads := [⟨0, [63], [⟨63, 5, true, 5000⟩]⟩], faultWait := some (15, 511) }, by decide +kernel⟩⟩

/-- The hypotheses of DutyPermission are met. -/
theorem witness_DutyPermission :
    (∃ (w : Nat), (laneFields w).op = (laneRow .duty).op ∧ 24 ≤ (laneFields w).imm % 32) ∧
    (∃ (k : Fin 32) (s : State), (s.laneAt k).active = true ∧ (s.laneAt k).pc < 512 ∧ wordReadable s k = true ∧ laneReady s k =
      true ∧ overdue s k = false ∧ (laneFields (s.pmem k (s.laneAt k).pc)).op = (laneRow .duty).op ∧ 24 ≤ (laneFields (s.pmem k
      (s.laneAt k).pc)).imm % 32 ∧ s.flag .LANE_STAT_FAULT k = false) ∧
    (∃ (k : Fin 32) (f : LaneWord) (s : State), laneFetch s k .duty = some f ∧ s.fbit .LANE_DUTYMASK_CH (f.imm % 32) k = false
      ∧ s.flag .LANE_STAT_FAULT k = false) :=
  ⟨⟨0x5000000000000018, by decide +kernel⟩,
   ⟨31, sLane 0x500000000000001F, by decide +kernel⟩,
   ⟨31, ins .duty 0 62 0 0 0xFF7, sOp (ins .duty 0 62 0 0 0xFF7), by decide +kernel⟩⟩

/-- The hypotheses of CommitOfTeams are met. -/
theorem witness_CommitOfTeams :
    (∃ (k : Fin 32) (f : LaneWord) (s : State), laneFetch s k .commit = some f ∧ f.imm % 256 ≠ 0 ∧ ((∀ t : Fin 8, bit f.imm t =
      true → s.fbit .LANE_TEAMMASK_TEAM t k = true)) ∧ dutyFull s k = false) ∧
    (∃ (k : Fin 32) (f : LaneWord) (s : State), laneFetch s k .commit = some f ∧ f.imm % 256 = 0) ∧
    (∃ (k : Fin 32) (j : Fin 8) (f : LaneWord) (s : State), laneFetch s k .commit = some f ∧ bit f.imm j = true ∧ s.fbit
      .LANE_TEAMMASK_TEAM j k = false ∧ s.flag .LANE_STAT_FAULT k = false) ∧
    (∃ (g : Fin 4) (e : Nat) (l : Nat) (mask : Nat) (n : Fin 24) (q : List DutyEntry) (s : State), s.dutyAt g = .commit e l
      mask :: q ∧ e + 3 ≤ s.ltc ∧ vget s.dutyNext g ≤ s.now ∧ chEn s n = true ∧ chTeam s n < 8 ∧ bit mask (chTeam s n) = true ∧
      (s.chanAt n).wrapAt ≠ some s.now) ∧
    (∃ (k : Fin 32) (f : LaneWord) (s : State), laneFetch s k .commit = some f ∧ f.imm % 256 ≠ 0 ∧ ((∀ t : Fin 8, bit f.imm t =
      true → s.fbit .LANE_TEAMMASK_TEAM t k = true)) ∧ dutyFull s k = true) :=
  ⟨⟨31, ins .commit 0 0 0 0 0xFF, (sOp (ins .commit 0 0 0 0 0xFF)).fset .LANE_TEAMMASK_TEAM 0xFF 31, by decide +kernel⟩,
   ⟨31, ins .commit 0 0 0 0 0, sOp (ins .commit 0 0 0 0 0), by decide +kernel⟩,
   ⟨31, 7, ins .commit 0 0 0 0 0xFF, (sOp (ins .commit 0 0 0 0 0xFF)).fset .LANE_TEAMMASK_TEAM 0x7F 31, by decide +kernel⟩,
   ⟨3, 4997, 31, 128, 23, [], (sChan 5 8).setDuty 3 [.commit 4997 31 128], by decide +kernel⟩,
   ⟨31, ins .commit 0 0 0 0 0xFF, (fun t => { t with dutyq := Vector.replicate 4 (List.replicate 16 (.commit 0 0 0)) }) ((sOp
      (ins .commit 0 0 0 0 0xFF)).fset .LANE_TEAMMASK_TEAM 0xFF 31), by decide +kernel⟩⟩

/-- The hypotheses of LaneEvents are met. -/
theorem witness_LaneEvents :
    (∃ (k : Fin 32) (f : LaneWord) (s : State), laneFetch s k .evt = some f ∧ s.fget .LANE_ACTINFO_GEN k < 6 ∧ ((∀ e ∈ s.hrn,
      e.prod ≠ 128 + 2 * k + f.imm % 2))) ∧
    (∃ (k : Fin 32) (f : LaneWord) (s : State), laneFetch s k .evt = some f ∧ s.fget .LANE_ACTINFO_GEN k = 6) ∧
    (∃ (k : Fin 32) (f : LaneWord) (s : State), laneFetch s k .send = some f ∧ s.fget .LANE_ACTINFO_GEN k < 6) ∧
    (∃ (k : Fin 32) (f : LaneWord) (s : State), laneFetch s k .send = some f ∧ s.fget .LANE_ACTINFO_GEN k = 6) ∧
    (∃ (k : Fin 32) (f : LaneWord) (s : State), laneFetch s k .dbl = some f ∧ sourceReserved (f.imm % 512) = false ∧ f.imm %
      512 < 384) ∧
    (∃ (k : Fin 32) (f : LaneWord) (s : State), laneFetch s k .evt = some f ∧ s.fget .LANE_ACTINFO_GEN k = 6 ∧ s.fget
      .HRN_LOOPDROP_COUNT = 0) ∧
    (∃ (k : Fin 32) (f : LaneWord) (s : State), laneFetch s k .send = some f ∧ s.fget .LANE_ACTINFO_GEN k = 6 ∧ s.fget
      .LANE_DROPCNT_LOOP k = 0) :=
  ⟨⟨31, ins .evt 0 0 0 0 1, (sOp (ins .evt 0 0 0 0 1)).fset .LANE_ACTINFO_GEN 5 31, by decide +kernel⟩,
   ⟨31, ins .evt 0 0 0 0 1, (sOp (ins .evt 0 0 0 0 1)).fset .LANE_ACTINFO_GEN 6 31, by decide +kernel⟩,
   ⟨31, ins .send 0 62 0 0 0x3FF, (sOp (ins .send 0 62 0 0 0x3FF)).fset .LANE_ACTINFO_GEN 5 31, by decide +kernel⟩,
   ⟨31, ins .send 0 62 0 0 0x3FF, ((sOp (ins .send 0 62 0 0 0x3FF)).fset .LANE_ACTINFO_GEN 6 31).fset .LANE_DROPCNT_LOOP 65535
      31, by decide +kernel⟩,
   ⟨31, ins .dbl 0 0 0 0 110, sOp (ins .dbl 0 0 0 0 110), by decide +kernel⟩,
   ⟨31, ins .evt 0 0 0 0 1, (sOp (ins .evt 0 0 0 0 1)).fset .LANE_ACTINFO_GEN 6 31, by decide +kernel⟩,
   ⟨31, ins .send 0 62 0 0 0x3FF, (sOp (ins .send 0 62 0 0 0x3FF)).fset .LANE_ACTINFO_GEN 6 31, by decide +kernel⟩⟩

/-- The hypotheses of LaneBranchesAndFaults are met. -/
theorem witness_LaneBranchesAndFaults :
    (∃ (k : Fin 32) (f : LaneWord) (s : State), laneFetch s k .br = some f) ∧
    (∃ (k : Fin 32) (f : LaneWord) (s : State), laneFetch s k .call = some f ∧ (s.laneAt k).stack.length < 4) ∧
    (∃ (k : Fin 32) (f : LaneWord) (a : Nat) (st : List Nat) (s : State), laneFetch s k .ret = some f ∧ (s.laneAt k).stack = a
      :: st) ∧
    (∃ (k : Fin 32) (f : LaneWord) (s : State), laneFetch s k .call = some f ∧ 4 ≤ (s.laneAt k).stack.length ∧ s.flag
      .LANE_STAT_FAULT k = false) ∧
    (∃ (k : Fin 32) (f : LaneWord) (s : State), laneFetch s k .ret = some f ∧ (s.laneAt k).stack = [] ∧ s.flag .LANE_STAT_FAULT
      k = false) ∧
    (∃ (k : Fin 32) (s : State), (s.laneAt k).active = true ∧ laneReady s k = true ∧ overdue s k = false ∧ (s.laneAt k).pc <
      512 ∧ wordReadable s k = true ∧ laneDecode (s.pmem k (s.laneAt k).pc) = none ∧ s.flag .LANE_STAT_FAULT k = false) ∧
    (∃ (k : Fin 32) (s : State), (s.laneAt k).active = true ∧ laneReady s k = true ∧ overdue s k = false ∧ (s.laneAt k).pc <
      512 ∧ wordReadable s k = false ∧ s.flag .LANE_STAT_FAULT k = false) ∧
    (∃ (k : Fin 32) (s : State), (s.laneAt k).active = true ∧ laneReady s k = true ∧ overdue s k = false ∧ 512 ≤ (s.laneAt
      k).pc ∧ s.flag .LANE_STAT_FAULT k = false) ∧
    (∃ (k : Fin 32) (s : State), (s.laneAt k).active = true ∧ (s.laneAt k).budget ≠ 0 ∧ (s.laneAt k).budget + 1 < laneCycles s
      k ∧ s.flag .LANE_STAT_FAULT k = false) ∧
    (∃ (k : Fin 32) (d : Nat) (s : State), (s.laneAt k).active = true ∧ (s.laneAt k).budget = 0 ∧ (s.laneAt k).disabledAt =
      some d ∧ d + 2048 < s.laneEdge ∧ s.flag .LANE_STAT_FAULT k = false) :=
  ⟨⟨31, ins .br 0 0 0 10 511, (sOp (ins .br 0 0 0 10 511)).fset .LANE_STAT_LIM 1 31, by decide +kernel⟩,
   ⟨31, ins .call 0 0 0 0 511, (sOp (ins .call 0 0 0 0 511)).setLane 31
      { (sOp (ins .call 0 0 0 0 511)).laneAt 31 with stack := [1, 2, 3] }, by decide +kernel⟩,
   ⟨31, ins .ret 0 0 0 0 0, 512, [1], (sOp (ins .ret 0 0 0 0 0)).setLane 31
      { (sOp (ins .ret 0 0 0 0 0)).laneAt 31 with stack := [512, 1] }, by decide +kernel⟩,
   ⟨31, ins .call 0 0 0 0 511, (sOp (ins .call 0 0 0 0 511)).setLane 31
      { (sOp (ins .call 0 0 0 0 511)).laneAt 31 with stack := [1, 2, 3, 4] }, by decide +kernel⟩,
   ⟨31, ins .ret 0 0 0 0 0, sOp (ins .ret 0 0 0 0 0), by decide +kernel⟩,
   ⟨31, sLane 0x0600000000000000, by decide +kernel⟩,
   ⟨31, { sLane 0 with upsets := [(pmemSlot 31 0, true)] }, by decide +kernel⟩,
   ⟨31, (sLane 0).setLane 31 { (sLane 0).laneAt 31 with pc := 512, lastPc := 511 }, by decide +kernel⟩,
   ⟨31, (sLane 0).setLane 31 { (sLane 0).laneAt 31 with budget := 1, start := 4990 }, by decide +kernel⟩,
   ⟨31, 2950, (sLane 0).setLane 31 { (sLane 0).laneAt 31 with disabledAt := some 2950 }, by decide +kernel⟩⟩

/-- The hypotheses of LaneOutsideWrites are met. -/
theorem witness_LaneOutsideWrites :
    (∃ (m : Fin 10) (k : Fin 32) (i : Fin 64) (s : State), Reaches s m (regAddr .LANE_LREG k i) ∧ s.flag .LANE_CTRL_EN k =
      false) ∧
    (∃ (m : Fin 10) (k : Fin 32) (i : Fin 64) (s : State), Reaches s m (regAddr .LANE_LREG k i) ∧ s.flag .LANE_CTRL_EN k = true
      ∧ (s.laneAt k).stage.length < 16) ∧
    (∃ (m : Fin 10) (k : Fin 32) (i : Fin 64) (s : State), Reaches s m (regAddr .LANE_LREG k i) ∧ s.flag .LANE_CTRL_EN k = true
      ∧ 16 ≤ (s.laneAt k).stage.length) ∧
    (∃ (m : Fin 10) (k : Fin 32) (i : Fin 64) (v : Nat) (s : State), Reaches s m (regAddr .LANE_CTRL k) ∧ s.fget .LANE_CTRL_EN
      k = 1 ∧ laneBetween s k = true ∧ s.fget .LANE_STAT_STATE k = laneIdle ∧ (s.laneAt k).stage = [(i.val, v)]) ∧
    (∃ (m : Fin 10) (k : Fin 32) (s : State), Reaches s m (regAddr .LANE_CTRL k) ∧ s.fget .LANE_CTRL_EN k = 1 ∧ (s.laneAt
      k).active = true ∧ s.fget .LANE_STAT_STATE k = laneRunning) ∧
    (∃ (k : Fin 32) (i : Nat) (v : Nat) (w : Nat) (s : State), laneBetween s k = true ∧ s.flag .LANE_CTRL_APPLY k = true ∧
      (s.laneAt k).stage = [(i, v), (i, w)]) ∧
    (∃ (m : Fin 10) (k : Fin 32) (i : Fin 512) (lo : Nat) (s : State), Reaches s m (regAddr .LANE_PMEM k i) ∧ s.flag
      .LANE_CTRL_EN k = false ∧ (s.portAt m).wstage = some (regAddr .LANE_PMEM k i, lo) ∧ lo < 2 ^ 32) ∧
    (∃ (m : Fin 10) (k : Fin 32) (i : Fin 512) (s : State), Reaches s m (regAddr .LANE_PMEM k i) ∧ s.flag .LANE_CTRL_EN k =
      true) ∧
    (∃ (m : Fin 10) (k : Fin 32) (s : State), Reaches s m (regAddr .LANE_POST k)) ∧
    (∃ (m : Fin 10) (k : Fin 32) (s : State), Reaches s m (regAddr .LANE_CTRL k) ∧ s.fget .LANE_STAT_STATE k = laneDisabled) ∧
    (∃ (m : Fin 10) (k : Fin 32) (s : State), Reaches s m (regAddr .LANE_CTRL k) ∧ laneBetween s k = true) ∧
    (∃ (m : Fin 10) (k : Fin 32) (s : State), Reaches s m (regAddr .LANE_STAT k) ∧ s.fget .LANE_STAT_FAULT k = 1 ∧ s.fget
      .LANE_STAT_STATE k = laneFaulted ∧ s.flag .LANE_CTRL_EN k = true ∧ s.setNow .LANE_STAT_FAULT k 0 = 0 ∧ Regs.wf s.regs =
      true) ∧
    (∃ (m : Fin 10) (k : Fin 32) (i : Fin 512) (s : State), Reaches s m (regAddr .LANE_PMEM k i)) ∧
    (∃ (m : Fin 10) (k : Fin 32) (i : Fin 512) (s : State), Reaches s m (regAddr .LANE_PMEM k i) ∧ s.flag .LANE_CTRL_EN k =
      false ∧ stagedLow s m (regAddr .LANE_PMEM k i) = none ∧ s.upsetAt (pmemSlot k i) ≠ some true) ∧
    (∃ (m : Fin 10) (k : Fin 32) (i : Fin 512) (s : State), Reaches s m (regAddr .LANE_PMEM k i) ∧ s.flag .LANE_CTRL_EN k =
      false ∧ stagedLow s m (regAddr .LANE_PMEM k i) = none ∧ s.upsetAt (pmemSlot k i) = some true) ∧
    (∃ (m : Fin 10) (k : Fin 32) (s : State), Reaches s m (regAddr .LANE_CTRL k) ∧ s.fget .LANE_STAT_STATE k = laneRunning ∧
      (s.laneAt k).ending = false) ∧
    (∃ (m : Fin 10) (k : Fin 32) (s : State), Reaches s m (regAddr .LANE_CTRL k) ∧ (s.laneAt k).active = true ∧ s.flag
      .LANE_CTRL_EN k = true) ∧
    (∃ (m : Fin 10) (k : Fin 32) (s : State), Reaches s m (regAddr .LANE_CTRL k) ∧ laneBusy s k = false ∧ laneReady s k =
      false) :=
  ⟨⟨8, 31, 63, State.reset, by unfold Reaches; decide +kernel⟩,
   ⟨8, 31, 63, (sLane 0).setLane 31 { (sLane 0).laneAt 31 with stage := List.replicate 15 (63, 1) },
      by unfold Reaches; decide +kernel⟩,
   ⟨8, 31, 63, (sLane 0).setLane 31 { (sLane 0).laneAt 31 with stage := List.replicate 16 (63, 1) },
      by unfold Reaches; decide +kernel⟩,
   ⟨8, 31, 63, 0xFFFFFFFFFFFF, ((sNow.fset .LANE_CTRL_EN 1 31).fset .LANE_STAT_STATE laneIdle 31).setLane 31
      { sNow.laneAt 31 with stage := [(63, 0xFFFFFFFFFFFF)] }, by unfold Reaches; decide +kernel⟩,
   ⟨8, 31, (sLane 0).setLane 31 { (sLane 0).laneAt 31 with stage := [(63, 1)] }, by unfold Reaches; decide +kernel⟩,
   ⟨31, 63, 1, 2, (sNow.fset .LANE_CTRL_APPLY 1 31).setLane 31 { sNow.laneAt 31 with stage := [(63, 1), (63, 2)] },
      by decide +kernel⟩,
   ⟨8, 31, 511, 0xFFFFFFFF, s0.setPort 8 { s0.portAt 8 with wstage := some (regAddr .LANE_PMEM 31 511, 0xFFFFFFFF) },
      by unfold Reaches; decide +kernel⟩,
   ⟨8, 31, 511, sLane 0, by unfold Reaches; decide +kernel⟩,
   ⟨8, 31, sNow.fset .LANE_POSTOP_OPERAND 0xFFFFFFFFFFFF 31, by unfold Reaches; decide +kernel⟩,
   ⟨8, 31, State.reset, by unfold Reaches; decide +kernel⟩,
   ⟨8, 31, ((sNow.fset .LANE_CTRL_EN 1 31).fset .LANE_STAT_STATE laneIdle 31).setLane 31
      { sNow.laneAt 31 with queue := [⟨1, true, 0, 0, 0⟩] }, by unfold Reaches; decide +kernel⟩,
   ⟨8, 31, (((sNow.fset .LANE_CTRL_EN 1 31).fset .LANE_STAT_STATE laneFaulted 31).fset .LANE_STAT_FAULT 1 31).fset
      .LANE_STAT_CAUSE 3 31, by unfold Reaches; decide +kernel⟩,
   ⟨8, 31, 511, State.reset, by unfold Reaches; decide +kernel⟩,
   ⟨8, 31, 511, State.reset, by unfold Reaches; decide +kernel⟩,
   ⟨8, 31, 511, { s0 with upsets := [(pmemSlot 31 511, true)] }, by unfold Reaches; decide +kernel⟩,
   ⟨8, 31, s0.fset .LANE_STAT_STATE laneRunning 31, by unfold Reaches; decide +kernel⟩,
   ⟨8, 31, sOp (ins .nop 0 0 0 0 0), by unfold Reaches; decide +kernel⟩,
   ⟨8, 31, (fun t => t.setLane 31 { t.laneAt 31 with nextAt := 5002 }) (sNow.fset .LANE_STAT_STATE laneRunning 31),
      by unfold Reaches; decide +kernel⟩⟩

/-- The hypotheses of LaeSamplesAndEvents are met. -/
theorem witness_LaeSamplesAndEvents :
    (∃ (f : Fin 2) (s : State), s.clockOn 15 = true ∧ laeEn s f = true ∧ ((∀ p : Fin 3, s.fbit .SDM_CTRL_EN (6 * f.val + p.val)
      = true))) ∧
    (∃ (f : Fin 2) (s : State), laeEn s f = false) ∧
    (∃ (f : Fin 2) (s : State), laeEn s f = true ∧ (s.feedAt f).seen = false ∧ (s.feedAt f).seeded = true ∧ windowPassed s f =
      true) ∧
    (∃ (z : Fin 6) (s : State), s.clockOn 15 = true ∧ laeEn s (z.val / 3) = false) ∧
    (∃ (f : Fin 2) (i : Fin 3) (s : State), feedLocked s f = true ∧ reached s f (phi i) = true ∧ bit (s.feedAt f).raised i =
      false) ∧
    (∃ (f : Fin 2) (s : State), feedLocked s f = false) ∧
    (∃ (f : Fin 2) (s : State), s.clockOn 15 = true ∧ laeEn s f = false) ∧
    (∃ (f : Fin 2) (s : State), windowPassed s f = false) ∧
    (∃ (z : Fin 6) (s : State), s.clockOn 15 = true ∧ laeEn s (z.val / 3) = true ∧ (s.feedAt (z.val / 3)).wait = []) ∧
    (∃ (z : Fin 6) (rising : Bool) (tc : Rat) (net : Rat) (s : State), s.clockOn 15 = true ∧ laeEn s (z.val / 3) = true ∧
      (s.feedAt (z.val / 3)).zx.length = 3 ∧ (s.feedAt (z.val / 3)).seeded = true ∧ (s.feedAt (z.val / 3)).wait = [⟨crossIdx
      (z.val % 3) rising, tc, net⟩] ∧ near ((s.now : Rat) - 4 * (s.fget .LAE_ZXDLY_DLY z : Rat)) net (800 * (s.fget
      .LAE_FEED_CWIN_ZXAGREE (z.val / 3) : Rat)) = true) ∧
    (∃ (f : Fin 2) (i : Fin 4) (s : State), feedLocked s f = true ∧ s.flag .LAE_FEED_EVANG_EN f i = true ∧ reached s f (s.fget
      .LAE_FEED_EVANG_ANGLE f i : Nat) = true ∧ bit (s.feedAt f).raised (3 + i.val) = false) ∧
    (∃ (f : Fin 2) (i : Fin 3) (s : State), (reached s f (phi i) = false ∨ bit (s.feedAt f).raised i = true)) ∧
    (∃ (f : Fin 2) (i : Fin 4) (s : State), (s.flag .LAE_FEED_EVANG_EN f i = false ∨ reached s f (s.fget .LAE_FEED_EVANG_ANGLE
      f i : Nat) = false ∨ bit (s.feedAt f).raised (3 + i.val) = true)) :=
  ⟨⟨1, (sNow.fset .LAE_CTRL_ENB 1).fset .SDM_CTRL_EN 0xFFF, by decide +kernel⟩,
   ⟨1, State.reset, by decide +kernel⟩,
   ⟨1, (sNow.fset .LAE_CTRL_ENB 1).setFeed 1 { sNow.feedAt 1 with seeded := true, theta := 8192 }, by decide +kernel⟩,
   ⟨5, State.reset, by decide +kernel⟩,
   ⟨1, 2, (sNow.fset .LAE_FEED_STAT_LOCK 1 1).setFeed 1 { sNow.feedAt 1 with pub := 43691, pubPrev := 43690 },
      by decide +kernel⟩,
   ⟨1, State.reset, by decide +kernel⟩,
   ⟨1, State.reset, by decide +kernel⟩,
   ⟨1, State.reset, by decide +kernel⟩,
   ⟨5, sNow.fset .LAE_CTRL_ENB 1, by decide +kernel⟩,
   ⟨5, true, 5000, 5000, (sNow.fset .LAE_CTRL_ENB 1).setFeed 1
      { sNow.feedAt 1 with seeded := true, wait := [⟨crossIdx 2 true, 5000, 5000⟩], bads := 2, coastBad := true },
      by decide +kernel⟩,
   ⟨1, 3, ((sGate.fset .LAE_FEED_EVANG_EN 1 1 3).fset .LAE_FEED_EVANG_ANGLE 50 1 3), by decide +kernel⟩,
   ⟨1, 2, State.reset, by decide +kernel⟩,
   ⟨1, 3, State.reset, by decide +kernel⟩⟩

/-- The hypotheses of GateCourse are met. -/
theorem witness_GateCourse :
    (∃ (j : Fin 12) (s : State), mayFire s j = true ∧ (gateAt s j false).done = false ∧ (gateAt s j false).open_ = false ∧
      fluxArmed s (pairFeed s j) = false ∧ (s.feedAt (pairFeed s j)).xf ≠ 2 ∧ (s.feedAt (pairFeed s j)).xf ≠ 3 ∧ gateDue s j
      false = true ∧ insideWindow s j false = true) ∧
    (∃ (j : Fin 12) (s : State), mayFire s j = false) ∧
    (∃ (f : Fin 2) (j : Fin 12) (s : State), thirdHere s f = true ∧ j.val ∈ fluxPairs s f ((s.feedAt f).xfK + 2) ∧ mayFire s j
      = true) ∧
    (∃ (j : Fin 12) (rev : Bool) (s : State), (gateAt s j rev).on = true ∧ (gateAt s j rev).open_ = true ∧ (gateMode s j
      (gateAt s j rev) = 0 ∨ gateMode s j (gateAt s j rev) = 1 ∧ (gateAt s j rev).confirmed = true) ∧ (gateAt s j rev).pulseAt
      + s.fget .LAE_PAIR_PULSE_TON j * 800 ≤ s.now) ∧
    (∃ (j : Fin 12) (rev : Bool) (s : State), (gateAt s j rev).on = true ∧ (gateAt s j rev).confirmed = false ∧ gateMode s j
      (gateAt s j rev) = 1 ∧ (gateAt s j rev).pulseAt + s.fget .LAE_PAIR_PULSE_TON j * 800 ≤ s.now) ∧
    (∃ (j : Fin 12) (rev : Bool) (s : State), (gateAt s j rev).open_ = true ∧ (gateAt s j rev).confirmed = false ∧ gateMode s j
      (gateAt s j rev) = 1 ∧ (gateAt s j rev).pulseAt + s.fget .LAE_PAIR_PULSE_TPER j * 800 ≤ s.now ∧ interlockFree s (pairFeed
      s j) = true) ∧
    (∃ (j : Fin 12) (rev : Bool) (s : State), (gateAt s j rev).watch = true ∧ (gateAt s j rev).confirmed = false ∧ ((gateAt s j
      rev).closed = true ∨ gateMode s j (gateAt s j rev) = 0 ∧ (gateAt s j rev).firedAt + (s.fget .LAE_PAIR_PULSE_TON j + 50) *
      800 ≤ s.now)) ∧
    (∃ (j : Fin 12) (rev : Bool) (s : State), (gateAt s j rev).open_ = true ∧ gateMode s j (gateAt s j rev) ≠ 0 ∧ (pairStrat s
      j ≠ 3 ∨ gateMode s j (gateAt s j rev) ≠ 2 ∨ (gateAt s j rev).zero ≠ none) ∧ reached s (pairFeed s j) (phi (pairPhase s j)
      + ((s.pairAt j).endW : Rat) + (if rev then 32768 else 0)) = true) ∧
    (∃ (j : Fin 12) (r : Nat) (s : State), (s.pairAt j).rel = some r ∧ r + 9600000 ≤ s.now) ∧
    (∃ (m : Fin 10) (j : Fin 12) (rev : Bool) (v : Nat) (s : State), Reaches s m (regAddr .LAE_PAIR_CFG j) ∧ bit v 0 = false ∧
      pairEn s j = true ∧ (m.val = 7 ∨ pairValid (s.writeNamed .LAE_PAIR_CFG (v % 2 ^ 32) j) j = true) ∧ (gateAt s j rev).open_
      = true) ∧
    (∃ (f : Fin 2) (s : State), reached s f 0 = true ∧ s.flag .LAE_FEED_PRESTAT_RAMP f = true ∧ lineToLine s f - (s.feedAt
      f).vc ≤ preLim s f * rsqrt (quot (preInd s f) (preCap s f))) ∧
    (∃ (f : Fin 2) (s : State), (s.flag .LAE_FEED_PRESTAT_RAMP f = false ∨ reached s f 0 = false)) ∧
    (∃ (j : Fin 12) (s : State), mayFire s j = true ∧ (gateAt s j true).done = false ∧ (gateAt s j true).open_ = false ∧
      fluxArmed s (pairFeed s j) = false ∧ (s.feedAt (pairFeed s j)).xf ≠ 2 ∧ (s.feedAt (pairFeed s j)).xf ≠ 3 ∧ gateDue s j
      true = true ∧ insideWindow s j true = true) ∧
    (∃ (j : Fin 12) (rev : Bool) (s : State), mayFire s j = true ∧ (gateAt s j rev).done = false ∧ (gateAt s j rev).open_ =
      false ∧ fluxArmed s (pairFeed s j) = false ∧ (s.feedAt (pairFeed s j)).xf ≠ 2 ∧ (s.feedAt (pairFeed s j)).xf ≠ 3 ∧
      gateDue s j rev = false ∧ gateHere s j rev = true ∧ readyFrom s j rev = none ∧ (gateAt s j rev).waitZ = none) ∧
    (∃ (j : Fin 12) (s : State), mayFire s j = true ∧ (gateAt s j false).done = false ∧ (gateAt s j false).open_ = false ∧
      fluxArmed s (pairFeed s j) = true ∧ pairPhase s j = fluxK s (pairFeed s j) ∧ fluxDue s (pairFeed s j) = true) ∧
    (∃ (j : Fin 12) (s : State), fluxArmed s (pairFeed s j) = true ∧ fluxDue s (pairFeed s j) = false) ∧
    (∃ (f : Fin 2) (s : State), thirdHere s f = false) ∧
    (∃ (f : Fin 2) (j : Fin 12) (s : State), thirdHere s f = true ∧ (j.val ∉ fluxPairs s f ((s.feedAt f).xfK + 2) ∨ mayFire s j
      = false)) ∧
    (∃ (j : Fin 12) (s : State), interlockFree s (pairFeed s j) = false) ∧
    (∃ (j : Fin 12) (rev : Bool) (s : State), (gateAt s j rev).open_ = true ∧ gateMode s j (gateAt s j rev) = 2 ∧ pairStrat s j
      = 3 ∧ (gateAt s j rev).zero = none ∧ reached s (pairFeed s j) (phi (pairPhase s j) + ((s.pairAt j).endW : Rat) + (if rev
      then 32768 else 0)) = true) ∧
    (∃ (j : Fin 12) (rev : Bool) (r : Nat) (s : State), (gateAt s j rev).stopAt = some r ∧ r + 9600000 ≤ s.now ∧ (gateAt s j
      rev).open_ = true) ∧
    (∃ (j : Fin 12) (rev : Bool) (r : Nat) (s : State), (gateAt s j rev).waitZ = some r ∧ r + 9600000 ≤ s.now) ∧
    (∃ (m : Fin 10) (j : Fin 12) (v : Nat) (s : State), Reaches s m (regAddr .LAE_PAIR_CFG j) ∧ bit v 0 = false ∧ (m.val = 7 ∨
      pairValid (s.writeNamed .LAE_PAIR_CFG (v % 2 ^ 32) j) j = true) ∧ ((∀ rev, (gateAt s j rev).open_ = false))) ∧
    (∃ (f : Fin 2) (s : State), reached s f 0 = true ∧ s.flag .LAE_FEED_PRESTAT_RAMP f = true ∧ preLim s f * rsqrt (quot
      (preInd s f) (preCap s f)) < lineToLine s f - (s.feedAt f).vc) :=
  ⟨⟨11, sGate, by decide +kernel⟩,
   ⟨11, State.reset, by decide +kernel⟩,
   ⟨1, 11, ((((sGate.fset .LAE_PAIR_CFG_PHASE 2 11).fset .LAE_PAIR_CFG_STRAT 2 11)).setFeed 1
      { sGate.feedAt 1 with xf := 2, xfK := 0, xfAlpha := 0, pub := 30000 }), by decide +kernel⟩,
   ⟨11, true, sGate.setPair 11 { sGate.pairAt 11 with rev := { on := true, open_ := true } }, by decide +kernel⟩,
   ⟨11, true, (sGate.fset .LAE_PAIR_CFG_MODE 1 11).setPair 11 { sGate.pairAt 11 with rev := { on := true, open_ := true } },
      by decide +kernel⟩,
   ⟨11, true, ((sGate.fset .LAE_PAIR_CFG_MODE 1 11).fset .LAE_PAIR_PULSE_TPER 6 11).setPair 11
      { sGate.pairAt 11 with rev := { open_ := true }, feedN := 1 }, by decide +kernel⟩,
   ⟨11, true, sGate.setPair 11 { sGate.pairAt 11 with rev := { watch := true, closed := true } }, by decide +kernel⟩,
   ⟨11, true, ((sGate.fset .LAE_PAIR_CFG_MODE 2 11).setPair 11
      { sGate.pairAt 11 with rev := { on := true, open_ := true }, endW := 30000 }).setFeed 1
      { sGate.feedAt 1 with pub := 62768, pubPrev := 62767 }, by decide +kernel⟩,
   ⟨11, 400000, { sNow with now := 10000000 }.setPair 11 { sNow.pairAt 11 with rel := some 400000 }, by decide +kernel⟩,
   ⟨8, 11, true, 0, sGate.setPair 11 { sGate.pairAt 11 with rev := { on := true, open_ := true } },
      by unfold Reaches; decide +kernel⟩,
   ⟨1, ((sNow.fset .LAE_FEED_PRESTAT_RAMP 1 1).fset .LAE_FEED_AMP_AMP 0 1).setFeed 1 { sNow.feedAt 1 with pub := 1, pubPrev := 65535 },
    by decide +kernel, by decide +kernel, open_sum (by decide +kernel) _ _⟩,
   ⟨1, State.reset, by decide +kernel⟩,
   ⟨11, (((sGate.fset .LAE_PAIR_CFG_STRAT 3 11).fset .LAE_PAIR_CFG_MODE 2 11).fset .LAE_PAIR_SLEW_CZMARG 0 11).setPair 11
      { sGate.pairAt 11 with act := some 100, endW := 30000, fwd := { zero := some 5000 } } |>.setFeed 1
      { sGate.feedAt 1 with pub := 32968, pubPrev := 32967 }, by decide +kernel⟩,
   ⟨11, true, (sGate.fset .LAE_PAIR_CFG_STRAT 3 11).setPair 11
      { sGate.pairAt 11 with act := some 100, fwd := { zero := none } } |>.setFeed 1
      { sGate.feedAt 1 with pub := 32868, pubPrev := 32867 }, by decide +kernel⟩,
   ⟨11, (sGate.fset .LAE_PAIR_CFG_STRAT 2 11).setFeed 1 { sGate.feedAt 1 with xfNow := true }, by decide +kernel⟩,
   ⟨11, (sGate.fset .LAE_PAIR_CFG_STRAT 2 11), by decide +kernel⟩,
   ⟨1, State.reset, by decide +kernel⟩,
   ⟨1, 11, (sGate.fset .LAE_FEED_XF_XDLY 0 1).setFeed 1 { sGate.feedAt 1 with xf := 2, pub := 100, pubPrev := 65535 },
      by decide +kernel⟩,
   ⟨11, sGate.setPair 11 { sGate.pairAt 11 with rev := { open_ := true }, feedN := 0 }, by decide +kernel⟩,
   ⟨11, true, ((sGate.fset .LAE_PAIR_CFG_MODE 2 11).fset .LAE_PAIR_CFG_STRAT 3 11).setPair 11
      { sGate.pairAt 11 with rev := { on := true, open_ := true, zero := none }, endW := 30000 } |>.setFeed 1
      { sGate.feedAt 1 with pub := 62768, pubPrev := 62767 }, by decide +kernel⟩,
   ⟨11, true, 400000, { sNow with now := 10000000 }.setPair 11
      { sNow.pairAt 11 with rev := { on := true, open_ := true, stopAt := some 400000 } }, by decide +kernel⟩,
   ⟨11, true, 400000, { sNow with now := 10000000 }.setPair 11 { sNow.pairAt 11 with rev := { waitZ := some 400000 } },
      by decide +kernel⟩,
   ⟨8, 11, 0, State.reset, by unfold Reaches; decide +kernel⟩,
   ⟨1, ((((sNow.fset .LAE_FEED_PRESTAT_RAMP 1 1).fset .LAE_FEED_AMP_AMP 0x1000000 1).fset .LAE_FEED_PRECAP_PRECAP 1 1).fset
      .LAE_FEED_PRELIM_PRELIM 0 1).setFeed 1 { sNow.feedAt 1 with pub := 1, pubPrev := 65535 }, by decide +kernel⟩⟩

/-- The hypotheses of FeedsAndTransfers are met. -/
theorem witness_FeedsAndTransfers :
    (∃ (f : Fin 2) (s : State), s.flag .LAE_FEED_STAT_SAG f = false ∧ s.fget .LAE_FEED_CFG_SAGN f ≤ (s.feedAt f).below ∧
      (s.feedAt f).below ≠ 0) ∧
    (∃ (f : Fin 2) (s : State), s.flag .LAE_FEED_STAT_SAG f = true ∧ s.fget .LAE_FEED_CFG_SAGN f ≤ (s.feedAt f).above) ∧
    (∃ (f : Fin 2) (s : State), qualified s f = true ∧ s.flag .LAE_XSTAT_NONE = true ∧ s.flag .LAE_XSTAT_BUSY = false ∧
      qualified s (1 - f.val) = false) ∧
    (∃ (m : Fin 10) (v : Nat) (s : State), Reaches s m (regAddr .LAE_XCTRL) ∧ bit v 0 = true ∧ s.flag .LAE_XSTAT_BUSY = false ∧
      s.flag .LAE_XSTAT_NONE = false ∧ qualified s (1 - loadFeed s) = true) ∧
    (∃ (m : Fin 10) (v : Nat) (s : State), Reaches s m (regAddr .LAE_XCTRL) ∧ bit v 0 = true ∧ s.flag .LAE_XSTAT_BUSY = false ∧
      (s.flag .LAE_XSTAT_NONE = true ∨ qualified s (1 - loadFeed s) = false)) ∧
    (∃ (s : State), s.flag .LAE_XCFG_AUTORET = true ∧ s.flag .LAE_XSTAT_NONE = false ∧ s.flag .LAE_XSTAT_BUSY = false ∧
      loadFeed s + s.fget .LAE_XCFG_PREF = 1 ∧ qualified s (s.fget .LAE_XCFG_PREF) = true ∧ (s.feedAt (s.fget
      .LAE_XCFG_PREF)).since + s.fget .LAE_XCFG_QUAL * 800000 + s.fget .LAE_XCFG_RETDLY * 1000 * 800000 ≤ s.now) ∧
    (∃ (s : State), s.flag .LAE_XSTAT_BUSY = true ∧ s.xfer.step = 3 ∧ feedIdle s (loadFeed s) = true) ∧
    (∃ (s : State), s.flag .LAE_XSTAT_BUSY = true ∧ s.xfer.step = 4 ∧ s.fget .LAE_XSTAT_ACTIVE ≤ 1 ∧ s.xfer.zeroAt + s.fget
      .LAE_XCFG_MARG * 800 ≤ s.now) ∧
    (∃ (s : State), s.flag .LAE_XSTAT_BUSY = true ∧ s.xfer.td ≤ s.now) ∧
    (∃ (f : Fin 2) (s : State), s.flag .LAE_FEED_STAT_SAG f = false ∧ s.fget .LAE_FEED_CFG_SAGN f ≤ (s.feedAt f).below ∧
      (s.feedAt f).below ≠ 0 ∧ loadFeed s = f.val ∧ s.flag .LAE_XSTAT_NONE = false ∧ s.flag .LAE_XSTAT_BUSY = false ∧ s.flag
      .LAE_XCFG_XAUTO = true ∧ qualified s (1 - f.val) = true) ∧
    (∃ (f : Fin 2) (s : State), qualified s f = true ∧ s.flag .LAE_XSTAT_NONE = true ∧ s.flag .LAE_XSTAT_BUSY = false ∧
      qualified s (1 - f.val) = true) ∧
    (∃ (m : Fin 10) (v : Nat) (s : State), Reaches s m (regAddr .LAE_XCTRL) ∧ bit v 0 = true ∧ s.flag .LAE_XSTAT_BUSY = true) ∧
    (∃ (s : State), s.flag .LAE_XSTAT_BUSY = true ∧ s.xfer.step = 3 ∧ feedIdle s (loadFeed s) = false) ∧
    (∃ (s : State), s.flag .LAE_XSTAT_BUSY = false) ∧
    (∃ (s : State), s.flag .LAE_XSTAT_BUSY = false) ∧
    (∃ (s : State), s.flag .LAE_XSTAT_BUSY = false) :=
  ⟨⟨1, sNow.setFeed 1 { sNow.feedAt 1 with below := 255 }, by decide +kernel⟩,
   ⟨1, (sNow.fset .LAE_FEED_STAT_SAG 1 1).setFeed 1 { sNow.feedAt 1 with above := 255 }, by decide +kernel⟩,
   ⟨1, ((sNow.fset .LAE_FEED_STAT_HEALTHY 1 1).fset .LAE_XCFG_QUAL 0).fset .LAE_XSTAT_NONE 1, by decide +kernel⟩,
   ⟨8, 1, ((sNow.fset .LAE_FEED_STAT_HEALTHY 1 1).fset .LAE_XCFG_QUAL 0).fset .LAE_XSTAT_NONE 0,
      by unfold Reaches; decide +kernel⟩,
   ⟨8, 1, sNow.fset .LAE_XSTAT_NONE 0, by unfold Reaches; decide +kernel⟩,
   ⟨(((((sNow.fset .LAE_FEED_STAT_HEALTHY 1 1).fset .LAE_XCFG_QUAL 0).fset .LAE_XCFG_RETDLY 0).fset .LAE_XSTAT_NONE 0).fset
      .LAE_XCFG_AUTORET 1).fset .LAE_XCFG_PREF 1, by decide +kernel⟩,
   ⟨{ sNow.fset .LAE_XSTAT_BUSY 1 with xfer := { sNow.xfer with step := 3 } }, by decide +kernel⟩,
   ⟨{ sNow.fset .LAE_XSTAT_BUSY 1 with now := 1000000, xfer := { sNow.xfer with step := 4, zeroAt := 5000 } },
      by decide +kernel⟩,
   ⟨{ sNow.fset .LAE_XSTAT_BUSY 1 with xfer := { sNow.xfer with step := 4, td := 5000 } }, by decide +kernel⟩,
   ⟨1, (((((sNow.fset .LAE_XSTAT_ACTIVE 1).fset .LAE_XSTAT_NONE 0).fset .LAE_XCFG_XAUTO 1).fset .LAE_FEED_STAT_HEALTHY 1
      0).fset .LAE_XCFG_QUAL 0).setFeed 1 { sNow.feedAt 1 with below := 255 }, by decide +kernel⟩,
   ⟨1, ((((sNow.fset .LAE_FEED_STAT_HEALTHY 1 0).fset .LAE_FEED_STAT_HEALTHY 1 1).fset .LAE_XCFG_QUAL 0).fset .LAE_XSTAT_NONE
      1).setFeed 1 { sNow.feedAt 1 with since := 5000 }, by decide +kernel⟩,
   ⟨8, 1, sNow.fset .LAE_XSTAT_BUSY 1, by unfold Reaches; decide +kernel⟩,
   ⟨{ sNow.fset .LAE_XSTAT_BUSY 1 with xfer := { sNow.xfer with step := 3 } }.setPair 11
      { sNow.pairAt 11 with rel := some 5000 }, by decide +kernel⟩,
   ⟨State.reset, by decide +kernel⟩,
   ⟨State.reset, by decide +kernel⟩,
   ⟨State.reset, by decide +kernel⟩⟩

/-- The hypotheses of Timers are met. -/
theorem witness_Timers :
    (∃ (t : Fin 16) (s : State), tmrDue s t = true ∧ tmrLeads s t = false ∧ s.fget .TMR_CNT_COUNT t < 2 ^ 32) ∧
    (∃ (m : Fin 10) (t : Fin 16) (v : Nat) (s : State), Reaches s m (regAddr .TMR_CFG t) ∧ bit v 0 = true ∧ s.flag .TMR_CFG_EN
      t = false ∧ tmrFollows s t = false) ∧
    (∃ (m : Fin 10) (t : Fin 16) (v : Nat) (s : State), Reaches s m (regAddr .TMR_CFG t) ∧ bit v 0 = false ∧ s.flag .TMR_CFG_EN
      t = true ∧ tmrFollows s t = false) ∧
    (∃ (m : Fin 10) (s : State), Reaches s m (regAddr .TMR_GO)) ∧
    (∃ (m : Fin 10) (s : State), Reaches s m (regAddr .TMR_HALT)) ∧
    (∃ (m : Fin 10) (t : Fin 16) (s : State), Reaches s m (regAddr .TMR_CNT t) ∧ s.flag .TMR_CFG_EN (tmrOf s t) = false) ∧
    (∃ (m : Fin 10) (t : Fin 16) (s : State), Reaches s m (regAddr .TMR_CNT t) ∧ s.flag .TMR_CFG_EN (tmrOf s t) = true) ∧
    (∃ (m : Fin 10) (t : Fin 16) (s : State), Reaches s m (regAddr .TMR_PIN t) ∧ tmrDue (tmrBack s (tmrOf s t)) (tmrOf s t) =
      false) ∧
    (∃ (m : Fin 10) (t : Fin 16) (s : State), Reaches s m (regAddr .TMR_RELOAD t) ∧ tmrLeads s t = true) ∧
    (∃ (m : Fin 10) (p : Fin 8) (w : Nat) (s : State), Reaches s m (regAddr .TMR_RELOAD (2 * p.val + 1)) ∧ s.flag
      .TMR_CFG_CHAIN (2 * p.val) = true ∧ (s.portAt m).chain = some (regAddr .TMR_RELOAD (2 * p.val), w) ∧ w < 2 ^ 32) ∧
    (∃ (m : Fin 10) (s : State), (s.coreAt m).wait = none ∧ Reaches s m (regAddr .TMR_LTC_LO)) ∧
    (∃ (m : Fin 10) (h : Nat) (w : Nat) (s : State), (s.coreAt m).wait = none ∧ Reaches s m (regAddr .TMR_LTC_HI) ∧ (s.portAt
      m).wide = some (regAddr .TMR_LTC_LO, h, w) ∧ 3 * (s.now - w) ≤ 512) ∧
    (∃ (t : Fin 16) (s : State), tmrDue s t = true ∧ tmrLeads s t = true) ∧
    (∃ (t : Fin 16) (s : State), tmrDue s t = false) ∧
    (∃ (m : Fin 10) (t : Fin 16) (v : Nat) (s : State), Reaches s m (regAddr .TMR_CFG t) ∧ bit v 0 = true ∧ (s.flag .TMR_CFG_EN
      t = true ∨ tmrFollows s t = true)) ∧
    (∃ (m : Fin 10) (t : Fin 16) (v : Nat) (s : State), Reaches s m (regAddr .TMR_CFG t) ∧ bit v 0 = false ∧ (s.flag
      .TMR_CFG_EN t = false ∨ tmrFollows s t = true)) ∧
    (∃ (m : Fin 10) (t : Fin 16) (s : State), Reaches s m (regAddr .TMR_PIN t)) ∧
    (∃ (m : Fin 10) (t : Fin 16) (j : Fin 4) (s : State), Reaches s m (regAddr .TMR_CMP t j) ∧ tmrLeads s t = true) ∧
    (∃ (m : Fin 10) (p : Fin 8) (j : Fin 4) (w : Nat) (s : State), Reaches s m (regAddr .TMR_CMP (2 * p.val + 1) j) ∧ s.flag
      .TMR_CFG_CHAIN (2 * p.val) = true ∧ (s.portAt m).chain = some (regAddr .TMR_CMP (2 * p.val) j, w) ∧ w < 2 ^ 32) ∧
    (∃ (m : Fin 10) (t : Fin 16) (s : State), Reaches s m (regAddr .TMR_RELOAD t) ∧ tmrLeads s t = false ∧ (tmrFollows s t =
      false ∨ (∀ w, (s.portAt m).chain ≠ some (regAddr .TMR_RELOAD (t - 1), w)))) ∧
    (∃ (m : Fin 10) (t : Fin 16) (j : Fin 4) (s : State), Reaches s m (regAddr .TMR_CMP t j) ∧ tmrLeads s t = false ∧
      (tmrFollows s t = false ∨ (∀ w, (s.portAt m).chain ≠ some (regAddr .TMR_CMP (t - 1) j, w)))) ∧
    (∃ (m : Fin 10) (p : Fin 8) (s : State), (s.coreAt m).wait = none ∧ Reaches s m (regAddr .TMR_CNT (2 * p.val)) ∧ s.flag
      .TMR_CFG_CHAIN (2 * p.val) = true ∧ tmrDue s (2 * p.val) = false) ∧
    (∃ (m : Fin 10) (p : Fin 8) (s : State), (s.coreAt m).wait = none ∧ Reaches s m (regAddr .TMR_CNT (2 * p.val)) ∧ s.flag
      .TMR_CFG_CHAIN (2 * p.val) = true ∧ tmrDue s (2 * p.val) = true) ∧
    (∃ (m : Fin 10) (p : Fin 8) (h : Nat) (w : Nat) (s : State), (s.coreAt m).wait = none ∧ Reaches s m (regAddr .TMR_CNT (2 *
      p.val + 1)) ∧ s.flag .TMR_CFG_CHAIN (2 * p.val) = true ∧ (s.portAt m).wide = some (regAddr .TMR_CNT (2 * p.val), h, w) ∧
      3 * (s.now - w) ≤ 512) ∧
    (∃ (m : Fin 10) (s : State), (s.coreAt m).wait = none ∧ Reaches s m (regAddr .TMR_LTC_HI) ∧ ((∀ h w, (s.portAt m).wide =
      some (regAddr .TMR_LTC_LO, h, w) → 512 < 3 * (s.now - w)))) ∧
    (∃ (m : Fin 10) (p : Fin 8) (s : State), (s.coreAt m).wait = none ∧ Reaches s m (regAddr .TMR_CNT (2 * p.val + 1)) ∧ s.flag
      .TMR_CFG_CHAIN (2 * p.val) = true ∧ tmrDue s (2 * p.val) = false ∧ ((∀ h w, (s.portAt m).wide = some (regAddr .TMR_CNT (2
      * p.val), h, w) → 512 < 3 * (s.now - w)))) :=
  ⟨⟨15, (sNow.fset .TMR_CFG_EN 1 15).setTmr 15 { sNow.tmrAt 15 with fresh := false }, by decide +kernel⟩,
   ⟨8, 15, 0x1FF, State.reset, by unfold Reaches; decide +kernel⟩,
   ⟨8, 15, 0, (sNow.fset .TMR_CFG_EN 1 15).fset .TMR_STAT_RUN 1 15, by unfold Reaches; decide +kernel⟩,
   ⟨8, State.reset, by unfold Reaches; decide +kernel⟩,
   ⟨8, (sNow.fset .TMR_CFG_EN 1 15).fset .TMR_STAT_RUN 1 15, by unfold Reaches; decide +kernel⟩,
   ⟨8, 15, State.reset, by unfold Reaches; decide +kernel⟩,
   ⟨8, 15, sNow.fset .TMR_CFG_EN 1 15, by unfold Reaches; decide +kernel⟩,
   ⟨8, 15, State.reset, by unfold Reaches; decide +kernel⟩,
   ⟨8, 14, s0.fset .TMR_CFG_CHAIN 1 14, by unfold Reaches; decide +kernel⟩,
   ⟨8, 7, 0xFFFFFFFF, (s0.fset .TMR_CFG_CHAIN 1 14).setPort 8
      { s0.portAt 8 with chain := some (regAddr .TMR_RELOAD 14, 0xFFFFFFFF) }, by unfold Reaches; decide +kernel⟩,
   ⟨8, { s0 with ltc := 0x1FFFFFFFF }, by unfold Reaches; decide +kernel⟩,
   ⟨8, 7, 4830, sNow.setPort 8 { sNow.portAt 8 with wide := some (regAddr .TMR_LTC_LO, 7, 4830) },
      by unfold Reaches; decide +kernel⟩,
   ⟨14, ((sNow.fset .TMR_CFG_EN 1 14).fset .TMR_CFG_CHAIN 1 14).setTmr 14 { sNow.tmrAt 14 with fresh := false },
      by decide +kernel⟩,
   ⟨15, State.reset, by decide +kernel⟩,
   ⟨8, 15, 0x1FF, (sNow.fset .TMR_CFG_EN 1 15), by unfold Reaches; decide +kernel⟩,
   ⟨8, 15, 0, State.reset, by unfold Reaches; decide +kernel⟩,
   ⟨8, 15, State.reset, by unfold Reaches; decide +kernel⟩,
   ⟨8, 14, 3, s0.fset .TMR_CFG_CHAIN 1 14, by unfold Reaches; decide +kernel⟩,
   ⟨8, 7, 3, 0xFFFFFFFF, (s0.fset .TMR_CFG_CHAIN 1 14).setPort 8
      { s0.portAt 8 with chain := some (regAddr .TMR_CMP 14 3, 0xFFFFFFFF) }, by unfold Reaches; decide +kernel⟩,
   ⟨8, 15, State.reset, by unfold Reaches; decide +kernel, by decide +kernel, Or.inl (by decide +kernel)⟩,
   ⟨8, 15, 3, State.reset, by unfold Reaches; decide +kernel, by decide +kernel, Or.inl (by decide +kernel)⟩,
   ⟨8, 7, sNow.fset .TMR_CFG_CHAIN 1 14, by unfold Reaches; decide +kernel⟩,
   ⟨8, 7, ((sNow.fset .TMR_CFG_EN 1 14).fset .TMR_CFG_CHAIN 1 14).setTmr 14 { sNow.tmrAt 14 with fresh := false },
      by unfold Reaches; decide +kernel⟩,
   ⟨8, 7, 7, 4830, (sNow.fset .TMR_CFG_CHAIN 1 14).setPort 8
      { sNow.portAt 8 with wide := some (regAddr .TMR_CNT 14, 7, 4830) }, by unfold Reaches; decide +kernel⟩,
   ⟨8, State.reset, by decide +kernel, by unfold Reaches; decide +kernel, fun _ _ => none_imp (by decide +kernel)⟩,
   ⟨8, 7, sNow.fset .TMR_CFG_CHAIN 1 14, by decide +kernel, by unfold Reaches; decide +kernel, by decide +kernel,
      by decide +kernel, fun _ _ => none_imp (by decide +kernel)⟩⟩

/-- The hypotheses of HarnessAndRoutes are met. -/
theorem witness_HarnessAndRoutes :
    (∃ (p : Nat) (g : Nat) (e : Nat) (c : Fin 32) (i : Fin 256) (s : State), s.hrn = [⟨p, g, e⟩] ∧ e ≤ s.ltc ∧ s.fbit
      .HRN_CH_MASK_MASK (p % 32) c (p / 32) = true ∧ s.flag .HRN_RTCTRL_APPLY = false ∧ s.fget .HRN_ROUTE_CH i = c.val ∧ s.flag
      .HRN_ROUTE_EN i = true ∧ s.fbit .HRN_CH_MASK_MASK (p % 32) (s.fget .TTH_CFG_FRAMECH) (p / 32) = false) ∧
    (∃ (m : Fin 10) (i : Fin 4) (v : Nat) (s : State), Reaches s m (regAddr .HRN_SWEV) ∧ bit v i = true) ∧
    (∃ (m : Fin 10) (i : Fin 256) (v : Nat) (s : State), Reaches s m (regAddr .HRN_ROUTENX i) ∧ bit v 8 = false) ∧
    (∃ (m : Fin 10) (v : Nat) (s : State), Reaches s m (regAddr .HRN_RTCTRL) ∧ bit v 0 = true ∧ bit v 1 = false ∧ bit v 8 =
      false ∧ s.flag .HRN_RTCTRL_APPLY = false ∧ Regs.wf s.regs = true) ∧
    (∃ (m : Fin 10) (v : Nat) (s : State), Reaches s m (regAddr .HRN_RTCTRL) ∧ bit v 0 = true ∧ bit v 1 = true ∧ bit v 8 =
      false ∧ s.flag .HRN_RTCTRL_APPLY = false) ∧
    (∃ (m : Fin 10) (v : Nat) (s : State), Reaches s m (regAddr .HRN_RTCTRL) ∧ bit v 8 = true ∧ bit v 0 = false ∧ s.flag
      .HRN_RTCTRL_APPLY = true ∧ boundaryNow s = false) ∧
    (∃ (p : Nat) (q : Nat) (g : Nat) (h : Nat) (e : Nat) (c : Fin 32) (i : Fin 256) (s : State), s.hrn = [⟨p, g, e⟩, ⟨q, h, e⟩]
      ∧ e ≤ s.ltc ∧ s.fbit .HRN_CH_MASK_MASK (p % 32) c (p / 32) = true ∧ s.fbit .HRN_CH_MASK_MASK (q % 32) c (q / 32) = true ∧
      s.flag .HRN_RTCTRL_APPLY = false ∧ s.fget .HRN_ROUTE_CH i = c.val ∧ s.flag .HRN_ROUTE_EN i = true ∧ ((∀ x : Fin 256, x ≠
      i → s.flag .HRN_ROUTE_EN x = false)) ∧ s.fget .TTH_CFG_FRAMECH < 64 ∧ s.fbit .HRN_CH_MASK_MASK (p % 32) (s.fget
      .TTH_CFG_FRAMECH) (p / 32) = false ∧ s.fbit .HRN_CH_MASK_MASK (q % 32) (s.fget .TTH_CFG_FRAMECH) (q / 32) = false) ∧
    (∃ (s : State), ((∀ x ∈ s.hrn, s.ltc < x.edge))) ∧
    (∃ (m : Fin 10) (v : Nat) (s : State), Reaches s m (regAddr .HRN_SWEV) ∧ v % 16 = 0) ∧
    (∃ (m : Fin 10) (i : Fin 256) (v : Nat) (s : State), Reaches s m (regAddr .HRN_ROUTENX i) ∧ bit v 8 = true) ∧
    (∃ (m : Fin 10) (v : Nat) (s : State), Reaches s m (regAddr .HRN_RTCTRL) ∧ bit v 8 = false ∧ s.flag .HRN_RTCTRL_APPLY =
      true) ∧
    (∃ (m : Fin 10) (s : State), Reaches s m (regAddr .HRN_RTCTRL) ∧ s.flag .HRN_RTCTRL_APPLY = true ∧ boundaryNow s = true) ∧
    (∃ (m : Fin 10) (v : Nat) (s : State), Reaches s m (regAddr .HRN_RTCTRL) ∧ bit v 8 = true ∧ bit v 0 = true ∧ bit v 1 = true
      ∧ s.flag .HRN_RTCTRL_APPLY = true ∧ boundaryNow s = false) ∧
    (∃ (m : Fin 10) (v : Nat) (s : State), Reaches s m (regAddr .HRN_RTCTRL) ∧ bit v 8 = true ∧ bit v 0 = false ∧ s.flag
      .HRN_RTCTRL_APPLY = false) ∧
    (∃ (m : Fin 10) (v : Nat) (s : State), Reaches s m (regAddr .HRN_RTCTRL) ∧ bit v 0 = true ∧ bit v 8 = true ∧ bit v 1 =
      false ∧ s.flag .HRN_RTCTRL_APPLY = true ∧ boundaryNow s = false ∧ Regs.wf s.regs = true) :=
  ⟨⟨125, 7, 5000, 31, 255,
      { ((sNow.fset .HRN_CH_MASK_MASK 0x20000000 31 3).fset .HRN_ROUTE_CH 31 255).fset .HRN_ROUTE_EN 1 255 with hrn := [⟨125, 7, 5000⟩] },
      by decide +kernel⟩,
   ⟨8, 3, 8, sNow, by unfold Reaches; decide +kernel⟩,
   ⟨8, 255, 0x7F, State.reset, by unfold Reaches; decide +kernel⟩,
   ⟨8, 1, ((s0.fset .HRN_ROUTENX_CH 31 255).fset .HRN_ROUTENX_EN 1 255).fset .HRN_ROUTENX_PEND 1 255,
      by unfold Reaches; decide +kernel⟩,
   ⟨8, 0xFF, State.reset, by unfold Reaches; decide +kernel⟩,
   ⟨8, 0x100, s0.fset .HRN_RTCTRL_APPLY 1, by unfold Reaches; decide +kernel⟩,
   ⟨125, 124, 7, 3, 5000, 31, 255,
      { (((sNow.fset .HRN_CH_MASK_MASK 0x30000000 31 3).fset .HRN_ROUTE_CH 31 255).fset .HRN_ROUTE_EN 1 255) with hrn := [⟨125, 7, 5000⟩, ⟨124, 3, 5000⟩] },
      by decide +kernel⟩,
   ⟨State.reset, by decide +kernel⟩,
   ⟨8, 0, State.reset, by unfold Reaches; decide +kernel⟩,
   ⟨8, 255, 0x1FF, s0.fset .HRN_ROUTENX_PEND 1 255, by unfold Reaches; decide +kernel⟩,
   ⟨8, 1, s0.fset .HRN_RTCTRL_APPLY 1, by unfold Reaches; decide +kernel⟩,
   ⟨8, { ((sNow.fset .HRN_RTCTRL_APPLY 1).fset .HRN_CH_MASK_MASK 0x20000000 0 3) with hrn := [⟨125, 7, 5000⟩] },
      by unfold Reaches; decide +kernel⟩,
   ⟨8, 0x1FF, s0.fset .HRN_RTCTRL_APPLY 1, by unfold Reaches; decide +kernel⟩,
   ⟨8, 0x100, State.reset, by unfold Reaches; decide +kernel⟩,
   ⟨8, 0x101, (s0.fset .HRN_RTCTRL_APPLY 1).fset .HRN_ROUTENX_PEND 1 255, by unfold Reaches; decide +kernel⟩⟩

/-- The hypotheses of StepKeepsLevels are met. -/
theorem witness_StepKeepsLevels :
    (∃ (s : State) (t : State), Sound s ∧ levelsOk s ∧ step s = .next t) :=
  ⟨{ s0 with pending := [.coreFence 4] }, { s0 with pending := [] }, by unfold Sound; decide +kernel, levels_s0, rfl⟩

/-- The hypotheses of CoreInstructions are met. -/
theorem witness_CoreInstructions :
    (∃ (c : Fin 5) (w : Nat) (s : State), coreActs s c = true ∧ (s.coreAt c).level < 16 ∧ w < 2 ^ 32 ∧ w % 128 = 0x13 ∧ bits w
      12 3 = 0) ∧
    (∃ (c : Fin 5) (w : Nat) (s : State), coreActs s c = true ∧ (s.coreAt c).level < 16 ∧ w < 2 ^ 32 ∧ w % 128 = 0x37) ∧
    (∃ (c : Fin 5) (w : Nat) (a : Nat) (s : State), coreActs s c = true ∧ (s.coreAt c).level < 16 ∧ w < 2 ^ 32 ∧ w % 128 = 0x03
      ∧ bits w 12 3 = 2 ∧ a = ((s.coreAt c).reg (bits w 15 5) + twos 32 (sext 12 (bits w 20 12))) % 2 ^ 32 ∧ AtomicAt s a ∧
      mustWait s c a = false ∧ s.pw.powered = true ∧ s.pw.rst = none) ∧
    (∃ (c : Fin 5) (w : Nat) (a : Nat) (s : State), coreActs s c = true ∧ w < 2 ^ 32 ∧ w % 128 = 0x23 ∧ bits w 12 3 = 2 ∧ a =
      ((s.coreAt c).reg (bits w 15 5) + twos 32 (sext 12 (bits w 7 5 + 32 * bits w 25 7))) % 2 ^ 32 ∧ AtomicAt s a ∧ mustWait s
      c a = false ∧ s.pw.powered = true ∧ s.pw.rst = none) ∧
    (∃ (c : Fin 5) (w : Nat) (s : State), coreActs s c = true ∧ w < 2 ^ 32 ∧ w % 128 = 0x63 ∧ bits w 12 3 = 0) ∧
    (∃ (c : Fin 5) (s : State), coreActs s c = true) ∧
    (∃ (c : Fin 5) (s : State), coreActs s c = true) ∧
    (∃ (c : Fin 5) (s : State), coreActs s c = true) ∧
    (∃ (c : Fin 5) (s : State), coreActs s c = true) ∧
    (∃ (c : Fin 5) (s : State), coreActs s c = true ∧ (s.coreAt c).level < 16) ∧
    (∃ (c : Fin 5) (s : State), coreActs s c = true ∧ (s.coreAt c).level < 16) ∧
    (∃ (c : Fin 5) (w : Nat) (v : Nat) (s : State), coreActs s c = true ∧ (s.coreAt c).level < 16 ∧ w < 2 ^ 32 ∧ (w % 128 =
      0x33 ∧ aluOp (bits w 25 7) (bits w 12 3) (bits w 20 5) ((s.coreAt c).reg (bits w 15 5)) ((s.coreAt c).reg (bits w 20 5))
      = some v ∨ w % 128 = 0x13 ∧ aluImm (bits w 12 3) (bits w 20 12) ((s.coreAt c).reg (bits w 15 5)) = some v) ∧ v < 2 ^ 32) ∧
    (∃ (c : Fin 5) (w : Nat) (s : State), coreActs s c = true ∧ (s.coreAt c).level < 16 ∧ w < 2 ^ 32 ∧ w % 128 = 0x17) ∧
    (∃ (c : Fin 5) (w : Nat) (s : State), coreActs s c = true ∧ (s.coreAt c).level < 16 ∧ w < 2 ^ 32 ∧ w % 128 = 0x6F) ∧
    (∃ (c : Fin 5) (w : Nat) (s : State), coreActs s c = true ∧ (s.coreAt c).level < 16 ∧ w < 2 ^ 32 ∧ w % 128 = 0x67 ∧ bits w
      12 3 = 0) ∧
    (∃ (c : Fin 5) (w : Nat) (b : Bool) (s : State), coreActs s c = true ∧ w < 2 ^ 32 ∧ w % 128 = 0x63 ∧ branchOp (bits w 12 3)
      ((s.coreAt c).reg (bits w 15 5)) ((s.coreAt c).reg (bits w 20 5)) = some b) ∧
    (∃ (c : Fin 5) (w : Nat) (a : Nat) (s : State), coreActs s c = true ∧ w < 2 ^ 32 ∧ w % 128 = 0x03 ∧ bits w 12 3 ∈ [0, 1, 2,
      4, 5] ∧ a = ((s.coreAt c).reg (bits w 15 5) + twos 32 (sext 12 (bits w 20 12))) % 2 ^ 32 ∧ a % 4 = 0 ∧ regionOf a = .regs
      ∧ readError c a (2 ^ (bits w 12 3 % 4)) = none ∧ mustWait s c a = true ∧ s.pw.powered = true ∧ s.pw.rst = none) ∧
    (∃ (c : Fin 5) (s : State), coreActs s c = true) ∧
    (∃ (c : Fin 5) (s : State), coreActs s c = true) ∧
    (∃ (c : Fin 5) (s : State), coreActs s c = true) ∧
    (∃ (c : Fin 5) (w : Nat) (s : State), coreActs s c = true ∧ (s.coreAt c).level < 16 ∧ (s.coreAt c).mscratch < 2 ^ 32 ∧ w <
      2 ^ 32 ∧ w % 128 = 0x73 ∧ bits w 12 3 = 1 ∧ bits w 20 12 = 0x340) ∧
    (∃ (c : Fin 5) (s : State), coreActs s c = false) ∧
    (∃ (c : Fin 5) (s : State), coreActs s c = false) ∧
    (∃ (c : Fin 5) (s : State), coreActs s c = false) ∧
    (∃ (c : Fin 5) (s : State), coreActs s c = false) :=
  ⟨⟨4, 0xFFFF8F93, sCore, by decide +kernel⟩,
   ⟨4, 0xFFFFFFB7, sCore, by decide +kernel⟩,
   ⟨4, 0xFFCFAF83, 0x103FFFF4, sCore, by unfold AtomicAt; decide +kernel⟩,
   ⟨4, 0xFFFFAE23, 0x103FFFF4, sCore, by unfold AtomicAt; decide +kernel⟩,
   ⟨4, 0xFFFF80E3, sCore, by decide +kernel⟩,
   ⟨4, sCore, by decide +kernel⟩,
   ⟨4, sCore, by decide +kernel⟩,
   ⟨4, sCore, by decide +kernel⟩,
   ⟨4, sCore, by decide +kernel⟩,
   ⟨4, sCore.setCore 4 { sCore.coreAt 4 with banksel := 0x1FF }, by decide +kernel⟩,
   ⟨4, sCore.setCore 4 { sCore.coreAt 4 with banksel := 0x1FF }, by decide +kernel⟩,
   ⟨4, 0xFFFF8F93, 0x103FFFF7, sCore, by decide +kernel⟩,
   ⟨4, 0xFFFFFF97, sCore, by decide +kernel⟩,
   ⟨4, 0xFFFFFFEF, sCore, by decide +kernel⟩,
   ⟨4, 0xFFFF8FE7, sCore, by decide +kernel⟩,
   ⟨4, 0xFFFF8FE3, true, sCore, by decide +kernel⟩,
   ⟨4, 0x000FAF83, regAddr .CMP_CFG 47, pw (sCore.setCore 4 ((sCore.coreAt 4).setX 31 (regAddr .CMP_CFG 47))) fun p =>
      { p with held := [⟨4, regAddr .CMP_CFG 0, 4, some 0⟩] }, by decide +kernel⟩,
   ⟨4, sCore, by decide +kernel⟩,
   ⟨4, sCore.setCore 4 { sCore.coreAt 4 with mepc := 0x10000001, mpie := true }, by decide +kernel⟩,
   ⟨4, sCore, by decide +kernel⟩,
   ⟨4, 0x340F9FF3, sCore.setCore 4 { sCore.coreAt 4 with mscratch := 0xFFFFFFFF }, by decide +kernel⟩,
   ⟨4, State.reset, by decide +kernel⟩,
   ⟨4, State.reset, by decide +kernel⟩,
   ⟨4, State.reset, by decide +kernel⟩,
   ⟨4, State.reset, by decide +kernel⟩⟩

/-- The hypotheses of CoreAtomics are met. -/
theorem witness_CoreAtomics :
    (∃ (c : Fin 5) (rs1 : Fin 32) (s : State), coreActs s c = true ∧ (s.coreAt c).level < 16 ∧ AtomicAt s ((s.coreAt c).reg
      rs1) ∧ mustWait s c ((s.coreAt c).reg rs1) = false) ∧
    (∃ (c : Fin 5) (rs1 : Fin 32) (d : Nat) (s : State), coreActs s c = true ∧ (s.coreAt c).level < 16 ∧ AtomicAt s ((s.coreAt
      c).reg rs1) ∧ mustWait s c ((s.coreAt c).reg rs1) = false ∧ (s.coreAt c).resv = some ((s.coreAt c).reg rs1 - (s.coreAt
      c).reg rs1 % 8, d) ∧ s.now < d) ∧
    (∃ (c : Fin 5) (rs1 : Fin 32) (s : State), coreActs s c = true ∧ (s.coreAt c).level < 16 ∧ AtomicAt s ((s.coreAt c).reg
      rs1) ∧ mustWait s c ((s.coreAt c).reg rs1) = false ∧ ((∀ g d, (s.coreAt c).resv = some (g, d) → g ≠ (s.coreAt c).reg rs1
      - (s.coreAt c).reg rs1 % 8 ∨ d ≤ s.now))) ∧
    (∃ (c : Fin 5) (rs1 : Fin 32) (s : State), coreActs s c = true ∧ (s.coreAt c).level < 16 ∧ AtomicAt s ((s.coreAt c).reg
      rs1) ∧ mustWait s c ((s.coreAt c).reg rs1) = false) ∧
    (∃ (c : Fin 5) (g : Nat) (d : Nat) (s : State), (s.coreAt c).resv = some (g, d) ∧ d ≤ s.now) ∧
    (∃ (c : Fin 5) (g : Nat) (d : Nat) (s : State), (s.coreAt c).resv = some (g, d) ∧ s.now < d) ∧
    (∃ (c : Fin 5) (rs1 : Fin 32) (s : State), mustWait s c ((s.coreAt c).reg rs1) = true) ∧
    (∃ (c : Fin 5) (rs1 : Fin 32) (s : State), mustWait s c ((s.coreAt c).reg rs1) = true) ∧
    (∃ (c : Fin 5) (rs1 : Fin 32) (s : State), mustWait s c ((s.coreAt c).reg rs1) = true) ∧
    (∃ (c : Fin 5) (rs1 : Fin 32) (s : State), coreActs s c = true ∧ mustWait s c ((s.coreAt c).reg rs1) = false ∧ regionOf
      ((s.coreAt c).reg rs1) ≠ .sram ∧ (s.coreAt c).reg rs1 % 4 = 0) ∧
    (∃ (c : Fin 5) (rs1 : Fin 32) (s : State), coreActs s c = true ∧ mustWait s c ((s.coreAt c).reg rs1) = false ∧ regionOf
      ((s.coreAt c).reg rs1) ≠ .sram ∧ (s.coreAt c).reg rs1 % 4 = 0) ∧
    (∃ (c : Fin 5) (rs1 : Fin 32) (s : State), coreActs s c = true ∧ mustWait s c ((s.coreAt c).reg rs1) = false ∧ regionOf
      ((s.coreAt c).reg rs1) ≠ .sram ∧ (s.coreAt c).reg rs1 % 4 = 0) ∧
    (∃ (c : Fin 5) (rs1 : Fin 32) (s : State), coreActs s c = true ∧ mustWait s c ((s.coreAt c).reg rs1) = false ∧ (s.coreAt
      c).reg rs1 % 4 ≠ 0 ∧ s.flag .FAB_ERRSTAT_UNMAPPED = false ∧ s.flag .FAB_ERRSTAT_WIDTH = false ∧ s.flag
      .FAB_ERRSTAT_PARTNER = false) ∧
    (∃ (c : Fin 5) (rs1 : Fin 32) (s : State), coreActs s c = true ∧ mustWait s c ((s.coreAt c).reg rs1) = false ∧ (s.coreAt
      c).reg rs1 % 4 ≠ 0 ∧ s.flag .FAB_ERRSTAT_UNMAPPED = false ∧ s.flag .FAB_ERRSTAT_WIDTH = false ∧ s.flag
      .FAB_ERRSTAT_PARTNER = false) ∧
    (∃ (c : Fin 5) (rs1 : Fin 32) (s : State), coreActs s c = true ∧ mustWait s c ((s.coreAt c).reg rs1) = false ∧ (s.coreAt
      c).reg rs1 % 4 ≠ 0 ∧ s.flag .FAB_ERRSTAT_UNMAPPED = false ∧ s.flag .FAB_ERRSTAT_WIDTH = false ∧ s.flag
      .FAB_ERRSTAT_PARTNER = false) :=
  ⟨⟨4, 31, sCore, by unfold AtomicAt; decide +kernel⟩,
   ⟨4, 31, 5001, sCore.setCore 4 { sCore.coreAt 4 with resv := some (0x103FFFF8, 5001) }, by unfold AtomicAt; decide +kernel⟩,
   ⟨4, 31, sCore, by decide +kernel, by decide +kernel, by unfold AtomicAt; decide +kernel, by decide +kernel, fun _ _ =>
      none_imp (by decide +kernel)⟩,
   ⟨4, 31, sCore, by unfold AtomicAt; decide +kernel⟩,
   ⟨4, 0x103FFFF8, 5000, sCore.setCore 4 { sCore.coreAt 4 with resv := some (0x103FFFF8, 5000) }, by decide +kernel⟩,
   ⟨4, 0x103FFFF8, 5001, sCore.setCore 4 { sCore.coreAt 4 with resv := some (0x103FFFF8, 5001) }, by decide +kernel⟩,
   ⟨4, 31, pw sCore fun p => { p with held := [⟨4, 0x103FFFF8, 4, none⟩] }, by decide +kernel⟩,
   ⟨4, 31, pw sCore fun p => { p with held := [⟨4, 0x103FFFF8, 4, none⟩] }, by decide +kernel⟩,
   ⟨4, 31, pw sCore fun p => { p with held := [⟨4, 0x103FFFF8, 4, none⟩] }, by decide +kernel⟩,
   ⟨4, 31, sCore.setCore 4 ((sCore.coreAt 4).setX 31 0x10400000), by decide +kernel⟩,
   ⟨4, 31, sCore.setCore 4 ((sCore.coreAt 4).setX 31 0x10400000), by decide +kernel⟩,
   ⟨4, 31, sCore.setCore 4 ((sCore.coreAt 4).setX 31 0x10400000), by decide +kernel⟩,
   ⟨4, 31, sCore.setCore 4 ((sCore.coreAt 4).setX 31 0x103FFFF9), by decide +kernel⟩,
   ⟨4, 31, sCore.setCore 4 ((sCore.coreAt 4).setX 31 0x103FFFF9), by decide +kernel⟩,
   ⟨4, 31, sCore.setCore 4 ((sCore.coreAt 4).setX 31 0x103FFFF9), by decide +kernel⟩⟩

/-- The hypotheses of CoreResets are met. -/
theorem witness_CoreResets :
    (∃ (m : Fin 10) (n : Fin 5) (s : State), Reaches s m (regAddr .FAB_CORE_CTRL n) ∧ n ≠ 4 ∧ isChecker s n = false ∧ s.fget
      .FAB_CORE_CTRL_RST n = 1 ∧ Regs.wf s.regs = true) ∧
    (∃ (m : Fin 10) (n : Fin 5) (s : State), Reaches s m (regAddr .FAB_CORE_CTRL n) ∧ n ≠ 4 ∧ isChecker s n = false ∧ s.fget
      .FAB_CORE_CTRL_RST n = 0 ∧ Regs.wf s.regs = true) ∧
    (∃ (m : Fin 10) (s : State), Reaches s m (regAddr .FAB_CORE_CTRL 4) ∧ s.fget .FAB_CORE_CTRL_RST 4 = 0) ∧
    (∃ (p : Fin 2) (s : State), s.flag (if p = 0 then .FAB_CORECFG_LS01 else .FAB_CORECFG_LS23) = true ∧ s.flag
      .FAB_CORE_CTRL_RST (2 * p) = false) ∧
    (∃ (m : Fin 10) (s : State), Reaches s m (regAddr .FAB_CORE_CTRL 4) ∧ s.fget .FAB_CORE_CTRL_RST 4 = 1) ∧
    (∃ (m : Fin 10) (n : Fin 5) (s : State), Reaches s m (regAddr .FAB_CORE_CTRL n) ∧ isChecker s n = true) ∧
    (∃ (m : Fin 10) (n : Fin 5) (s : State), Reaches s m (regAddr .FAB_CORE_CTRL n) ∧ isChecker s n = true) ∧
    (∃ (m : Fin 10) (n : Fin 5) (s : State), Reaches s m (regAddr .FAB_CORE_CTRL n) ∧ Regs.wf s.regs = true ∧ s.flag
      .FAB_CORE_CTRL_RST n = true) ∧
    (∃ (m : Fin 10) (n : Fin 5) (s : State), Reaches s m (regAddr .FAB_CORE_CTRL n) ∧ Regs.wf s.regs = true ∧ s.flag
      .FAB_CORE_CTRL_RST n = false) ∧
    (∃ (p : Fin 2) (s : State), (s.flag (if p = 0 then .FAB_CORECFG_LS01 else .FAB_CORECFG_LS23) = false ∨ s.flag
      .FAB_CORE_CTRL_RST (2 * p) = true)) :=
  ⟨⟨8, 3, s0.fset .FAB_CORE_CTRL_BOOT 0x3FFFFFFF 3, by unfold Reaches; decide +kernel⟩,
   ⟨8, 3, (((s0.fset .FAB_CORE_CTRL_RST 0 3).fset .LCK_STAT_HELD 1 63).fset .LCK_STAT_OWNMST 3 63).setCore 3
      { s0.coreAt 3 with phase := .running }, by unfold Reaches; decide +kernel⟩,
   ⟨8, s0.fset .FAB_CORE_CTRL_RST 0 4, by unfold Reaches; decide +kernel⟩,
   ⟨1, (s0.fset .FAB_CORECFG_LS23 1).fset .FAB_CORE_CTRL_RST 0 2, by decide +kernel⟩,
   ⟨8, State.reset, by unfold Reaches; decide +kernel⟩,
   ⟨8, 3, s0.fset .FAB_CORECFG_LS23 1, by unfold Reaches; decide +kernel⟩,
   ⟨8, 3, s0.fset .FAB_CORECFG_LS23 1, by unfold Reaches; decide +kernel⟩,
   ⟨8, 4, State.reset, by unfold Reaches; decide +kernel⟩,
   ⟨8, 4, sCore, by unfold Reaches; decide +kernel⟩,
   ⟨1, State.reset, by decide +kernel⟩⟩

/-- The hypotheses of RingsAndDelivery are met. -/
theorem witness_RingsAndDelivery :
    (∃ (m : Fin 10) (v : Nat) (s : State), Reaches s m (regAddr .BFY_DOORBELL) ∧ v < 384 ∧ sourceReserved v = false) ∧
    (∃ (m : Fin 10) (v : Nat) (s : State), Reaches s m (regAddr .BFY_DOORBELL) ∧ 384 ≤ v ∧ v < 512) ∧
    (∃ (m : Fin 10) (v : Nat) (s : State), Reaches s m (regAddr .BFY_DOORBELL) ∧ 512 ≤ v ∧ v < 2 ^ 32) ∧
    (∃ (v : Nat) (s : State), s.clockOn 16 = true ∧ 384 ≤ v ∧ v < 512) ∧
    (∃ (v : Nat) (s : State), s.clockOn 16 = true ∧ (v < 384 ∨ 512 ≤ v) ∧ v < 2 ^ 32) ∧
    (∃ (s : State), readySources s = []) ∧
    (∃ (n : Nat) (rest : List Nat) (s : State), readySources s = n :: rest ∧ s.flag .BFY_SRC_CFG_TGT n = true ∧ mayTake s n 4 =
      true) ∧
    (∃ (n : Nat) (c : Fin 4) (s : State), readySources s = [n] ∧ s.flag .BFY_SRC_CFG_TGT n = false ∧ mayTake s n c = true ∧ ((∀
      d : Fin 4, d ≠ c → mayTake s n d = true → runPrio s c < runPrio s d))) ∧
    (∃ (c : Fin 5) (a : Nat) (s : State), (s.coreAt c).phase = .entry ∧ coreOn s c = true ∧ (s.coreAt c).due ≤ s.now ∧
      (s.coreAt c).entPc = some a) ∧
    (∃ (m : Fin 10) (v : Nat) (s : State), Reaches s m (regAddr .BFY_COMPLETE) ∧ v < 512 ∧ s.fbit .BFY_ACTIVE_W (v % 32) (v /
      32) = true) ∧
    (∃ (m : Fin 10) (v : Nat) (s : State), Reaches s m (regAddr .BFY_COMPLETE) ∧ v < 512 ∧ s.fbit .BFY_ACTIVE_W (v % 32) (v /
      32) = false) ∧
    (∃ (c : Fin 5) (s : State), coreActs s c = true ∧ (s.coreAt c).level ≠ 0) ∧
    (∃ (c : Fin 5) (s : State), coreActs s c = true ∧ (s.coreAt c).level = 0) ∧
    (∃ (c : Fin 5) (s : State), (s.coreAt c).phase = .exit ∧ (s.coreAt c).due ≤ s.now) ∧
    (∃ (m : Fin 10) (v : Nat) (s : State), Reaches s m (regAddr .BFY_DOORBELL) ∧ sourceReserved v = true) ∧
    (∃ (s : State), s.clockOn 16 = false) ∧
    (∃ (n : Nat) (rest : List Nat) (s : State), readySources s = n :: rest ∧ s.flag .BFY_SRC_CFG_TGT n = false ∧ s.fget
      .BFY_ROT_PTR < 4 ∧ ((∀ d : Fin 4, mayTake s n d = true ∧ runPrio s d = runPrio s 0))) ∧
    (∃ (n : Nat) (s : State), readySources s = [n] ∧ ((∀ c : Fin 5, mayTake s n c = false))) ∧
    (∃ (c : Fin 5) (s : State), ((s.coreAt c).phase ≠ .entry ∨ coreOn s c = false ∨ s.now < (s.coreAt c).due)) ∧
    (∃ (c : Fin 5) (s : State), ((s.coreAt c).phase ≠ .exit ∨ s.now < (s.coreAt c).due)) :=
  ⟨⟨8, 110, State.reset, by unfold Reaches; decide +kernel⟩,
   ⟨8, 384, State.reset, by unfold Reaches; decide +kernel⟩,
   ⟨8, 0xFFFFFFFF, State.reset, by unfold Reaches; decide +kernel⟩,
   ⟨511, State.reset, by decide +kernel⟩,
   ⟨383, State.reset, by decide +kernel⟩,
   ⟨State.reset, by decide +kernel⟩,
   ⟨511, [], ((((sCore.fset .BFY_PEND_W 0x80000000 15).fset .BFY_MASK_W 0 15).fset .BFY_SRC_CFG_PRIO 15 511).fset
      .BFY_SRC_CFG_TGT 1 511).setCore 4 { sCore.coreAt 4 with mie := true, meie := true, level := 14 }, by decide +kernel⟩,
   ⟨511, 3, ((((s0.fset .BFY_PEND_W 0x80000000 15).fset .BFY_MASK_W 0 15).fset .BFY_SRC_CFG_PRIO 1 511).fset
      .BFY_SRC_CFG_CMASK 15 511).setCore 3 { s0.coreAt 3 with phase := .running, mie := true, meie := true },
      by decide +kernel⟩,
   ⟨4, 0x10000200, sCore.setCore 4
      { sCore.coreAt 4 with phase := .entry, entSrc := 511, entPrio := 15, entPc := some 0x10000200 }, by decide +kernel⟩,
   ⟨8, 511, s0.fset .BFY_ACTIVE_W 0x80000000 15, by unfold Reaches; decide +kernel⟩,
   ⟨8, 511, State.reset, by unfold Reaches; decide +kernel⟩,
   ⟨4, sCore.setCore 4
      { sCore.coreAt 4 with level := 15, linkLvl := vput (sCore.coreAt 4).linkLvl 15 14, linkRet := vput (sCore.coreAt 4).linkRet 15 0x100 },
      by decide +kernel⟩,
   ⟨4, sCore, by decide +kernel⟩,
   ⟨4, sCore.setCore 4 { sCore.coreAt 4 with phase := .exit, ctxRet := 0x100 }, by decide +kernel⟩,
   ⟨8, 191, State.reset, by unfold Reaches; decide +kernel⟩,
   ⟨s0.fset .PMG_DOMSTAT_STATE 3 16, by decide +kernel⟩,
   ⟨511, [],
      { ((((((s0.fset .BFY_PEND_W 0x80000000 15).fset .BFY_MASK_W 0 15).fset .BFY_SRC_CFG_PRIO 1 511).fset .BFY_SRC_CFG_CMASK 15 511).fset .FAB_CORECFG_LS01 0).fset .FAB_CORECFG_LS23 0).fset .BFY_ROT_PTR 3 with core := Vector.replicate 5 { s0.coreAt 3 with phase := .running, mie := true, meie := true } },
      by decide +kernel⟩,
   ⟨511, ((s0.fset .BFY_PEND_W 0x80000000 15).fset .BFY_MASK_W 0 15).fset .BFY_SRC_CFG_PRIO 1 511, by decide +kernel⟩,
   ⟨4, State.reset, by decide +kernel⟩,
   ⟨4, State.reset, by decide +kernel⟩⟩

/-- The hypotheses of PendingAndMaskBits are met. -/
theorem witness_PendingAndMaskBits :
    (∃ (m : Fin 10) (w : Fin 16) (s : State), Reaches s m (regAddr .BFY_PENDSET w)) ∧
    (∃ (m : Fin 10) (w : Fin 16) (s : State), Reaches s m (regAddr .BFY_PENDCLR w)) ∧
    (∃ (m : Fin 10) (w : Fin 16) (s : State), Reaches s m (regAddr .BFY_MASKSET w)) ∧
    (∃ (m : Fin 10) (w : Fin 16) (s : State), Reaches s m (regAddr .BFY_MASKCLR w)) ∧
    (∃ (n : Nat) (s : State), s.fbit .BFY_MASK_W (n % 32) (n / 32) = true) :=
  ⟨⟨8, 15, State.reset, by unfold Reaches; decide +kernel⟩,
   ⟨8, 15, s0.fset .BFY_PEND_W 0xFFFFFFFF 15, by unfold Reaches; decide +kernel⟩,
   ⟨8, 15, s0.fset .BFY_MASK_W 0 15, by unfold Reaches; decide +kernel⟩,
   ⟨8, 15, State.reset, by unfold Reaches; decide +kernel⟩,
   ⟨511, s0.fset .BFY_PEND_W 0x80000000 15, by decide +kernel⟩⟩

/-- The hypotheses of Locks are met. -/
theorem witness_Locks :
    (∃ (m : Fin 10) (l : Fin 64) (s : State), Reaches s m (regAddr .LCK_ACQ l) ∧ mayAcquire m = true ∧ s.flag .LCK_STAT_HELD l
      = false) ∧
    (∃ (m : Fin 10) (l : Fin 64) (s : State), Reaches s m (regAddr .LCK_ACQ l) ∧ mayAcquire m = true ∧ s.flag .LCK_STAT_HELD l
      = true ∧ holdsLock s m l = false) ∧
    (∃ (m : Fin 10) (s : State), Reaches s m (regAddr .LCK_BREAK) ∧ (m.val = 4 ∨ m.val = 9)) ∧
    (∃ (m : Fin 10) (s : State), Reaches s m (regAddr .LCK_BREAK) ∧ m.val ≠ 4 ∧ m.val ≠ 9) ∧
    (∃ (m : Fin 10) (l : Fin 64) (s : State), Reaches s m (regAddr .LCK_ACQ l) ∧ mayAcquire m = true ∧ holdsLock s m l = true) ∧
    (∃ (m : Fin 10) (l : Fin 64) (s : State), Reaches s m (regAddr .LCK_ACQ l) ∧ mayAcquire m = false) :=
  ⟨⟨8, 63, State.reset, by unfold Reaches; decide +kernel⟩,
   ⟨8, 63, (s0.fset .LCK_STAT_HELD 1 63).fset .LCK_STAT_OWNMST 4 63, by unfold Reaches; decide +kernel⟩,
   ⟨4, (sCore.fset .LCK_STAT_HELD 1 63).fset .LCK_STAT_OWNMST 3 63, by unfold Reaches; decide +kernel⟩,
   ⟨8, State.reset, by unfold Reaches; decide +kernel⟩,
   ⟨8, 63, (s0.fset .LCK_STAT_HELD 1 63).fset .LCK_STAT_OWNMST 8 63, by unfold Reaches; decide +kernel⟩,
   ⟨7, 63, State.reset, by unfold Reaches; decide +kernel⟩⟩

/-- The hypotheses of LockRelease are met. -/
theorem witness_LockRelease :
    (∃ (m : Fin 10) (l : Fin 64) (s : State), Reaches s m (regAddr .LCK_REL l) ∧ s.flag .LCK_STAT_HELD l = true ∧ s.fget
      .LCK_STAT_OWNMST l = m.val ∧ s.fget .LCK_STAT_OWNLVL l = ownLevel s m) ∧
    (∃ (m : Fin 10) (l : Fin 64) (s : State), Reaches s m (regAddr .LCK_REL l) ∧ (s.flag .LCK_STAT_HELD l = false ∨ s.fget
      .LCK_STAT_OWNMST l ≠ m.val ∨ s.fget .LCK_STAT_OWNLVL l ≠ ownLevel s m)) :=
  ⟨⟨4, 63, (((sCore.fset .LCK_STAT_HELD 1 63).fset .LCK_STAT_OWNMST 4 63).fset .LCK_STAT_OWNLVL 15 63).setCore 4
      { sCore.coreAt 4 with level := 15 }, by unfold Reaches; decide +kernel⟩,
   ⟨4, 63, ((sCore.fset .LCK_STAT_HELD 1 63).fset .LCK_STAT_OWNMST 4 63).fset .LCK_STAT_OWNLVL 14 63,
      by unfold Reaches; decide +kernel⟩⟩

/-- The hypotheses of OutputOwnership are met. -/
theorem witness_OutputOwnership :
    (∃ (s : State), soloMayClaim s = true) ∧
    (∃ (c : Nat) (s : State), s.twin.claimAt = some c ∧ c + 1 + s.fget .TTH_OWNCFG_LEAD ≤ s.now) ∧
    (∃ (c : Nat) (s : State), s.twin.claimAt = some c ∧ s.now < c + 1 + s.fget .TTH_OWNCFG_LEAD) ∧
    (∃ (s : State), releaseDue s = true ∧ s.role = roleSolo) ∧
    (∃ (r : Nat) (s : State), s.twin.releaseAt = some r ∧ r + s.fget .TTH_OWNCFG_LEAD ≤ s.now) ∧
    (∃ (level : Bool) (ticks : Nat) (s : State), s.twin.handUntil = none ∧ s.clockOn 16 = true ∧ s.flag .TTH_STAT_OWNIN =
      !level ∧ s.fget .TTH_OWNCFG_QUAL ≤ ticks) ∧
    (∃ (ticks : Nat) (s : State), s.twin.handUntil = none ∧ s.clockOn 16 = true ∧ ticks < s.fget .TTH_OWNCFG_QUAL) ∧
    (∃ (s : State), s.fget .TTH_KEEP_KEEP ≠ 0 ∧ holdsOwn s = true ∧ s.twin.releaseAt = none ∧ s.twin.keepFrom + s.fget
      .TTH_KEEP_KEEP ≤ s.now) ∧
    (∃ (s : State), releaseDue s = true ∧ s.role = rolePrimary) ∧
    (∃ (s : State), releaseDue s = false) ∧
    (∃ (s : State), soloMayClaim s = false) ∧
    (∃ (s : State), s.twin.claimAt = none) ∧
    (∃ (s : State), s.twin.releaseAt = none) ∧
    (∃ (s : State), (s.now < s.twin.keepFrom + s.fget .TTH_KEEP_KEEP ∨ s.fget .TTH_KEEP_KEEP = 0 ∨ holdsOwn s = false)) ∧
    (∃ (r : Nat) (s : State), s.twin.releaseAt = some r ∧ s.now < r + s.fget .TTH_OWNCFG_LEAD) ∧
    (∃ (level : Bool) (s : State), s.flag .TTH_STAT_OWNIN = level) ∧
    (∃ (s : State), s.clockOn 16 = false) ∧
    (∃ (level : Bool) (ticks : Nat) (h : Nat) (s : State), s.clockOn 16 = true ∧ s.flag .TTH_STAT_OWNIN = !level ∧
      s.twin.handUntil = some h ∧ s.now < h ∧ 16 ≤ ticks) ∧
    (∃ (ticks : Nat) (h : Nat) (s : State), s.twin.handUntil = some h ∧ s.now < h ∧ ticks < 16) :=
  ⟨⟨s0.fset .TTH_STAT_ROLE 1, by decide +kernel⟩,
   ⟨4000, tw sNow fun w => { w with claimAt := some 4000 }, by decide +kernel⟩,
   ⟨5000, tw sNow fun w => { w with claimAt := some 5000 }, by decide +kernel⟩,
   ⟨((sNow.fset .TTH_STAT_ROLE 1).fset .TTH_STAT_OWN 1).fset .TTH_STAT_KEEPEXP 1, by decide +kernel⟩,
   ⟨4000, tw sNow fun w => { w with releaseAt := some 4000 }, by decide +kernel⟩,
   ⟨true, 65535, State.reset, by decide +kernel⟩,
   ⟨0, s0.fset .TTH_OWNCFG_QUAL 1, by decide +kernel⟩,
   ⟨(sNow.fset .TTH_KEEP_KEEP 5000).fset .TTH_STAT_OWN 1, by decide +kernel⟩,
   ⟨(((sNow.fset .TTH_STAT_ROLE 2).fset .TTH_STAT_OWN 1).fset .TTH_STAT_OWNED 1).fset .TTH_STAT_KEEPEXP 1, by decide +kernel⟩,
   ⟨State.reset, by decide +kernel⟩,
   ⟨State.reset, by decide +kernel⟩,
   ⟨State.reset, by decide +kernel⟩,
   ⟨State.reset, by decide +kernel⟩,
   ⟨State.reset, by decide +kernel⟩,
   ⟨5000, tw (sNow.fset .TTH_OWNCFG_LEAD 1) fun w => { w with releaseAt := some 5000 }, by decide +kernel⟩,
   ⟨false, State.reset, by decide +kernel⟩,
   ⟨s0.fset .PMG_DOMSTAT_STATE 3 16, by decide +kernel⟩,
   ⟨true, 16, 5001, tw sNow fun w => { w with handUntil := some 5001 }, by decide +kernel⟩,
   ⟨15, 5001, tw sNow fun w => { w with handUntil := some 5001 }, by decide +kernel⟩⟩

/-- The hypotheses of PairRoles are met. -/
theorem witness_PairRoles :
    (∃ (s : State), initMayClaim s = true ∧ holdsOwn s = false ∧ s.fget .TTH_STAT_SEAT = s.fget .TTH_CFG_PREFSEAT) ∧
    (∃ (s : State), initMayClaim s = true ∧ holdsOwn s = false ∧ s.fget .TTH_STAT_SEAT ≠ s.fget .TTH_CFG_PREFSEAT) ∧
    (∃ (s : State), s.role = rolePrimary ∧ s.flag .TTH_STAT_TOOK = true ∧ s.flag .TTH_STAT_OWNIN = true ∧ holdsOwn s = true ∧
      s.twin.ownInAt ≤ s.twin.ownAt ∧ s.twin.ownAt + msTicks ≤ s.now) ∧
    (∃ (m : Fin 10) (v : Nat) (s : State), Reaches s m (regAddr .TTH_CTRL) ∧ bit v 2 = true ∧ bit v 3 = false ∧ s.role =
      rolePrimary ∧ holdsOwn s = true) ∧
    (∃ (m : Fin 10) (v : Nat) (s : State), Reaches s m (regAddr .TTH_CTRL) ∧ bit v 2 = true ∧ bit v 3 = false ∧ (s.role =
      roleStandby ∨ s.role = roleJoining)) ∧
    (∃ (m : Fin 10) (v : Nat) (s : State), Reaches s m (regAddr .TTH_CTRL) ∧ bit v 3 = true ∧ bit v 5 = false ∧ s.role =
      roleDetached ∧ s.twin.pRole = rolePrimary ∧ linkUp s = true ∧ s.flag .CUP_STAT_SHUT = false) ∧
    (∃ (m : Fin 10) (v : Nat) (s : State), Reaches s m (regAddr .TTH_CTRL) ∧ v % 64 = 19 ∧ handoverOk s = true) ∧
    (∃ (m : Fin 10) (v : Nat) (s : State), Reaches s m (regAddr .TTH_CTRL) ∧ v % 64 = 19 ∧ handoverOk s = false) ∧
    (∃ (h : Nat) (s : State), s.twin.handUntil = some h ∧ h ≤ s.now ∧ s.role = roleStandby ∧ s.flag .TTH_STAT_OWNIN = true ∧
      linkUp s = true) ∧
    (∃ (h : Nat) (s : State), s.twin.handUntil = some h ∧ h ≤ s.now ∧ s.role = roleStandby ∧ s.flag .TTH_STAT_OWNIN = false ∧
      eligible s = true) ∧
    (∃ (s : State), (s.role ≠ roleInit ∨ s.flag .TTH_CFG_PAIRED = true ∧ initMayClaim s = false)) ∧
    (∃ (s : State), (s.role ≠ roleInit ∨ s.flag .TTH_CFG_PAIRED = true ∧ initMayClaim s = false)) ∧
    (∃ (s : State), s.role = roleInit ∧ s.img.applied = true ∧ s.flag .TTH_CFG_PAIRED = false ∧ s.fget .TTH_STAT_SEAT = s.fget
      .TTH_CFG_PREFSEAT) ∧
    (∃ (s : State), s.role = roleInit ∧ s.img.applied = true ∧ s.flag .TTH_CFG_PAIRED = false ∧ s.fget .TTH_STAT_SEAT ≠ s.fget
      .TTH_CFG_PREFSEAT) ∧
    (∃ (s : State), (s.role ≠ rolePrimary ∨ s.flag .TTH_STAT_TOOK = false ∨ s.flag .TTH_STAT_OWNIN = false ∨ holdsOwn s = false
      ∨ s.now < s.twin.ownAt + msTicks)) ∧
    (∃ (m : Fin 10) (v : Nat) (s : State), Reaches s m (regAddr .TTH_CTRL) ∧ bit v 2 = true ∧ bit v 3 = false ∧ bit v 5 = false
      ∧ (s.role = roleInit ∨ s.role = roleSolo ∨ s.role = roleDetached)) ∧
    (∃ (m : Fin 10) (v : Nat) (s : State), Reaches s m (regAddr .TTH_CTRL) ∧ v % 64 = 11 ∧ s.role = rolePrimary ∧ linkUp s =
      true) ∧
    (∃ (m : Fin 10) (v : Nat) (s : State), Reaches s m (regAddr .TTH_CTRL) ∧ v % 64 = 11 ∧ (s.role ≠ roleDetached ∨
      s.twin.pRole ≠ rolePrimary ∨ linkUp s = false ∨ s.flag .CUP_STAT_SHUT = true)) ∧
    (∃ (v : Nat), bit v 2 = false) ∧
    (∃ (v : Nat), bit v 3 = false) ∧
    (∃ (v : Nat), bit v 4 = false) ∧
    (∃ (s : State), s.twin.handUntil = none) ∧
    (∃ (h : Nat) (s : State), s.twin.handUntil = some h ∧ s.now < h) ∧
    (∃ (j : Fin 8) (s : State), bit s.snsBall j ≠ bit s.snsLevel j) :=
  ⟨⟨tw ({ (sNow.fset .TTH_CFG_PAIRED 1) with now := 51200, img := { sNow.img with applied := true } }) id, by decide +kernel⟩,
   ⟨{ ((((sNow.fset .TTH_CFG_PAIRED 1).fset .TTH_STAT_TETHER 0).fset .TTH_STAT_BRIDLE 0).fset .TTH_CFG_PREFSEAT 1) with now := 800000 * 65536, img := { sNow.img with applied := true } },
      by decide +kernel⟩,
   ⟨{ ((((sNow.fset .TTH_STAT_ROLE 2).fset .TTH_STAT_TOOK 1).fset .TTH_STAT_OWNIN 1).fset .TTH_STAT_OWN 1) with now := 800000 },
      by decide +kernel⟩,
   ⟨8, 4, (sRole 2).fset .TTH_STAT_OWN 1, by unfold Reaches; decide +kernel⟩,
   ⟨8, 4, sRole 3, by unfold Reaches; decide +kernel⟩,
   ⟨8, 8, tw (sRole 5) fun w => { w with pRole := 2 }, by unfold Reaches; decide +kernel⟩,
   ⟨8, 19, tw (sRole 2) fun w => { w with hRole := 3, pReady := true }, by unfold Reaches; decide +kernel⟩,
   ⟨8, 19, sRole 2, by unfold Reaches; decide +kernel⟩,
   ⟨5000, tw ((sRole 3).fset .TTH_STAT_OWNIN 1) fun w => { w with handUntil := some 5000 }, by decide +kernel⟩,
   ⟨5000, tw ({ ((sRole 3).fset .TTH_STAT_READY 1) with img := { sNow.img with applied := true } }) fun w =>
      { w with handUntil := some 5000 }, by decide +kernel⟩,
   ⟨State.reset, by decide +kernel⟩,
   ⟨State.reset, by decide +kernel⟩,
   ⟨{ s0.fset .TTH_CFG_PAIRED 0 with img := { s0.img with applied := true } }, by decide +kernel⟩,
   ⟨{ (s0.fset .TTH_CFG_PAIRED 0).fset .TTH_CFG_PREFSEAT 1 with img := { s0.img with applied := true } }, by decide +kernel⟩,
   ⟨State.reset, by decide +kernel⟩,
   ⟨8, 4, State.reset, by unfold Reaches; decide +kernel⟩,
   ⟨8, 11, sRole 2, by unfold Reaches; decide +kernel⟩,
   ⟨8, 11, sRole 3, by unfold Reaches; decide +kernel⟩,
   ⟨0, by decide +kernel⟩,
   ⟨0, by decide +kernel⟩,
   ⟨0, by decide +kernel⟩,
   ⟨State.reset, by decide +kernel⟩,
   ⟨5001, tw sNow fun w => { w with handUntil := some 5001 }, by decide +kernel⟩,
   ⟨7, { sNow.fset .TTH_SNSCFG_MASK 128 with snsBall := 128, snsRun := Vector.replicate 8 3 }, by decide +kernel⟩⟩

/-- The hypotheses of LinkTraining are met. -/
theorem witness_LinkTraining :
    (∃ (s : State), s.clockOn 16 = true ∧ linkUp s = false ∧ s.twin.step = 0 ∧ lanesEnabled s = true ∧ s.twin.retryAt ≤ s.now) ∧
    (∃ (s : State), s.now ≤ s.twin.stepAt + stepMax s.twin.step ∧ s.twin.step = 1) ∧
    (∃ (s : State), s.now ≤ s.twin.stepAt + stepMax s.twin.step ∧ s.twin.step = 2) ∧
    (∃ (s : State), s.now ≤ s.twin.stepAt + stepMax s.twin.step ∧ s.twin.step = 3 ∧ 8 ≤ s.twin.pongs) ∧
    (∃ (s : State), s.now ≤ s.twin.stepAt + stepMax s.twin.step ∧ s.twin.step = 4 ∧ 2 ≤ s.twin.greets) ∧
    (∃ (s : State), s.twin.step ≠ 0 ∧ s.twin.stepAt + stepMax s.twin.step < s.now) ∧
    (∃ (n : Fin 2) (e : Nat) (s : State), linkUp s = true ∧ s.flag (if n = 0 then .TTH_LINKSTAT_LOCK0 else .TTH_LINKSTAT_LOCK1)
      = true ∧ 4 ≤ e) ∧
    (∃ (n : Fin 2) (e : Nat) (s : State), linkUp s = true ∧ s.flag (if n = 0 then .TTH_LINKSTAT_LOCK0 else .TTH_LINKSTAT_LOCK1)
      = true ∧ e < 4) ∧
    (∃ (s : State), linkUp s = true ∧ s.twin.healthAt + 4 * usTicks ≤ s.now) ∧
    (∃ (s : State), linkUp s = true ∧ s.now < s.twin.healthAt + 4 * usTicks) ∧
    (∃ (m : Fin 10) (v : Nat) (s : State), Reaches s m (regAddr .TTH_CTRL) ∧ v % 64 < 3 ∧ linkUp s = true ∧ (s.flag
      .TTH_CTRL_LANEEN0 = true ∧ bit v 0 = false ∨ s.flag .TTH_CTRL_LANEEN1 = true ∧ bit v 1 = false)) ∧
    (∃ (m : Fin 10) (v : Nat) (s : State), Reaches s m (regAddr .TTH_CTRL) ∧ v % 64 = 35 ∧ linkUp s = true) ∧
    (∃ (s : State), (s.twin.step = 3 ∧ s.twin.pongs < 8 ∨ s.twin.step = 4 ∧ s.twin.greets < 2 ∨ s.twin.step = 0 ∨ s.twin.stepAt
      + stepMax s.twin.step < s.now)) ∧
    (∃ (s : State), (s.clockOn 16 = false ∨ linkUp s = true ∨ s.twin.step ≠ 0 ∨ lanesEnabled s = false ∨ s.now <
      s.twin.retryAt)) ∧
    (∃ (s : State), (s.twin.step = 0 ∨ s.now ≤ s.twin.stepAt + stepMax s.twin.step)) ∧
    (∃ (s : State), linkUp s = false) ∧
    (∃ (n : Fin 2) (s : State), s.flag (if n = 0 then .TTH_LINKSTAT_LOCK0 else .TTH_LINKSTAT_LOCK1) = false) ∧
    (∃ (n : Fin 2) (e : Nat) (s : State), s.flag (if n = 0 then .TTH_LINKSTAT_LOCK0 else .TTH_LINKSTAT_LOCK1) = true ∧ linkUp s
      = false ∧ 4 ≤ e) ∧
    (∃ (s : State), s.twin.laneStop = true ∧ s.twin.shortLeft = 0 ∧ s.twin.txq.any (fun f => f.ty == tyCtrl) = false) ∧
    (∃ (m : Fin 10) (v : Nat) (s : State), Reaches s m (regAddr .TTH_CTRL) ∧ linkUp s = false ∧ v % 64 < 3) ∧
    (∃ (m : Fin 10) (v : Nat) (s : State), Reaches s m (regAddr .TTH_CTRL) ∧ linkUp s = false ∧ v % 64 = 35) ∧
    (∃ (v : Nat), v % 4 = 3) ∧
    (∃ (v : Nat), bit v 5 = false) :=
  ⟨⟨(sNow.fset .TTH_CTRL_LANEEN0 1).fset .TTH_CTRL_LANEEN1 1, by decide +kernel⟩,
   ⟨tw sNow fun w => { w with step := 1, stepAt := 5000 }, by decide +kernel⟩,
   ⟨tw sNow fun w => { w with step := 2, stepAt := 3400 }, by decide +kernel⟩,
   ⟨tw sNow fun w => { w with step := 3, stepAt := 1800, pongs := 8 }, by decide +kernel⟩,
   ⟨tw sNow fun w => { w with step := 4, stepAt := 1800, greets := 2 }, by decide +kernel⟩,
   ⟨tw sNow fun w => { w with step := 1, stepAt := 1799 }, by decide +kernel⟩,
   ⟨1, 4, (sRole 2).fset .TTH_LINKSTAT_LOCK1 1, by decide +kernel⟩,
   ⟨1, 3, (sRole 2).fset .TTH_LINKSTAT_LOCK1 1, by decide +kernel⟩,
   ⟨tw (sRole 2) fun w => { w with healthAt := 1800 }, by decide +kernel⟩,
   ⟨tw (sRole 2) fun w => { w with healthAt := 1801 }, by decide +kernel⟩,
   ⟨8, 1, (((sRole 3).fset .TTH_CTRL_LANEEN0 1).fset .TTH_CTRL_LANEEN1 1), by unfold Reaches; decide +kernel⟩,
   ⟨8, 35, sRole 2, by unfold Reaches; decide +kernel⟩,
   ⟨State.reset, by decide +kernel⟩,
   ⟨sRole 2, by decide +kernel⟩,
   ⟨State.reset, by decide +kernel⟩,
   ⟨State.reset, by decide +kernel⟩,
   ⟨1, State.reset, by decide +kernel⟩,
   ⟨1, 4, sNow.fset .TTH_LINKSTAT_LOCK1 1, by decide +kernel⟩,
   ⟨tw (sRole 3) fun w => { w with laneStop := true }, by decide +kernel⟩,
   ⟨8, 2, (((sRole 2).fset .TTH_STAT_TETHER 0).fset .TTH_CTRL_LANEEN0 1).fset .TTH_CTRL_LANEEN1 1,
      by unfold Reaches; decide +kernel⟩,
   ⟨8, 35, sNow, by unfold Reaches; decide +kernel⟩,
   ⟨3, by decide +kernel⟩,
   ⟨0, by decide +kernel⟩⟩

/-- The hypotheses of TetherFrames are met. -/
theorem witness_TetherFrames :
    (∃ (body : List Nat) (ago : Nat) (round : Nat) (locks : Fin 4) (i : Instr) (s : State), i ∈ [.healthRx body ago, .stateRx
      body locks, .ctrlDetachRx body, .ctrlAttachRx body, .ctrlHandoverRx body, .pingRx body, .pongRx body round, .rdreqRx
      body, .rdrspRx body, .bellRx body, .bulkRx body, .ackRx body] ∧ linkTalks s = true ∧ frameRead body = none) ∧
    (∃ (body : List Nat) (ago : Nat) (round : Nat) (locks : Fin 4) (i : Instr) (s : State), i ∈ [.healthRx body ago, .stateRx
      body locks, .ctrlDetachRx body, .ctrlAttachRx body, .ctrlHandoverRx body, .pingRx body, .pongRx body round, .rdreqRx
      body, .rdrspRx body, .bellRx body, .bulkRx body, .ackRx body] ∧ linkTalks s = false) ∧
    (∃ (s : State), (linkUp s = true ∨ s.twin.step = 4) ∧ s.twin.healthTx + usTicks ≤ s.now) ∧
    (∃ (body : List Nat) (p : List Nat) (q : Nat) (s : State), (linkUp s = true ∨ s.twin.step = 4) ∧ frameRead body = some
      (tyHealth, q, p)) ∧
    (∃ (body : List Nat) (p : List Nat) (q : Nat) (s : State), linkUp s = true ∧ frameRead body = some (tyCtrl, q, p) ∧ p.headD
      0 = 1 ∧ (s.role = roleStandby ∨ s.role = roleJoining)) ∧
    (∃ (body : List Nat) (p : List Nat) (q : Nat) (s : State), linkUp s = true ∧ frameRead body = some (tyCtrl, q, p) ∧ p.headD
      0 = 2 ∧ s.role = roleDetached ∧ s.twin.pRole = rolePrimary ∧ s.flag .CUP_STAT_SHUT = false) ∧
    (∃ (body : List Nat) (p : List Nat) (q : Nat) (s : State), linkUp s = true ∧ frameRead body = some (tyCtrl, q, p) ∧ p.headD
      0 = 3 ∧ s.role = roleStandby ∧ s.twin.handUntil = none) ∧
    (∃ (body : List Nat) (p : List Nat) (q : Nat) (s : State), linkTalks s = true ∧ frameRead body = some (tyPing, q, p) ∧
      linkUp s = false) ∧
    (∃ (body : List Nat) (p : List Nat) (q : Nat) (s : State), linkTalks s = true ∧ frameRead body = some (tyPing, q, p) ∧
      linkUp s = true) ∧
    (∃ (body : List Nat) (p : List Nat) (q : Nat) (s : State), linkTalks s = true ∧ frameRead body = some (tyPong, q, p) ∧
      s.twin.step = 3) ∧
    (∃ (body : List Nat) (p : List Nat) (q : Nat) (s : State), linkTalks s = true ∧ frameRead body = some (tyPong, q, p) ∧
      s.twin.step ≠ 3) ∧
    (∃ (body : List Nat) (p : List Nat) (q : Nat) (s : State), linkUp s = true ∧ frameRead body = some (tyBell, q, p) ∧ 384 ≤
      leAt p 0 4 ∧ leAt p 0 4 < 512) ∧
    (∃ (body : List Nat) (p : List Nat) (q : Nat) (s : State), linkUp s = true ∧ frameRead body = some (tyBell, q, p) ∧ (leAt p
      0 4 % 2 ^ 32 < 384 ∨ 512 ≤ leAt p 0 4 % 2 ^ 32)) ∧
    (∃ (body : List Nat) (p : List Nat) (q : Nat) (s : State), linkUp s = true ∧ frameRead body = some (tyRdreq, q, p) ∧
      regionOf (leAt p 4 4) = .none) ∧
    (∃ (body : List Nat) (p : List Nat) (q : Nat) (s : State), linkUp s = true ∧ frameRead body = some (tyRdreq, q, p) ∧
      0x10000000 ≤ leAt p 4 4 ∧ leAt p 4 4 + 4 ≤ 0x10400000 ∧ leAt p 4 4 % 4 = 0 ∧ leAt p 0 4 / 256 % 256 = 4 ∧ domOn s
      (addrDomain (leAt p 4 4)) = true ∧ s.upsetAt (slotBaseOf (leAt p 4 4)) ≠ some true) ∧
    (∃ (body : List Nat) (p : List Nat) (q : Nat) (x : Nat) (w : Nat) (m : Fin 10) (s : State), linkUp s = true ∧ frameRead
      body = some (tyRdrsp, q, p) ∧ leAt p 0 4 % 16 = m.val ∧ (s.coreAt m).wait = none ∧ vget s.partnerRd m = some (x, w) ∧
      slotOf x w = none) ∧
    (∃ (body : List Nat) (p : List Nat) (ty : Nat) (q : Nat) (ago : Nat) (round : Nat) (i : Instr), frameRead body = some (ty,
      q, p) ∧ (i, ty) ∉ [(.healthRx body ago, tyHealth), (.ctrlDetachRx body, tyCtrl), (.ctrlAttachRx body, tyCtrl),
      (.ctrlHandoverRx body, tyCtrl), (.pingRx body, tyPing), (.pongRx body round, tyPong), (.rdreqRx body, tyRdreq), (.rdrspRx
      body, tyRdrsp), (.bellRx body, tyBell), (.ackRx body, tyAck)] ∧ i ∈ [.healthRx body ago, .ctrlDetachRx body,
      .ctrlAttachRx body, .ctrlHandoverRx body, .pingRx body, .pongRx body round, .rdreqRx body, .rdrspRx body, .bellRx body,
      .ackRx body]) ∧
    (∃ (s : State), (linkUp s = false ∧ s.twin.step ≠ 4 ∨ s.now < s.twin.healthTx + usTicks)) ∧
    (∃ (body : List Nat) (p : List Nat) (q : Nat) (s : State), frameRead body = some (tyCtrl, q, p) ∧ (p.headD 0 ≠ 1 ∨ s.role ≠
      roleStandby ∧ s.role ≠ roleJoining)) ∧
    (∃ (body : List Nat) (p : List Nat) (q : Nat) (s : State), frameRead body = some (tyCtrl, q, p) ∧ (p.headD 0 ≠ 2 ∨ s.role ≠
      roleDetached ∨ s.twin.pRole ≠ rolePrimary ∨ s.flag .CUP_STAT_SHUT = true)) ∧
    (∃ (body : List Nat) (p : List Nat) (q : Nat) (s : State), frameRead body = some (tyCtrl, q, p) ∧ (p.headD 0 ≠ 3 ∨ s.role ≠
      roleStandby ∨ s.twin.handUntil ≠ none)) ∧
    (∃ (body : List Nat) (p : List Nat) (q : Nat) (s : State), linkUp s = true ∧ frameRead body = some (tyRdreq, q, p) ∧
      0x20000000 ≤ leAt p 4 4 ∧ leAt p 4 4 + 4 ≤ 0x20080000 ∧ leAt p 4 4 % 4 = 0 ∧ leAt p 0 4 / 256 % 256 = 4) ∧
    (∃ (m : Fin 10) (v : Nat) (e : Bool) (s : State), linkUp s = true ∧ s.windowIn = [(m.val + 16 * 4, v, e)]) ∧
    (∃ (s : State), linkTalks s = true ∧ s.twin.shortLeft = 0) ∧
    (∃ (body : List Nat) (p : List Nat) (q : Nat) (s : State), frameRead body = some (tyRdrsp, q, p) ∧ vget s.partnerRd (leAt p
      0 4 % 16) = none) ∧
    (∃ (body : List Nat) (p : List Nat) (q : Nat) (s : State), linkUp s = true ∧ s.role = roleJoining ∧ s.twin.join = 1 ∧
      frameRead body = some (tyBulk, q, p) ∧ bulkCopies s 0 (leAt p 0 4) < 16 ∧ leAt p 4 4 = 0 ∧ leAt p 0 4 + (p.drop 8).length
      ≤ 0x1FFFC0) ∧
    (∃ (body : List Nat) (p : List Nat) (q : Nat) (s : State), linkUp s = true ∧ frameRead body = some (tyAck, q, p) ∧
      s.twin.bulkLeft = []) ∧
    (∃ (b : BulkOut) (s : State), bulkLate s = some b ∧ b.again < 16) ∧
    (∃ (b : BulkOut) (s : State), bulkLate s = some b ∧ 16 ≤ b.again) ∧
    (∃ (s : State), bulkLate s = none) ∧
    (∃ (body : List Nat) (p : List Nat) (q : Nat) (k : Nat) (s : State), linkUp s = true ∧ frameRead body = some (tyAck, q, p)
      ∧ s.twin.bulkKind = some k ∧ s.twin.bulkLeft ≠ [] ∧ s.twin.bulkLeft.length ≤ 1024 ∧ (s.twin.bulkOut.filter (fun b =>
      b.off != leAt p 0 4)).length < 8) ∧
    (∃ (body : List Nat) (p : List Nat) (q : Nat) (s : State), linkUp s = true ∧ s.role = roleJoining ∧ frameRead body = some
      (tyBulk, q, p) ∧ 16 ≤ bulkCopies s (leAt p 4 4) (leAt p 0 4)) ∧
    (∃ (body : List Nat) (p : List Nat) (q : Nat) (s : State), linkUp s = true ∧ s.role = roleJoining ∧ frameRead body = some
      (tyBulk, q, p) ∧ bulkCopies s (leAt p 4 4) (leAt p 0 4) < 16 ∧ (bulkTake s (leAt p 4 4) (leAt p 0 4) (p.drop 8)).isNone =
      true) ∧
    (∃ (body : List Nat) (p : List Nat) (q : Nat) (s : State), linkUp s = true ∧ s.role = roleJoining ∧ s.twin.join = 2 ∧
      frameRead body = some (tyBulk, q, p) ∧ bulkCopies s 1 (leAt p 0 4) < 16 ∧ leAt p 4 4 = 1 ∧ leAt p 0 4 =
      s.twin.sync.length ∧ s.twin.sync ≠ [] ∧ p.drop 8 ≠ [] ∧ s.twin.sync.length + (p.drop 8).length < syncLength s
      s.twin.syncLanes) ∧
    (∃ (body : List Nat) (p : List Nat) (q : Nat) (s : State), linkUp s = true ∧ s.role = roleJoining ∧ s.twin.join = 2 ∧
      frameRead body = some (tyBulk, q, p) ∧ bulkCopies s 1 (leAt p 0 4) < 16 ∧ leAt p 4 4 = 1 ∧ leAt p 0 4 + (p.drop 8).length
      ≤ s.twin.sync.length) ∧
    (∃ (body : List Nat) (p : List Nat) (q : Nat) (s : State), linkUp s = true ∧ s.role = roleJoining ∧ s.twin.join = 2 ∧
      frameRead body = some (tyBulk, q, p) ∧ bulkCopies s 1 (leAt p 0 4) < 16 ∧ leAt p 4 4 = 1 ∧ s.twin.sync.length < leAt p 0
      4) ∧
    (∃ (body : List Nat) (p : List Nat) (q : Nat) (s : State), s.role ≠ roleJoining ∧ linkTalks s = true ∧ frameRead body =
      some (tyBulk, q, p)) :=
  ⟨⟨[1, 2, 3], 0, 0, 3, .pingRx [1, 2, 3], sRole 3, by decide +kernel⟩,
   ⟨[1, 2, 3], 0, 0, 3, .pingRx [1, 2, 3], State.reset, by decide +kernel⟩,
   ⟨tw (sRole 3) fun w => { w with healthTx := 4200 }, by decide +kernel⟩,
   ⟨frameBody tyHealth (65535) (List.replicate 24 255), List.replicate 24 255, 65535, sRole 3, by decide +kernel⟩,
   ⟨frameBody tyCtrl (65535) ([1, 1, 0, 0]), [1, 1, 0, 0], 65535, sRole 3, by decide +kernel⟩,
   ⟨frameBody tyCtrl (65535) ([2, 0, 0, 0]), [2, 0, 0, 0], 65535, tw (sRole 5) fun w => { w with pRole := 2 },
      by decide +kernel⟩,
   ⟨frameBody tyCtrl (65535) ([3, 0, 0, 0]), [3, 0, 0, 0], 65535, sRole 3, by decide +kernel⟩,
   ⟨frameBody tyPing (65535) ([1, 2, 3, 4, 5, 6, 7, 8]), [1, 2, 3, 4, 5, 6, 7, 8], 65535, tw sNow fun w =>
      { w with step := 3 }, by decide +kernel⟩,
   ⟨frameBody tyPing 65535 ([1, 2, 3, 4, 5, 6, 7, 8]), [1, 2, 3, 4, 5, 6, 7, 8], 65535, sRole 3, by decide +kernel⟩,
   ⟨frameBody tyPong (65535) ([1, 2, 3, 4, 5, 6, 7, 8, 200, 0, 0, 0, 0, 0, 0, 0]), [1, 2, 3, 4, 5, 6, 7, 8, 200, 0, 0, 0, 0,
      0, 0, 0], 65535, tw sNow fun w => { w with step := 3 }, by decide +kernel⟩,
   ⟨frameBody tyPong 65535 ([1, 2, 3, 4, 5, 6, 7, 8, 200, 0, 0, 0, 0, 0, 0, 0]), [1, 2, 3, 4, 5, 6, 7, 8, 200, 0, 0, 0, 0, 0,
      0, 0], 65535, sRole 3, by decide +kernel⟩,
   ⟨frameBody tyBell (1) (leBytes 4 511), leBytes 4 511, 1, sRole 3, by decide +kernel⟩,
   ⟨frameBody tyBell 1 (leBytes 4 383), leBytes 4 383, 1, sRole 3, by decide +kernel⟩,
   ⟨frameBody tyRdreq (1) (leBytes 4 0x400 ++ leBytes 4 0x50000000), leBytes 4 0x400 ++ leBytes 4 0x50000000, 1, sRole 3,
      by decide +kernel⟩,
   ⟨frameBody tyRdreq (1) (leBytes 4 0x400 ++ leBytes 4 0x103FFFFC), leBytes 4 0x400 ++ leBytes 4 0x103FFFFC, 1, sRole 3,
      by decide +kernel⟩,
   ⟨frameBody tyRdrsp (1) (leBytes 4 5 ++ leBytes 8 0xFFFFFFFFFFFFFFFF), leBytes 4 5 ++ leBytes 8 0xFFFFFFFFFFFFFFFF, 1,
      0x103FFFF8, 8, 5, { sRole 3 with partnerRd := vput s0.partnerRd 5 (some (0x103FFFF8, 8)) }, by decide +kernel⟩,
   ⟨frameBody tyBell 1 (leBytes 4 511), leBytes 4 511, tyBell, 1, 0, 0, .pingRx (frameBody tyBell 1 (leBytes 4 511)),
      by decide +kernel⟩,
   ⟨State.reset, by decide +kernel⟩,
   ⟨frameBody tyCtrl 0 ([2, 0, 0, 0]), [2, 0, 0, 0], 0, sRole 3, by decide +kernel⟩,
   ⟨frameBody tyCtrl 0 ([1, 0, 0, 0]), [1, 0, 0, 0], 0, sRole 3, by decide +kernel⟩,
   ⟨frameBody tyCtrl 0 ([1, 0, 0, 0]), [1, 0, 0, 0], 0, sRole 3, by decide +kernel⟩,
   ⟨frameBody tyRdreq 1 ((leBytes 4 0x407 ++ leBytes 4 0x2007FFFC)), leBytes 4 0x407 ++ leBytes 4 0x2007FFFC, 1, sRole 3,
      by decide +kernel⟩,
   ⟨8, 0x1FFFFFFFF, false, { sRole 3 with windowIn := [(8 + 16 * 4, 0x1FFFFFFFF, false)] }, by decide +kernel⟩,
   ⟨tw (sRole 3) fun w => { w with txq := [⟨tyBell, [1, 2, 3, 4], 4000⟩] }, by decide +kernel⟩,
   ⟨frameBody tyRdrsp 1 ((leBytes 4 5 ++ leBytes 8 1)), leBytes 4 5 ++ leBytes 8 1, 1, sRole 3, by decide +kernel⟩,
   ⟨frameBody tyBulk (1) (leBytes 4 0x1FFFB8 ++ leBytes 4 0 ++ [1, 2, 3, 4, 5, 6, 7, 8]), leBytes 4 0x1FFFB8 ++ leBytes 4 0 ++
      [1, 2, 3, 4, 5, 6, 7, 8], 1, tw (sRole 4) fun w => { w with join := 1 }, by decide +kernel⟩,
   ⟨frameBody tyAck (1) (leBytes 4 1024), leBytes 4 1024, 1, tw (sRole 2) fun w =>
      { w with bulkOut := [⟨0, 1, [1], some 0, 0⟩, ⟨1024, 1, [1], none, 0⟩] }, by decide +kernel⟩,
   ⟨⟨0, 1, [1], some 1000, 15⟩, tw (sRole 2) fun w => { w with bulkOut := [⟨0, 1, [1], some 1000, 15⟩] }, by decide +kernel⟩,
   ⟨⟨0, 1, [1], some 1000, 16⟩, tw (sRole 2) fun w => { w with bulkOut := [⟨0, 1, [1], some 1000, 16⟩] }, by decide +kernel⟩,
   ⟨State.reset, by decide +kernel⟩,
   ⟨frameBody tyAck 1 (leBytes 4 0), leBytes 4 0, 1, 1, tw (sRole 2) fun w =>
      { w with bulkOut := [⟨0, 1, [1], some 0, 0⟩], bulkKind := some 1, bulkLeft := [1, 2], bulkPos := 1024 },
      by decide +kernel⟩,
   ⟨frameBody tyBulk 1 ((leBytes 4 1024 ++ leBytes 4 1 ++ [1, 2])), leBytes 4 1024 ++ leBytes 4 1 ++ [1, 2], 1, tw (sRole 4)
      fun w => { w with join := 2, bulkRx := [(1, 1024, 16)] }, by decide +kernel⟩,
   ⟨frameBody tyBulk 1 ((leBytes 4 1024 ++ leBytes 4 1 ++ [1, 2])), leBytes 4 1024 ++ leBytes 4 1 ++ [1, 2], 1, tw (sRole 4)
      fun w => { w with join := 2 }, by decide +kernel⟩,
   ⟨frameBody tyBulk 1 ((leBytes 4 1 ++ leBytes 4 1 ++ [2, 3])), leBytes 4 1 ++ leBytes 4 1 ++ [2, 3], 1, tw (sRole 4) fun w
      => { w with join := 2, sync := [1] }, by decide +kernel⟩,
   ⟨frameBody tyBulk 1 ((leBytes 4 1 ++ leBytes 4 1 ++ [2, 3])), leBytes 4 1 ++ leBytes 4 1 ++ [2, 3], 1, tw (sRole 4) fun w
      => { w with join := 2, sync := [1, 2, 3] }, by decide +kernel⟩,
   ⟨frameBody tyBulk 1 ((leBytes 4 2 ++ leBytes 4 1 ++ [2, 3])), leBytes 4 2 ++ leBytes 4 1 ++ [2, 3], 1, tw (sRole 4) fun w
      => { w with join := 2, sync := [1] }, by decide +kernel⟩,
   ⟨frameBody tyBulk 1 ((leBytes 4 2 ++ leBytes 4 1 ++ [2, 3])), leBytes 4 2 ++ leBytes 4 1 ++ [2, 3], 1, sRole 2,
      by decide +kernel⟩⟩

/-- The hypotheses of StreamAndDiscipline are met. -/
theorem witness_StreamAndDiscipline :
    (∃ (n : Snapshot) (s : State), s.snap = some n ∧ s.role = rolePrimary ∧ linkUp s = true ∧ n.waitLane = [] ∧ n.waitSdl = []) ∧
    (∃ (body : List Nat) (p : List Nat) (q : Nat) (r : Nat) (s : State), takesFrames s = true ∧ s.role = roleStandby ∧
      frameRead body = some (tyState, q, p) ∧ leAt p 12 2 = 0 ∧ s.twin.rxL = some r ∧ s.twin.snaps = [] ∧ s.twin.apply = []) ∧
    (∃ (s : State), (s.img.applied = true ∨ s.pw.prevSlot.isSome = true) ∧ s.twin.bAt.all (fun a => decide (a + usTicks ≤
      s.now)) = true ∧ s.twin.bIdx < 16) ∧
    (∃ (highs : List Nat) (v : Nat) (s : State), s.clockOn 16 = true ∧ cellsWord highs = some v ∧ bridleGood s.twin.bLast v =
      true ∧ s.flag .TTH_STAT_BRIDLE = true) ∧
    (∃ (highs : List Nat) (s : State), s.clockOn 16 = true ∧ s.flag .TTH_STAT_BRIDLE = true ∧ (cellsWord highs).all (fun v =>
      !bridleGood s.twin.bLast v) = true ∧ s.twin.bBad = 2) ∧
    (∃ (highs : List Nat) (s : State), s.clockOn 16 = true ∧ s.flag .TTH_STAT_BRIDLE = true ∧ (cellsWord highs).all (fun v =>
      !bridleGood s.twin.bLast v) = true ∧ s.twin.bBad < 2) ∧
    (∃ (s : State), s.flag .TTH_STAT_BRIDLE = true ∧ s.twin.bRxAt + 3 * usTicks ≤ s.now + 680) ∧
    (∃ (s : State), s.role = roleStandby ∧ s.twin.winAt + msTicks ≤ s.now ∧ s.twin.acq = false ∧ -4194 ≤ sext 16 (s.fget
      .TTH_DISC_TRIM) ∧ sext 16 (s.fget .TTH_DISC_TRIM) ≤ 4194) ∧
    (∃ (a : Nat) (s : State), s.role = roleStandby ∧ s.flag .TTH_STAT_LOCKED = true ∧ s.twin.badFrom = some a ∧ a + 100 *
      usTicks ≤ s.now) ∧
    (∃ (k : Fin 8) (s : State), alignDue s k = true ∧ vget s.twin.align k = 0) ∧
    (∃ (k : Fin 8) (s : State), alignDue s k = true ∧ vget s.twin.align k = 1 ∧ alignNow s k = true) ∧
    (∃ (s : State), s.snap = none) ∧
    (∃ (n : Snapshot) (s : State), s.snap = some n ∧ (s.role ≠ rolePrimary ∨ linkUp s = false ∨ n.waitLane ≠ [] ∨ n.waitSdl ≠
      [])) ∧
    (∃ (body : List Nat) (p : List Nat) (q : Nat) (locks : Fin 4) (n : Snapshot) (s : State), takesFrames s = true ∧ s.role =
      roleStandby ∧ frameRead body = some (tyState, q, p) ∧ s.twin.snaps.find? (fun x => Machine.within x.ltv (leAt p 4 8 +
      s.twin.theta0) 16) = some n ∧ firstOut s locks n (frameValues s p) = none) ∧
    (∃ (body : List Nat) (p : List Nat) (q : Nat) (locks : Fin 4) (n : Snapshot) (s : State) (e : Nat), takesFrames s = true ∧
      s.role = roleStandby ∧ frameRead body = some (tyState, q, p) ∧ s.twin.snaps.find? (fun x => Machine.within x.ltv (leAt p
      4 8 + s.twin.theta0) 16) = some n ∧ firstOut s locks n (frameValues s p) = some e) ∧
    (∃ (body : List Nat) (p : List Nat) (q : Nat) (x : List (Nat × List Nat)) (l : List (List (Nat × List Nat) × Bool)) (s :
      State), takesFrames s = true ∧ s.role = roleJoining ∧ frameRead body = some (tyState, q, p) ∧ s.twin.apply = (x, true) ::
      l) ∧
    (∃ (e : Nat) (v : List Nat) (s : State), s.role = roleStandby ∧ s.twin.apply = [([(e, v)], true)] ∧ entKind s e = 4 ∧
      shadowBusy s .shadowWrite = false) ∧
    (∃ (body : List Nat) (p : List Nat) (q : Nat) (s : State), takesFrames s = false ∧ linkTalks s = true ∧ frameRead body =
      some (tyState, q, p)) ∧
    (∃ (highs : List Nat) (v : Nat) (i : Nat), cellsWord highs = some v ∧ 0 < i ∧ i < 16) ∧
    (∃ (s : State), s.clockOn 16 = false) ∧
    (∃ (s : State), (s.img.applied = false ∧ s.pw.prevSlot.isSome = false ∨ s.twin.bAt.any (fun a => decide (s.now < a +
      usTicks)) = true)) ∧
    (∃ (s : State), (s.flag .TTH_STAT_BRIDLE = false ∨ s.now + 680 < s.twin.bRxAt + 3 * usTicks)) ∧
    (∃ (s : State), (s.role = roleStandby ∨ s.role = roleJoining) ∧ s.twin.winAt + msTicks ≤ s.now ∧ s.twin.acq = true ∧
      s.twin.cnt = 0) ∧
    (∃ (s : State), (s.role = roleStandby ∨ s.role = roleJoining) ∧ s.twin.winAt + msTicks ≤ s.now ∧ s.twin.acq = true ∧
      s.twin.cnt ≠ 0 ∧ s.twin.mean = none) ∧
    (∃ (m : Int) (s : State), (s.role = roleStandby ∨ s.role = roleJoining) ∧ s.twin.winAt + msTicks ≤ s.now ∧ s.twin.acq =
      true ∧ s.twin.cnt ≠ 0 ∧ s.twin.mean = some m ∧ Machine.within (roundDiv 0 s.twin.sum s.twin.cnt - m) 0 2 = true) ∧
    (∃ (m : Int) (s : State), (s.role = roleStandby ∨ s.role = roleJoining) ∧ s.twin.winAt + msTicks ≤ s.now ∧ s.twin.acq =
      true ∧ s.twin.cnt ≠ 0 ∧ s.twin.mean = some m ∧ 2 < roundDiv 0 s.twin.sum s.twin.cnt - m ∧ -4194 ≤ sext 16 (s.fget
      .TTH_DISC_TRIM) ∧ sext 16 (s.fget .TTH_DISC_TRIM) ≤ 4194) ∧
    (∃ (s : State), (s.role ≠ roleStandby ∧ s.role ≠ roleJoining ∨ s.now < s.twin.winAt + msTicks)) ∧
    (∃ (s : State), (s.role ≠ roleStandby ∨ s.flag .TTH_STAT_LOCKED = false ∨ s.twin.badFrom = none)) ∧
    (∃ (k : Fin 8) (s : State), alignDue s k = true ∧ vget s.twin.align k = 1 ∧ alignNow s k = false) ∧
    (∃ (k : Fin 8) (s : State), alignDue s k = false) :=
  ⟨⟨(⟨5000, [], [], []⟩ : Snapshot), { sRole 2 with snap := some ((⟨5000, [], [], []⟩ : Snapshot)) }, by decide +kernel⟩,
   ⟨frameBody tyState (9) (leBytes 4 7 ++ leBytes 8 5000 ++ [0, 0, 0, 0]), leBytes 4 7 ++ leBytes 8 5000 ++ [0, 0, 0, 0], 9,
      7, tw (sRole 3) fun w => { w with rxL := some 7 }, by decide +kernel⟩,
   ⟨tw ({ sNow with img := { sNow.img with applied := true } }) fun w => { w with bIdx := 15 }, by decide +kernel⟩,
   ⟨[500, 700] ++ List.replicate 13 200 ++ [700], 0x8002, sNow.fset .TTH_STAT_BRIDLE 1, by decide +kernel⟩,
   ⟨[], tw (sNow.fset .TTH_STAT_BRIDLE 1) fun w => { w with bBad := 2 }, by decide +kernel⟩,
   ⟨[], tw (sNow.fset .TTH_STAT_BRIDLE 1) fun w => { w with bBad := 1 }, by decide +kernel⟩,
   ⟨sNow.fset .TTH_STAT_BRIDLE 1, by decide +kernel⟩,
   ⟨{ ((sRole 3).fset .TTH_DISC_TRIM 0x1062) with now := 800000 }, by decide +kernel⟩,
   ⟨0, tw ({ ((sRole 3).fset .TTH_STAT_LOCKED 1) with now := 80000 }) fun w => { w with badFrom := some 0 },
      by decide +kernel⟩,
   ⟨7, tw ((sChan 5 8).fset .TTH_STAT_ROLE 4 |>.fset .TTH_STAT_LOCKED 1) fun w =>
      { w with join := 3, wraps := vput w.wraps 7 (some (4000, 8)) }, by decide +kernel⟩,
   ⟨7, tw ((sChan 5 8).fset .TTH_STAT_ROLE 4 |>.fset .TTH_STAT_LOCKED 1) fun w =>
      { w with join := 3, wraps := vput w.wraps 7 (some (5001, 8)), align := vput w.align 7 1 }, by decide +kernel⟩,
   ⟨State.reset, by decide +kernel⟩,
   ⟨⟨0, [], [], []⟩, { sRole 3 with snap := some ⟨0, [], [], []⟩ }, by decide +kernel⟩,
   ⟨frameBody tyState 1 ((leBytes 4 1 ++ leBytes 8 5000 ++ leBytes 4 0)), leBytes 4 1 ++ leBytes 8 5000 ++ leBytes 4 0, 1, 3,
      ⟨5000, [], [], []⟩, tw (sRole 3) fun w => { w with snaps := [⟨5000, [], [], []⟩] }, by decide +kernel⟩,
   ⟨frameBody tyState 1 ((leBytes 4 1 ++ leBytes 8 5000 ++ leBytes 4 1 ++ [255, 3, 32, 0] ++ List.replicate 32 1)), leBytes 4
      1 ++ leBytes 8 5000 ++ leBytes 4 1 ++ [255, 3, 32, 0] ++ List.replicate 32 1, 1, 3, ⟨5000, [(255, List.replicate 8 0)],
      [], []⟩, tw ((((sRole 3).fset .TTH_STREAM_W0_KIND 3 255).fset .TTH_STREAM_W0_MODE 1 255).fset .TTH_CFG_DIVN 1) fun w =>
      { w with snaps := [⟨5000, [(255, List.replicate 8 0)], [], []⟩] }, 255, by decide +kernel⟩,
   ⟨frameBody tyState 1 ((leBytes 4 1 ++ leBytes 8 5000 ++ leBytes 4 0)), leBytes 4 1 ++ leBytes 8 5000 ++ leBytes 4 0, 1, [],
      [], tw (sRole 4) fun w => { w with join := 4, apply := [([], true)] }, by decide +kernel⟩,
   ⟨255, List.replicate 128 255, tw ((sRole 3).fset .TTH_STREAM_W0_KIND 4 255) fun w =>
      { w with apply := [([(255, List.replicate 128 255)], true)] }, by decide +kernel⟩,
   ⟨frameBody tyState 1 ((leBytes 4 1 ++ leBytes 8 5000 ++ leBytes 4 0)), leBytes 4 1 ++ leBytes 8 5000 ++ leBytes 4 0, 1,
      sRole 2, by decide +kernel⟩,
   ⟨[500, 700] ++ List.replicate 13 200 ++ [700], 0x8002, 15, by decide +kernel⟩,
   ⟨s0.fset .PMG_DOMSTAT_STATE 3 16, by decide +kernel⟩,
   ⟨State.reset, by decide +kernel⟩,
   ⟨State.reset, by decide +kernel⟩,
   ⟨tw { sRole 3 with now := 800000 } fun w => { w with acq := true }, by decide +kernel⟩,
   ⟨tw { sRole 3 with now := 800000 } fun w => { w with acq := true, cnt := 3, sum := -8 }, by decide +kernel⟩,
   ⟨-1, tw { sRole 3 with now := 800000 } fun w => { w with acq := true, cnt := 3, sum := -8, mean := some (-1) },
      by decide +kernel⟩,
   ⟨-10, tw { sRole 3 with now := 800000 } fun w => { w with acq := true, cnt := 3, sum := -8, mean := some (-10) },
      by decide +kernel⟩,
   ⟨State.reset, by decide +kernel⟩,
   ⟨State.reset, by decide +kernel⟩,
   ⟨7, tw ((sRole 4).fset .TTH_STAT_LOCKED 1) fun w =>
      { w with join := 3, align := vput w.align 7 1, wraps := vput w.wraps 7 (some (0, 8)) }, by decide +kernel⟩,
   ⟨7, State.reset, by decide +kernel⟩⟩

/-- The hypotheses of ResetsAndWatchdog are met. -/
theorem witness_ResetsAndWatchdog :
    (∃ (s : State), s.pw.powered = false) ∧
    (∃ (n : Nat) (s : State), s.pw.powered = true ∧ 800 ≤ n ∧ s.pw.mramBuf = []) ∧
    (∃ (n : Nat) (s : State), s.pw.powered = true ∧ n < 800) ∧
    (∃ (n : Nat) (s : State), s.pw.powered = true ∧ n < 800) ∧
    (∃ (n : Nat) (s : State), s.pw.powered = true ∧ 800 ≤ n ∧ s.pw.rst ≠ some 0) ∧
    (∃ (cause : Fin 4) (s : State), s.pw.rst = some cause.val ∧ s.pw.powered = true ∧ 4000 ≤ s.now) ∧
    (∃ (s : State), s.pw.rst = none ∧ s.flag .FAB_CLKSTAT_PLLT_LOCK = false) ∧
    (∃ (m : Fin 10) (v : Nat) (s : State), Reaches s m (regAddr .PMG_WDTKICK) ∧ v % 256 = 0xA5) ∧
    (∃ (m : Fin 10) (v : Nat) (s : State), Reaches s m (regAddr .PMG_WDTKICK) ∧ v % 256 ≠ 0xA5) ∧
    (∃ (s : State), s.pw.rst = none ∧ s.fget .PMG_WDT_PERIOD ≠ 0 ∧ s.pw.kickAt + s.fget .PMG_WDT_PERIOD * msTicks ≤ s.now) ∧
    (∃ (n : Nat) (s : State), s.pw.powered = true ∧ 800 ≤ n ∧ s.pw.rst = some 0) ∧
    (∃ (n : Nat) (w : Nat × Nat) (s : State), s.pw.powered = true ∧ 800 ≤ n ∧ s.pw.mramBuf = [w] ∧ 0x30000000 ≤ w.1 ∧ w.1 + 8 ≤
      0x30800000) ∧
    (∃ (s : State), s.pw.powered = true) ∧
    (∃ (s : State), s.pw.powered = false) ∧
    (∃ (s : State), s.pw.powered = false) ∧
    (∃ (s : State), (s.pw.rst = none ∨ s.pw.powered = false ∨ s.now < 4000)) ∧
    (∃ (s : State), (s.pw.rst ≠ none ∨ s.flag .FAB_CLKSTAT_PLLT_LOCK = true)) ∧
    (∃ (s : State), (s.fget .PMG_WDT_PERIOD = 0 ∨ s.now < s.pw.kickAt + s.fget .PMG_WDT_PERIOD * msTicks ∨ s.pw.rst ≠ none)) :=
  ⟨⟨pw s0 fun p => { p with powered := false }, by decide +kernel⟩,
   ⟨800, State.reset, by decide +kernel⟩,
   ⟨799, State.reset, by decide +kernel⟩,
   ⟨799, State.reset, by decide +kernel⟩,
   ⟨800, State.reset, by decide +kernel⟩,
   ⟨3, pw sNow fun p => { p with rst := some 3 }, by decide +kernel⟩,
   ⟨State.reset, by decide +kernel⟩,
   ⟨8, 0xFFFFFFA5, State.reset, by unfold Reaches; decide +kernel⟩,
   ⟨8, 0, State.reset, by unfold Reaches; decide +kernel⟩,
   ⟨{ sCore.fset .PMG_WDT_PERIOD 1 with now := 800000 }, by decide +kernel⟩,
   ⟨800, pw sNow fun p => { p with rst := some 0 }, by decide +kernel⟩,
   ⟨800, (0x307FFFF8, 2 ^ 64 - 1), pw sNow fun p => { p with mramBuf := [(0x307FFFF8, 2 ^ 64 - 1)] }, by decide +kernel⟩,
   ⟨State.reset, by decide +kernel⟩,
   ⟨pw sNow fun p => { p with powered := false }, by decide +kernel⟩,
   ⟨pw sNow fun p => { p with powered := false }, by decide +kernel⟩,
   ⟨State.reset, by decide +kernel⟩,
   ⟨s0.fset .FAB_CLKSTAT_PLLT_LOCK 1, by decide +kernel⟩,
   ⟨State.reset, by decide +kernel⟩⟩

/-- The hypotheses of PowerDomains are met. -/
theorem witness_PowerDomains :
    (∃ (m : Fin 10) (k : Fin 8) (s : State), Reaches s m (regAddr .PMG_BUDGET k)) ∧
    (∃ (m : Fin 10) (s : State), Reaches s m (regAddr .PMG_HOLD)) ∧
    (∃ (m : Fin 10) (k : Fin 8) (v : Nat) (s : State), Reaches s m (regAddr .PMG_HOLD) ∧ bit v k = true ∧ s.fbit .PMG_HOLD_HOLD
      k = false ∧ serviceOn s k = true) ∧
    (∃ (m : Fin 10) (d : Fin 20) (v : Nat) (s : State), Reaches s m (regAddr .PMG_DOMSTAT d) ∧ (d ≠ 0 ∨ s.img.applied = false)
      ∧ bit v 6 = true ∧ Regs.wf s.regs = true ∧ s.setNow .PMG_DOMSTAT_DIRTY d 0 % 2 = 0) ∧
    (∃ (d : Fin 20) (s : State), s.pw.rst = none ∧ domState s d < domTarget s d ∧ bit s.pw.waking d = false ∧ domReport s d ≠ 0
      ∧ vget s.pw.domAct d + 8000 ≤ s.now) ∧
    (∃ (d : Fin 20) (s : State), s.pw.rst = none ∧ domState s d ≠ 0 ∧ wakeCause s d = true) ∧
    (∃ (d : Fin 20) (s : State), s.pw.rst = none ∧ bit s.pw.waking d = true ∧ domState s d ≠ 3 ∧ d ≠ 14 ∧ s.pw.held = [] ∧
      s.pw.holdWait = 0) ∧
    (∃ (m : Fin 10) (k : Fin 8) (v : Nat) (s : State), Reaches s m (regAddr .PMG_HOLD) ∧ bit v k = true ∧ s.fbit .PMG_HOLD_HOLD
      k = false ∧ serviceOn s k = false) ∧
    (∃ (m : Fin 10) (d : Fin 20) (v : Nat) (s : State), Reaches s m (regAddr .PMG_DOMSTAT d) ∧ bit v 6 = false) ∧
    (∃ (d : Fin 20) (s : State), s.pw.rst = none ∧ bit s.pw.waking d = true) ∧
    (∃ (d : Fin 20) (s : State), s.pw.rst = none ∧ bit s.pw.waking d = true ∧ domState s d = 3 ∧ d ∉ [11, 12, 14, 16, 17] ∧
      s.pw.held = [] ∧ s.pw.holdWait = 0) ∧
    (∃ (d : Fin 20) (s : State), (s.pw.rst ≠ none ∨ domTarget s d ≤ domState s d ∨ bit s.pw.waking d = true ∨ domReport s d = 0
      ∨ s.now < vget s.pw.domAct d + 8000)) ∧
    (∃ (d : Fin 20) (s : State), (s.pw.rst ≠ none ∨ domState s d = 0 ∨ wakeCause s d = false)) ∧
    (∃ (d : Fin 20) (s : State), (s.pw.rst ≠ none ∨ bit s.pw.waking d = false)) :=
  ⟨⟨8, 7, State.reset, by unfold Reaches; decide +kernel⟩,
   ⟨8, State.reset, by unfold Reaches; decide +kernel⟩,
   ⟨8, 7, 0x80, State.reset, by unfold Reaches; decide +kernel⟩,
   ⟨8, 19, 0x40, State.reset, by unfold Reaches; decide +kernel⟩,
   ⟨19, { (s0.fset .PMG_BUDGET_US 100000 6 |>.fset .PMG_BUDGET_US 100000 5 |>.fset .PMG_HOLD_HOLD 0) with now := 8000 },
      by decide +kernel⟩,
   ⟨19, (s0.fset .PMG_DOMSTAT_STATE 1 19).fset .PMG_HOLD_HOLD 0xFF, by decide +kernel⟩,
   ⟨19, pw (s0.fset .PMG_DOMSTAT_STATE 1 19) fun p => { p with waking := 0x80000 }, by decide +kernel⟩,
   ⟨8, 7, 0x80, s0.fset .PMG_DOMSTAT_STATE 1 12, by unfold Reaches; decide +kernel⟩,
   ⟨8, 19, 0, State.reset, by unfold Reaches; decide +kernel⟩,
   ⟨19, pw (s0.fset .PMG_DOMSTAT_STATE 1 19) fun p => { p with waking := 0x80000 }, by decide +kernel⟩,
   ⟨19, pw (s0.fset .PMG_DOMSTAT_STATE 3 19) fun p => { p with waking := 0x80000 }, by decide +kernel⟩,
   ⟨19, State.reset, by decide +kernel⟩,
   ⟨19, State.reset, by decide +kernel⟩,
   ⟨19, State.reset, by decide +kernel⟩⟩

/-- The hypotheses of ImageBoot are met. -/
theorem witness_ImageBoot :
    (∃ (s : State), s.pw.bootDue = true ∧ ((slotState s 0 = 0 ∨ slotState s 0 = 5)) ∧ ((slotState s 1 = 0 ∨ slotState s 1 =
      5))) ∧
    (∃ (s : State), s.pw.bootDue = true ∧ driveHeld s 0 = false ∧ slotState s 0 = 4 ∧ slotState s 1 = 0 ∧ headerReason s 0 ≠ 0) ∧
    (∃ (s : State), s.pw.bootDue = true ∧ driveHeld s 0 = false ∧ slotState s 0 = 4 ∧ slotState s 1 = 0 ∧ s.pw.slotsLeft = none
      ∧ (tryImage (bootCleared s) 0).reason = 0) ∧
    (∃ (s : State), s.pw.nonlive = true ∧ s.img.applied = true ∧ ((∀ c ∈ sections s s.img.slot, c.live = true))) ∧
    (∃ (s : State), s.pw.nonlive = true ∧ s.img.applied = true ∧ ((∃ c ∈ sections s s.img.slot, c.live = false ∧ digestOk s
      s.img.slot c = false))) ∧
    (∃ (s : State), s.pw.inPlace = [] ∧ imageReceived s = true ∧ driveHeld (applyStart s) (spareSlot s) = false ∧ (tryImage
      (applyStart s) (spareSlot s)).reason = 0) ∧
    (∃ (s : State), s.pw.inPlace = [] ∧ imageReceived s = true ∧ driveHeld (applyStart s) (spareSlot s) = false ∧ s.img.applied
      = false ∧ (tryImage (applyStart s) (spareSlot s)).reason ≠ 0) ∧
    (∃ (w : Nat × Nat) (rest : List (Nat × Nat)) (s : State), s.pw.mramBuf = w :: rest) ∧
    (∃ (w : Nat × Nat) (rest : List (Nat × Nat)) (s : State), s.pw.mramBuf = w :: rest) ∧
    (∃ (s : State), s.pw.bootDue = true ∧ slotState s 0 = 4 ∧ slotState s 1 = 0 ∧ driveHeld s 0 = true) :=
  ⟨⟨pw s0 fun p => { p with bootDue := true }, by decide +kernel⟩,
   ⟨pw (s0.storeBytes (slotBase 0) [4]) fun p => { p with bootDue := true }, by decide +kernel⟩,
   ⟨sBoot, by decide +kernel, by decide +kernel, by decide +kernel, by decide +kernel, by decide +kernel,
    sBoot_applies⟩,
   ⟨pw ({ s0 with img := { s0.img with applied := true } }) fun p => { p with nonlive := true }, by decide +kernel⟩,
   ⟨pw ({ s0.storeBytes (imgBase 0 + 18) [1] with img := { s0.img with applied := true } }) fun p =>
      { p with nonlive := true }, by decide +kernel⟩,
   ⟨sInPlace, by decide +kernel, by decide +kernel, by decide +kernel,
    sInPlace_applies⟩,
   ⟨sImg 1 1 0 (tw (sNow.fset .TTH_STAT_ROLE 4) fun w => { w with join := 1, imgGot := [(0, 240)] }), by decide +kernel⟩,
   ⟨(0x30700000, 5), [(0x30700008, 5)], pw s0 fun p => { p with mramBuf := ((0x30700000, 5)) :: ([(0x30700008, 5)]) },
      by decide +kernel⟩,
   ⟨(0x30700000, 5), [(0x30700008, 5)], pw s0 fun p => { p with mramBuf := ((0x30700000, 5)) :: ([(0x30700008, 5)]) },
      by decide +kernel⟩,
   ⟨pw (sDrv 0 4 248 sNow) fun p => { p with bootDue := true }, by decide +kernel⟩⟩

/-- The hypotheses of ImageBoot are met, further clauses. -/
theorem witness_ImageBoot_b :
    (∃ (first : Bool) (n : Fin 2) (s : State), s.pw.bootDue = false ∧ s.pw.slotsLeft = some (first, [n.val]) ∧ slotState s n =
      4 ∧ driveHeld s n = false ∧ (tryImage { s with pw := { s.pw with slotsLeft := none } } n).reason = 0) ∧
    (∃ (n : Fin 2) (s : State), s.pw.bootDue = true ∧ slotState s n = 2 ∧ slotState s (1 - n) = 0 ∧ driveHeld s n = false ∧
      headerReason s n ≠ 0) ∧
    (∃ (s : State), s.pw.nonlive = true ∧ s.img.applied = true) ∧
    (∃ (s : State), s.pw.inPlace = [] ∧ imageReceived s = true ∧ s.img.applied = true ∧ s.img.slot < 2 ∧ driveHeld (applyStart
      s) (spareSlot s) = false ∧ (attempt (applyStart s) (spareSlot s)).1 = false ∧ driveHeld (attempt (applyStart s)
      (spareSlot s)).2 s.img.slot = false ∧ (attempt (attempt (applyStart s) (spareSlot s)).2 s.img.slot).1 = true) ∧
    (∃ (s : State), s.pw.inPlace = [] ∧ imageReceived s = true ∧ driveHeld (applyStart s) (spareSlot s) = true) ∧
    (∃ (s : State), s.pw.mramBuf = []) ∧
    (∃ (s : State), s.pw.mramBuf = []) ∧
    (∃ (s : State), s.pw.bootDue = false ∧ s.pw.slotsLeft = none) ∧
    (∃ (s : State), (s.pw.nonlive = false ∨ s.img.applied = false)) ∧
    (∃ (s : State), s.pw.inPlace = [] ∧ imageReceived s = false) :=
  ⟨⟨false, 1, sSecond, by decide +kernel, by decide +kernel, by decide +kernel, by decide +kernel,
    sSecond_applies⟩,
   ⟨1, pw (sNow.storeBytes (slotBase 1) [2]) fun p => { p with bootDue := true }, by decide +kernel⟩,
   ⟨pw ({ s0 with img := { s0.img with applied := true } }) fun p => { p with nonlive := true }, by decide +kernel⟩,
   ⟨sBack, by decide +kernel, by decide +kernel, by decide +kernel, by decide +kernel, by decide +kernel, by decide +kernel, by decide +kernel,
    back_applies⟩,
   ⟨sDrv 1 1 248 (tw (sNow.fset .TTH_STAT_ROLE 4) fun w => { w with join := 1, imgGot := [(0, 248)] }), by decide +kernel⟩,
   ⟨State.reset, by decide +kernel⟩,
   ⟨State.reset, by decide +kernel⟩,
   ⟨State.reset, by decide +kernel⟩,
   ⟨State.reset, by decide +kernel⟩,
   ⟨State.reset, by decide +kernel⟩⟩

/-- The hypotheses of CupolaThermal are met. -/
theorem witness_CupolaThermal :
    (∃ (i : Fin 22) (s : State), s.pw.rst = none ∧ cupEn s i = true ∧ (s.cupAt i).ready = false ∧ (s.cupAt i).startAt = none ∧
      (s.cupAt i).first = none ∧ (s.sarAt (cupConv s i)).burst = none ∧ s.fget .PMG_DOMSTAT_STATE 12 = 0 ∧ sarReserved s
      (cupConv s i) = false) ∧
    (∃ (i : Fin 22) (s : State), s.pw.rst = none ∧ cupEn s i = true ∧ (s.cupAt i).ready = false ∧ (s.cupAt i).startAt = none ∧
      (s.cupAt i).first = none ∧ (s.sarAt (cupConv s i)).burst = none ∧ s.fget .PMG_DOMSTAT_STATE 12 = 0 ∧ sarReserved s
      (cupConv s i) = true) ∧
    (∃ (i : Fin 22) (uv : Nat) (s : State), 14 ≤ i.val ∧ cupEn s i = true ∧ (s.cupAt i).ready = true ∧ cupBroken s i = false ∧
      1470000 < uv ∧ Regs.wf s.regs = true) ∧
    (∃ (i : Fin 22) (uv : Nat) (lo : Nat) (s : State), 10 ≤ i.val ∧ i.val < 14 ∧ cupEn s i = true ∧ (s.cupAt i).ready = true ∧
      lo ≤ 1500000 ∧ lo + 40000 ≤ uv) ∧
    (∃ (i : Fin 22) (s : State), cupEn s i = true ∧ cupBroken s i = false ∧ (s.cupAt i).doneAt + 8 * msTicks ≤ s.now) ∧
    (∃ (k : Bool) (a : Nat) (s : State), vget s.cupGrace (b2n k) = some a ∧ a + s.fget .CUP_CFG_GRACE * msTicks ≤ s.now ∧
      s.flag .LAE_XSTAT_BUSY = false) ∧
    (∃ (k : Bool) (a : Nat) (s : State), vget s.cupGrace (b2n k) = some a ∧ a + s.fget .CUP_CFG_GRACE * msTicks ≤ s.now ∧
      s.flag .LAE_XSTAT_BUSY = true ∧ s.now < s.xfer.td) ∧
    (∃ (k : Bool) (a : Nat) (s : State), s.flag (enfFlag (b2n k)) = true ∧ kindHot s (b2n k) = false ∧ vget s.cupBelow (b2n k)
      = some a ∧ a + msTicks ≤ s.now) ∧
    (∃ (n : Fin 8) (a : Nat) (v : Int) (s : State), s.limNext = some a ∧ a ≤ s.now ∧ s.flag .CUP_STAT_ENFCUR = true ∧
      limitTargets s = [n.val] ∧ vget s.limLast n = some v) ∧
    (∃ (b : List Nat) (s : State), s.cupRec = some b) ∧
    (∃ (v : Nat) (s : State), Reaches s 4 (regAddr .CUP_CTRL) ∧ bit v 0 = true ∧ s.flag .CUP_STAT_SHUT = true) ∧
    (∃ (m : Fin 10) (s : State), m ≠ 4 ∧ Reaches s m (regAddr .CUP_CTRL)) ∧
    (∃ (v : Nat) (s : State), Reaches s 4 (regAddr .CUP_CTRL) ∧ (bit v 0 = false ∨ s.flag .CUP_STAT_SHUT = false)) ∧
    (∃ (i : Fin 22) (a : Nat) (b : Nat) (s : State), s.pw.rst = none ∧ 10 ≤ i.val ∧ i.val < 14 ∧ cupEn s i = true ∧ (s.cupAt
      i).ready = false ∧ (s.cupAt i).first = some a ∧ s.now + 281 ≤ a + 100 * usTicks ∧ (s.cupAt i).startAt = some b ∧ (s.cupAt
      i).doneAt < b ∧ (s.sarAt (cupConv s i)).burst = none ∧ s.fget .PMG_DOMSTAT_STATE 12 = 0 ∧ sarReserved s (cupConv s i) =
      false) ∧
    (∃ (i : Fin 22) (a : Nat) (s : State), s.pw.rst = none ∧ cupEn s i = true ∧ (s.cupAt i).ready = false ∧ (s.cupAt i).startAt
      = some a ∧ (s.cupAt i).first = none ∧ a + cupInterval s i ≤ s.now ∧ (s.sarAt (cupConv s i)).burst = none ∧ s.fget
      .PMG_DOMSTAT_STATE 12 = 0 ∧ sarReserved s (cupConv s i) = false) ∧
    (∃ (i : Fin 22) (a : Nat) (s : State), s.pw.rst = none ∧ cupEn s i = true ∧ (s.cupAt i).ready = false ∧ (s.cupAt i).startAt
      = some a ∧ (s.cupAt i).first = none ∧ s.now < a + cupInterval s i ∧ a ≤ (s.cupAt i).doneAt) ∧
    (∃ (i : Fin 22) (s : State), s.pw.rst = none ∧ cupEn s i = true ∧ (s.cupAt i).ready = false ∧ burstDue s i = true ∧
      (s.sarAt (cupConv s i)).burst = none ∧ sarReserved s (cupConv s i) = false ∧ s.fget .PMG_DOMSTAT_STATE 12 ≠ 0) ∧
    (∃ (i : Fin 22) (uv : Nat) (s : State), cupEn s i = true ∧ (s.cupAt i).ready = true ∧ cupBroken s i = false ∧ 14 ≤ i.val ∧
      uv < 30000) ∧
    (∃ (i : Fin 22) (lo : Nat) (s : State), cupEn s i = true ∧ (s.cupAt i).ready = true ∧ cupBroken s i = false ∧ 10 ≤ i.val ∧
      i.val < 14 ∧ 1500000 < lo) ∧
    (∃ (i : Fin 22) (uv : Nat) (lo : Nat) (s : State), cupEn s i = true ∧ (s.cupAt i).ready = true ∧ cupBroken s i = false ∧ 10
      ≤ i.val ∧ i.val < 14 ∧ lo ≤ 1500000 ∧ uv < lo + 40000) ∧
    (∃ (i : Fin 22) (uv : Nat) (s : State), 14 ≤ i.val ∧ cupEn s i = true ∧ (s.cupAt i).ready = true ∧ 30000 ≤ uv ∧ uv ≤
      1470000) ∧
    (∃ (i : Fin 22) (s : State), i.val < 10 ∧ cupEn s i = true ∧ (s.cupAt i).ready = true) ∧
    (∃ (k : Bool) (a : Nat) (s : State), vget s.cupGrace (b2n k) = some a ∧ a + s.fget .CUP_CFG_GRACE * msTicks ≤ s.now ∧
      s.flag .LAE_XSTAT_BUSY = true ∧ s.xfer.td ≤ s.now) ∧
    (∃ (n : Fin 8) (a : Nat) (v : Int) (s : State), s.limNext = some a ∧ a ≤ s.now ∧ limitTargets s = [n.val] ∧ s.flag
      .CUP_STAT_ENFCUR = false ∧ vget s.limLast n = some v ∧ v ≠ limNom s n) ∧
    (∃ (n : Fin 8) (a : Nat) (s : State), s.limNext = some a ∧ a ≤ s.now ∧ limitTargets s = [n.val] ∧ s.flag .CUP_STAT_ENFCUR =
      true ∧ vget s.limLast n = none) ∧
    (∃ (i : Fin 22) (s : State), (cupEn s i = false ∨ (s.cupAt i).ready = false)) ∧
    (∃ (i : Fin 22) (s : State), (cupEn s i = false ∨ cupBroken s i = true ∨ s.now < (s.cupAt i).doneAt + 8 * msTicks)) ∧
    (∃ (i : Fin 22) (s : State), (s.pw.rst ≠ none ∨ cupEn s i = false ∨ (s.cupAt i).ready = true ∨ (s.sarAt (cupConv s
      i)).burst ≠ none)) ∧
    (∃ (k : Bool) (s : State), vget s.cupGrace (b2n k) = none) ∧
    (∃ (k : Bool) (a : Nat) (s : State), vget s.cupGrace (b2n k) = some a ∧ s.now < a + s.fget .CUP_CFG_GRACE * msTicks) ∧
    (∃ (k : Bool) (s : State), (s.flag (enfFlag (b2n k)) = false ∨ kindHot s (b2n k) = true ∨ vget s.cupBelow (b2n k) = none)) ∧
    (∃ (k : Bool) (a : Nat) (s : State), vget s.cupBelow (b2n k) = some a ∧ s.now < a + msTicks) ∧
    (∃ (s : State), s.limNext = none) ∧
    (∃ (a : Nat) (s : State), s.limNext = some a ∧ s.now < a) ∧
    (∃ (s : State), s.cupRec = none) :=
  ⟨⟨9, sNow.fset .CUP_SNS_CFG_EN 1 9, by decide +kernel⟩,
   ⟨9, (sNow.fset .CUP_SNS_CFG_EN 1 9).setSar 9 { s0.sarAt 9 with freeAt := 5001 }, by decide +kernel⟩,
   ⟨21, 1470001, (sNow.fset .CUP_SNS_CFG_EN 1 21).setCup 21 { ready := true }, by decide +kernel⟩,
   ⟨13, 1540000, 1500000, (sNow.fset .CUP_SNS_CFG_EN 1 13).setCup 13 { ready := true }, by decide +kernel⟩,
   ⟨21, { sNow.fset .CUP_SNS_CFG_EN 1 21 with now := 6400000 }, by decide +kernel⟩,
   ⟨true, 0, { sNow.fset .CUP_CFG_GRACE 1 with now := 800000, cupGrace := vput sNow.cupGrace 1 (some 0) }, by decide +kernel⟩,
   ⟨true, 0,
      { (sNow.fset .CUP_CFG_GRACE 1).fset .LAE_XSTAT_BUSY 1 with now := 800000, xfer := { sNow.xfer with td := 900000 }, cupGrace := vput sNow.cupGrace 1 (some 0) },
      by decide +kernel⟩,
   ⟨true, 0, { sNow.fset .CUP_STAT_ENFCUR 1 with now := 800000, cupBelow := vput sNow.cupBelow 1 (some 0) },
      by decide +kernel⟩,
   ⟨7, 5000, 1000,
      { (sNow.fset .CUP_STAT_ENFCUR 1).fset .CUP_LIM_TGT_EN 1 7 with limNext := some 5000, limLast := vput sNow.limLast 7 (some 1000) },
      by decide +kernel⟩,
   ⟨[1], { s0 with cupRec := some ([1]) }, by decide +kernel⟩,
   ⟨1, sCore.fset .CUP_STAT_SHUT 1, by unfold Reaches; decide +kernel⟩,
   ⟨8, State.reset, by unfold Reaches; decide +kernel⟩,
   ⟨0, sCore.fset .CUP_STAT_SHUT 1, by unfold Reaches; decide +kernel⟩,
   ⟨13, 5000, 1, (sNow.fset .CUP_SNS_CFG_EN 1 13).setCup 13 { first := some 5000, startAt := some 1 }, by decide +kernel⟩,
   ⟨13, 0, ({ sNow.fset .CUP_SNS_CFG_EN 1 13 with now := 800000 }).setCup 13 { startAt := some 0 }, by decide +kernel⟩,
   ⟨13, 5000, (sNow.fset .CUP_SNS_CFG_EN 1 13).setCup 13 { startAt := some 5000, doneAt := 5000 }, by decide +kernel⟩,
   ⟨21, ((sNow.fset .CUP_SNS_CFG_EN 1 21).fset .PMG_DOMSTAT_STATE 3 12), by decide +kernel⟩,
   ⟨21, 29999, (sNow.fset .CUP_SNS_CFG_EN 1 21).setCup 21 { ready := true }, by decide +kernel⟩,
   ⟨13, 1500001, (sNow.fset .CUP_SNS_CFG_EN 1 13).setCup 13 { ready := true }, by decide +kernel⟩,
   ⟨13, 1539999, 1500000, (sNow.fset .CUP_SNS_CFG_EN 1 13).setCup 13 { ready := true }, by decide +kernel⟩,
   ⟨21, 1470000, (sNow.fset .CUP_SNS_CFG_EN 1 21).setCup 21 { ready := true, last := some 100 }, by decide +kernel⟩,
   ⟨9, (sNow.fset .CUP_SNS_CFG_EN 1 9).setCup 9 { ready := true }, by decide +kernel⟩,
   ⟨true, 0,
      { (sNow.fset .CUP_CFG_GRACE 1).fset .LAE_XSTAT_BUSY 1 with now := 800000, xfer := { sNow.xfer with td := 800000 }, cupGrace := vput sNow.cupGrace 1 (some 0) },
      by decide +kernel⟩,
   ⟨7, 5000, 1000,
      { ((sNow.fset .CUP_LIM_NOM_V 1500 7).fset .CUP_LIM_STEP_V 1000 7).fset .CUP_LIM_TGT_EN 1 7 with limNext := some 5000, limLast := vput sNow.limLast 7 (some 1000) },
      by decide +kernel⟩,
   ⟨7, 5000,
      { (((sNow.fset .CUP_STAT_ENFCUR 1).fset .CUP_LIM_NOM_V 1500 7).fset .CUP_LIM_STEP_V 1000 7).fset .CUP_LIM_TGT_EN 1 7 with limNext := some 5000 },
      by decide +kernel⟩,
   ⟨21, State.reset, by decide +kernel⟩,
   ⟨21, State.reset, by decide +kernel⟩,
   ⟨21, State.reset, by decide +kernel⟩,
   ⟨true, State.reset, by decide +kernel⟩,
   ⟨true, 0, { sNow.fset .CUP_CFG_GRACE 1 with now := 799999, cupGrace := vput sNow.cupGrace 1 (some 0) }, by decide +kernel⟩,
   ⟨true, State.reset, by decide +kernel⟩,
   ⟨true, 0, { sNow with now := 799999, cupBelow := vput sNow.cupBelow 1 (some 0) }, by decide +kernel⟩,
   ⟨State.reset, by decide +kernel⟩,
   ⟨5001, { sNow with limNext := some 5001 }, by decide +kernel⟩,
   ⟨State.reset, by decide +kernel⟩⟩

/-- The hypotheses of HostPortsAndTimers are met. -/
theorem witness_HostPortsAndTimers :
    (∃ (p : Fin 2) (s : State), portLive s p = true) ∧
    (∃ (n : Fin 2) (k : List Nat) (s : State), canLive s n = true ∧ (s.fport (2 + n)).frag = none ∧ ((∀ x ∈ k, x < 256)) ∧
      headerGood k = true ∧ 8 ≤ k.length ∧ 12 + pktLen k = k.length ∧ k.length ≤ 63) ∧
    (∃ (n : Fin 2) (h : Nat) (s : State), canLive s n = true ∧ bit h 7 = false ∧ (s.fport (2 + n)).frag = none) ∧
    (∃ (n : Fin 2) (id : Nat) (k : List Nat) (s : State), (id ≠ s.fget .FYZ_CAN_ID_RXID n ∨ k = [] ∨ canLive s n = false)) ∧
    (∃ (n : Fin 2) (f : Nat × List Nat × Nat) (s : State), (s.fport (2 + n)).frag = some f ∧ f.2.2 + 10 * msTicks ≤ s.now) ∧
    (∃ (n : Fin 2) (f : Nat × List Nat × Nat) (s : State), (s.fport (2 + n)).frag = some f ∧ s.now < f.2.2 + 10 * msTicks) ∧
    (∃ (s : State), portLive s 4 = true ∧ (s.fport 4).rx = []) ∧
    (∃ (s : State), portLive s 4 = true) ∧
    (∃ (s : State), (s.fport 4).rx ≠ [] ∧ (s.fport 4).rxAt + 2 * msTicks < s.now) ∧
    (∃ (k : List Nat) (r : List Nat) (rest : List (List Nat)) (s : State), (s.fport 4).tx = some k ∧ (s.fport 4).replies = r ::
      rest) ∧
    (∃ (n : Fin 2) (k : List Nat) (s : State), canLive s n = true ∧ (s.fport (2 + n)).tx = some k ∧ 63 * ((s.fport (2 +
      n)).txPos + 1) < k.length) ∧
    (∃ (n : Fin 2) (s : State), canLive s n = true) ∧
    (∃ (n : Fin 2) (s : State), portLive s (2 + n) = true ∧ s.fget .FYZ_CAN_ECNT_STATE n = 2) ∧
    (∃ (a : Nat) (s : State), s.fyz.resetAt = some a ∧ s.pw.rst ≠ some 0 ∧ a + msTicks ≤ s.now) ∧
    (∃ (a : Nat) (s : State), s.fyz.resetAt = some a ∧ s.pw.rst ≠ some 0 ∧ s.now < a + msTicks) ∧
    (∃ (s : State), Reaches s 4 0x40220008 ∧ domOn s 10 = true ∧ domOn s 15 = true) ∧
    (∃ (m : Fin 10) (s : State), m ≠ 4 ∧ Reaches s m 0x40220008) ∧
    (∃ (p : Fin 5) (x : FyzSession) (s : State), (s.fport p).session = some x ∧ x.at_ + s.fget .FYZ_CFG_IDLE * 1000 * msTicks ≤
      s.now) ∧
    (∃ (p : Fin 5) (x : FyzSession) (s : State), (s.fport p).session = some x ∧ s.now < x.at_ + s.fget .FYZ_CFG_IDLE * 1000 *
      msTicks) ∧
    (∃ (p : Fin 5) (d : Nat) (s : State), (s.fport p).lockUntil = some d ∧ d ≤ s.now) ∧
    (∃ (p : Fin 5) (d : Nat) (s : State), (s.fport p).lockUntil = some d ∧ s.now < d) ∧
    (∃ (p : Fin 2) (k : List Nat) (s : State), portLive s p = true ∧ (s.fport p).tx = some k) ∧
    (∃ (p : Fin 2) (k : List Nat) (s : State), portLive s p = true ∧ ((∀ x ∈ k, x < 256)) ∧ headerGood k = true ∧ 8 ≤ k.length
      ∧ 12 + pktLen k = k.length) ∧
    (∃ (p : Fin 2) (k : List Nat) (s : State), portLive s p = true ∧ ((∀ x ∈ k, x < 256)) ∧ headerGood k = true ∧ 8 ≤ k.length
      ∧ 12 + pktLen k = k.length) ∧
    (∃ (p : Fin 2) (s : State), portLive s p = false) ∧
    (∃ (s : State), portLive s 4 = false) ∧
    (∃ (s : State), ((s.fport 4).rx = [] ∨ s.now ≤ (s.fport 4).rxAt + 2 * msTicks)) ∧
    (∃ (n : Fin 2) (want : Nat) (at_ : Nat) (h : Nat) (got : List Nat) (k : List Nat) (s : State), canLive s n = true ∧
      (s.fport (2 + n)).frag = some (want, got, at_) ∧ s.now < at_ + 10 * msTicks ∧ bit h 7 = false ∧ h % 16 = want ∧ bit h 6 =
      false ∧ (got ++ (k.take 63).map (· % 256)).length ≤ 1036) ∧
    (∃ (n : Fin 2) (want : Nat) (at_ : Nat) (h : Nat) (got : List Nat) (s : State), canLive s n = true ∧ (s.fport (2 + n)).frag
      = some (want, got, at_) ∧ s.now < at_ + 10 * msTicks ∧ bit h 7 = false ∧ h % 16 ≠ want) ∧
    (∃ (n : Fin 2) (want : Nat) (at_ : Nat) (h : Nat) (got : List Nat) (k : List Nat) (s : State) (l : List Nat), canLive s n =
      true ∧ (s.fport (2 + n)).frag = some (want, got, at_) ∧ s.now < at_ + 10 * msTicks ∧ bit h 7 = false ∧ l = got ++ (k.take
      63).map (· % 256) ∧ h % 16 = want ∧ bit h 6 = true ∧ 8 ≤ l.length ∧ headerGood l = true ∧ 12 + pktLen l ≤ l.length) ∧
    (∃ (n : Fin 2) (want : Nat) (at_ : Nat) (h : Nat) (got : List Nat) (k : List Nat) (s : State) (l : List Nat), canLive s n =
      true ∧ (s.fport (2 + n)).frag = some (want, got, at_) ∧ s.now < at_ + 10 * msTicks ∧ bit h 7 = false ∧ l = got ++ (k.take
      63).map (· % 256) ∧ h % 16 = want ∧ bit h 6 = true ∧ 8 ≤ l.length ∧ headerGood l = false ∧ l.length ≤ 1036) ∧
    (∃ (p : Fin 5) (n : Notice) (k : List Nat) (rest : List Notice) (s : State), p.val = 4 ∧ (s.fport p).tx = some k ∧ (s.fport
      p).replies = [] ∧ vget s.notices p = n :: rest) ∧
    (∃ (p : Fin 5) (k : List Nat) (s : State), p.val = 4 ∧ (s.fport p).tx = some k ∧ (s.fport p).replies = [] ∧ vget s.notices
      p = []) ∧
    (∃ (n : Fin 2) (k : List Nat) (r : List Nat) (rest : List (List Nat)) (s : State), canLive s n = true ∧ (s.fport (2 +
      n)).tx = some k ∧ k.length ≤ 63 * ((s.fport (2 + n)).txPos + 1) ∧ (s.fport (2 + n)).replies = r :: rest) ∧
    (∃ (n : Fin 2) (s : State), canLive s n = false) ∧
    (∃ (n : Fin 2) (s : State), canLive s n = false) ∧
    (∃ (n : Fin 2) (s : State), (portLive s (2 + n) = false ∨ s.fget .FYZ_CAN_ECNT_STATE n ≠ 2)) ∧
    (∃ (n : Fin 2) (s : State), (s.fport (2 + n)).frag = none) ∧
    (∃ (s : State), s.fyz.resetAt = none) ∧
    (∃ (p : Fin 5) (s : State), (s.fport p).session = none) ∧
    (∃ (p : Fin 5) (s : State), (s.fport p).lockUntil = none) :=
  ⟨⟨1, sHost, by decide +kernel⟩,
   ⟨1, packetOf 0x40 7 0 [], sHost, by decide +kernel⟩,
   ⟨1, 0x7F, sHost, by decide +kernel⟩,
   ⟨1, 0, [], State.reset, by decide +kernel⟩,
   ⟨1, (1, [1], 0), { fp sHost 3 fun x => { x with frag := some (1, [1], 0) } with now := 8000000 }, by decide +kernel⟩,
   ⟨1, (1, [1], 0), { fp sHost 3 fun x => { x with frag := some (1, [1], 0) } with now := 7999999 }, by decide +kernel⟩,
   ⟨sHost, by decide +kernel⟩,
   ⟨sHost, by decide +kernel⟩,
   ⟨{ fp sHost 4 fun x => { x with rx := [0xC5], rxAt := 0 } with now := 1600001 }, by decide +kernel⟩,
   ⟨[1], [2], [[3]], fp sHost 4 fun x => { x with tx := some [1], replies := [[2], [3]] }, by decide +kernel⟩,
   ⟨1, List.replicate 64 0, fp sHost 3 fun x => { x with tx := some (List.replicate 64 0) }, by decide +kernel⟩,
   ⟨1, State.reset, by decide +kernel⟩,
   ⟨1, s0.fset .FYZ_CAN_ECNT_STATE 2 1, by decide +kernel⟩,
   ⟨0, { s0 with now := 800000, fyz := { s0.fyz with resetAt := some 0 } }, by decide +kernel⟩,
   ⟨0, { s0 with now := 799999, fyz := { s0.fyz with resetAt := some 0 } }, by decide +kernel⟩,
   ⟨sHost, by unfold Reaches; decide +kernel⟩,
   ⟨8, State.reset, by unfold Reaches; decide +kernel⟩,
   ⟨4, (⟨[1], 9, 1, 0, 0⟩ : FyzSession),
      { fp (sHost.fset .FYZ_CFG_IDLE 1) 4 fun x => { x with session := some ⟨[1], 9, 1, 0, 0⟩ } with now := 800000000 },
      by decide +kernel⟩,
   ⟨4, (⟨[1], 9, 1, 0, 0⟩ : FyzSession),
      { fp (sHost.fset .FYZ_CFG_IDLE 1) 4 fun x => { x with session := some ⟨[1], 9, 1, 0, 0⟩ } with now := 799999999 },
      by decide +kernel⟩,
   ⟨4, 5000, fp sHost 4 fun x => { x with lockUntil := some 5000 }, by decide +kernel⟩,
   ⟨4, 5001, fp sHost 4 fun x => { x with lockUntil := some 5001 }, by decide +kernel⟩,
   ⟨1, [1, 2], fp sHost 1 fun x => { x with tx := some [1, 2] }, by decide +kernel⟩,
   ⟨1, packetOf 0x40 7 0 [], sHost, by decide +kernel⟩,
   ⟨1, packetOf 0x40 7 0 [], sHost, by decide +kernel⟩,
   ⟨1, s0.fset .PMG_DOMSTAT_STATE 3 17, by decide +kernel⟩,
   ⟨s0.fset .PMG_DOMSTAT_STATE 3 17, by decide +kernel⟩,
   ⟨State.reset, by decide +kernel⟩,
   ⟨1, 1, 5000, 1, [1], [300], fp sHost 3 fun x => { x with frag := some (1, [1], 5000) }, by decide +kernel⟩,
   ⟨1, 1, 5000, 2, [1], fp sHost 3 fun x => { x with frag := some (1, [1], 5000) }, by decide +kernel⟩,
   ⟨1, 1, 5000, 0x41, [0xC5], (packetOf 0x40 7 0 []).drop 1, fp sHost 3 fun x => { x with frag := some (1, [0xC5], 5000) },
      packetOf 0x40 7 0 [], by decide +kernel⟩,
   ⟨1, 1, 5000, 0x41, [0xC4], (packetOf 0x40 7 0 []).drop 1, fp sHost 3 fun x => { x with frag := some (1, [0xC4], 5000) },
      0xC4 :: (packetOf 0x40 7 0 []).drop 1, by decide +kernel⟩,
   ⟨4, ⟨5, 1, 2, 3, [4]⟩, [1], [], (fun t => { t with notices := vput t.notices 4 [⟨5, 1, 2, 3, [4]⟩] }) (fp sHost 4 fun x =>
      { x with tx := some [1] }), by decide +kernel⟩,
   ⟨4, [1], fp sHost 4 fun x => { x with tx := some [1] }, by decide +kernel⟩,
   ⟨1, List.replicate 64 0, [2], [[3]], fp sHost 3 fun x =>
      { x with tx := some (List.replicate 64 0), txPos := 1, replies := [[2], [3]] }, by decide +kernel⟩,
   ⟨1, s0.fset .PMG_DOMSTAT_STATE 3 17, by decide +kernel⟩,
   ⟨1, s0.fset .PMG_DOMSTAT_STATE 3 17, by decide +kernel⟩,
   ⟨1, State.reset, by decide +kernel⟩,
   ⟨1, State.reset, by decide +kernel⟩,
   ⟨State.reset, by decide +kernel⟩,
   ⟨4, State.reset, by decide +kernel⟩,
   ⟨4, State.reset, by decide +kernel⟩⟩

/-- The hypotheses of Reception are met. -/
theorem witness_Reception :
    (∃ (p : Fin 5) (k : List Nat) (rest : List (List Nat)) (s : State), (s.fport p).arrived = k :: rest ∧ bufferFree s p = true
      ∧ trailerGood k = false) ∧
    (∃ (p : Fin 5) (k : List Nat) (rest : List (List Nat)) (s : State), (s.fport p).arrived = k :: rest ∧ bufferFree s p = true
      ∧ trailerGood k = true ∧ k.getD 1 0 = 1 ∧ romOpcodes.contains (pktOp k) = true ∧ mgmtUp s = true ∧ (s.fport p).dup = none
      ∧ (s.fport p).session = none ∧ pktMac k = false ∧ needsSession s (pktOp k) = false ∧ s.fyz.reqs.getLast?.all (fun x =>
      !(decide (x.at_ * 3 / 8 = s.now * 3 / 8) && decide (p.val < x.port))) = true) ∧
    (∃ (p : Fin 5) (k : List Nat) (rest : List (List Nat)) (s : State), (s.fport p).arrived = k :: rest ∧ bufferFree s p = true
      ∧ trailerGood k = true ∧ k.getD 1 0 = 1 ∧ romOpcodes.contains (pktOp k) = true ∧ mgmtUp s = true ∧ (s.fport p).dup = none
      ∧ (s.fport p).session = none ∧ pktMac k = false ∧ needsSession s (pktOp k) = true) ∧
    (∃ (p : Fin 5) (k : List Nat) (rest : List (List Nat)) (s : State), (s.fport p).arrived = k :: rest ∧ trailerGood k = true
      ∧ k.getD 1 0 = 1 ∧ safetyOpcodes.contains (pktOp k) = true ∧ (s.fport p).safeDup = none) ∧
    (∃ (p : Fin 5) (k : List Nat) (rest : List (List Nat)) (s : State), (s.fport p).arrived = k :: rest ∧
      safetyOpcodes.contains (pktOp k) = false ∧ bufferFree s p = false) ∧
    (∃ (p : Fin 5) (r : FyzReq) (s : State), firstOf s p = some r ∧ (mgmtUp s = false ∨ r.at_ + 10 * msTicks ≤ s.now)) ∧
    (∃ (p : Fin 5) (k : List Nat) (rest : List (List Nat)) (s : State), (s.fport p).arrived = k :: rest ∧ bufferFree s p = true
      ∧ trailerGood k = true ∧ k.getD 1 0 ≠ 1) ∧
    (∃ (p : Fin 5) (k : List Nat) (rest : List (List Nat)) (s : State), (s.fport p).arrived = k :: rest ∧ bufferFree s p = true
      ∧ trailerGood k = true ∧ k.getD 1 0 = 1 ∧ safetyOpcodes.contains (pktOp k) = false ∧ mgmtUp s = false) ∧
    (∃ (p : Fin 5) (k : List Nat) (rest : List (List Nat)) (s : State), (s.fport p).arrived = k :: rest ∧ bufferFree s p = true
      ∧ trailerGood k = true ∧ k.getD 1 0 = 1 ∧ safetyOpcodes.contains (pktOp k) = false ∧ romOpcodes.contains (pktOp k) =
      false ∧ mgmtUp s = true ∧ (s.fport p).dup = none) ∧
    (∃ (p : Fin 5) (k : List Nat) (rest : List (List Nat)) (s : State) (q : List Nat) (a : List Nat), (s.fport p).arrived = k
      :: rest ∧ bufferFree s p = true ∧ trailerGood k = true ∧ k.getD 1 0 = 1 ∧ safetyOpcodes.contains (pktOp k) = false ∧
      mgmtUp s = true ∧ (s.fport p).dup = some (q, a) ∧ sameRequest q k = true) ∧
    (∃ (p : Fin 5) (k : List Nat) (rest : List (List Nat)) (s : State) (q : List Nat) (a : List Nat), (s.fport p).arrived = k
      :: rest ∧ bufferFree s p = true ∧ trailerGood k = true ∧ k.getD 1 0 = 1 ∧ safetyOpcodes.contains (pktOp k) = true ∧
      (s.fport p).safeDup = some (q, a) ∧ sameRequest q k = true) ∧
    (∃ (p : Fin 5) (x : FyzSession) (k : List Nat) (rest : List (List Nat)) (s : State), (s.fport p).arrived = k :: rest ∧
      bufferFree s p = true ∧ trailerGood k = true ∧ k.getD 1 0 = 1 ∧ romOpcodes.contains (pktOp k) = true ∧ mgmtUp s = true ∧
      (s.fport p).dup = none ∧ (s.fport p).session = some x ∧ s.now < x.at_ + s.fget .FYZ_CFG_IDLE * 1000 * msTicks ∧ macStatus
      s p k = 0 ∧ reqCtr k ≠ 0xFFFFFFFF) ∧
    (∃ (p : Fin 5) (x : FyzSession) (k : List Nat) (rest : List (List Nat)) (s : State), (s.fport p).arrived = k :: rest ∧
      bufferFree s p = true ∧ trailerGood k = true ∧ k.getD 1 0 = 1 ∧ romOpcodes.contains (pktOp k) = true ∧ mgmtUp s = true ∧
      (s.fport p).dup = none ∧ (s.fport p).session = some x ∧ s.now < x.at_ + s.fget .FYZ_CFG_IDLE * 1000 * msTicks ∧ macStatus
      s p k = stAuthFailed ∧ needsSession s (pktOp k) = true ∧ x.fails < 4) ∧
    (∃ (p : Fin 5) (x : FyzSession) (k : List Nat) (rest : List (List Nat)) (s : State), (s.fport p).arrived = k :: rest ∧
      bufferFree s p = true ∧ trailerGood k = true ∧ k.getD 1 0 = 1 ∧ romOpcodes.contains (pktOp k) = true ∧ mgmtUp s = true ∧
      (s.fport p).dup = none ∧ (s.fport p).session = some x ∧ s.now < x.at_ + s.fget .FYZ_CFG_IDLE * 1000 * msTicks ∧ macStatus
      s p k = stAuthFailed ∧ needsSession s (pktOp k) = true ∧ 4 ≤ x.fails) ∧
    (∃ (p : Fin 5) (x : FyzSession) (k : List Nat) (rest : List (List Nat)) (s : State), (s.fport p).arrived = k :: rest ∧
      bufferFree s p = true ∧ trailerGood k = true ∧ k.getD 1 0 = 1 ∧ romOpcodes.contains (pktOp k) = true ∧ mgmtUp s = true ∧
      (s.fport p).dup = none ∧ (s.fport p).session = some x ∧ s.now < x.at_ + s.fget .FYZ_CFG_IDLE * 1000 * msTicks ∧ macStatus
      s p k = stReplay ∧ needsSession s (pktOp k) = true) ∧
    (∃ (p : Fin 5) (x : FyzReq) (k : List Nat) (rest : List (List Nat)) (s : State), (s.fport p).arrived = k :: rest ∧
      trailerGood k = true ∧ k.getD 1 0 = 1 ∧ romOpcodes.contains (pktOp k) = true ∧ mgmtUp s = true ∧ (s.fport p).dup = none ∧
      (s.fport p).session = none ∧ pktMac k = false ∧ needsSession s (pktOp k) = false ∧ s.fyz.reqs = [x] ∧ s.fyz.job = none ∧
      p.val < x.port ∧ x.at_ * 3 / 8 = s.now * 3 / 8) ∧
    (∃ (p : Fin 5) (s : State), (s.fport p).arrived = []) ∧
    (∃ (p : Fin 5) (s : State), firstOf s p = none) ∧
    (∃ (p : Fin 5) (r : FyzReq) (s : State), firstOf s p = some r ∧ mgmtUp s = true ∧ s.now < r.at_ + 10 * msTicks) :=
  ⟨⟨4, packetOf 0x40 7 0 [] ++ [1], [[1]], fp sHost 4 fun x => { x with arrived := (packetOf 0x40 7 0 [] ++ [1]) :: ([[1]]) },
      by decide +kernel⟩,
   ⟨4, packetOf 0x00 7 0 [], [[1]], fp sHost 4 fun x => { x with arrived := (packetOf 0x00 7 0 []) :: ([[1]]) },
      by decide +kernel⟩,
   ⟨4, packetOf 0x02 7 0 [], [[1]], fp sHost 4 fun x => { x with arrived := (packetOf 0x02 7 0 []) :: ([[1]]) },
      by decide +kernel⟩,
   ⟨4, packetOf 0xF0 7 0 [], [[1]], fp sHost 4 fun x => { x with arrived := (packetOf 0xF0 7 0 []) :: ([[1]]) },
      by decide +kernel⟩,
   ⟨4, packetOf 0x02 7 0 [], [[1]],
      let t := fp sHost 4 fun x => { x with arrived := (packetOf 0x02 7 0 []) :: ([[1]]) }; { t with fyz := { t.fyz with reqs := [rq 0 [], rq 0 []] } },
      by decide +kernel⟩,
   ⟨4, rq 0 [], { rom (rq 0 []) with now := 8005000 }, by decide +kernel⟩,
   ⟨4, [0xC5, 2, 0x40, 7, 0, 0, 0, 0] ++ leBytes 4 (crc32c [0xC5, 2, 0x40, 7, 0, 0, 0, 0]), [], fp sHost 4 fun x =>
      { x with arrived := [([0xC5, 2, 0x40, 7, 0, 0, 0, 0] ++ leBytes 4 (crc32c [0xC5, 2, 0x40, 7, 0, 0, 0, 0]))] },
      by decide +kernel⟩,
   ⟨4, packetOf 0x00 7 0 [], [], fp s0 4 fun x => { x with arrived := [(packetOf 0x00 7 0 [])] }, by decide +kernel⟩,
   ⟨4, packetOf 0xEE 7 0 [], [], fp sHost 4 fun x => { x with arrived := [(packetOf 0xEE 7 0 [])] }, by decide +kernel⟩,
   ⟨4, packetOf 0x02 7 0 [], [], fp sHost 4 fun x =>
      { x with arrived := [(packetOf 0x02 7 0 [])], dup := some ((packetOf 0x02 7 0 []), [1, 2]) }, (packetOf 0x02 7 0 []), [1,
      2], by decide +kernel⟩,
   ⟨4, packetOf 0xF0 7 0 [], [], fp sHost 4 fun x =>
      { x with arrived := [(packetOf 0xF0 7 0 [])], safeDup := some ((packetOf 0xF0 7 0 []), [1, 2]) }, (packetOf 0xF0 7 0 []),
      [1, 2], by decide +kernel⟩,
   ⟨4, ⟨[1], 9, 1, 5000, 3⟩, macPkt [1] 0x02 2 [], [], fp (sHost.fset .FYZ_CFG_IDLE 1) 4 fun x =>
      { x with arrived := [(macPkt [1] 0x02 2 [])], session := some ⟨[1], 9, 1, 5000, 3⟩ }, by decide +kernel⟩,
   ⟨4, ⟨[1], 9, 1, 5000, 3⟩, packetOf 0x02 7 4 (leBytes 4 2 ++ List.replicate 16 0), [], fp (sHost.fset .FYZ_CFG_IDLE 1) 4 fun
      x =>
      { x with arrived := [(packetOf 0x02 7 4 (leBytes 4 2 ++ List.replicate 16 0))], session := some ⟨[1], 9, 1, 5000, 3⟩ },
      by decide +kernel⟩,
   ⟨4, ⟨[1], 9, 1, 5000, 4⟩, packetOf 0x02 7 4 (leBytes 4 2 ++ List.replicate 16 0), [], fp (sHost.fset .FYZ_CFG_IDLE 1) 4 fun
      x =>
      { x with arrived := [(packetOf 0x02 7 4 (leBytes 4 2 ++ List.replicate 16 0))], session := some ⟨[1], 9, 1, 5000, 4⟩ },
      by decide +kernel⟩,
   ⟨4, ⟨[1], 9, 1, 5000, 3⟩, macPkt [1] 0x02 1 [], [], fp (sHost.fset .FYZ_CFG_IDLE 1) 4 fun x =>
      { x with arrived := [(macPkt [1] 0x02 1 [])], session := some ⟨[1], 9, 1, 5000, 3⟩ }, by decide +kernel⟩,
   ⟨3, rq 0 [], packetOf 0x00 7 0 [], [], (fun t => { t with fyz := { t.fyz with reqs := [rq 0 []] } }) (fp sHost 3 fun x =>
      { x with arrived := [(packetOf 0x00 7 0 [])] }), by decide +kernel⟩,
   ⟨4, State.reset, by decide +kernel⟩,
   ⟨4, State.reset, by decide +kernel⟩,
   ⟨4, rq 0 [], rom (rq 0 []), by decide +kernel⟩⟩

set_option maxRecDepth 100000 in
/-- The hypotheses of RomReports are met. -/
theorem witness_RomReports :
    (∃ (r : FyzReq) (s : State), RomAsked s 0x00 r []) ∧
    (∃ (r : FyzReq) (s : State), RomAsked s 0x10 r []) ∧
    (∃ (r : FyzReq) (n : Nat) (s : State), RomAsked s 0x21 r [n] ∧ spEnabled s n = true ∧ domOn s (addrDomain (regAddr
      .LANE_CTRL (spLane s n))) = true) ∧
    (∃ (r : FyzReq) (s : State), RomAsked s 0x30 r [] ∧ domOn s 15 = true) ∧
    (∃ (r : FyzReq) (f : Fin 2) (s : State), RomAsked s 0x41 r [f.val] ∧ domOn s 13 = true) ∧
    (∃ (r : FyzReq) (s : State), RomAsked s 0x42 r []) ∧
    (∃ (r : FyzReq) (s : State), RomAsked s 0x51 r []) ∧
    (∃ (r : FyzReq) (b : List Nat) (x : Nat × Nat) (s : State), RomAsked s 0x62 r b ∧ b.length = 2 ∧ fieldAt b 0 2 < 4096 ∧
      recordValid s ((s.fget .CUP_REC_NEXT + 8191 - fieldAt b 0 2) % 4096) = some x) ∧
    (∃ (r : FyzReq) (s : State), RomAsked s 0x71 r [] ∧ domOn s 16 = true) ∧
    (∃ (r : FyzReq) (s : State), RomAsked s 0x80 r [] ∧ s.logSeq ≠ 0) ∧
    (∃ (r : FyzReq) (b : List Nat) (s : State), RomAsked s 0x81 r b ∧ b.length = 5 ∧ fieldAt b 4 1 = 1 ∧ logOldest s ≤ fieldAt
      b 0 4 ∧ fieldAt b 0 4 < s.logSeq) ∧
    (∃ (r : FyzReq) (b : List Nat) (s : State), RomAsked s 0xF3 r b ∧ b.length = 4 ∧ 0x10000000 ≤ leNat b ∧ leNat b + 4 ≤
      0x10400000 ∧ leNat b % 4 = 0 ∧ domOn s (addrDomain (leNat b)) = true ∧ mustWait s 4 (leNat b) = false ∧ s.upsetAt
      (slotBaseOf (leNat b)) ≠ some true) ∧
    (∃ (r : FyzReq) (b : List Nat) (s : State), RomAsked s 0xF5 r b ∧ b.length ≤ 1000) ∧
    (∃ (r : FyzReq) (op : Nat) (n : Nat) (b : List Nat) (i : Instr) (s : State), RomAsked s op r b ∧ b.length ≠ n ∧ (i, op, n)
      ∈ [(.hello, 0x00, 0), (.openSession, 0x01, 17), (.closeSession, 0x02, 0), (.hkeySet, 0x03, 33), (.hkeyRevoke, 0x04, 1),
      (.imgKeySet, 0x05, 33), (.imgKeyRevoke, 0x06, 1), (.secverSet, 0x07, 2), (.imgInfo, 0x10, 0), (.imgBegin, 0x11, 5),
      (.imgEnd, 0x13, 1), (.imgConfirm, 0x14, 0), (.imgErase, 0x15, 1), (.laeStat, 0x30, 0), (.xferCmd, 0x31, 0), (.pairAng,
      0x32, 5), (.pairEnCmd, 0x33, 2), (.meterCmd, 0x41, 1), (.thermCmd, 0x42, 0), (.noticeCfg, 0x44, 1), (.budgetGet, 0x51,
      0), (.holdCmd, 0x52, 2), (.thermCfg, 0x60, 12), (.thermExit, 0x61, 0), (.shutRec, 0x62, 2), (.pairStat, 0x71, 0),
      (.handoverCmd, 0x72, 0), (.detachCmd, 0x73, 0), (.attachCmd, 0x74, 0), (.logInfo, 0x80, 0), (.logRead, 0x81, 5),
      (.logClear, 0x82, 0), (.resumeCmd, 0xF1, 1), (.resetCmd, 0xF2, 0), (.debugEn, 0xF6, 1)]) ∧
    (∃ (op : Nat) (i : Instr) (s : State), (mgmtUp s = false ∨ romBusy s = true ∨ s.fyz.reqs.head?.all (fun r => pktOp r.pkt !=
      op) = true) ∧ (i, op) ∈ [(.hello, 0x00), (.openSession, 0x01), (.closeSession, 0x02), (.hkeySet, 0x03), (.hkeyRevoke,
      0x04), (.imgKeySet, 0x05), (.imgKeyRevoke, 0x06), (.secverSet, 0x07), (.imgInfo, 0x10), (.imgBegin, 0x11), (.imgWrite,
      0x12), (.imgEnd, 0x13), (.imgConfirm, 0x14), (.imgErase, 0x15), (.spSet, 0x20), (.spGet, 0x21), (.laeStat, 0x30),
      (.xferCmd, 0x31), (.pairAng, 0x32), (.pairEnCmd, 0x33), (.meterCmd, 0x41), (.thermCmd, 0x42), (.noticeCfg, 0x44),
      (.budgetSet, 0x50), (.budgetGet, 0x51), (.holdCmd, 0x52), (.thermCfg, 0x60), (.thermExit, 0x61), (.shutRec, 0x62),
      (.pairStat, 0x71), (.handoverCmd, 0x72), (.detachCmd, 0x73), (.attachCmd, 0x74), (.logInfo, 0x80), (.logRead, 0x81),
      (.logClear, 0x82), (.resumeCmd, 0xF1), (.resetCmd, 0xF2), (.peekCmd, 0xF3), (.pokeCmd, 0xF4), (.echoCmd, 0xF5),
      (.debugEn, 0xF6)]) ∧
    (∃ (r : FyzReq) (s : State), s.pw.held = [] ∧ RomAsked s 0x30 r []) ∧
    (∃ (r : FyzReq) (s : State), s.pw.held = [] ∧ RomAsked s 0x71 r []) ∧
    (∃ (r : FyzReq) (s : State) (f : Fin 2), s.pw.held = [] ∧ RomAsked s 0x41 r [f.val]) ∧
    (∃ (r : FyzReq) (n : Nat) (s : State), RomAsked s 0x21 r [n] ∧ spEnabled s n = false) ∧
    (∃ (r : FyzReq) (n : Nat) (s : State), RomAsked s 0x41 r [n] ∧ 2 ≤ n) ∧
    (∃ (r : FyzReq) (b : List Nat) (s : State), RomAsked s 0x62 r b ∧ b.length = 2 ∧ (4096 ≤ fieldAt b 0 2 ∨ recordValid s
      ((s.fget .CUP_REC_NEXT + 8191 - fieldAt b 0 2) % 4096) = none)) ∧
    (∃ (r : FyzReq) (b : List Nat) (s : State), RomAsked s 0x81 r b ∧ b.length = 5 ∧ (fieldAt b 4 1 = 0 ∨ 30 < fieldAt b 4 1 ∨
      fieldAt b 0 4 < logOldest s ∨ s.logSeq ≤ fieldAt b 0 4)) ∧
    (∃ (r : FyzReq) (s : State), RomAsked s 0x80 r [] ∧ s.logSeq = 0) ∧
    (∃ (r : FyzReq) (b : List Nat) (s : State), RomAsked s 0x81 r b ∧ b.length = 5 ∧ 1 ≤ fieldAt b 4 1 ∧ fieldAt b 4 1 ≤ 30 ∧
      logOldest s ≤ fieldAt b 0 4 ∧ fieldAt b 0 4 < s.logSeq) ∧
    (∃ (r : FyzReq) (b : List Nat) (s : State), RomAsked s 0xF3 r b ∧ b.length = 4 ∧ readError 4 (leNat b) 4 ≠ none ∧ leNat b <
      0x80000000) ∧
    (∃ (r : FyzReq) (b : List Nat) (s : State), RomAsked s 0xF3 r b ∧ b.length = 4 ∧ leNat b % 4 = 0 ∧ 0x10000000 ≤ leNat b ∧
      leNat b + 4 ≤ 0x10400000 ∧ mustWait s 4 (leNat b) = true) ∧
    (∃ (r : FyzReq) (a : Nat) (v : Nat) (d : List Nat) (e : Bool) (rest : List FyzReq) (s : State), s.fyz.reqs = r :: rest ∧
      mgmtUp s = true ∧ r.port < 5 ∧ portEn s r.port = true ∧ s.fyz.store = none ∧ s.fyz.job = some ⟨[(a, none)], d, true⟩ ∧
      (s.portAt 4).reading = false ∧ (s.portAt 4).resp = some ⟨v, e⟩) :=
  ⟨⟨rq 0x00 ([]), rom (rq 0x00 ([])), by unfold RomAsked; decide +kernel⟩,
   ⟨rq 0x10 ([]), rom (rq 0x10 ([])), by unfold RomAsked; decide +kernel⟩,
   ⟨rq 0x21 ([(63)]), 63, (rom (rq 0x21 ([(63)]))).fset .FYZ_SP_TGT_EN 1 63, by unfold RomAsked; decide +kernel⟩,
   ⟨rq 0x30 ([]), rom (rq 0x30 ([])), by unfold RomAsked; decide +kernel⟩,
   ⟨rq 0x41 ([(1 : Fin 2).val]), 1, rom (rq 0x41 ([(1 : Fin 2).val])), by unfold RomAsked; decide +kernel⟩,
   ⟨rq 0x42 ([]), rom (rq 0x42 ([])), by unfold RomAsked; decide +kernel⟩,
   ⟨rq 0x51 ([]), rom (rq 0x51 ([])), by unfold RomAsked; decide +kernel⟩,
   ⟨rq 0x62 (([0, 0])), [0, 0], (4095, 7),
      let t := (rom (rq 0x62 (([0, 0])))).fset .CUP_REC_NEXT 4096; let q := [0x43, 0x55, 0x50, 0x31] ++ leBytes 4 7 ++ List.replicate 116 0; { t with mem := cells (recordAddr 4095) (q ++ leBytes 4 (crc32c q)) },
      by unfold RomAsked; decide +kernel⟩,
   ⟨rq 0x71 ([]), rom (rq 0x71 ([])), by unfold RomAsked; decide +kernel⟩,
   ⟨rq 0x80 ([]), { rom (rq 0x80 ([])) with logSeq := 1 }, by unfold RomAsked; decide +kernel⟩,
   ⟨rq 0x81 (([0, 0, 0, 0, 1])), [0, 0, 0, 0, 1], { rom (rq 0x81 (([0, 0, 0, 0, 1]))) with logSeq := 1 },
      by unfold RomAsked; decide +kernel⟩,
   ⟨rq 0xF3 ((leBytes 4 0x103FFFFC)), leBytes 4 0x103FFFFC, rom (rq 0xF3 ((leBytes 4 0x103FFFFC))),
      by unfold RomAsked; decide +kernel⟩,
   ⟨rq 0xF5 ((List.replicate 1000 1)), List.replicate 1000 1, rom (rq 0xF5 ((List.replicate 1000 1))),
      by unfold RomAsked; decide +kernel⟩,
   ⟨rq 0 [1], 0x00, 0, [1], .hello, rom (rq 0 [1]), by unfold RomAsked; decide +kernel⟩,
   ⟨0x00, .hello, State.reset, by decide +kernel⟩,
   ⟨rq 0x30 ([]), rom (rq 0x30 ([])), by unfold RomAsked; decide +kernel⟩,
   ⟨rq 0x71 ([]), rom (rq 0x71 ([])), by unfold RomAsked; decide +kernel⟩,
   ⟨rq 0x41 ([(1 : Fin 2).val]), rom (rq 0x41 ([(1 : Fin 2).val])), 1, by unfold RomAsked; decide +kernel⟩,
   ⟨rq 0x21 ([(0)]), 0, rom (rq 0x21 ([(0)])), by unfold RomAsked; decide +kernel⟩,
   ⟨rq 0x41 ([(2)]), 2, rom (rq 0x41 ([(2)])), by unfold RomAsked; decide +kernel⟩,
   ⟨rq 0x62 (([0, 0x10])), [0, 0x10], rom (rq 0x62 (([0, 0x10]))), by unfold RomAsked; decide +kernel⟩,
   ⟨rq 0x81 (([0, 0, 0, 0, 1])), [0, 0, 0, 0, 1], rom (rq 0x81 (([0, 0, 0, 0, 1]))), by unfold RomAsked; decide +kernel⟩,
   ⟨rq 0x80 ([]), rom (rq 0x80 ([])), by unfold RomAsked; decide +kernel⟩,
   ⟨rq 0x81 (([0, 0, 0, 0, 30])), [0, 0, 0, 0, 30], (fun t => { t with logSeq := 5 }) (rom (rq 0x81 (([0, 0, 0, 0, 30])))),
      by unfold RomAsked; decide +kernel⟩,
   ⟨rq 0xF3 (([0, 0, 0, 0x50])), [0, 0, 0, 0x50], rom (rq 0xF3 (([0, 0, 0, 0x50]))), by unfold RomAsked; decide +kernel⟩,
   ⟨rq 0xF3 (([0xFC, 0xFF, 0x3F, 0x10])), [0xFC, 0xFF, 0x3F, 0x10], pw (rom (rq 0xF3 (([0xFC, 0xFF, 0x3F, 0x10])))) fun p =>
      { p with held := [⟨4, 0x103FFFF8, 4, none⟩] }, by unfold RomAsked; decide +kernel⟩,
   ⟨rq 0xF3 [0, 0, 0, 0x10], 0x10000000, 0xFFFFFFFF, [], false, [], (fun t =>
      { t with fyz := { t.fyz with job := some ⟨[(0x10000000, none)], [], true⟩ } }) ((rom (rq 0xF3 [0, 0, 0, 0x10])).setPort 4
      { s0.portAt 4 with resp := some ⟨0xFFFFFFFF, false⟩ }), by decide +kernel⟩⟩

/-- The hypotheses of RomKeysAndImages are met. -/
theorem witness_RomKeysAndImages :
    (∃ (r : FyzReq) (i : Nat) (nh : List Nat) (s : State), RomAsked s 0x01 r (i :: nh) ∧ nh.length = 16 ∧ i < 4 ∧ hostKeyState
      s i = 1 ∧ (s.fport r.port).lockUntil = none) ∧
    (∃ (r : FyzReq) (s : State), RomAsked s 0x02 r []) ∧
    (∃ (r : FyzReq) (i : Nat) (k : List Nat) (s : State), k.length = 32 ∧ ((∀ x ∈ k, x < 256)) ∧ i < 4 ∧ (domOn s 18 = true ∨
      s.pw.held = []) ∧ RomAsked s 0x03 r (i :: k) ∧ hostKeyState s i = 0) ∧
    (∃ (r : FyzReq) (i : Nat) (k : List Nat) (s : State), k.length = 32 ∧ ((∀ x ∈ k, x < 256)) ∧ i < 4 ∧ (domOn s 18 = true ∨
      s.pw.held = []) ∧ RomAsked s 0x05 r (i :: k) ∧ keyState s i = 0) ∧
    (∃ (r : FyzReq) (i : Nat) (s : State), i < 4 ∧ (domOn s 18 = true ∨ s.pw.held = []) ∧ RomAsked s 0x04 r [i] ∧ hostKeyState
      s i = 1) ∧
    (∃ (r : FyzReq) (i : Nat) (s : State), i < 4 ∧ (domOn s 18 = true ∨ s.pw.held = []) ∧ RomAsked s 0x06 r [i] ∧ keyState s i
      = 1) ∧
    (∃ (r : FyzReq) (b : List Nat) (s : State), RomAsked s 0x07 r b ∧ b.length = 2 ∧ (domOn s 18 = true ∨ s.pw.held = []) ∧
      minSecver s ≤ fieldAt b 0 2) ∧
    (∃ (r : FyzReq) (b : List Nat) (s : State), RomAsked s 0x07 r b ∧ b.length = 2 ∧ (domOn s 18 = true ∨ s.pw.held = []) ∧
      fieldAt b 0 2 < minSecver s) ∧
    (∃ (r : FyzReq) (s : State), RomAsked s 0x82 r []) ∧
    (∃ (r : FyzReq) (b : List Nat) (sid : Nat) (s : State), RomAsked s 0x11 r b ∧ b.length = 5 ∧ sidOf s r = some sid ∧
      s.fyz.upload.any (fun u => u.2.2 != sid) = false ∧ slotFree s (b.headD 0) = true ∧ partnerWrites s (b.headD 0) = false ∧
      fieldAt b 1 4 ≤ 0x1FFFC0 ∧ (domOn s 18 = true ∨ s.pw.held = [])) ∧
    (∃ (r : FyzReq) (b : List Nat) (n : Nat) (len : Nat) (s : State), RomAsked s 0x12 r b ∧ uploadOf s r = some (n, len) ∧
      b.length % 8 = 4 ∧ 12 ≤ b.length ∧ b.length ≤ 1004 ∧ fieldAt b 0 4 % 8 = 0 ∧ fieldAt b 0 4 + (b.length - 4) ≤ len ∧
      s.flag (slotWe n) = true ∧ domOn s 18 = true) ∧
    (∃ (r : FyzReq) (n : Nat) (len : Nat) (s : State), RomAsked s 0x13 r [n] ∧ uploadOf s r = some (n, len) ∧ n < 2 ∧ domOn s
      18 = true ∧ endStatus s n = stOk) ∧
    (∃ (r : FyzReq) (n : Nat) (len : Nat) (s : State), RomAsked s 0x13 r [n] ∧ uploadOf s r = some (n, len) ∧ n < 2 ∧ domOn s
      18 = true ∧ endStatus s n ≠ stOk) ∧
    (∃ (r : FyzReq) (s : State), RomAsked s 0x14 r [] ∧ s.img.applied = true ∧ s.img.slot < 2 ∧ slotState s s.img.slot = 3 ∧
      (domOn s 18 = true ∨ s.pw.held = [])) ∧
    (∃ (r : FyzReq) (n : Nat) (s : State), RomAsked s 0x15 r [n] ∧ slotFree s n = true ∧ partnerWrites s n = false ∧ domOn s 18
      = true) ∧
    (∃ (r : FyzReq) (i : Nat) (d : Nat) (nh : List Nat) (s : State), RomAsked s 0x01 r (i :: nh) ∧ nh.length = 16 ∧ (s.fport
      r.port).lockUntil = some d ∧ s.now < d) ∧
    (∃ (r : FyzReq) (i : Nat) (nh : List Nat) (s : State), RomAsked s 0x01 r (i :: nh) ∧ nh.length = 16 ∧ (s.fport
      r.port).lockUntil = none ∧ 4 ≤ i) ∧
    (∃ (r : FyzReq) (i : Nat) (nh : List Nat) (s : State), RomAsked s 0x01 r (i :: nh) ∧ nh.length = 16 ∧ (s.fport
      r.port).lockUntil = none ∧ i < 4 ∧ hostKeyState s i ≠ 1) ∧
    (∃ (r : FyzReq) (i : Nat) (k : List Nat) (s : State) (st : Nat), k.length = 32 ∧ RomAsked s 0x03 r (i :: k) ∧ (4 ≤ i ∧ st =
      stBadParam ∨ i < 4 ∧ hostKeyState s i ≠ 0 ∧ st = stKeyState)) ∧
    (∃ (r : FyzReq) (i : Nat) (k : List Nat) (s : State) (st : Nat), k.length = 32 ∧ RomAsked s 0x05 r (i :: k) ∧ (4 ≤ i ∧ st =
      stBadParam ∨ i < 4 ∧ keyState s i ≠ 0 ∧ st = stKeyState)) ∧
    (∃ (r : FyzReq) (i : Nat) (k : List Nat) (s : State) (st : Nat), k.length = 32 ∧ RomAsked s 0x04 r [i] ∧ (4 ≤ i ∧ st =
      stBadParam ∨ i < 4 ∧ hostKeyState s i ≠ 1 ∧ st = stKeyState)) ∧
    (∃ (r : FyzReq) (i : Nat) (k : List Nat) (s : State) (st : Nat), k.length = 32 ∧ RomAsked s 0x06 r [i] ∧ (4 ≤ i ∧ st =
      stBadParam ∨ i < 4 ∧ keyState s i ≠ 1 ∧ st = stKeyState)) ∧
    (∃ (r : FyzReq) (b : List Nat) (sid : Nat) (n : Nat) (len : Nat) (s : State), RomAsked s 0x11 r b ∧ b.length = 5 ∧ sidOf s
      r = some sid ∧ s.fyz.upload = some (n, len, sid + 1)) ∧
    (∃ (r : FyzReq) (b : List Nat) (sid : Nat) (s : State), RomAsked s 0x11 r b ∧ b.length = 5 ∧ sidOf s r = some sid ∧
      s.fyz.upload = none ∧ slotFree s (b.headD 0) = false) ∧
    (∃ (r : FyzReq) (b : List Nat) (sid : Nat) (s : State), RomAsked s 0x11 r b ∧ b.length = 5 ∧ sidOf s r = some sid ∧
      s.fyz.upload = none ∧ slotFree s (b.headD 0) = true ∧ partnerWrites s (b.headD 0) = false ∧ 0x1FFFC0 < fieldAt b 1 4) ∧
    (∃ (r : FyzReq) (b : List Nat) (s : State), RomAsked s 0x12 r b ∧ b.length % 8 = 4 ∧ 12 ≤ b.length ∧ b.length ≤ 1004 ∧
      uploadOf s r = none) ∧
    (∃ (r : FyzReq) (b : List Nat) (n : Nat) (len : Nat) (s : State), RomAsked s 0x12 r b ∧ b.length % 8 = 4 ∧ 12 ≤ b.length ∧
      b.length ≤ 1004 ∧ uploadOf s r = some (n, len) ∧ (fieldAt b 0 4 % 8 ≠ 0 ∨ len < fieldAt b 0 4 + (b.length - 4))) ∧
    (∃ (r : FyzReq) (n : Nat) (s : State), RomAsked s 0x13 r [n] ∧ uploadOf s r = none) ∧
    (∃ (r : FyzReq) (s : State), RomAsked s 0x14 r [] ∧ (s.img.applied = false ∨ slotState s s.img.slot ≠ 3)) ∧
    (∃ (r : FyzReq) (n : Nat) (s : State), RomAsked s 0x15 r [n] ∧ slotFree s n = false) ∧
    (∃ (r : FyzReq) (st : Nat) (d : List Nat) (e : Bool) (s : State), s.fyz.store = some ⟨r, st, d, e⟩) :=
  ⟨⟨rq 0x01 (((3) :: (List.replicate 16 7))), 3, List.replicate 16 7,
      { rom (rq 0x01 (((3) :: (List.replicate 16 7)))) with mem := cells (hostKeyAddr 3 + 32) [1] },
      by unfold RomAsked; decide +kernel⟩,
   ⟨rq 0x02 ([]), rom (rq 0x02 ([])), by unfold RomAsked; decide +kernel⟩,
   ⟨rq 0x03 (((3) :: (List.replicate 32 255))), 3, List.replicate 32 255, rom (rq 0x03 (((3) :: (List.replicate 32 255)))),
      by unfold RomAsked; decide +kernel⟩,
   ⟨rq 0x05 (((3) :: (List.replicate 32 255))), 3, List.replicate 32 255, rom (rq 0x05 (((3) :: (List.replicate 32 255)))),
      by unfold RomAsked; decide +kernel⟩,
   ⟨rq 0x04 ([(3)]), 3, { rom (rq 0x04 ([(3)])) with mem := cells (hostKeyAddr 3 + 32) [1] },
      by unfold RomAsked; decide +kernel⟩,
   ⟨rq 0x06 ([(3)]), 3, { rom (rq 0x06 ([(3)])) with mem := cells (keyRecord 3 + 32) [1] },
      by unfold RomAsked; decide +kernel⟩,
   ⟨rq 0x07 (([5, 0])), [5, 0], { rom (rq 0x07 (([5, 0]))) with mem := cells minSecverAddr [5] },
      by unfold RomAsked; decide +kernel⟩,
   ⟨rq 0x07 (([4, 0])), [4, 0], { rom (rq 0x07 (([4, 0]))) with mem := cells minSecverAddr [5] },
      by unfold RomAsked; decide +kernel⟩,
   ⟨rq 0x82 ([]), rom (rq 0x82 ([])), by unfold RomAsked; decide +kernel⟩,
   ⟨rq 0x11 ((1 :: leBytes 4 0x1FFFC0)), 1 :: leBytes 4 0x1FFFC0, 9, rom (rq 0x11 ((1 :: leBytes 4 0x1FFFC0))),
      by unfold RomAsked; decide +kernel⟩,
   ⟨rq 0x12 ((leBytes 4 0 ++ [1, 2, 3, 4, 5, 6, 7, 8])), leBytes 4 0 ++ [1, 2, 3, 4, 5, 6, 7, 8], 1, 8,
      let t := (rom (rq 0x12 ((leBytes 4 0 ++ [1, 2, 3, 4, 5, 6, 7, 8])))).fset .FAB_MRAMCTL_SLOTWE1 1; { t with fyz := { t.fyz with upload := some (1, 8, 9) } },
      by unfold RomAsked; decide +kernel⟩,
   ⟨rq 0x13 ([(1)]), 1, 240,
      let t := sImg 1 1 1 (rom (rq 0x13 ([(1)]))); { t with fyz := { t.fyz with upload := some (1, 240, 9) } },
      by unfold RomAsked; decide +kernel⟩,
   ⟨rq 0x13 ([(1)]), 1, 240, let t := rom (rq 0x13 ([(1)])); { t with fyz := { t.fyz with upload := some (1, 240, 9) } },
      by unfold RomAsked; decide +kernel⟩,
   ⟨rq 0x14 ([]), let t := rom (rq 0x14 ([])); { t with img := { t.img with slot := 1 }, mem := cells (slotBase 1) [3] },
      by unfold RomAsked; decide +kernel⟩,
   ⟨rq 0x15 ([(1)]), 1, rom (rq 0x15 ([(1)])), by unfold RomAsked; decide +kernel⟩,
   ⟨rq 0x01 (((0) :: (List.replicate 16 255))), 0, 5001, List.replicate 16 255, fp (rom (rq 0x01 (((0) :: (List.replicate 16
      255))))) 4 fun x => { x with lockUntil := some 5001 }, by unfold RomAsked; decide +kernel⟩,
   ⟨rq 0x01 (((4) :: (List.replicate 16 255))), 4, List.replicate 16 255, rom (rq 0x01 (((4) :: (List.replicate 16 255)))),
      by unfold RomAsked; decide +kernel⟩,
   ⟨rq 0x01 (((3) :: (List.replicate 16 255))), 3, List.replicate 16 255, rom (rq 0x01 (((3) :: (List.replicate 16 255)))),
      by unfold RomAsked; decide +kernel⟩,
   ⟨rq 0x03 (((4) :: (List.replicate 32 255))), 4, List.replicate 32 255, rom (rq 0x03 (((4) :: (List.replicate 32 255)))),
      stBadParam, by unfold RomAsked; decide +kernel⟩,
   ⟨rq 0x05 (((4) :: (List.replicate 32 255))), 4, List.replicate 32 255, rom (rq 0x05 (((4) :: (List.replicate 32 255)))),
      stBadParam, by unfold RomAsked; decide +kernel⟩,
   ⟨rq 0x04 ([(3)]), 3, List.replicate 32 255, rom (rq 0x04 ([(3)])), stKeyState, by unfold RomAsked; decide +kernel⟩,
   ⟨rq 0x06 ([(3)]), 3, List.replicate 32 255, rom (rq 0x06 ([(3)])), stKeyState, by unfold RomAsked; decide +kernel⟩,
   ⟨rq 0x11 (([1, 0, 0, 0, 0])), [1, 0, 0, 0, 0], 9, 0, 8, (fun t =>
      { t with fyz := { t.fyz with upload := some (0, 8, 10) } }) (rom (rq 0x11 (([1, 0, 0, 0, 0])))),
      by unfold RomAsked; decide +kernel⟩,
   ⟨rq 0x11 (([2, 0, 0, 0, 0])), [2, 0, 0, 0, 0], 9, rom (rq 0x11 (([2, 0, 0, 0, 0]))), by unfold RomAsked; decide +kernel⟩,
   ⟨rq 0x11 (([1, 0xC1, 0xFF, 0x1F, 0])), [1, 0xC1, 0xFF, 0x1F, 0], 9, (fun t =>
      { t with img := { t.img with applied := false } }) (rom (rq 0x11 (([1, 0xC1, 0xFF, 0x1F, 0])))),
      by unfold RomAsked; decide +kernel⟩,
   ⟨rq 0x12 ((List.replicate 12 0)), List.replicate 12 0, rom (rq 0x12 ((List.replicate 12 0))),
      by unfold RomAsked; decide +kernel⟩,
   ⟨rq 0x12 (([8, 0, 0, 0] ++ List.replicate 8 0)), [8, 0, 0, 0] ++ List.replicate 8 0, 1, 8, (fun t =>
      { t with fyz := { t.fyz with upload := some (1, 8, 9) } }) (rom (rq 0x12 (([8, 0, 0, 0] ++ List.replicate 8 0)))),
      by unfold RomAsked; decide +kernel⟩,
   ⟨rq 0x13 ([(0)]), 0, rom (rq 0x13 ([(0)])), by unfold RomAsked; decide +kernel⟩,
   ⟨rq 0x14 ([]), rom (rq 0x14 ([])), by unfold RomAsked; decide +kernel⟩,
   ⟨rq 0x15 ([(0)]), 0, rom (rq 0x15 ([(0)])), by unfold RomAsked; decide +kernel⟩,
   ⟨rq 0x03 (0 :: List.replicate 32 255), stOk, [], true, (fun t =>
      { t with fyz := { t.fyz with store := some ⟨rq 0x03 (0 :: List.replicate 32 255), stOk, [], true⟩ } }) (rom (rq 0x00
      [])), by decide +kernel⟩⟩

/-- The hypotheses of RomSettings are met. -/
theorem witness_RomSettings :
    (∃ (r : FyzReq) (n : Nat) (v : List Nat) (s : State), RomAsked s 0x20 r (n :: v) ∧ v.length = 6 ∧ spEnabled s n = true ∧
      spInRange s n (leNat v) = true ∧ s.role ≠ roleStandby ∧ s.role ≠ roleJoining ∧ domOn s (addrDomain (regAddr .LANE_CTRL
      (spLane s n))) = true ∧ s.flag .LANE_CTRL_EN (spLane s n) = false ∧ (s.laneAt (spLane s n)).stage = []) ∧
    (∃ (r : FyzReq) (s : State), RomAsked s 0x31 r [] ∧ domOn s 15 = true ∧ s.flag .LAE_XSTAT_BUSY = false ∧ s.flag
      .LAE_XSTAT_NONE = false ∧ qualified s (1 - loadFeed s) = true) ∧
    (∃ (r : FyzReq) (s : State), RomAsked s 0x31 r [] ∧ s.flag .LAE_XSTAT_BUSY = true) ∧
    (∃ (r : FyzReq) (j : Fin 12) (v : List Nat) (s : State), RomAsked s 0x32 r (j.val :: v) ∧ v.length = 4 ∧ domOn s 15 = true
      ∧ pairValid (s.writeNamed .LAE_PAIR_ANG (leNat v) j) j = true) ∧
    (∃ (r : FyzReq) (j : Fin 12) (s : State), RomAsked s 0x33 r [j.val, 1] ∧ domOn s 15 = true ∧ Regs.wf s.regs = true ∧
      pairValid s j = true) ∧
    (∃ (r : FyzReq) (m : Nat) (s : State), RomAsked s 0x44 r [m]) ∧
    (∃ (r : FyzReq) (v : Fin 8) (u : List Nat) (s : State), RomAsked s 0x50 r (v.val :: u) ∧ u.length = 4 ∧ domOn s 0 = true) ∧
    (∃ (r : FyzReq) (set : Nat) (clr : Nat) (s : State), RomAsked s 0x52 r [set, clr] ∧ set < 256 ∧ clr < 256 ∧ domOn s 0 =
      true) ∧
    (∃ (r : FyzReq) (c : Fin 3) (b : List Nat) (s : State), RomAsked s 0x60 r (c.val :: b) ∧ b.length = 11 ∧ fieldAt b 9 2 <
      1024 ∧ domOn s 0 = true ∧ classOk (thermCfgOp s c (c.val :: b)) c = true) ∧
    (∃ (r : FyzReq) (c : Fin 3) (b : List Nat) (s : State), RomAsked s 0x60 r (c.val :: b) ∧ b.length = 11 ∧ fieldAt b 9 2 <
      1024 ∧ domOn s 0 = true ∧ classOk (thermCfgOp s c (c.val :: b)) c = false) ∧
    (∃ (r : FyzReq) (s : State), RomAsked s 0x61 r [] ∧ domOn s 0 = true ∧ thermClear s = true ∧ s.flag .CUP_STAT_SHUT = true) ∧
    (∃ (r : FyzReq) (s : State), RomAsked s 0x61 r [] ∧ domOn s 0 = true ∧ thermClear s = false) ∧
    (∃ (r : FyzReq) (b : Nat) (s : State), RomAsked s 0xF6 r [b] ∧ b < 2 ∧ domOn s 17 = true) ∧
    (∃ (r : FyzReq) (n : Nat) (v : List Nat) (s : State), RomAsked s 0x20 r (n :: v) ∧ v.length = 6 ∧ (spEnabled s n = false ∨
      spInRange s n (leNat v) = false)) ∧
    (∃ (r : FyzReq) (n : Nat) (v : List Nat) (s : State), RomAsked s 0x20 r (n :: v) ∧ v.length = 6 ∧ spEnabled s n = true ∧
      spInRange s n (leNat v) = true ∧ (s.role = roleStandby ∨ s.role = roleJoining)) ∧
    (∃ (r : FyzReq) (n : Nat) (v : List Nat) (s : State), RomAsked s 0x20 r (n :: v) ∧ v.length = 6 ∧ spEnabled s n = true ∧
      spInRange s n (leNat v) = true ∧ s.role ≠ roleStandby ∧ s.role ≠ roleJoining ∧ domOn s (addrDomain (regAddr .LANE_CTRL
      (spLane s n))) = true ∧ s.flag .LANE_CTRL_EN (spLane s n) = true ∧ laneBetween s (spLane s n) = false ∧ (s.laneAt (spLane
      s n)).stage.length < 16) ∧
    (∃ (r : FyzReq) (n : Nat) (b : List Nat) (s : State), RomAsked s 0x32 r (n :: b) ∧ b.length = 4 ∧ 12 ≤ n) ∧
    (∃ (r : FyzReq) (n : Nat) (b : List Nat) (s : State), RomAsked s 0x33 r (n :: b) ∧ b.length = 1 ∧ (12 ≤ n ∨ 2 ≤ b.headD 0 %
      256)) ∧
    (∃ (r : FyzReq) (n : Nat) (b : List Nat) (s : State), RomAsked s 0x50 r (n :: b) ∧ b.length = 4 ∧ 8 ≤ n) ∧
    (∃ (r : FyzReq) (n : Nat) (b : List Nat) (s : State), RomAsked s 0x60 r (n :: b) ∧ b.length = 11 ∧ (3 ≤ n ∨ 1024 ≤ fieldAt
      b 9 2)) ∧
    (∃ (r : FyzReq) (n : Nat) (s : State), RomAsked s 0xF6 r [n] ∧ 2 ≤ n) ∧
    (∃ (r : FyzReq) (j : Fin 12) (s : State), RomAsked s 0x33 r [j.val, 0] ∧ domOn s 15 = true ∧ Regs.wf s.regs = true) ∧
    (∃ (r : FyzReq) (s : State), RomAsked s 0x31 r [] ∧ domOn s 15 = true ∧ s.flag .LAE_XSTAT_BUSY = false ∧ (s.flag
      .LAE_XSTAT_NONE = true ∨ qualified s (1 - loadFeed s) = false)) :=
  ⟨⟨rq 0x20 (((63) :: (leBytes 6 (2 ^ 48 - 1)))), 63, leBytes 6 (2 ^ 48 - 1), (((rom (rq 0x20 (((63) :: (leBytes 6 (2 ^ 48 -
      1)))))).fset .FYZ_SP_TGT_EN 1 63).fset .FYZ_SP_MIN_V (2 ^ 48 - 1) 63).fset .FYZ_SP_TGT_LANE 31 63,
      by unfold RomAsked; decide +kernel⟩,
   ⟨rq 0x31 ([]), ((rom (rq 0x31 ([]))).fset .LAE_XSTAT_NONE 0).fset .LAE_FEED_STAT_HEALTHY 1 1 |> fun t =>
      { t with now := 10 ^ 9 }, by unfold RomAsked; decide +kernel⟩,
   ⟨rq 0x31 ([]), (rom (rq 0x31 ([]))).fset .LAE_XSTAT_BUSY 1, by unfold RomAsked; decide +kernel⟩,
   ⟨rq 0x32 (((11 : Fin 12).val :: (leBytes 4 0x7FFF0000))), 11, leBytes 4 0x7FFF0000, (rom (rq 0x32 (((11 : Fin 12).val ::
      (leBytes 4 0x7FFF0000))))).fset .LAE_PAIR_PULSE_TON 5 11, by unfold RomAsked; decide +kernel⟩,
   ⟨rq 0x33 ([(11 : Fin 12).val, 1]), 11, ((rom (rq 0x33 ([(11 : Fin 12).val, 1]))).fset .LAE_PAIR_PULSE_TON 5 11).fset
      .LAE_PAIR_ANG_END 1000 11, by unfold RomAsked; decide +kernel⟩,
   ⟨rq 0x44 ([(255)]), 255, rom (rq 0x44 ([(255)])), by unfold RomAsked; decide +kernel⟩,
   ⟨rq 0x50 (((7 : Fin 8).val :: (leBytes 4 0xFFFFFFFF))), 7, leBytes 4 0xFFFFFFFF, rom (rq 0x50 (((7 : Fin 8).val :: (leBytes
      4 0xFFFFFFFF)))), by unfold RomAsked; decide +kernel⟩,
   ⟨rq 0x52 ([(255), (255)]), 255, 255, rom (rq 0x52 ([(255), (255)])), by unfold RomAsked; decide +kernel⟩,
   ⟨rq 0x60 (((2 : Fin 3).val :: (leBytes 2 100 ++ leBytes 2 200 ++ leBytes 2 300 ++ [1, 1, 1] ++ leBytes 2 1023))), 2,
      leBytes 2 100 ++ leBytes 2 200 ++ leBytes 2 300 ++ [1, 1, 1] ++ leBytes 2 1023, rom (rq 0x60 (((2 : Fin 3).val ::
      (leBytes 2 100 ++ leBytes 2 200 ++ leBytes 2 300 ++ [1, 1, 1] ++ leBytes 2 1023)))), by unfold RomAsked; decide +kernel⟩,
   ⟨rq 0x60 (((2 : Fin 3).val :: (leBytes 2 300 ++ leBytes 2 200 ++ leBytes 2 300 ++ [1, 1, 1] ++ leBytes 2 1023))), 2,
      leBytes 2 300 ++ leBytes 2 200 ++ leBytes 2 300 ++ [1, 1, 1] ++ leBytes 2 1023, rom (rq 0x60 (((2 : Fin 3).val ::
      (leBytes 2 300 ++ leBytes 2 200 ++ leBytes 2 300 ++ [1, 1, 1] ++ leBytes 2 1023)))), by unfold RomAsked; decide +kernel⟩,
   ⟨rq 0x61 ([]), (rom (rq 0x61 ([]))).fset .CUP_STAT_SHUT 1, by unfold RomAsked; decide +kernel⟩,
   ⟨rq 0x61 ([]), ((rom (rq 0x61 ([]))).fset .CUP_SNS_CFG_EN 1 21).fset .CUP_SNS_TEMP_BROKEN 1 21,
      by unfold RomAsked; decide +kernel⟩,
   ⟨rq 0xF6 ([(1)]), 1, rom (rq 0xF6 ([(1)])), by unfold RomAsked; decide +kernel⟩,
   ⟨rq 0x20 (((63) :: (leBytes 6 5))), 63, leBytes 6 5, rom (rq 0x20 (((63) :: (leBytes 6 5)))),
      by unfold RomAsked; decide +kernel⟩,
   ⟨rq 0x20 (((63) :: (leBytes 6 0))), 63, leBytes 6 0, (((rom (rq 0x20 (((63) :: (leBytes 6 0))))).fset .FYZ_SP_TGT_EN 1
      63).fset .FYZ_SP_TGT_LANE 31 63).fset .TTH_STAT_ROLE 3, by unfold RomAsked; decide +kernel⟩,
   ⟨rq 0x20 (((63) :: (leBytes 6 (2 ^ 48 - 1)))), 63, leBytes 6 (2 ^ 48 - 1), (fun t => t.setLane 31
      { t.laneAt 31 with active := true }) (((((rom (rq 0x20 (((63) :: (leBytes 6 (2 ^ 48 - 1)))))).fset .FYZ_SP_TGT_EN 1
      63).fset .FYZ_SP_MIN_V (2 ^ 48 - 1) 63).fset .FYZ_SP_TGT_LANE 31 63).fset .LANE_CTRL_EN 1 31),
      by unfold RomAsked; decide +kernel⟩,
   ⟨rq 0x32 (((12) :: ([1, 2, 3, 4]))), 12, [1, 2, 3, 4], rom (rq 0x32 (((12) :: ([1, 2, 3, 4])))),
      by unfold RomAsked; decide +kernel⟩,
   ⟨rq 0x33 (((11) :: ([2]))), 11, [2], rom (rq 0x33 (((11) :: ([2])))), by unfold RomAsked; decide +kernel⟩,
   ⟨rq 0x50 (((8) :: ([1, 2, 3, 4]))), 8, [1, 2, 3, 4], rom (rq 0x50 (((8) :: ([1, 2, 3, 4])))),
      by unfold RomAsked; decide +kernel⟩,
   ⟨rq 0x60 (((2) :: (List.replicate 9 0 ++ leBytes 2 1024))), 2, List.replicate 9 0 ++ leBytes 2 1024, rom (rq 0x60 (((2) ::
      (List.replicate 9 0 ++ leBytes 2 1024)))), by unfold RomAsked; decide +kernel⟩,
   ⟨rq 0xF6 ([(2)]), 2, rom (rq 0xF6 ([(2)])), by unfold RomAsked; decide +kernel⟩,
   ⟨rq 0x33 ([(11 : Fin 12).val, 0]), 11, rom (rq 0x33 ([(11 : Fin 12).val, 0])), by unfold RomAsked; decide +kernel⟩,
   ⟨rq 0x31 ([]), rom (rq 0x31 ([])), by unfold RomAsked; decide +kernel⟩⟩

/-- The hypotheses of RomPairingAndSafety are met. -/
theorem witness_RomPairingAndSafety :
    (∃ (r : FyzReq) (s : State), RomAsked s 0x72 r [] ∧ domOn s 16 = true ∧ handoverOk s = true) ∧
    (∃ (r : FyzReq) (s : State), RomAsked s 0x72 r [] ∧ domOn s 16 = true ∧ handoverOk s = false) ∧
    (∃ (r : FyzReq) (s : State), RomAsked s 0x73 r [] ∧ domOn s 16 = true ∧ (s.role = rolePrimary ∨ s.role = roleStandby ∨
      s.role = roleJoining)) ∧
    (∃ (r : FyzReq) (s : State), RomAsked s 0x74 r [] ∧ domOn s 16 = true ∧ s.role = roleDetached ∧ s.twin.pRole = rolePrimary
      ∧ linkUp s = true ∧ s.flag .CUP_STAT_SHUT = false) ∧
    (∃ (r : FyzReq) (n : Nat) (s : State), RomAsked s 0xF1 r [n] ∧ n < 4 ∧ s.img.applied = true ∧ domOn s 10 = true ∧ domOn s
      15 = true ∧ domOn s 17 = true) ∧
    (∃ (r : FyzReq) (s : State), RomAsked s 0xF2 r []) ∧
    (∃ (r : FyzReq) (b : List Nat) (s : State), RomAsked s 0xF4 r b ∧ b.length = 8 ∧ s.flag .FYZ_CFG_POKEEN = true ∧ 0x10000000
      ≤ fieldAt b 0 4 ∧ fieldAt b 0 4 + 4 ≤ 0x10400000 ∧ fieldAt b 0 4 % 4 = 0 ∧ domOn s (addrDomain (fieldAt b 0 4)) = true ∧
      mustWait s 4 (fieldAt b 0 4) = false ∧ s.upsetAt (slotBaseOf (fieldAt b 0 4)) = none) ∧
    (∃ (r : FyzReq) (b : List Nat) (s : State), RomAsked s 0xF4 r b ∧ b.length = 8 ∧ s.flag .FYZ_CFG_POKEEN = false) ∧
    (∃ (r : FyzReq) (s : State), SafeAsked s 0x40 r []) ∧
    (∃ (r : FyzReq) (s : State), SafeAsked s 0x70 r [] ∧ safePort s r.port = true ∧ domOn s 16 = true ∧ (s.role = rolePrimary ∨
      s.role = roleStandby ∨ s.role = roleJoining)) ∧
    (∃ (r : FyzReq) (n : Nat) (m : Nat) (s : State), SafeAsked s 0xF0 r [0x5A, 0xA5, n, m] ∧ n < 4 ∧ m = 255 - n ∧ safePort s
      r.port = true ∧ domOn s 10 = true ∧ domOn s 15 = true) ∧
    (∃ (r : FyzReq) (b : List Nat) (s : State), safePort s r.port = false ∧ SafeAsked s 0x70 r b) ∧
    (∃ (r : FyzReq) (b : List Nat) (s : State), safePort s r.port = false ∧ SafeAsked s 0xF0 r b) ∧
    (∃ (r : FyzReq) (n : Nat) (s : State), RomAsked s 0xF1 r [n] ∧ 4 ≤ n) ∧
    (∃ (r : FyzReq) (n : Nat) (s : State), RomAsked s 0xF1 r [n] ∧ n < 4 ∧ s.img.applied = false) ∧
    (∃ (r : FyzReq) (b : List Nat) (s : State), SafeAsked s 0x40 r b ∧ b ≠ []) ∧
    (∃ (r : FyzReq) (b : List Nat) (s : State), SafeAsked s 0x70 r b ∧ safePort s r.port = true ∧ b ≠ []) ∧
    (∃ (r : FyzReq) (s : State), SafeAsked s 0x70 r [] ∧ safePort s r.port = true ∧ (s.role = roleSolo ∨ s.role = roleInit)) ∧
    (∃ (r : FyzReq) (b : List Nat) (s : State), SafeAsked s 0xF0 r b ∧ safePort s r.port = true ∧ (b.length ≠ 4 ∨ b.take 2 ≠
      [0x5A, 0xA5] ∨ 4 ≤ b.getD 2 0 ∨ b.getD 3 0 ≠ 255 - b.getD 2 0)) ∧
    (∃ (s : State), s.fyz.safe = []) ∧
    (∃ (s : State), s.fyz.safe = []) ∧
    (∃ (s : State), s.fyz.safe = []) ∧
    (∃ (r : FyzReq) (s : State), domOn s 16 = true ∧ RomAsked s 0x73 r [] ∧ (s.role = roleInit ∨ s.role = roleSolo ∨ s.role =
      roleDetached)) ∧
    (∃ (r : FyzReq) (s : State), domOn s 16 = true ∧ RomAsked s 0x74 r [] ∧ (s.role ≠ roleDetached ∨ s.twin.pRole ≠ rolePrimary
      ∨ linkUp s = false ∨ s.flag .CUP_STAT_SHUT = true)) :=
  ⟨⟨rq 0x72 ([]), tw (((rom (rq 0x72 ([]))).fset .TTH_STAT_ROLE 2).fset .TTH_STAT_TETHER 1) fun w =>
      { w with hRole := 3, pReady := true }, by unfold RomAsked; decide +kernel⟩,
   ⟨rq 0x72 ([]), rom (rq 0x72 ([])), by unfold RomAsked; decide +kernel⟩,
   ⟨rq 0x73 ([]), (rom (rq 0x73 ([]))).fset .TTH_STAT_ROLE 4, by unfold RomAsked; decide +kernel⟩,
   ⟨rq 0x74 ([]), tw (((rom (rq 0x74 ([]))).fset .TTH_STAT_TETHER 1).fset .TTH_STAT_ROLE 5) fun w => { w with pRole := 2 },
      by unfold RomAsked; decide +kernel⟩,
   ⟨rq 0xF1 ([(0)]), 0, rom (rq 0xF1 ([(0)])), by unfold RomAsked; decide +kernel⟩,
   ⟨rq 0xF2 ([]), rom (rq 0xF2 ([])), by unfold RomAsked; decide +kernel⟩,
   ⟨rq 0xF4 ((leBytes 4 0x103FFFFC ++ leBytes 4 0xFFFFFFFF)), leBytes 4 0x103FFFFC ++ leBytes 4 0xFFFFFFFF, (rom (rq 0xF4
      ((leBytes 4 0x103FFFFC ++ leBytes 4 0xFFFFFFFF)))).fset .FYZ_CFG_POKEEN 1, by unfold RomAsked; decide +kernel⟩,
   ⟨rq 0xF4 ((List.replicate 8 0)), List.replicate 8 0, (rom (rq 0xF4 ((List.replicate 8 0)))).fset .FYZ_CFG_POKEEN 0,
      by unfold RomAsked; decide +kernel⟩,
   ⟨rqs 0x40 ([]), safe (rqs 0x40 ([])), by unfold SafeAsked; decide +kernel⟩,
   ⟨rqs 0x70 ([]), ((safe (rqs 0x70 ([]))).fset .FYZ_CFG_SAFEPORTS 16).fset .TTH_STAT_ROLE 2,
      by unfold SafeAsked; decide +kernel⟩,
   ⟨rqs 0xF0 ([0x5A, 0xA5, (3), (252)]), 3, 252, (safe (rqs 0xF0 ([0x5A, 0xA5, (3), (252)]))).fset .PWM_DRIVE_DRV 1,
      by unfold SafeAsked; decide +kernel⟩,
   ⟨rqs 0x70 (([])), [], (safe (rqs 0x70 (([])))).fset .FYZ_CFG_SAFEPORTS 15, by unfold SafeAsked; decide +kernel⟩,
   ⟨rqs 0xF0 (([0x5A, 0xA5, 3, 252])), [0x5A, 0xA5, 3, 252], (safe (rqs 0xF0 (([0x5A, 0xA5, 3, 252])))).fset
      .FYZ_CFG_SAFEPORTS 15, by unfold SafeAsked; decide +kernel⟩,
   ⟨rq 0xF1 ([(4)]), 4, rom (rq 0xF1 ([(4)])), by unfold RomAsked; decide +kernel⟩,
   ⟨rq 0xF1 ([(3)]), 3, (fun t => { t with img := { t.img with applied := false } }) (rom (rq 0xF1 ([(3)]))),
      by unfold RomAsked; decide +kernel⟩,
   ⟨rqs 0x40 (([1])), [1], safe (rqs 0x40 (([1]))), by unfold SafeAsked; decide +kernel⟩,
   ⟨rqs 0x70 (([1])), [1], safe (rqs 0x70 (([1]))), by unfold SafeAsked; decide +kernel⟩,
   ⟨rqs 0x70 ([]), safe (rqs 0x70 ([])), by unfold SafeAsked; decide +kernel⟩,
   ⟨rqs 0xF0 (([])), [], safe (rqs 0xF0 (([]))), by unfold SafeAsked; decide +kernel⟩,
   ⟨State.reset, by decide +kernel⟩,
   ⟨State.reset, by decide +kernel⟩,
   ⟨State.reset, by decide +kernel⟩,
   ⟨rq 0x73 ([]), rom (rq 0x73 ([])), by unfold RomAsked; decide +kernel⟩,
   ⟨rq 0x74 ([]), rom (rq 0x74 ([])), by unfold RomAsked; decide +kernel⟩⟩

/-- The hypotheses of PmbusAndJtag are met. -/
theorem witness_PmbusAndJtag :
    (∃ (x : PmbXfer) (s : State), pmbServed s x = true ∧ x.write = none) ∧
    (∃ (x : PmbXfer) (s : State), pmbServed s x = true ∧ x.write = none) ∧
    (∃ (x : PmbXfer) (s : State), pmbServed s x = true ∧ x.write = none) ∧
    (∃ (x : PmbXfer) (s : State), pmbServed s x = true ∧ x.write = none) ∧
    (∃ (x : PmbXfer) (s : State), pmbServed s x = true ∧ x.write = none) ∧
    (∃ (x : PmbXfer) (s : State), pmbServed s x = true ∧ x.write = none) ∧
    (∃ (x : PmbXfer) (s : State), pmbServed s x = true ∧ x.write = none) ∧
    (∃ (x : PmbXfer) (s : State), pmbServed s x = true ∧ x.write = none) ∧
    (∃ (x : PmbXfer) (s : State), pmbServed s x = true ∧ x.write = none) ∧
    (∃ (x : PmbXfer) (s : State), pmbServed s x = true ∧ x.write = none) ∧
    (∃ (x : PmbXfer) (s : State), pmbServed s x = true ∧ x.write = none ∧ 2 ≤ s.pmb.page) ∧
    (∃ (x : PmbXfer) (s : State), pmbServed s x = true ∧ x.write = none ∧ 2 ≤ s.pmb.page) ∧
    (∃ (x : PmbXfer) (s : State), pmbServed s x = true ∧ x.write = none ∧ s.pmb.page < 2) ∧
    (∃ (x : PmbXfer) (v : Nat) (s : State) (n : Fin 3), pmbServed s x = true ∧ x.write = none ∧ s.pmb.readings.find? (fun r =>
      r.1 == s.pmb.page && r.2.1 == 0x8D + n.val) = some (s.pmb.page, 0x8D + n.val, v)) ∧
    (∃ (x : PmbXfer) (v : Nat) (s : State) (c : Nat), pmbServed s x = true ∧ x.write = none ∧ s.pmb.page < 2 ∧
      s.pmb.readings.find? (fun r => r.1 == s.pmb.page && r.2.1 == c) = some (s.pmb.page, c, v) ∧ c = 0x88) ∧
    (∃ (x : PmbXfer) (v : Nat) (s : State) (c : Nat), pmbServed s x = true ∧ x.write = none ∧ s.pmb.page < 2 ∧
      s.pmb.readings.find? (fun r => r.1 == s.pmb.page && r.2.1 == c) = some (s.pmb.page, c, v) ∧ c = 0x89) ∧
    (∃ (x : PmbXfer) (v : Nat) (s : State) (c : Nat), pmbServed s x = true ∧ x.write = none ∧ s.pmb.page < 2 ∧
      s.pmb.readings.find? (fun r => r.1 == s.pmb.page && r.2.1 == c) = some (s.pmb.page, c, v) ∧ c = 0x95) ∧
    (∃ (x : PmbXfer) (v : Nat) (s : State) (c : Nat), pmbServed s x = true ∧ x.write = none ∧ s.pmb.page < 2 ∧
      s.pmb.readings.find? (fun r => r.1 == s.pmb.page && r.2.1 == c) = some (s.pmb.page, c, v) ∧ c = 0x97) ∧
    (∃ (x : PmbXfer) (v : Nat) (s : State) (c : Nat), pmbServed s x = true ∧ x.write = none ∧ 2 ≤ s.pmb.page ∧
      s.pmb.readings.find? (fun r => r.1 == s.pmb.page && r.2.1 == c) = some (s.pmb.page, c, v) ∧ (sourcesOf s.pmb.page c).all
      (s.flag .FYZ_PMB_SRC_EN ·) = true ∧ c = 0x8B) ∧
    (∃ (x : PmbXfer) (v : Nat) (s : State) (c : Nat), pmbServed s x = true ∧ x.write = none ∧ 2 ≤ s.pmb.page ∧
      s.pmb.readings.find? (fun r => r.1 == s.pmb.page && r.2.1 == c) = some (s.pmb.page, c, v) ∧ (sourcesOf s.pmb.page c).all
      (s.flag .FYZ_PMB_SRC_EN ·) = true ∧ c = 0x8C) ∧
    (∃ (x : PmbXfer) (v : Nat) (s : State) (c : Nat), pmbServed s x = true ∧ x.write = none ∧ 2 ≤ s.pmb.page ∧
      s.pmb.readings.find? (fun r => r.1 == s.pmb.page && r.2.1 == c) = some (s.pmb.page, c, v) ∧ (sourcesOf s.pmb.page c).all
      (s.flag .FYZ_PMB_SRC_EN ·) = true ∧ c = 0x96) ∧
    (∃ (x : PmbXfer) (code : Nat) (s : State), pmbServed s x = true ∧ x.write = none ∧ s.pmb.page < 4 ∧ pmbCodes.contains code
      = false) ∧
    (∃ (x : PmbXfer) (s : State), pmbServed s x = true ∧ x.write = none ∧ s.pmb.page < 4 ∧ s.pmb.page < 2) ∧
    (∃ (x : PmbXfer) (v : Nat) (s : State), pmbServed s x = true ∧ x.write = some [v] ∧ v < 4) ∧
    (∃ (x : PmbXfer) (v : Nat) (s : State), pmbServed s x = true ∧ x.write = some [v] ∧ 4 ≤ v ∧ s.pmb.page < 4) ∧
    (∃ (x : PmbXfer) (s : State), pmbServed s x = true ∧ x.write = some []) ∧
    (∃ (x : PmbXfer) (s : State), pmbLive s = true ∧ x.pec = some false ∧ s.pmb.page < 4) ∧
    (∃ (s : State), pmbLive s = true ∧ s.pmb.alert ≠ 0) ∧
    (∃ (s : State), mgmtUp s = true ∧ s.clockOn 17 = true ∧ s.pmb.asked = false ∧ srcsDue s = false ∧ s.pmb.snapAt.all (fun t
      => decide (t + msTicks ≤ s.now)) = true ∧ pmbEnabled s = []) ∧
    (∃ (a : Nat) (s : State), s.pmb.snapAt = some a ∧ s.clockOn 17 = true ∧ s.pmb.stale = false ∧ a + 10 * msTicks < s.now) ∧
    (∃ (a : Nat) (s : State), s.pmb.snapAt = some a ∧ s.clockOn 17 = true ∧ s.pmb.stale = false ∧ s.now ≤ a + 10 * msTicks) ∧
    (∃ (s : State), s.pw.rst = none) ∧
    (∃ (s : State), s.pw.rst = none ∧ s.flag .FYZ_DBG_EN = true) ∧
    (∃ (s : State), s.pw.rst = none ∧ s.flag .FYZ_DBG_EN = true) ∧
    (∃ (s : State), s.pw.rst = none ∧ s.flag .FYZ_DBG_EN = true) ∧
    (∃ (s : State), s.pw.rst = none ∧ s.flag .FYZ_DBG_EN = true) ∧
    (∃ (s : State), s.pw.rst = none ∧ s.flag .FYZ_DBG_EN = false) ∧
    (∃ (s : State), s.pw.rst = none ∧ s.flag .FYZ_DBG_EN = false) ∧
    (∃ (s : State), s.pw.rst = none) ∧
    (∃ (s : State), s.pw.rst = none ∧ s.jtag.debug = true) ∧
    (∃ (x : PmbXfer) (n : Fin 3) (i : Instr) (s : State), i ∈ [.pmbCapability x, .pmbVoutMode x, .pmbStatusByte x,
      .pmbStatusWord x, .pmbStatusIout x, .pmbStatusInput x, .pmbStatusTemperature x, .pmbStatusCml x, .pmbReadVin x,
      .pmbReadIin x, .pmbReadVout x, .pmbReadIout x, .pmbReadTemperature n x, .pmbReadFrequency x, .pmbReadPout x, .pmbReadPin
      x, .pmbRevision x, .pmbMfrId x, .pmbMfrModel x, .pmbMfrRevision x, .pmbPage x, .pmbClearFaults x] ∧ pmbLive s = false) ∧
    (∃ (x : PmbXfer) (n : Fin 3) (i : Instr) (s : State), i ∈ [.pmbCapability x, .pmbVoutMode x, .pmbStatusByte x,
      .pmbStatusWord x, .pmbStatusIout x, .pmbStatusInput x, .pmbStatusTemperature x, .pmbStatusCml x, .pmbReadVin x,
      .pmbReadIin x, .pmbReadVout x, .pmbReadIout x, .pmbReadTemperature n x, .pmbReadFrequency x, .pmbReadPout x, .pmbReadPin
      x, .pmbRevision x, .pmbMfrId x, .pmbMfrModel x, .pmbMfrRevision x, .pmbPage x, .pmbClearFaults x] ∧ pmbLive s = true ∧
      x.pec = some false ∧ s.pmb.page < 4) ∧
    (∃ (x : PmbXfer) (n : Fin 3) (i : Instr) (s : State), i ∈ [.pmbCapability x, .pmbVoutMode x, .pmbStatusByte x,
      .pmbStatusWord x, .pmbStatusIout x, .pmbStatusInput x, .pmbStatusTemperature x, .pmbStatusCml x, .pmbReadVin x,
      .pmbReadIin x, .pmbReadVout x, .pmbReadIout x, .pmbReadTemperature n x, .pmbReadFrequency x, .pmbReadPout x, .pmbReadPin
      x, .pmbRevision x, .pmbMfrId x, .pmbMfrModel x, .pmbMfrRevision x, .pmbPage x, .pmbClearFaults x] ∧ pmbLive s = true ∧
      x.pec = none ∧ s.flag .FYZ_PMB_CFG_PECREQ = true ∧ x.write = none) ∧
    (∃ (x : PmbXfer) (i : Instr) (s : State), pmbServed s x = true ∧ s.pmb.page < 4 ∧ x.write ≠ none ∧ i ∈ [.pmbCapability x,
      .pmbVoutMode x, .pmbStatusByte x, .pmbStatusWord x, .pmbReadVin x, .pmbReadVout x]) ∧
    (∃ (x : PmbXfer) (i : Instr) (s : State), pmbServed s x = true ∧ s.pmb.page < 4 ∧ x.write = none ∧ 2 ≤ s.pmb.page ∧ i ∈
      [.pmbStatusInput x, .pmbReadVin x, .pmbReadIin x, .pmbReadFrequency x, .pmbReadPin x, .pmbClearFaults x]) ∧
    (∃ (x : PmbXfer) (i : Instr) (s : State), pmbServed s x = true ∧ s.pmb.page < 4 ∧ x.write = none ∧ s.pmb.page < 2 ∧ i ∈
      [.pmbStatusIout x, .pmbReadVout x, .pmbReadIout x, .pmbReadPout x]) ∧
    (∃ (x : PmbXfer) (i : Instr) (s : State), pmbServed s x = true ∧ s.pmb.page < 4 ∧ x.write = none ∧ 2 ≤ s.pmb.page ∧ s.flag
      .FYZ_PMB_SRC_EN (2 * (s.pmb.page - 2)) = false ∧ i ∈ [.pmbReadVout x, .pmbReadPout x]) ∧
    (∃ (x : PmbXfer) (i : Instr) (s : State), pmbServed s x = true ∧ s.pmb.page < 4 ∧ x.write = none ∧ s.pmb.page < 2 ∧
      s.pmb.readings = [] ∧ i ∈ [.pmbReadVin x, .pmbReadIin x, .pmbReadFrequency x, .pmbReadPin x]) ∧
    (∃ (s : State), mgmtUp s = true ∧ s.clockOn 17 = true ∧ s.pmb.asked = false ∧ srcsDue s = false ∧ s.pmb.snapAt.all (fun t
      => decide (t + msTicks ≤ s.now)) = true ∧ pmbEnabled s ≠ []) ∧
    (∃ (s : State), s.pmb.asked = true ∧ srcsDue s = false) ∧
    (∃ (s : State), (mgmtUp s = false ∨ s.clockOn 17 = false ∨ s.pmb.asked = true ∨ srcsDue s = true ∨ s.pmb.snapAt.any (fun t
      => decide (s.now < t + msTicks)) = true)) ∧
    (∃ (s : State), (pmbLive s = false ∨ s.pmb.alert = 0)) ∧
    (∃ (s : State), (s.clockOn 17 = false ∨ s.pmb.stale = true)) ∧
    (∃ (s : State), pmbLive s = false) ∧
    (∃ (x : PmbXfer) (code : Nat) (s : State), pmbServed s x = true ∧ x.write ≠ none ∧ s.pmb.page < 4 ∧ pmbCodes.contains code
      = false) ∧
    (∃ (s : State), s.pw.rst ≠ none) ∧
    (∃ (s : State), s.pw.rst ≠ none) ∧
    (∃ (s : State), s.pw.rst ≠ none) ∧
    (∃ (s : State), s.pw.rst ≠ none) ∧
    (∃ (s : State), s.pw.rst ≠ none) ∧
    (∃ (s : State), s.pw.rst ≠ none) ∧
    (∃ (s : State), s.pw.rst ≠ none) ∧
    (∃ (v : Nat) (s : State), s.pw.rst = none ∧ [0x00, 0x01, 0x02, 0x08, 0x09].contains (v % 32) = false) :=
  ⟨⟨(⟨none, some true⟩ : PmbXfer), pmb fun x => { x with page := 0 }, by decide +kernel⟩,
   ⟨(⟨none, some true⟩ : PmbXfer), pmb fun x => { x with page := 0 }, by decide +kernel⟩,
   ⟨(⟨none, some true⟩ : PmbXfer), pmb fun x => { x with page := 0 }, by decide +kernel⟩,
   ⟨(⟨none, some true⟩ : PmbXfer), pmb fun x => { x with page := 0 }, by decide +kernel⟩,
   ⟨(⟨none, some true⟩ : PmbXfer), pmb fun x => { x with page := 0 }, by decide +kernel⟩,
   ⟨(⟨none, some true⟩ : PmbXfer), pmb fun x => { x with page := 0 }, by decide +kernel⟩,
   ⟨(⟨none, some true⟩ : PmbXfer), pmb fun x => { x with page := 0 }, by decide +kernel⟩,
   ⟨(⟨none, some true⟩ : PmbXfer), pmb fun x => { x with page := 0 }, by decide +kernel⟩,
   ⟨(⟨none, some true⟩ : PmbXfer), pmb fun x => { x with page := 0 }, by decide +kernel⟩,
   ⟨(⟨none, some true⟩ : PmbXfer), pmb fun x => { x with page := 0 }, by decide +kernel⟩,
   ⟨(⟨none, some true⟩ : PmbXfer), pmb fun x => { x with page := 2 }, by decide +kernel⟩,
   ⟨(⟨none, some true⟩ : PmbXfer), pmb fun x => { x with page := 3 }, by decide +kernel⟩,
   ⟨(⟨none, some true⟩ : PmbXfer), pmb fun x => { x with page := 1 }, by decide +kernel⟩,
   ⟨(⟨none, some true⟩ : PmbXfer), 0xFFFF, pmb fun x =>
      { x with page := 3, snapAt := some 0, readings := [(3, 143, 0xFFFF)] }, 2, by decide +kernel⟩,
   ⟨(⟨none, some true⟩ : PmbXfer), 0xFFFF, pmb fun x =>
      { x with page := 1, snapAt := some 0, readings := [(1, 136, 0xFFFF)] }, 136, by decide +kernel⟩,
   ⟨(⟨none, some true⟩ : PmbXfer), 0xFFFF, pmb fun x =>
      { x with page := 1, snapAt := some 0, readings := [(1, 137, 0xFFFF)] }, 137, by decide +kernel⟩,
   ⟨(⟨none, some true⟩ : PmbXfer), 0xFFFF, pmb fun x =>
      { x with page := 1, snapAt := some 0, readings := [(1, 149, 0xFFFF)] }, 149, by decide +kernel⟩,
   ⟨(⟨none, some true⟩ : PmbXfer), 0xFFFF, pmb fun x =>
      { x with page := 1, snapAt := some 0, readings := [(1, 151, 0xFFFF)] }, 151, by decide +kernel⟩,
   ⟨⟨none, some true⟩, 0xFFFF, (pmb fun x => { x with page := 3, snapAt := some 0, readings := [(3, 0x8B, 0xFFFF)] }).fset
      .FYZ_PMB_SRC_EN 1 2, 0x8B, by decide +kernel⟩,
   ⟨⟨none, some true⟩, 0xFFFF, (pmb fun x => { x with page := 3, snapAt := some 0, readings := [(3, 0x8C, 0xFFFF)] }).fset
      .FYZ_PMB_SRC_EN 1 3, 0x8C, by decide +kernel⟩,
   ⟨⟨none, some true⟩, 0xFFFF, ((pmb fun x => { x with page := 3, snapAt := some 0, readings := [(3, 0x96, 0xFFFF)] }).fset
      .FYZ_PMB_SRC_EN 1 3).fset .FYZ_PMB_SRC_EN 1 2, 0x96, by decide +kernel⟩,
   ⟨(⟨none, some true⟩ : PmbXfer), 255, pmb fun x => { x with page := 3 }, by decide +kernel⟩,
   ⟨(⟨none, some true⟩ : PmbXfer), pmb fun x => { x with page := 1 }, by decide +kernel⟩,
   ⟨(⟨some [3], some true⟩ : PmbXfer), 3, pmb fun x => { x with page := 0 }, by decide +kernel⟩,
   ⟨(⟨some [4], some true⟩ : PmbXfer), 4, pmb fun x => { x with page := 3 }, by decide +kernel⟩,
   ⟨(⟨some [], some true⟩ : PmbXfer), pmb fun x => { x with page := 3 }, by decide +kernel⟩,
   ⟨(⟨none, some false⟩ : PmbXfer), pmb fun x => { x with page := 3 }, by decide +kernel⟩,
   ⟨pmb fun x => { x with page := 3, alert := 8 }, by decide +kernel⟩,
   ⟨sHost, by decide +kernel⟩,
   ⟨0, { (pmb fun x => { x with snapAt := some 0 }) with now := 8000001 }, by decide +kernel⟩,
   ⟨0, { (pmb fun x => { x with snapAt := some 0 }) with now := 8000000 }, by decide +kernel⟩,
   ⟨State.reset, by decide +kernel⟩,
   ⟨sHost.fset .FYZ_DBG_EN 1, by decide +kernel⟩,
   ⟨sHost.fset .FYZ_DBG_EN 1, by decide +kernel⟩,
   ⟨sHost.fset .FYZ_DBG_EN 1, by decide +kernel⟩,
   ⟨sHost.fset .FYZ_DBG_EN 1, by decide +kernel⟩,
   ⟨sHost.fset .FYZ_DBG_EN 0, by decide +kernel⟩,
   ⟨sHost.fset .FYZ_DBG_EN 0, by decide +kernel⟩,
   ⟨State.reset, by decide +kernel⟩,
   ⟨{ sHost with fyz := { sHost.fyz with jtag := { sHost.fyz.jtag with debug := true } } }, by decide +kernel⟩,
   ⟨⟨none, some true⟩, 2, .pmbReadVin ⟨none, some true⟩, s0.fset .PMG_DOMSTAT_STATE 3 17, by decide +kernel⟩,
   ⟨⟨none, some false⟩, 2, .pmbReadVin ⟨none, some false⟩, pmb fun x => { x with page := 3 }, by decide +kernel⟩,
   ⟨⟨none, none⟩, 2, .pmbReadVin ⟨none, none⟩, (pmb fun x => { x with page := 3 }).fset .FYZ_PMB_CFG_PECREQ 1,
      by decide +kernel⟩,
   ⟨⟨some [1], some true⟩, .pmbReadVin ⟨some [1], some true⟩, pmb fun x => { x with page := 3 }, by decide +kernel⟩,
   ⟨⟨none, some true⟩, .pmbReadVin ⟨none, some true⟩, pmb fun x => { x with page := 3 }, by decide +kernel⟩,
   ⟨⟨none, some true⟩, .pmbReadVout ⟨none, some true⟩, pmb fun x => { x with page := 1 }, by decide +kernel⟩,
   ⟨⟨none, some true⟩, .pmbReadVout ⟨none, some true⟩, pmb fun x => { x with page := 3 }, by decide +kernel⟩,
   ⟨⟨none, some true⟩, .pmbReadVin ⟨none, some true⟩, pmb fun x => { x with page := 1 }, by decide +kernel⟩,
   ⟨(pmb id).fset .FYZ_PMB_SRC_EN 1 3, by decide +kernel⟩,
   ⟨pmb fun x => { x with asked := true }, by decide +kernel⟩,
   ⟨State.reset, by decide +kernel⟩,
   ⟨State.reset, by decide +kernel⟩,
   ⟨pmb fun x => { x with stale := true }, by decide +kernel⟩,
   ⟨s0.fset .PMG_DOMSTAT_STATE 3 17, by decide +kernel⟩,
   ⟨⟨some [], some true⟩, 255, pmb fun x => { x with page := 3 }, by decide +kernel⟩,
   ⟨pw s0 fun p => { p with rst := some 1 }, by decide +kernel⟩,
   ⟨pw s0 fun p => { p with rst := some 1 }, by decide +kernel⟩,
   ⟨pw s0 fun p => { p with rst := some 1 }, by decide +kernel⟩,
   ⟨pw s0 fun p => { p with rst := some 1 }, by decide +kernel⟩,
   ⟨pw s0 fun p => { p with rst := some 1 }, by decide +kernel⟩,
   ⟨pw s0 fun p => { p with rst := some 1 }, by decide +kernel⟩,
   ⟨pw s0 fun p => { p with rst := some 1 }, by decide +kernel⟩,
   ⟨31, State.reset, by decide +kernel⟩⟩

end Sys2Proof.Tests
end

section
/-! PROOFS. Lanes: arrivals at a lane that is disabled or faulted (R199). -/

namespace Sys2Proof.Machine

/-! ### The parts of the state that an update of the register store leaves -/

theorem OnlyRegs.lane {s t : State} (h : OnlyRegs s t) : t.lane = s.lane := (congrArg State.lane h :)
theorem OnlyRegs.dutyq {s t : State} (h : OnlyRegs s t) : t.dutyq = s.dutyq := (congrArg State.dutyq h :)
theorem OnlyRegs.mem {s t : State} (h : OnlyRegs s t) : t.mem = s.mem := (congrArg State.mem h :)
theorem OnlyRegs.ltc {s t : State} (h : OnlyRegs s t) : t.ltc = s.ltc := (congrArg State.ltc h :)
theorem OnlyRegs.laneAt {s t : State} (h : OnlyRegs s t) (k : Nat) : t.laneAt k = s.laneAt k := congrArg (vget · k) h.lane

theorem SameRegs.refl {p : FKey → Prop} (s : State) : SameRegs p s s := fun _ _ _ _ => rfl

theorem SameRegs.trans {p : FKey → Prop} {s t u : State} (h : SameRegs p s t) (g : SameRegs p t u) : SameRegs p s u :=
  fun f i j n => (g f i j n).trans (h f i j n)

/-- A write of a field that `p` names changes no other field. -/
theorem SameRegs.fset {p : FKey → Prop} (s : State) {f : Fld} {i j : Nat} (v : Nat) (h : p ⟨f, i, j⟩) :
    SameRegs p s (s.fset f v i j) := by
  intro g a b hn
  rw [State.fget_fset, if_neg]
  rintro ⟨rfl, rfl, rfl⟩
  exact hn h

/-- A counting field after it has been raised. -/
theorem State.fget_fcount_same (s : State) (f : Fld) (i j n : Nat) :
    (s.fcount f i j n).fget f i j = min (2 ^ f.len - 1) (s.fget f i j + n) := by
  rw [State.fcount_eq, State.fget_fset_same, satInc]
  exact Nat.mod_eq_of_lt (by have := Nat.two_pow_pos f.len; omega)

/-! ### Arrival edges -/

/-- The earlier of an edge, if there is one yet, and an arrival's: what `firstEdge` folds with. -/
def earlierEdge (m : Option Nat) (a : Nat × Activation) : Option Nat :=
  match m with
  | none => some a.1
  | some x => some (min x a.1)

theorem firstEdge_eq_foldl (l : List (Nat × Activation)) : firstEdge l = l.foldl earlierEdge none := rfl

/-- The edges of arrivals, folded to the earliest from `m` on, give `m` or the edge of one of them. -/
theorem foldl_earlierEdge_mem {l : List (Nat × Activation)} {m : Option Nat} {e : Nat} (h : l.foldl earlierEdge m = some e) :
    m = some e ∨ ∃ x ∈ l, x.1 = e := by
  induction l generalizing m with
  | nil => exact .inl h
  | cons a l ih =>
    obtain hm | ⟨x, hx, he⟩ := ih h
    · cases m with
      | none => exact .inr ⟨a, List.mem_cons_self, Option.some.inj hm⟩
      | some x =>
        have hm : min x a.1 = e := Option.some.inj hm
        obtain hc | hc := Nat.le_total x a.1
        · exact .inl (congrArg some ((Nat.min_eq_left hc).symm.trans hm))
        · exact .inr ⟨a, List.mem_cons_self, (Nat.min_eq_right hc).symm.trans hm⟩
    · exact .inr ⟨x, List.mem_cons_of_mem a hx, he⟩

/-- The first arrival edge is the edge of some arrival. -/
theorem firstEdge_mem {l : List (Nat × Activation)} {e : Nat} (h : firstEdge l = some e) : ∃ x ∈ l, x.1 = e :=
  (foldl_earlierEdge_mem ((firstEdge_eq_foldl l).symm.trans h)).resolve_left nofun

/-- Ordering arrivals by source loses and adds none. -/
@[simp] theorem bySource_length (l : List Activation) : (bySource l).length = l.length := by
  induction l with
  | nil => rfl
  | cons a t ih =>
    have h := congrArg List.length ((bySource t).takeWhile_append_dropWhile (p := fun b => decide (b.src < a.src)))
    simp only [bySource, List.length_append, List.length_cons] at h ⊢
    omega

/-! ### Arrivals at a closed lane -/

/-- Lane `k` takes no activations: it is disabled or faulted (R199). -/
def laneShut (s : State) (k : Nat) : Prop :=
  s.fget .LANE_STAT_STATE k = laneDisabled ∨ s.fget .LANE_STAT_STATE k = laneFaulted

theorem enqueueOne_shut {s : State} {k : Nat} (h : laneShut s k) (a : Activation) :
    enqueueOne k s a = s.fcount .LANE_DISCCNT_COUNT k := if_pos h

theorem laneShut_fcount {s : State} {k : Nat} (h : laneShut s k) : laneShut (s.fcount .LANE_DISCCNT_COUNT k) k := by
  unfold laneShut
  rwa [State.fcount_eq, State.fget_fset_ne _ _ _ _ _ _ _ _ (by decide)]

/-- Arrivals at a shut lane change LANE_DISCCNT alone. -/
theorem foldl_enqueueOne_shut {s : State} {k : Nat} (h : laneShut s k) (l : List Activation) :
    OnlyRegs s (l.foldl (enqueueOne k) s) ∧ SameRegs (FieldsAt [.LANE_DISCCNT_COUNT] k) s (l.foldl (enqueueOne k) s) := by
  induction l generalizing s with
  | nil => exact ⟨.refl s, .refl s⟩
  | cons a l ih =>
    rw [List.foldl_cons, enqueueOne_shut h]
    obtain ⟨ho, hs⟩ := ih (laneShut_fcount h)
    exact ⟨((OnlyRegs.refl s).fset _ _ _ _).trans ho, (SameRegs.fset s _ ⟨List.mem_cons_self, rfl⟩).trans hs⟩

/-- Each of the arrivals at a shut lane is counted, up to the largest count (R199). -/
theorem disccnt_foldl_enqueueOne_shut {s : State} {k : Nat} (h : laneShut s k) {l : List Activation} (hl : l ≠ []) :
    (l.foldl (enqueueOne k) s).fget .LANE_DISCCNT_COUNT k = min 65535 (s.fget .LANE_DISCCNT_COUNT k + l.length) := by
  have step (s : State) : (s.fcount .LANE_DISCCNT_COUNT k).fget .LANE_DISCCNT_COUNT k = min 65535 (s.fget .LANE_DISCCNT_COUNT k + 1) :=
    State.fget_fcount_same s _ _ _ _
  induction l generalizing s with
  | nil => exact absurd rfl hl
  | cons a l ih =>
    rw [List.foldl_cons, enqueueOne_shut h]
    cases l with
    | nil => exact step s
    | cons b l =>
      rw [ih (laneShut_fcount h) (List.cons_ne_nil b l), step]
      simp only [List.length_cons]
      omega

/-- ACTIVATION_ENQUEUE at a due edge: the arrivals of the edge leave, and are taken in source order. -/
theorem exec_activationEnqueue_due {s : State} {k : Fin 32} {e : Nat} (hf : firstEdge (s.laneAt k).arriving = some e)
    (he : e ≤ s.ltc) :
    exec (.activationEnqueue k) s = .next
      ((bySource (((s.laneAt k).arriving.filter fun x => x.1 == e).map (·.2))).foldl (enqueueOne k)
        (s.setLane k { s.laneAt k with arriving := (s.laneAt k).arriving.filter fun x => x.1 != e })) := by
  show execActivationEnqueue k s = _
  unfold execActivationEnqueue
  simp only [hf, if_pos he]

/-- Settles O21: at a shut lane every arrival is one count, and an arrival edge has at least one arrival. -/
theorem disabledLaneDiscards : Obligations.DisabledLaneDiscards := by
  intro k e s hf he hs
  refine ⟨_, exec_activationEnqueue_due hf he, ?_⟩
  generalize hl : { s.laneAt k with arriving := (s.laneAt k).arriving.filter fun x => x.1 != e } = l
  generalize hnow : bySource (((s.laneAt k).arriving.filter fun x => x.1 == e).map (·.2)) = now
  have hlen : now.length = ((s.laneAt k).arriving.filter fun x => x.1 == e).length := by simp [← hnow]
  have hne : now ≠ [] := by
    obtain ⟨x, hx, rfl⟩ := firstEdge_mem hf
    have hm : x ∈ (s.laneAt k).arriving.filter fun y => y.1 == x.1 := List.mem_filter.mpr ⟨hx, beq_self_eq_true x.1⟩
    rw [← List.length_pos_iff, hlen]
    exact List.length_pos_of_mem hm
  have hshut : laneShut (s.setLane k l) k := hs
  obtain ⟨ho, hr⟩ := foldl_enqueueOne_shut hshut now
  have hk := (ho.laneAt k).trans (State.setLane_laneAt_same s k l k.isLt)
  refine ⟨?_, ?_, ?_, hr, ho.mem, fun x hx => (ho.laneAt x).trans (State.setLane_laneAt_ne s k x l hx)⟩
  · rw [hk, ← hl]
  · rw [hk, ← hl]
  · rw [disccnt_foldl_enqueueOne_shut hshut hne, hlen]
    rfl

end Sys2Proof.Machine
end

section
/-! PROOFS. Lanes: what a notice leaves, and a fault with its record (R242), which a DUTY on a channel that is illegal or not
permitted takes (R227). -/

namespace Sys2Proof.Machine

/-! ### Notices -/

/-- Nothing but the memory, MRAM's write buffer and bit errors, and the queues and counts of notices and of the event log differs. -/
def OnlyNotices (s t : State) : Prop :=
  t = { s with
    mem := t.mem, pw := t.pw, upsets := t.upsets, notices := t.notices, noticeSeq := t.noticeSeq, logSeq := t.logSeq }

theorem OnlyNotices.refl (s : State) : OnlyNotices s s := rfl

theorem OnlyNotices.trans {s t u : State} (h : OnlyNotices s t) (g : OnlyNotices t u) : OnlyNotices s u := by
  unfold OnlyNotices at *
  rw [g, h]

theorem OnlyNotices.pw (s : State) (p : Power) : OnlyNotices s { s with pw := p } := rfl
theorem OnlyNotices.logSeq (s : State) (n : Nat) : OnlyNotices s { s with logSeq := n } := rfl

theorem OnlyNotices.regs {s t : State} (h : OnlyNotices s t) : t.regs = s.regs := (congrArg State.regs h :)
theorem OnlyNotices.lane {s t : State} (h : OnlyNotices s t) : t.lane = s.lane := (congrArg State.lane h :)
theorem OnlyNotices.dutyq {s t : State} (h : OnlyNotices s t) : t.dutyq = s.dutyq := (congrArg State.dutyq h :)

theorem storeBytes_onlyNotices (s : State) (a : Nat) (l : List Nat) : OnlyNotices s (s.storeBytes a l) := by
  induction l generalizing s a with
  | nil => rfl
  | cons b l ih => exact OnlyNotices.trans (t := s.setByte a b) rfl (ih _ _)

theorem mramPush_onlyNotices (s : State) (w n : Nat) : OnlyNotices s (s.mramPush w n) := by
  induction n generalizing s w with
  | zero => rfl
  | succ n ih => exact OnlyNotices.trans (OnlyNotices.pw s _) (ih _ _)

theorem mramStore_onlyNotices (s : State) (a : Nat) (l : List Nat) : OnlyNotices s (s.mramStore a l) := by
  unfold State.mramStore
  split
  · rfl
  · exact ((mramPush_onlyNotices s _ _).trans (storeBytes_onlyNotices _ a l)).trans rfl

theorem noticeAt_onlyNotices (s : State) (cls code : Nat) (data : List Nat) (p : Nat) :
    OnlyNotices s (s.noticeAt cls code data p) := by
  unfold State.noticeAt
  split <;> rfl

/-- A record that the sequencer logs marks no domain DIRTY. -/
theorem logAppend_onlyNotices (s : State) {cls : Nat} (code port : Nat) (data : List Nat) (h : cls < 9) :
    OnlyNotices s (s.logAppend cls code port data) := by
  unfold State.logAppend
  simp only [if_neg (Nat.not_le.mpr h)]
  exact (mramStore_onlyNotices s _ _).trans (.logSeq _ _)

theorem notice_onlyNotices (s : State) {cls : Nat} (code : Nat) (data : List Nat) (h : cls < 9) :
    OnlyNotices s (s.notice cls code data) := by
  unfold State.notice
  refine OnlyNotices.trans ?_ (logAppend_onlyNotices _ code _ data h)
  split
  · exact List.foldlRecOn _ _ (.refl s) fun t ht p _ => ht.trans (noticeAt_onlyNotices t cls code data p)
  · rfl

/-! ### A recorded fault, and what keeps it -/

/-- The fields of a fault's record (R242). -/
def faultFields : List Fld := [.LANE_STAT_FAULT, .LANE_STAT_CAUSE, .LANE_PC_FPC]

/-- The duty queues, what is recorded of a fault of lane `k`, and what it waits for, are in `t` as in `s`. -/
structure FaultKept (k : Nat) (s t : State) : Prop where
  dutyq : t.dutyq = s.dutyq
  active : (t.laneAt k).active = (s.laneAt k).active
  loads : (t.laneAt k).loads = (s.laneAt k).loads
  faultWait : (t.laneAt k).faultWait = (s.laneAt k).faultWait
  fields : ∀ f ∈ faultFields, t.fget f k = s.fget f k

namespace FaultKept

theorem refl (k : Nat) (s : State) : FaultKept k s s := ⟨rfl, rfl, rfl, rfl, fun _ _ => rfl⟩

theorem trans {k : Nat} {s t u : State} (h : FaultKept k s t) (g : FaultKept k t u) : FaultKept k s u :=
  ⟨g.dutyq.trans h.dutyq, g.active.trans h.active, g.loads.trans h.loads, g.faultWait.trans h.faultWait,
    fun f hf => (g.fields f hf).trans (h.fields f hf)⟩

/-- Lanes and duty queues untouched, it is enough that the fields of the record stay. -/
theorem of_lane {k : Nat} {s t : State} (hq : t.dutyq = s.dutyq) (hl : t.lane = s.lane)
    (hf : ∀ f ∈ faultFields, t.fget f k = s.fget f k) : FaultKept k s t := by
  have h : t.laneAt k = s.laneAt k := congrArg (vget · k) hl
  exact ⟨hq, by rw [h], by rw [h], by rw [h], hf⟩

theorem fset (k : Nat) (s : State) {f : Fld} (v i j : Nat) (h : f ∉ faultFields) : FaultKept k s (s.fset f v i j) :=
  of_lane rfl rfl fun g hg => State.fget_fset_ne s f g v i j k 0 (ne_of_mem_of_not_mem hg h).symm

theorem setLane {k : Nat} (hk : k < 32) (s : State) (l : Lane) (ha : l.active = (s.laneAt k).active)
    (hl : l.loads = (s.laneAt k).loads) (hw : l.faultWait = (s.laneAt k).faultWait) : FaultKept k s (s.setLane k l) := by
  have h := State.setLane_laneAt_same s k l hk
  exact ⟨rfl, by rw [h, ha], by rw [h, hl], by rw [h, hw], fun _ _ => rfl⟩

theorem ring (k : Nat) (s : State) (n : Nat) : FaultKept k s (s.ring n) :=
  have ho := ring_onlyRegs s n
  of_lane ho.dutyq ho.lane fun f hf =>
    fget_ring s n f k 0 (ne_of_mem_of_not_mem hf (by decide)) (ne_of_mem_of_not_mem hf (by decide))

theorem notice (k : Nat) (s : State) {cls : Nat} (code : Nat) (data : List Nat) (h : cls < 9) :
    FaultKept k s (s.notice cls code data) := by
  have ho := notice_onlyNotices s code data h
  exact of_lane ho.dutyq ho.lane fun f _ => by rw [State.fget_eq, State.fget_eq, ho.regs]

theorem discardQueue {k : Nat} (hk : k < 32) (s : State) : FaultKept k s (discardQueue s k) :=
  ((setLane hk s { s.laneAt k with queue := [] } rfl rfl rfl).trans ((fset k _ _ _ _ (by decide)).trans
    (fset k _ _ _ _ (by decide)))).trans (fset k _ _ _ _ (by decide))

theorem laneBoundary (k : Nat) (s : State) : FaultKept k s (laneBoundary s k) := by
  unfold Sys2Proof.Machine.laneBoundary
  split
  · exact refl k s
  · exact of_lane rfl rfl fun _ _ => rfl

theorem laneSettle {k : Nat} (hk : k < 32) (s : State) : FaultKept k s (laneSettle s k) := by
  unfold Sys2Proof.Machine.laneSettle
  split
  · exact fset k s _ _ _ (by decide)
  · exact setLane hk s _ rfl rfl rfl

/-- The count of a corrected fetch is no part of a fault's record. -/
theorem countFetch (k : Nat) (s : State) : FaultKept k s (countFetch s k) := by
  unfold Sys2Proof.Machine.countFetch
  split
  · exact fset k s _ _ _ (by decide)
  · exact refl k s

end FaultKept

/-- What is kept of a fault that has been taken makes it one that has been taken. -/
theorem Faulted.of_kept {k cause pc : Nat} {s t : State} (h : Faulted k cause pc s) (g : FaultKept k s t) :
    Faulted k cause pc t := by
  obtain ⟨ha, hn, hw⟩ := h
  have hf (f : Fld) (m : f ∈ faultFields) : t.fget f k = s.fget f k := g.fields f m
  refine ⟨g.active.trans ha, fun hl => ?_, fun hl => g.faultWait.trans (hw (g.loads ▸ hl))⟩
  rw [hf _ (by decide), hf _ (by decide), hf _ (by decide)]
  exact hn (g.loads.symm.trans hl)

/-- The record of the first fault of a lane whose activation is over and waits for no load (R242). -/
theorem faulted_faultRecord {s : State} {k cause pc : Nat} (ha : (s.laneAt k).active = false) (hl : (s.laneAt k).loads = [])
    (hf : s.flag .LANE_STAT_FAULT k = false) (hc : cause < 16) (hp : pc < 512) :
    Faulted k cause pc (faultRecord s k cause pc) := by
  unfold faultRecord
  rw [if_neg (by simp [hf])]
  refine Faulted.of_kept ?_ ((FaultKept.ring k _ _).trans (FaultKept.notice k _ cause _ (by decide)))
  refine ⟨ha, fun _ => ⟨?_, ?_, ?_⟩, fun hn => absurd hl hn⟩
  · rw [State.fget_fset_ne _ _ _ _ _ _ _ _ (by decide), State.fget_fset_ne _ _ _ _ _ _ _ _ (by decide), State.fget_hset,
      if_pos ⟨rfl, rfl, rfl⟩]
    rfl
  · rw [State.fget_fset_ne _ _ _ _ _ _ _ _ (by decide), State.fget_fset_same]
    exact Nat.mod_eq_of_lt hc
  · rw [State.fget_fset_same]
    exact Nat.mod_eq_of_lt hp

/-- A fault's record leaves the duty queues. -/
theorem faultRecord_dutyq (s : State) (k cause pc : Nat) : (faultRecord s k cause pc).dutyq = s.dutyq := by
  unfold faultRecord
  split
  · rfl
  · exact ((FaultKept.ring k _ _).trans (FaultKept.notice k _ cause _ (by decide))).dutyq

/-- The state in which a fault is recorded: it waits no longer, and the lane goes on in the next cycle (R242). -/
def faultDue (s : State) (k : Nat) : State := s.setLane k { s.laneAt k with faultWait := none, nextAt := s.laneEdge + 2 }

/-- What follows a fault's record keeps it (R242, R243). -/
theorem faultEnd_kept {s : State} {k : Nat} (hk : k < 32) (cause pc : Nat) :
    FaultKept k (faultRecord (faultDue s k) k cause pc) (faultEnd s k cause pc) := by
  unfold faultEnd
  dsimp only
  generalize hr : faultRecord (s.setLane k { s.laneAt k with faultWait := none, nextAt := s.laneEdge + 2 }) k cause pc = t
  rw [show faultRecord (faultDue s k) k cause pc = t from hr]
  split
  · exact ((FaultKept.discardQueue hk t).trans (.fset k _ _ _ _ (by decide))).trans (.laneBoundary k _)
  · exact (FaultKept.laneSettle hk t).trans (.laneBoundary k _)

/-- The end of the first fault of a lane, with no load to wait for (R242). -/
theorem faulted_faultEnd {s : State} {k cause pc : Nat} (hk : k < 32) (ha : (s.laneAt k).active = false)
    (hl : (s.laneAt k).loads = []) (hf : s.flag .LANE_STAT_FAULT k = false) (hc : cause < 16) (hp : pc < 512) :
    Faulted k cause pc (faultEnd s k cause pc) := by
  have hlane : (faultDue s k).laneAt k = { s.laneAt k with faultWait := none, nextAt := s.laneEdge + 2 } :=
    State.setLane_laneAt_same _ _ _ hk
  have hrec : Faulted k cause pc (faultRecord (faultDue s k) k cause pc) :=
    faulted_faultRecord (by rw [hlane]; exact ha) (by rw [hlane]; exact hl) hf hc hp
  exact hrec.of_kept (faultEnd_kept hk cause pc)

/-- A fault of a lane leaves the duty queues. -/
theorem laneFault_dutyq {s : State} {k : Nat} (hk : k < 32) (cause pc : Nat) : (laneFault s k cause pc).dutyq = s.dutyq := by
  unfold laneFault
  dsimp only
  split
  · rw [(faultEnd_kept hk _ _).dutyq, faultRecord_dutyq]
    rfl
  · rfl

/-- A lane with no fault recorded takes one: recorded at once, or once its loads have written (R242). -/
theorem faulted_laneFault {s : State} {k cause : Nat} (hk : k < 32) (hf : s.flag .LANE_STAT_FAULT k = false) (hc : cause < 16)
    (pc : Nat) : Faulted k cause (pc % 512) (laneFault s k cause pc) := by
  unfold laneFault
  generalize hl : { s.laneAt k with active := false, faultWait := some (cause, pc % 512) } = l
  have hlane : (s.setLane k l).laneAt k = l := State.setLane_laneAt_same s k l hk
  simp only [hlane]
  have ha : l.active = false := by rw [← hl]
  by_cases he : l.loads = []
  · rw [if_pos (by rw [he]; rfl)]
    exact faulted_faultEnd hk (by rw [hlane]; exact ha) (by rw [hlane]; exact he) hf hc (Nat.mod_lt pc (by decide))
  · rw [if_neg (by simpa using he)]
    unfold Faulted
    rw [hlane]
    exact ⟨ha, fun h => absurd h he, fun _ => by rw [← hl]⟩

/-- A fault taken at the fetch of the instruction that `countFetch` counts. -/
theorem faulted_countFetch {s : State} {k cause : Nat} (hk : k < 32) (hf : s.flag .LANE_STAT_FAULT k = false) (hc : cause < 16)
    (pc : Nat) : Faulted k cause (pc % 512) (laneFault (countFetch s k) k cause pc) ∧
      (laneFault (countFetch s k) k cause pc).dutyq = s.dutyq := by
  have hkept := FaultKept.countFetch k s
  refine ⟨faulted_laneFault hk ?_ hc pc, (laneFault_dutyq hk _ _).trans hkept.dutyq⟩
  unfold State.flag at hf ⊢
  rwa [hkept.fields _ (by decide)]

/-! ### Decoding by the row of an opcode -/

/-- The table finds a row by its opcode: no two rows share one. -/
theorem find_laneRow_op (mn : LaneMn) : laneTable.find? (fun r => r.op == (laneRow mn).op) = some (laneRow mn) := by
  cases mn <;> decide

theorem laneRow_mn (mn : LaneMn) : (laneRow mn).mn = mn := by
  cases mn <;> decide

/-- A word with the opcode of a row is its instruction, or illegal (R210). -/
theorem laneDecode_of_op {w : Nat} {mn : LaneMn} (h : (laneFields w).op = (laneRow mn).op) :
    laneDecode w = if laneFieldsOk (laneRow mn) (laneFields w) && laneRangeOk mn (laneFields w) then some (mn, laneFields w)
      else none := by
  simp only [laneDecode, h, find_laneRow_op, laneRow_mn]

/-- A word whose fields are outside the ranges of its instruction is illegal. -/
theorem laneDecode_eq_none {w : Nat} {mn : LaneMn} (h : (laneFields w).op = (laneRow mn).op)
    (hr : laneRangeOk mn (laneFields w) = false) : laneDecode w = none := by
  rw [laneDecode_of_op h, hr, Bool.and_false]
  rfl

/-- A DUTY with a channel field of 24 or more is illegal (R227). -/
theorem laneDecode_duty_illegal {w : Nat} (h : (laneFields w).op = (laneRow .duty).op) (hc : 24 ≤ (laneFields w).imm % 32) :
    laneDecode w = none :=
  laneDecode_eq_none h (decide_eq_false (Nat.not_lt.mpr hc))

/-! ### DUTY without permission (R227) -/

/-- An illegal word at the program counter faults with ILLOP (R210). -/
theorem exec_illegalInstruction_illegal {s : State} {k : Fin 32} (ha : (s.laneAt k).active = true)
    (hr : laneReady s k = true) (ho : overdue s k = false) (hp : (s.laneAt k).pc < 512) (hw : wordReadable s k = true)
    (hd : laneDecode (s.pmem k (s.laneAt k).pc) = none) :
    exec (.illegalInstruction k) s = .next (laneFault (countFetch s k) k causeIllop (s.laneAt k).pc) := by
  show execIllegalInstruction k s = _
  simp [execIllegalInstruction, ha, hr, ho, hp, hw, hd]

/-- A DUTY on a channel that DUTYMASK does not name faults with DUTYPERM (R227). -/
theorem exec_laneDuty_denied {s : State} {k : Fin 32} {f : LaneWord} (hf : laneFetch s k .duty = some f)
    (hm : s.fbit .LANE_DUTYMASK_CH (f.imm % 32) k = false) :
    exec (.laneDuty k) s = .next (laneFault (countFetch s k) k causeDutyperm (s.laneAt k).pc) := by
  show execLaneDuty k s = _
  simp [execLaneDuty, hf, hm]

/-- Settles O27: the range of DUTY's channel field makes the word illegal, and both faults are the fault of a fetched instruction. -/
theorem dutyPermission : Obligations.DutyPermission := by
  refine ⟨fun w => laneDecode_duty_illegal, ?_, ?_⟩
  · intro k s ha hp hw hr ho hop hch hflag
    refine ⟨_, exec_illegalInstruction_illegal ha hr ho hp hw (laneDecode_duty_illegal hop hch), ?_⟩
    have h := (faulted_countFetch k.isLt hflag (cause := causeIllop) (by decide) (s.laneAt k).pc).1
    rwa [Nat.mod_eq_of_lt hp] at h
  · intro k f s hf hm hflag
    exact ⟨_, exec_laneDuty_denied hf hm, faulted_countFetch k.isLt hflag (by decide) (s.laneAt k).pc⟩

end Sys2Proof.Machine
end

section
/-! PROOFS. Lanes: the step to the next address, COMMIT (R228), and the load-all that a COMMIT makes when it lands (R140,
R142). -/

namespace Sys2Proof.Machine

/-! ### An instruction with the sequential next address -/

/-- Lane `k` alone is replaced, its program counter is `pc`, memory and duty queues stay, and the fields that change are named by `p`. -/
structure LaneMoved (p : FKey → Prop) (k pc : Nat) (s t : State) : Prop where
  pc : (t.laneAt k).pc = pc
  mem : t.mem = s.mem
  dutyq : t.dutyq = s.dutyq
  others : ∀ x, x ≠ k → t.laneAt x = s.laneAt x
  regs : SameRegs p s t

/-- The fields that an instruction with no result and no flags may change: those of its lane's program counter and of the count of
corrected fetches. -/
def stepFields (k : Nat) : FKey → Prop := FieldsAt [.LANE_PC_PC, .LANE_ECCCNT_PMCOR] k

theorem countFetch_onlyRegs (s : State) (k : Nat) : OnlyRegs s (countFetch s k) := by
  unfold countFetch
  split <;> rfl

theorem countFetch_sameRegs (s : State) (k : Nat) : SameRegs (stepFields k) s (countFetch s k) := by
  unfold countFetch
  split
  · exact .fset s _ ⟨List.mem_cons_of_mem _ List.mem_cons_self, rfl⟩
  · exact .refl s

/-- Marking results changes nothing but what the lane waits for. -/
theorem laneResults_laneAt_ne (s : State) {k x : Nat} (mn : LaneMn) (f : LaneWord) (h : x ≠ k) :
    (laneResults s k mn f).laneAt x = s.laneAt x := State.setLane_laneAt_ne _ _ _ _ h

theorem setLane_moved (p : FKey → Prop) (s : State) {k n : Nat} (hk : k < 32) {l : Lane} (hl : l.pc = n) :
    LaneMoved p k n s (s.setLane k l) :=
  ⟨(congrArg Lane.pc (State.setLane_laneAt_same s k l hk)).trans hl, rfl, rfl, fun x => State.setLane_laneAt_ne s k x l, .refl s⟩

/-- The step to the next address moves the lane there (R213, R215). -/
theorem laneGoto_moved {s : State} {k : Nat} (hk : k < 32) (n c : Nat) : LaneMoved (stepFields k) k n s (laneGoto s k n c) := by
  unfold laneGoto
  dsimp only
  split
  · have h := setLane_moved (stepFields k) s hk
      (l := { s.laneAt k with pc := n, lastPc := (s.laneAt k).pc, nextAt := s.laneEdge + 2 * c }) rfl
    exact ⟨h.pc, rfl, rfl, h.others, h.regs.trans (.fset _ n ⟨List.mem_cons_self, rfl⟩)⟩
  · exact setLane_moved _ s hk rfl

/-- An instruction whose effect leaves lanes, memory and registers: only the step to the next address shows there (R205). -/
theorem laneRun_laneStep {s : State} {k : Nat} {mn : LaneMn} {f : LaneWord} {op : LaneWord → State → State} (hk : k < 32)
    (hf : laneFetch s k mn = some f)
    (hop : let t := countFetch s k; (op f t).lane = t.lane ∧ (op f t).mem = t.mem ∧ (op f t).regs = t.regs) :
    LaneStep [] false k s (laneRun s k mn op) ∧ (laneRun s k mn op).dutyq = (op f (countFetch s k)).dutyq := by
  have ho := countFetch_onlyRegs s k
  obtain ⟨hlane, hmem, hregs⟩ := hop
  unfold laneRun
  simp only [hf]
  generalize op f (countFetch s k) = u at hlane hmem hregs
  have hmv := laneGoto_moved (s := laneResults u k mn f) hk ((s.laneAt k).pc + 1) 1
  have hlanes : ∀ x, u.laneAt x = s.laneAt x := fun x => congrArg (vget · x) (hlane.trans ho.lane)
  refine ⟨⟨hmv.pc, hmv.mem.trans (hmem.trans ho.mem), fun x hx => ?_, ?_⟩, hmv.dutyq⟩
  · rw [hmv.others x hx, laneResults_laneAt_ne u mn f hx, hlanes x]
  · intro g i j hn
    have hg : ¬stepFields k ⟨g, i, j⟩ := fun h => hn ⟨h.2, .inr (.inl h.1)⟩
    rw [hmv.regs g i j hg, ← countFetch_sameRegs s k g i j hg]
    show u.fget g i j = _
    rw [State.fget_eq, State.fget_eq, hregs]

/-! ### The duty queue -/

/-- An entry joins a duty queue, which keeps the others. -/
theorem dutyPlace_perm (q : List DutyEntry) (e : DutyEntry) : (dutyPlace q e).Perm (e :: q) := by
  unfold dutyPlace
  refine List.perm_middle.trans ?_
  rw [List.takeWhile_append_dropWhile]

theorem pushDuty_dutyAt (s : State) {k : Nat} (hk : k < 32) (e : DutyEntry) :
    (pushDuty s k e).dutyAt (k / 8) = dutyPlace (s.dutyAt (k / 8)) e :=
  State.setDuty_dutyAt_same _ _ _ (by omega)

/-! ### COMMIT (R228) -/

/-- Bit `t` of a number is bit `t` of its low bits above it. -/
theorem bit_mod_two_pow {n t : Nat} (v : Nat) (h : t < n) : bit (v % 2 ^ n) t = bit v t := by
  have hb (x : Nat) : bit x t = x.testBit t := by
    rw [Nat.testBit_eq_decide_div_mod_eq]
    rfl
  rw [hb, hb, Nat.testBit_mod_two_pow, decide_eq_true h, Bool.true_and]

/-- Some Team that a COMMIT names has no permission. -/
def commitDenied (s : State) (k mask : Nat) : Bool := (setBits 8 (mask % 256)).any fun t => !s.fbit .LANE_TEAMMASK_TEAM t k

theorem commitDenied_iff (s : State) (k mask : Nat) :
    commitDenied s k mask = true ↔ ∃ t : Fin 8, bit mask t = true ∧ s.fbit .LANE_TEAMMASK_TEAM t k = false := by
  have hb {t : Nat} (h : t < 8) : bit (mask % 256) t = bit mask t := bit_mod_two_pow mask h
  simp only [commitDenied, setBits, List.any_eq_true, List.mem_filter, List.mem_range, Bool.not_eq_true']
  constructor
  · rintro ⟨t, ⟨ht, hm⟩, hp⟩
    exact ⟨⟨t, ht⟩, (hb ht).symm.trans hm, hp⟩
  · rintro ⟨t, hm, hp⟩
    exact ⟨t, ⟨t.isLt, (hb t.isLt).trans hm⟩, hp⟩

theorem commitDenied_eq_false {s : State} {k mask : Nat}
    (h : ∀ t : Fin 8, bit mask t = true → s.fbit .LANE_TEAMMASK_TEAM t k = true) : commitDenied s k mask = false := by
  rw [Bool.eq_false_iff, Ne, commitDenied_iff]
  rintro ⟨t, hm, hp⟩
  rw [h t hm] at hp
  cases hp

/-- A COMMIT with mask 0 names no Team. -/
theorem commitDenied_of_mask_zero {s : State} {k mask : Nat} (h : mask % 256 = 0) : commitDenied s k mask = false := by
  unfold commitDenied
  rw [h]
  rfl

/-- The effect of a COMMIT that is permitted: its mask in the queue of its lane's group. -/
def commitOp (k : Nat) (f : LaneWord) (t : State) : State := pushDuty t k (.commit (t.laneEdge + 2) k (f.imm % 256))

/-- What COMMIT does when it is fetched, by the permission, the mask and the room in the queue (R228, R39). -/
theorem exec_laneCommit_fetched {s : State} {k : Fin 32} {f : LaneWord} (hf : laneFetch s k .commit = some f) :
    exec (.laneCommit k) s = .next (
      if commitDenied s k f.imm = true then laneFault (countFetch s k) k causeTeamperm (s.laneAt k).pc
      else if f.imm % 256 = 0 then laneRun s k .commit fun _ t => t
      else if dutyFull s k = true then s
      else laneRun s k .commit (commitOp k)) := by
  show execLaneCommit k s = _
  unfold execLaneCommit
  simp only [hf]
  rfl

/-! ### The landing of a load-all (R140, R142) -/

/-- The fields of a channel that a load-all reads to choose it, and the pending flag. -/
def loadFields : List Fld := [.PWM_CH_CFG_EN, .PWM_CH_CFG_TEAM, .PWM_CH_STAT_PEND]

/-- From `s` to `t` memory and duty queues stay, channel `n` is of the same Team and as enabled, and pending if it was. -/
structure LoadKept (n : Nat) (s t : State) : Prop where
  mem : t.mem = s.mem
  dutyq : t.dutyq = s.dutyq
  en : chEn t n = chEn s n
  team : chTeam t n = chTeam s n
  pend : s.flag .PWM_CH_STAT_PEND n = true → t.flag .PWM_CH_STAT_PEND n = true

namespace LoadKept

theorem refl (n : Nat) (s : State) : LoadKept n s s := ⟨rfl, rfl, rfl, rfl, id⟩

theorem trans {n : Nat} {s t u : State} (h : LoadKept n s t) (g : LoadKept n t u) : LoadKept n s u :=
  ⟨g.mem.trans h.mem, g.dutyq.trans h.dutyq, g.en.trans h.en, g.team.trans h.team, fun hp => g.pend (h.pend hp)⟩

theorem of_regs {s t : State} (n : Nat) (hm : t.mem = s.mem) (hq : t.dutyq = s.dutyq)
    (hf : ∀ f ∈ loadFields, t.fget f n = s.fget f n) : LoadKept n s t := by
  refine ⟨hm, hq, ?_, hf _ (by decide), ?_⟩
  · exact congrArg (· != 0) (hf .PWM_CH_CFG_EN (by decide))
  · exact (congrArg (· != 0) (hf .PWM_CH_STAT_PEND (by decide))).trans

theorem fset (n : Nat) (s : State) {f : Fld} (v i j : Nat) (h : f ∉ loadFields) : LoadKept n s (s.fset f v i j) :=
  of_regs n rfl rfl fun g hg => State.fget_fset_ne s f g v i j n 0 (ne_of_mem_of_not_mem hg h).symm

theorem noteSet (n : Nat) (s : State) (f : Fld) (v i j : Nat) : LoadKept n s (s.noteSet f v i j) :=
  of_regs n rfl rfl fun _ _ => rfl

theorem setChan (n : Nat) (s : State) (x : Nat) (c : Chan) : LoadKept n s (s.setChan x c) := of_regs n rfl rfl fun _ _ => rfl

/-- The pending flag of any channel may be set. -/
theorem setPend (n : Nat) (s : State) (x : Nat) : LoadKept n s (s.fset .PWM_CH_STAT_PEND 1 x) := by
  refine ⟨rfl, rfl, ?_, ?_, fun hp => ?_⟩
  · exact congrArg (· != 0) (State.fget_fset_ne s _ _ _ _ _ _ _ (by decide))
  · exact State.fget_fset_ne s _ _ _ _ _ _ _ (by decide)
  · unfold State.flag at hp ⊢
    rw [State.fget_fset]
    split
    · rfl
    · exact hp

theorem addEvent (n : Nat) (s : State) (e : HrnEvent) : LoadKept n s (s.addEvent e) := by
  unfold State.addEvent
  split
  · exact refl n s
  · exact of_regs n rfl rfl fun _ _ => rfl

theorem setStatus (n : Nat) (s : State) {f : Fld} (x : Nat) (h : f ∉ loadFields) : LoadKept n s (setStatus s f x) := by
  unfold Sys2Proof.Machine.setStatus
  split
  · exact noteSet n s f 1 x 0
  · exact ((fset n s 1 x 0 h).trans (noteSet n _ f 1 x 0)).trans (addEvent n _ _)

/-- No active register is one of the fields that a load-all reads. -/
theorem actFlds_notMem (r : Nat) : (actFlds r).1 ∉ loadFields ∧ (actFlds r).2 ∉ loadFields := by
  unfold actFlds
  split <;> decide

theorem setActive (n : Nat) (s : State) (x r v : Nat) : LoadKept n s (setActive s x r v) := by
  obtain ⟨h1, h2⟩ := actFlds_notMem r
  unfold Sys2Proof.Machine.setActive setPair
  split
  · exact fset n s _ _ _ h1
  · exact (fset n s _ _ _ h1).trans (fset n _ _ _ _ h2)

theorem refreshCheck (n : Nat) (s : State) (x : Nat) : LoadKept n s (refreshCheck s x) := by
  unfold Sys2Proof.Machine.refreshCheck
  split
  · exact fset n s _ _ _ (by decide)
  · exact refl n s

theorem earlyCompare (n x : Nat) (s : State) (c : Nat) : LoadKept n s (earlyCompare x s c) := by
  unfold Sys2Proof.Machine.earlyCompare
  dsimp only
  split
  · exact refl n s
  · split
    · exact setChan n s _ _
    · split
      · exact setStatus n s _ (by decide)
      · exact refl n s

/-- A chain of updates that each keep what a load-all reads. -/
theorem foldl {α : Type} (n : Nat) (op : State → α → State) (h : ∀ s a, LoadKept n s (op s a)) (l : List α) (s : State) :
    LoadKept n s (l.foldl op s) :=
  List.foldlRecOn l op (refl n s) fun t ht a _ => ht.trans (h t a)

end LoadKept

/-- A load-all on a channel makes it pending first; what follows keeps that (R140, R141). -/
theorem loadChan_kept_pend (n x : Nat) (s : State) :
    LoadKept n ((s.setChan x { s.chanAt x with loadAt := some s.now }).fset .PWM_CH_STAT_PEND 1 x) (loadChan s x) := by
  unfold loadChan
  dsimp only
  generalize (s.setChan x { s.chanAt x with loadAt := some s.now }).fset .PWM_CH_STAT_PEND 1 x = t
  split
  · refine LoadKept.trans ?_ (.setStatus n _ x (by decide))
    split
    · refine LoadKept.trans ?_ (.setChan n _ _ _)
      refine LoadKept.trans ?_ (.refreshCheck n _ _)
      refine LoadKept.trans ?_ (.fset n _ _ _ _ (by decide))
      exact .foldl n _ (fun u r => .setActive n u x r _) _ t
    · exact .refl n t
  · split
    · exact .refl n t
    · split
      · exact .foldl n _ (.earlyCompare n x) _ t
      · exact .refl n t

theorem loadChan_kept (n x : Nat) (s : State) : LoadKept n s (loadChan s x) :=
  ((LoadKept.setChan n s x _).trans (.setPend n _ x)).trans (loadChan_kept_pend n x s)

theorem loadChan_pend (n : Nat) (s : State) : (loadChan s n).flag .PWM_CH_STAT_PEND n = true := by
  refine (loadChan_kept_pend n n s).pend ?_
  unfold State.flag
  rw [State.fget_fset_same]
  rfl

/-- Channel `n`'s part of a load-all: a channel that is enabled and of a Team named is loaded (R140, R142). -/
def loadNamed (mask : Nat) (s : State) (n : Nat) : State :=
  if chEn s n && bit (mask % 256) (chTeam s n) then loadChan s n else s

theorem loadAllOp_eq_foldl (s : State) (mask : Nat) : loadAllOp s mask = (List.range 24).foldl (loadNamed mask) s := rfl

theorem loadNamed_kept (n mask : Nat) (s : State) (x : Nat) : LoadKept n s (loadNamed mask s x) := by
  unfold loadNamed
  split
  · exact loadChan_kept n x s
  · exact .refl n s

/-- Along a load-all over channels that include `n`, an enabled channel `n` of a Team named becomes pending. -/
theorem foldl_loadNamed_pend {n mask : Nat} {l : List Nat} (hn : n ∈ l) {s : State} (he : chEn s n = true)
    (hm : bit (mask % 256) (chTeam s n) = true) : (l.foldl (loadNamed mask) s).flag .PWM_CH_STAT_PEND n = true := by
  induction l generalizing s with
  | nil => cases hn
  | cons x l ih =>
    have hx := loadNamed_kept n mask s x
    obtain rfl | hl := List.mem_cons.mp hn
    · have hp : (loadNamed mask s n).flag .PWM_CH_STAT_PEND n = true := by
        unfold loadNamed
        rw [he, hm]
        exact loadChan_pend n s
      exact (LoadKept.foldl n _ (loadNamed_kept n mask) l _).pend hp
    · exact ih hl (hx.en.trans he) ((congrArg (bit (mask % 256)) hx.team).trans hm)

theorem loadAllOp_kept (n : Nat) (s : State) (mask : Nat) : LoadKept n s (loadAllOp s mask) :=
  .foldl n _ (loadNamed_kept n mask) _ s

/-- A load-all makes the enabled channels of every Team named pending (R140). -/
theorem loadAllOp_pend {s : State} {n mask : Nat} (hn : n < 24) (he : chEn s n = true) (ht : chTeam s n < 8)
    (hm : bit mask (chTeam s n) = true) : (loadAllOp s mask).flag .PWM_CH_STAT_PEND n = true :=
  foldl_loadNamed_pend (List.mem_range.mpr hn) he ((bit_mod_two_pow mask ht).trans hm)

/-- A COMMIT at the head of its group's queue lands when its ticks have passed (R142, R247). -/
theorem exec_dutyLanding_commit {g : Fin 4} {e l mask : Nat} {q : List DutyEntry} {s : State}
    (hq : s.dutyAt g = .commit e l mask :: q) (he : e + 3 ≤ s.ltc) (hn : vget s.dutyNext g ≤ s.now) :
    exec (.dutyLanding g) s = .next (loadAllOp (dutyLeaves s g q) mask) := by
  show execDutyLanding g s = _
  unfold execDutyLanding
  simp only [if_neg (Nat.not_lt.mpr hn), hq, if_pos he]

/-! ### The obligation -/

/-- A COMMIT that is permitted, names a Team and has room joins its group's queue and steps on. -/
theorem exec_laneCommit_queued {k : Fin 32} {f : LaneWord} {s : State} (hf : laneFetch s k .commit = some f)
    (h0 : f.imm % 256 ≠ 0) (hp : ∀ t : Fin 8, bit f.imm t = true → s.fbit .LANE_TEAMMASK_TEAM t k = true)
    (hq : dutyFull s k = false) :
    ∃ t, exec (.laneCommit k) s = .next t ∧ LaneStep [] false k s t ∧
      DutyEntry.commit (s.laneEdge + 2) k (f.imm % 256) ∈ t.dutyAt (k / 8) ∧
      (t.dutyAt (k / 8)).length = (s.dutyAt (k / 8)).length + 1 := by
  have ho := countFetch_onlyRegs s k
  have hedge : (countFetch s k).laneEdge = s.laneEdge := congrArg (fun t => t - t % 2) ho.ltc
  have hduty : (countFetch s k).dutyAt (k / 8) = s.dutyAt (k / 8) := congrArg (vget · (k.val / 8)) ho.dutyq
  obtain ⟨hstep, hdq⟩ := laneRun_laneStep (op := commitOp k) k.isLt hf ⟨rfl, rfl, rfl⟩
  refine ⟨_, ?_, hstep, ?_⟩
  · rw [exec_laneCommit_fetched hf, commitDenied_eq_false hp, hq]
    simp [h0]
  · have hat : (laneRun s k .commit (commitOp k)).dutyAt (k / 8) =
        dutyPlace (s.dutyAt (k / 8)) (.commit (s.laneEdge + 2) k (f.imm % 256)) := by
      rw [← hedge, ← hduty]
      exact (congrArg (vget · (k.val / 8)) hdq).trans (pushDuty_dutyAt _ k.isLt _)
    have hperm := dutyPlace_perm (s.dutyAt (k / 8)) (.commit (s.laneEdge + 2) k (f.imm % 256))
    rw [hat]
    exact ⟨hperm.mem_iff.mpr List.mem_cons_self, hperm.length_eq⟩

/-- A COMMIT with mask 0 only steps on. -/
theorem exec_laneCommit_nop {k : Fin 32} {f : LaneWord} {s : State} (hf : laneFetch s k .commit = some f)
    (h0 : f.imm % 256 = 0) :
    ∃ t, exec (.laneCommit k) s = .next t ∧ LaneStep [] false k s t ∧ t.dutyq = s.dutyq := by
  obtain ⟨hstep, hdq⟩ := laneRun_laneStep (op := fun _ t => t) k.isLt hf ⟨rfl, rfl, rfl⟩
  refine ⟨_, ?_, hstep, hdq.trans (countFetch_onlyRegs s k).dutyq⟩
  rw [exec_laneCommit_fetched hf, commitDenied_of_mask_zero h0]
  simp [h0]

/-- Settles O28, by the ways that a fetched COMMIT can go and by what a load-all keeps as it runs over the channels. -/
theorem commitOfTeams : Obligations.CommitOfTeams := by
  refine ⟨fun _ _ _ => exec_laneCommit_queued, fun _ _ _ => exec_laneCommit_nop, ?_, ?_, ?_⟩
  · intro k j f s hf hb hp hflag
    refine ⟨_, ?_, faulted_countFetch k.isLt hflag (cause := causeTeamperm) (by decide) (s.laneAt k).pc⟩
    rw [exec_laneCommit_fetched hf, if_pos ((commitDenied_iff s k f.imm).mpr ⟨j, hb, hp⟩)]
  · intro g e l mask n q s hq he hn hen ht hm _
    have hkept := loadAllOp_kept n (dutyLeaves s g q) mask
    refine ⟨_, exec_dutyLanding_commit hq he hn, ?_, loadAllOp_pend n.isLt hen ht hm, hkept.mem⟩
    exact (congrArg (vget · g.val) hkept.dutyq).trans (State.setDuty_dutyAt_same s g q g.isLt)
  · intro k f s hf h0 hp hq
    rw [exec_laneCommit_fetched hf, commitDenied_eq_false hp, hq]
    simp [h0]

end Sys2Proof.Machine
end

section
/-! PROOFS. Cores and Belfry: a write of a word register among those of the timers, the Harness, Belfry and the locks, which
reaches its register and leaves the rest of the state (R14, R404). -/

namespace Sys2Proof.Machine

/-! ### The word registers of the block -/

/-- Every register is the one of its name. -/
theorem regDesc_name (n : RegName) : (regDesc n).name = n := by
  have hf := List.all_eq_true.mp regDesc_found n.ctorIdx (List.mem_range.mpr (regName_ctorIdx_lt n))
  rw [RegName.ofNat_ctorIdx] at hf
  obtain ⟨d, hd⟩ := Option.isSome_iff_exists.mp hf
  have hn := List.find?_some hd
  unfold regDesc
  rw [hd]
  exact of_decide_eq_true hn

/-- Register `n` is an array of `c` adjacent words of the block that holds the timers, the Harness, Belfry and the locks. -/
def eventWords (n : RegName) (c : Nat) : Bool :=
  let d := regDesc n
  d.n1 == c && d.s1 == 4 && d.base % 4 == 0 && decide (d.width ≤ 32) && decide (0x40160000 ≤ d.base) &&
    decide (d.base + 4 * c ≤ 0x401E0000)

theorem eventWords_iff {n : RegName} {c : Nat} :
    eventWords n c = true ↔ (regDesc n).n1 = c ∧ (regDesc n).s1 = 4 ∧ (regDesc n).base % 4 = 0 ∧ (regDesc n).width ≤ 32 ∧
      0x40160000 ≤ (regDesc n).base ∧ (regDesc n).base + 4 * c ≤ 0x401E0000 := by
  simp only [eventWords, Bool.and_eq_true, beq_iff_eq, decide_eq_true_eq, and_assoc]

theorem regAddr_eventWords {n : RegName} {c i : Nat} (h : eventWords n c = true) (hi : i < c) :
    0x40160000 ≤ regAddr n i ∧ regAddr n i < 0x401E0000 ∧ regAddr n i % 4 = 0 := by
  obtain ⟨-, hs, h4, -, hlo, hhi⟩ := eventWords_iff.mp h
  have ha : regAddr n i = (regDesc n).base + i * 4 := by simp [regAddr, hs]
  omega

theorem regionOf_events {a : Nat} (hlo : 0x40160000 ≤ a) (hhi : a < 0x401E0000) : regionOf a = .regs := by
  unfold regionOf
  rw [if_neg (by omega), if_neg (by omega), if_neg (by omega), if_neg (by omega), if_neg (by omega), if_pos (by omega)]

/-- The block has no domain of its own. -/
theorem addrDomain_events {a : Nat} (hlo : 0x40160000 ≤ a) (hhi : a < 0x401E0000) : addrDomain a = 0 := by
  unfold addrDomain
  rw [if_neg (by omega), if_neg (by omega), if_neg (by omega), if_neg (by omega), if_neg (by omega), if_neg (by omega),
    if_neg (by omega), if_neg (by omega), if_neg (by omega), if_neg (by omega), if_neg (by omega)]

/-- Every master may write an aligned word of a register range. -/
theorem writeError_regs_word {m a : Nat} (hr : regionOf a = .regs) (h4 : a % 4 = 0) : writeError m a 4 = none := by
  simp [writeError, widthOk, aligned, hr, h4]

/-- DMA's CTRL, which `regLand` takes out by its name, lies above the block. -/
theorem ne_dmaCtrl_of_eventWords {n : RegName} {c : Nat} (h : eventWords n c = true) : n ≠ .FAB_DMA_CTRL := by
  rintro rfl
  obtain ⟨-, -, -, -, -, hhi⟩ := eventWords_iff.mp h
  have hdma : 0x401E0000 < (regDesc .FAB_DMA_CTRL).base := by decide +kernel
  omega

/-- What a write of a register of the block does is in `landEvents`. -/
theorem regLand_eventWords {n : RegName} {c : Nat} (h : eventWords n c = true) (hc : 0 < c) (s : State) (m i v : Nat) :
    regLand s m (regDesc n) i 0 v = landEvents s m (regDesc n) i 0 v := by
  have hd := ne_dmaCtrl_of_eventWords h
  obtain ⟨-, -, -, -, hlo, hhi⟩ := eventWords_iff.mp h
  unfold regLand
  simp only [regDesc_name, hd, or_false]
  rw [if_neg (by omega), if_neg (by omega), if_neg (by omega), if_pos (by omega)]

/-! ### The domain's DIRTY, which a write may set first (R404) -/

theorem markDirty_onlyRegs (s : State) (m a : Nat) : OnlyRegs s (markDirty s m a) := by
  unfold markDirty
  split <;> rfl

theorem fget_markDirty (s : State) (m a : Nat) {f : Fld} (h : f ≠ .PMG_DOMSTAT_DIRTY) (i j : Nat) :
    (markDirty s m a).fget f i j = s.fget f i j := by
  unfold markDirty
  split
  · rw [State.fget_hset, if_neg fun e => h e.1.symm]
  · rfl

/-- What hardware has set of one field is not affected by a note of another. -/
theorem State.setNow_noteSet_ne (s : State) {f g : Fld} (v a b i j : Nat) (h : g ≠ f) :
    (s.noteSet g v a b).setNow f i j = s.setNow f i j := by
  unfold State.setNow State.noteSet
  dsimp only
  rw [List.filter_cons_of_neg (by simp [h])]
  rfl

theorem setNow_markDirty (s : State) (m a : Nat) {f : Fld} (h : f ≠ .PMG_DOMSTAT_DIRTY) (i j : Nat) :
    (markDirty s m a).setNow f i j = s.setNow f i j := by
  unfold markDirty
  split
  · exact State.setNow_noteSet_ne _ _ _ _ _ _ h.symm
  · rfl

/-! ### The write -/

/-- After a write has landed and the port has its response, nothing has changed but the fields written and DIRTY. -/
theorem wroteOnly_respond {p : FKey → Prop} {s u : State} {m a : Nat} (ho : OnlyRegs (markDirty s m a) u)
    (hs : SameRegs p (markDirty s m a) u) : WroteOnly p m s (u.respond m 0) := by
  constructor
  · have hu := (markDirty_onlyRegs s m a).trans ho
    unfold OnlyRegs at hu
    generalize u.regs = r at hu
    generalize u.hwSets = w at hu
    subst hu
    rfl
  · intro f i j hn
    have hf : f ≠ .PMG_DOMSTAT_DIRTY := fun e => hn (.inr e)
    exact (hs f i j fun c => hn (.inl c)).trans (fget_markDirty s m a hf i j)

/-- A write of a word register of the block by a master that reaches it lands in the register, with the frame of what lands. -/
theorem rowWrite_eventWords {n : RegName} {c i m v : Nat} {s u : State} {p : FKey → Prop} (h : eventWords n c = true) (hi : i < c)
    (hm : Reaches s m (regAddr n i))
    (hu : landEvents (markDirty s m (regAddr n i)) m (regDesc n) i 0 (v % 2 ^ 32) = u)
    (ho : OnlyRegs (markDirty s m (regAddr n i)) u) (hs : SameRegs p (markDirty s m (regAddr n i)) u) :
    rowWrite true s m (regAddr n i) v = .next (u.respond m 0) ∧ WroteOnly p m s (u.respond m 0) := by
  obtain ⟨hlo, hhi, h4⟩ := regAddr_eventWords h hi
  obtain ⟨hn1, -, -, h32, -, -⟩ := eventWords_iff.mp h
  have hr := regionOf_events hlo hhi
  have hdom := addrDomain_events hlo hhi
  have hres : ¬(regAddr n i = resumeAddr ∧ m = 4) := fun e => absurd (e.1 ▸ hhi) (by decide)
  have hg : regAt (regAddr n i) = some (regDesc n, i, 0, 0) := regAt_regAddr n (by omega) (by omega)
  refine ⟨?_, wroteOnly_respond ho hs⟩
  rw [← hu, ← regLand_eventWords h (by omega)]
  exact congrArg Host.Outcome.next (fabricWrite_reg hm (writeError_regs_word hr h4) (.inl hr) (by omega) (by omega) hres hg h32)

end Sys2Proof.Machine
end

section
/-! PROOFS. Locks: a release by the owner and by any other identity (R352). -/

namespace Sys2Proof.Machine

/-! ### What a release does -/

/-- The fields of a lock that a release changes. -/
def ownerFields : List Fld := [.LCK_STAT_HELD, .LCK_STAT_OWNMST, .LCK_STAT_OWNLVL]

theorem freeLock_onlyRegs (s : State) (l : Nat) : OnlyRegs s (freeLock s l) := rfl

theorem freeLock_sameRegs (s : State) (l : Nat) : SameRegs (FieldsAt ownerFields l) s (freeLock s l) :=
  have hf {f : Fld} (t : State) (h : f ∈ ownerFields) : SameRegs (FieldsAt ownerFields l) t (t.fset f 0 l) := .fset t 0 ⟨h, rfl⟩
  ((hf s (by decide)).trans (hf _ (by decide))).trans (hf _ (by decide))

theorem freeLock_held (s : State) (l : Nat) : (freeLock s l).fget .LCK_STAT_HELD l = 0 := by
  simp [freeLock, State.fget_fset]

theorem holdsLock_iff (s : State) (m l : Nat) :
    holdsLock s m l = true ↔
      s.flag .LCK_STAT_HELD l = true ∧ s.fget .LCK_STAT_OWNMST l = m ∧ s.fget .LCK_STAT_OWNLVL l = ownLevel s m := by
  simp only [holdsLock, Bool.and_eq_true, beq_iff_eq, and_assoc]

theorem holdsLock_eq_false {s : State} {m l : Nat} (h : s.flag .LCK_STAT_HELD l = false ∨ s.fget .LCK_STAT_OWNMST l ≠ m ∨
    s.fget .LCK_STAT_OWNLVL l ≠ ownLevel s m) : holdsLock s m l = false := by
  rw [Bool.eq_false_iff, Ne, holdsLock_iff]
  rintro ⟨hh, hm, hl⟩
  rcases h with h | h | h
  · rw [h] at hh
    cases hh
  · exact h hm
  · exact h hl

/-- DIRTY is no part of a lock or of an identity. -/
theorem holdsLock_markDirty (s : State) (m a l : Nat) : holdsLock (markDirty s m a) m l = holdsLock s m l := by
  have hc : (markDirty s m a).core = s.core := (congrArg State.core (markDirty_onlyRegs s m a) :)
  unfold holdsLock State.flag ownLevel State.coreAt
  rw [fget_markDirty s m a (by decide), fget_markDirty s m a (by decide), fget_markDirty s m a (by decide), hc]

theorem landEvents_release (s : State) (m l v : Nat) : landEvents s m (regDesc .LCK_REL) l 0 v = releaseOp s m l := by
  simp only [landEvents, regDesc_name]

/-! ### The obligation -/

/-- Settles O44: whether the identity holds the lock decides between the freed lock and the count. -/
theorem lockRelease : Obligations.LockRelease := by
  have hwords : eventWords .LCK_REL 64 = true := by decide +kernel
  constructor
  · intro m l s hr hheld hmst hlvl
    have hown : releaseOp (markDirty s m (regAddr .LCK_REL l)) m l = freeLock (markDirty s m (regAddr .LCK_REL l)) l :=
      if_pos ((holdsLock_markDirty s m _ l).trans ((holdsLock_iff s m l).mpr ⟨hheld, hmst, hlvl⟩))
    obtain ⟨he, hw⟩ := rowWrite_eventWords (v := 0) hwords l.isLt hr ((landEvents_release _ m l _).trans hown)
      (freeLock_onlyRegs _ l) (freeLock_sameRegs _ l)
    exact ⟨_, he, freeLock_held _ l, hw⟩
  · intro m l s hr hno
    have hcount : releaseOp (markDirty s m (regAddr .LCK_REL l)) m l = (markDirty s m (regAddr .LCK_REL l)).fcount .LCK_RELERR_COUNT :=
      if_neg (by rw [holdsLock_markDirty, holdsLock_eq_false hno]; decide)
    obtain ⟨he, hw⟩ := rowWrite_eventWords (v := 0) (p := Fields [.LCK_RELERR_COUNT]) hwords l.isLt hr
      ((landEvents_release _ m l _).trans hcount) ((OnlyRegs.refl _).fset _ _ _ _) (SameRegs.fset _ _ List.mem_cons_self)
    refine ⟨_, he, (State.fget_fcount_same _ .LCK_RELERR_COUNT 0 0 1).trans ?_, hw⟩
    rw [fget_markDirty s m _ (by decide)]
    rfl

end Sys2Proof.Machine
end

section
/-! PROOFS. Belfry: pending and mask bits (R336). -/

namespace Sys2Proof.Machine

/-! ### Bits of words -/

theorem bit_eq_testBit (v k : Nat) : bit v k = v.testBit k := by
  rw [Nat.testBit_eq_decide_div_mod_eq]
  rfl

theorem bit_or (v x k : Nat) : bit (v ||| x) k = (bit v k || bit x k) := by
  simp only [bit_eq_testBit, Nat.testBit_or]

/-- The bits of `x` taken out of `v`. -/
theorem bit_xor_and (v x k : Nat) : bit (v ^^^ (v &&& x)) k = (bit v k && !bit x k) := by
  simp only [bit_eq_testBit, Nat.testBit_xor, Nat.testBit_and]
  cases v.testBit k <;> simp

theorem State.fbit_fset_same (s : State) {f : Fld} {k : Nat} (v i j : Nat) (h : k < f.len) :
    (s.fset f v i j).fbit f k i j = bit v k := by
  unfold State.fbit
  rw [State.fget_fset_same, bit_mod_two_pow v h]

/-- A bit cleared ends clear unless hardware has set it in the same cycle (R17). -/
theorem State.fbit_clearBits (s : State) {f : Fld} {k : Nat} (x i j : Nat) (h : k < f.len) :
    (s.clearBits f x i j).fbit f k i j = (s.fbit f k i j && (!bit x k || bit (s.setNow f i j) k)) := by
  unfold State.clearBits
  rw [State.fbit_fset_same s _ i j h, bit_xor_and, bit_xor_and, Bool.not_and, Bool.not_not]
  rfl

theorem fbit_markDirty (s : State) (m a : Nat) {f : Fld} (h : f ≠ .PMG_DOMSTAT_DIRTY) (k i j : Nat) :
    (markDirty s m a).fbit f k i j = s.fbit f k i j :=
  congrArg (bit · k) (fget_markDirty s m a h i j)

/-! ### The four writes -/

/-- A write of register `n` at index `w` is `op` on word `w` of field `f`: it changes that word alone, and `bitOp` gives each of
its 32 bits from the bit before, the bit written and the bit that hardware has set in this cycle. -/
structure WritesBits (n : RegName) (f : Fld) (op : State → Nat → Nat → State) (bitOp : Bool → Bool → Bool → Bool) : Prop where
  words : eventWords n 16 = true
  lands : ∀ s m w v, landEvents s m (regDesc n) w 0 v = op s w v
  onlyRegs : ∀ s w v, OnlyRegs s (op s w v)
  sameRegs : ∀ s w v, SameRegs (FieldsAt [f] w) s (op s w v)
  fbit : ∀ s w v k, k < 32 → (op s w v).fbit f k w = bitOp (s.fbit f k w) (bit v k) (bit (s.setNow f w 0) k)

theorem pendSet_writesBits : WritesBits .BFY_PENDSET .BFY_PEND_W pendSetOp fun b x _ => b || x where
  words := by decide +kernel
  lands _ _ _ _ := by simp only [landEvents, regDesc_name]
  onlyRegs _ _ _ := rfl
  sameRegs s _ _ := .fset s _ ⟨List.mem_cons_self, rfl⟩
  fbit s w v k h := by
    show (s.fset .BFY_PEND_W (s.fget .BFY_PEND_W w ||| v % 2 ^ 32) w).fbit .BFY_PEND_W k w = _
    rw [State.fbit_fset_same s _ w 0 h, bit_or, bit_mod_two_pow v h]
    rfl

theorem pendClr_writesBits : WritesBits .BFY_PENDCLR .BFY_PEND_W pendClrOp fun b x now => b && (!x || now) where
  words := by decide +kernel
  lands _ _ _ _ := by simp only [landEvents, regDesc_name]
  onlyRegs _ _ _ := rfl
  sameRegs s _ _ := .fset s _ ⟨List.mem_cons_self, rfl⟩
  fbit s w v k h := by
    unfold pendClrOp
    rw [State.fbit_clearBits s _ w 0 h, bit_mod_two_pow v h]

theorem maskSet_writesBits : WritesBits .BFY_MASKSET .BFY_MASK_W maskSetOp fun b x _ => b || x where
  words := by decide +kernel
  lands _ _ _ _ := by simp only [landEvents, regDesc_name]
  onlyRegs _ _ _ := rfl
  sameRegs s _ _ := .fset s _ ⟨List.mem_cons_self, rfl⟩
  fbit s w v k h := by
    unfold maskSetOp
    rw [State.fbit_fset_same s _ w 0 h, bit_or, bit_mod_two_pow v h]
    rfl

theorem maskClr_writesBits : WritesBits .BFY_MASKCLR .BFY_MASK_W maskClrOp fun b x _ => b && !x where
  words := by decide +kernel
  lands _ _ _ _ := by simp only [landEvents, regDesc_name]
  onlyRegs _ _ _ := rfl
  sameRegs s _ _ := .fset s _ ⟨List.mem_cons_self, rfl⟩
  fbit s w v k h := by
    unfold maskClrOp
    rw [State.fbit_fset_same s _ w 0 h, bit_xor_and, bit_mod_two_pow v h]
    rfl

/-- A write of such a word by a master that reaches it: DIRTY, which may be set first, is neither the word nor its note. -/
theorem WritesBits.rowWrite {n : RegName} {f : Fld} {op : State → Nat → Nat → State} {bitOp : Bool → Bool → Bool → Bool}
    (h : WritesBits n f op bitOp) (hf : f ≠ .PMG_DOMSTAT_DIRTY) {m : Fin 10} {w : Fin 16} (v : Nat) {s : State}
    (hr : Reaches s m (regAddr n w)) :
    ∃ t, rowWrite true s m (regAddr n w) v = .next t ∧ WroteOnly (FieldsAt [f] w) m s t ∧
      ∀ k : Fin 32, t.fbit f k w = bitOp (s.fbit f k w) (bit v k) (bit (s.setNow f w 0) k) := by
  obtain ⟨he, hw⟩ := rowWrite_eventWords h.words w.isLt hr (h.lands _ _ _ _) (h.onlyRegs _ _ _) (h.sameRegs _ _ _)
  refine ⟨_, he, hw, fun k => (h.fbit _ w _ k k.isLt).trans ?_⟩
  rw [fbit_markDirty s m _ hf, setNow_markDirty s m _ hf, bit_mod_two_pow v k.isLt]

/-! ### Decisions and reset -/

/-- The sources of a decision are ready ones. -/
theorem sourceReady_of_mem_readySources {s : State} {n : Nat} (h : n ∈ readySources s) : sourceReady s n = true := by
  obtain ⟨d, -, hn⟩ := List.mem_flatMap.mp h
  exact (List.mem_filter.mp (List.mem_filter.mp hn).1).2

theorem sourceReady_unmasked {s : State} {n : Nat} (h : sourceReady s n = true) : s.fbit .BFY_MASK_W (n % 32) (n / 32) = false := by
  simp only [sourceReady, Bool.and_eq_true, Bool.not_eq_true'] at h
  obtain ⟨⟨⟨⟨-, hmask⟩, -⟩, -⟩, -⟩ := h
  exact hmask

/-- After reset every mask bit is set. -/
theorem reset_masked {k : Nat} (h : k < 32) (w : Nat) : State.reset.fbit .BFY_MASK_W k w = true := by
  show bit (2 ^ 32 - 1) k = true
  rw [bit_eq_testBit, Nat.testBit_two_pow_sub_one, decide_eq_true h]

theorem reset_not_pended (n : Nat) : pended State.reset n = false := by
  show bit 0 (n % 32) = false
  rw [bit_eq_testBit, Nat.zero_testBit]

/-- Settles O42, by what each of the four writes does to a bit of its word, and by the ready sources of a decision. -/
theorem pendingAndMaskBits : Obligations.PendingAndMaskBits := by
  refine ⟨fun _ _ v _ => pendSet_writesBits.rowWrite (by decide) v, fun _ _ v _ => pendClr_writesBits.rowWrite (by decide) v,
    fun _ _ v _ => maskSet_writesBits.rowWrite (by decide) v, fun _ _ v _ => maskClr_writesBits.rowWrite (by decide) v, ?_, ?_⟩
  · intro n s hmask hn
    rw [sourceReady_unmasked (sourceReady_of_mem_readySources hn)] at hmask
    cases hmask
  · intro n
    exact ⟨reset_masked (Nat.mod_lt n.val (by decide)) _, reset_not_pended n⟩

end Sys2Proof.Machine
end
